-- ==== Sys2Proof/Word.lean ====
section
/-! DEFINITION. The words of the block: a 64-bit data word, a 32-bit register word, a byte, and the index types of the parts
that the manual counts (R4, R12, R285). -/

namespace Sys2Proof

/-- A 64-bit word of the data path, of a lane block or of a slot block. -/
abbrev Word64 := BitVec 64

/-- A register word (00 Registers: every register is 32 bits wide). -/
abbrev Word32 := BitVec 32

/-- A byte. -/
abbrev Byte := BitVec 8

/-- Die number f (R4). -/
abbrev DieNo := Fin 16

/-- Channel c of a die (R4). -/
abbrev ChanNo := Fin 256

/-- Global channel g = 256 f + c (R4). -/
abbrev GChan := Fin 4096

/-- Internal lane 4 f + q (R12), which also numbers the quadrants of all dies. -/
abbrev LaneNo := Fin 64

/-- Receive lane of R285: 0 to 63 internal, 64 to 71 CIA, 72 to 79 CIB, 80 TMI, 81 TMI_ALT. -/
abbrev RxLane := Fin 82

/-- A lane that can lock: 0 to 81 as `RxLane`, 82 + f the return lane of die f at the die. -/
abbrev AnyLane := Fin 98

/-- Transmit lane of R285: 0 to 15 return lanes, 16 to 23 UPA, 24 to 31 UPB, 32 TMO. -/
abbrev TxLane := Fin 33

/-- Global channel of channel c of die f (R4). -/
def gchan (f : DieNo) (c : ChanNo) : Nat := 256 * f.val + c.val

/-- Internal lane of channel c of die f (R12). -/
def laneOf (f : DieNo) (c : ChanNo) : Nat := 4 * f.val + c.val / 64

end Sys2Proof
end

