-- ==== Sys2Proof/Syntax.lean ====
section
/-! DEFINITION. The commands of the block: one constructor for each row of spec/opcode_table.json, in its order. The operands
are what comes from outside the module with the command: an index, a register word, a lane word, an analog code. A term may
leave out an operand that has a value here; every meaning takes it as it comes. -/

namespace Sys2Proof

/-- A requester of register accesses (R444). -/
inductive Requester where
  | latigo | tmi | jtag
  deriving DecidableEq, Repr

/-- Why a TMI message is discarded (R280): MCRC fails, malformed, lock lost before MEND. -/
inductive TmiFault where
  | mcrc | bad | unlocked
  deriving DecidableEq, Repr

/-- What a Tree block holds (Table 12.4): an item or entry for the own block of stream `k` of a slot; part of an own block, or of a
forwarded one, in the merge window or in a port's queue; the duplicate-test entry of a source and stream; a segment descriptor; what its
place says, a granule of a segment, a row of an ingress queue, a template or the history of an engine; or nothing that the receiver sees. -/
inductive TreeUse where
  | item (slot : BitVec 48) (k : Fin 8)
  | own (slot : BitVec 48) (k : Fin 8)
  | forwarded (module : BitVec 12) (stream : BitVec 4) (slot : BitVec 48)
  | dedup (key : Nat)
  | segment (descriptor : Fin 16384)
  | place
  | other
  deriving DecidableEq, Repr

/-- The commands. -/
inductive Instr where
  /-- POWER_ON (R29). -/
  | powerOn (vin : Nat := 0)
  /-- VIN_SUPERVISOR_LOSS (R29). -/
  | vinSupervisorLoss (vin : Nat := 0)
  /-- RESET_RELEASE (R482). -/
  | resetRelease (vin : Nat) (rstN railsOk pllLock : Bool) (mid : BitVec 12) (mstr : Bool)
  /-- FILL_COMPLETE (R312). -/
  | fillComplete
  /-- BOOT_IMAGE_READ (R435). -/
  | bootImageRead
  /-- BOOT_COMPLETE (R434). -/
  | bootComplete
  /-- ANODE_SLEW_STEP (R37). -/
  | anodeSlewStep (f : DieNo) (c : ChanNo)
  /-- TRIGGER_DISC_FIRE (R43). -/
  | triggerDiscFire (f : DieNo) (c : ChanNo) (cur : Nat := 0)
  /-- THRESHOLD_EVAL (R47). -/
  | thresholdEval (f : DieNo) (c : ChanNo)
  /-- PIX_TRGPOL_WRITE (R49). -/
  | pixTrgpolWrite (f : DieNo) (c : ChanNo) (data : Word32)
  /-- ACC_LOAD (R46). -/
  | accLoad (f : DieNo) (c : ChanNo) (data : Word32)
  /-- INJ_ARM (R52). -/
  | injArm (f : DieNo) (data : Word32)
  /-- INJ_FIRE (R53). -/
  | injFire (f : DieNo)
  /-- INJ_REP_CLEAR (R55). -/
  | injRepClear (f : DieNo) (data : Word32)
  /-- OVR_ENTER (R57). -/
  | ovrEnter (f : DieNo) (c : ChanNo) (high : Bool := false)
  /-- OVR_RELEASE (R519). -/
  | ovrRelease (f : DieNo) (c : ChanNo) (high : Bool := false)
  /-- OVR_LONG (R57). -/
  | ovrLong (f : DieNo) (c : ChanNo)
  /-- RECOVERY_WINDOW_END (R519). -/
  | recoveryWindowEnd (f : DieNo) (c : ChanNo)
  /-- NEIGHBOUR_WINDOW_END (R519). -/
  | neighbourWindowEnd (f : DieNo) (c : ChanNo) (left : Bool)
  /-- LEAD_CAPTURE (R74). -/
  | leadCapture (f : DieNo) (c : ChanNo) (cur : Nat) (taps : BitVec 160)
  /-- TRAIL_CAPTURE (R74). -/
  | trailCapture (f : DieNo) (c : ChanNo) (cur : Nat) (taps : BitVec 160 := 0)
  /-- TOT_SATURATE (R71). -/
  | totSaturate (f : DieNo) (c : ChanNo)
  /-- DEAD_TIME_END (R74). -/
  | deadTimeEnd (f : DieNo) (c : ChanNo)
  /-- CREDIT_ADD (R73). -/
  | creditAdd (f : DieNo) (c : ChanNo)
  /-- INTERVAL_TIMEOUT (R82). -/
  | intervalTimeout (f : DieNo) (c : ChanNo)
  /-- COMPLETION_ENTRY (R80). -/
  | completionEntry (f : DieNo) (c : ChanNo)
  /-- MARKER_ENTRY (R77). -/
  | markerEntry (n : LaneNo)
  /-- ENTRY_TO_QUEUE (R79). -/
  | entryToQueue (n : LaneNo)
  /-- AWL_COMMIT (R67). -/
  | awlCommit (f : DieNo) (data : Word32)
  /-- RNG_RESTART (R91). -/
  | rngRestart (f : DieNo) (c : ChanNo) (data : Word32)
  /-- RESTART_ALL (R91). -/
  | restartAll (f : DieNo) (data : Word32)
  /-- RING_FULL (R91). -/
  | ringFull (f : DieNo) (c : ChanNo)
  /-- FRZ0 (R262). -/
  | frz0 (f : DieNo) (w : Word64)
  /-- FREEZE_DECODE (R95). -/
  | freezeDecode (f : DieNo) (w : Word64)
  /-- FREEZE_APPLY (R93). -/
  | freezeApply (f : DieNo) (c : ChanNo)
  /-- TRANSFER_END (R96). -/
  | transferEnd (f : DieNo) (c : ChanNo) (b : Fin 4)
  /-- CONVERSION_END (R97). -/
  | conversionEnd (f : DieNo) (c : ChanNo) (b : Fin 4) (hg lg : List Nat) (ref : Nat)
  /-- RECORD_PUSH (R104). -/
  | recordPush (n : LaneNo)
  /-- REC_WAIT_EXPIRE (R104). -/
  | recWaitExpire (n : LaneNo)
  /-- CS_WORD_SEND (R259). -/
  | csWordSend (n : LaneNo)
  /-- SHATHEN_ALIGN_SEND (R259). -/
  | shathenAlignSend (n : LaneNo) (half : Bool)
  /-- PRIMITIVE_ENTER (R112). -/
  | primitiveEnter (n : LaneNo) (w : Word64)
  /-- SIDE_WORD_ENTER (R272). -/
  | sideWordEnter (cib : Bool) (w : Word64)
  /-- BIN_EVALUATE (R116). -/
  | binEvaluate
  /-- TRIG (R122). -/
  | trig (alt : Bool) (tslot : BitVec 32) (toff : BitVec 16) (tfine : BitVec 7) (now : Bool)
  /-- STR_FORCE (R120). -/
  | strForce (data : Word32)
  /-- AUTO_TRIGGER (R125). -/
  | autoTrigger
  /-- TRIGGER_DECIDE (R123). -/
  | triggerDecide
  /-- FREEZE_SEND (R261). -/
  | freezeSend (f : DieNo)
  /-- RECORD_ARRIVE (R136). -/
  | recordArrive (n : LaneNo)
  /-- REFUSAL_ARRIVE (R133). -/
  | refusalArrive (n : LaneNo) (w : Word64)
  /-- CTX_TIMEOUT (R126). -/
  | ctxTimeout (k : Fin 4)
  /-- STR_CLASS_WRITE (R129). -/
  | strClassWrite (k : Fin 4) (data : Word32)
  /-- STR_MAPDATA_ACCESS (R114). -/
  | strMapdataAccess (wr : Bool) (data : Word32)
  /-- FB_CLEAR (R140). -/
  | fbClear (data : Word32)
  /-- SLOT_STROBE (R224). -/
  | slotStrobe (meas : Int) (votes : List Nat) (dieVotes : List Nat) (errs : List (Fin 115 × Nat × Nat)) (phases : List (Option (Int × Int)))
  /-- MARKER_ARRIVE (R155). -/
  | markerArrive (n : LaneNo) (w : Word64) (cross : Nat := 32)
  /-- MARKER_WAIT_EXPIRE (R155). -/
  | markerWaitExpire
  /-- HIT_GATE_EVAL (R152). -/
  | hitGateEval
  /-- SLOT_PACK_HIT (R149). -/
  | slotPackHit (n : LaneNo)
  /-- HIT_CONVERT (R170). -/
  | hitConvert (n : LaneNo)
  /-- AMBIENT_COLLECT (R343). -/
  | ambientCollect (n : LaneNo) (w : Word64)
  /-- CI_FRAME_RECEIVE (R278). -/
  | ciFrameReceive (cib fbad fcrcOk : Bool) (ws : List Word64)
  /-- CI_SLOT_END_RECEIVE (R175). -/
  | ciSlotEndReceive (cib : Bool) (slot : BitVec 48) (nblk : BitVec 16)
  /-- CI_PORT_ENABLE (R176). -/
  | ciPortEnable (cib : Bool)
  /-- CI_PORT_DISABLE (R176). -/
  | ciPortDisable (cib : Bool)
  /-- MERGE_DEADLINE_EXPIRE (R177). -/
  | mergeDeadlineExpire
  /-- GROUP_READY (R177). -/
  | groupReady
  /-- BLOCK_ENTER_SKIVE (R189). -/
  | blockEnterSkive
  /-- PART_VERIFY_DONE (R207). -/
  | partVerifyDone (e : Fin 16) (tokens lens : List (Nat × Nat)) (flip : Option (Nat × Byte))
  /-- STORED_PATH_LEAVE (R210). -/
  | storedPathLeave
  /-- BACKLOG_CHECK (R215). -/
  | backlogCheck
  /-- ENGINE_RETURN (R210). -/
  | engineReturn (data : Word32)
  /-- ENGINE_ENABLE_WRITE (R210). -/
  | engineEnableWrite (data : Word32)
  /-- INSP_GO (R213). -/
  | inspGo (data : Word32)
  /-- INSP_DONE (R213). -/
  | inspDone
  /-- REF_INPUT_LOST (R220). -/
  | refInputLost (alt : Bool)
  /-- REF_INPUT_QUALIFIED (R220). -/
  | refInputQualified (alt : Bool)
  /-- FORCE_HOLD (R220). -/
  | forceHold (data : Word32)
  /-- SYNC (R230). -/
  | sync (alt : Bool) (gmid sseq : BitVec 16) (t1 : BitVec 71) (stamp : Nat)
  /-- SYNC_TIMEOUT (R234). -/
  | syncTimeout
  /-- PLL_UNLOCK (R232). -/
  | pllUnlock
  /-- ECHO_REQ (R236). -/
  | echoReq (alt : Bool) (tgt : BitVec 12) (exseq : BitVec 16) (stamp : Nat)
  /-- ECHO_SEND (R273). -/
  | echoSend (stamp : Nat)
  /-- ECHO_RECEIVE (R237). -/
  | echoReceive (cib : Bool) (exseq : BitVec 16) (src : BitVec 12) (stamp : Nat)
  /-- GIR_SNAP (R242). -/
  | girSnap (data : Word32)
  /-- SR_LOW_READ (R10). -/
  | srLowRead (who : Requester) (tag : Byte) (addr : Word32)
  /-- SR_HIGH_READ (R10). -/
  | srHighRead (who : Requester) (tag : Byte) (addr : Word32)
  /-- RC_READ (R8). -/
  | rcRead (who : Requester) (tag : Byte) (addr : Word32)
  /-- LANE_CLOCK_LOSS (R251). -/
  | laneClockLoss (n : AnyLane)
  /-- LANE_CLOCK_RETURN (R251). -/
  | laneClockReturn (n : AnyLane)
  /-- LANE_LOCK (R251). -/
  | laneLock (n : AnyLane)
  /-- LANE_LOCK_LOSS (R251). -/
  | laneLockLoss (n : AnyLane)
  /-- SLIP_REQUEST (R251). -/
  | slipRequest (n : RxLane)
  /-- SLIP (R251). -/
  | slip (n : RxLane)
  /-- LANE_ENABLE (R251). -/
  | laneEnable (n : RxLane)
  /-- LANE_DISABLE (R251). -/
  | laneDisable (n : RxLane)
  /-- BAD_CONTROL_BLOCK (R249). -/
  | badControlBlock (n : RxLane) (chkFail : Bool)
  /-- ALIGN_RECEIVE (R253). -/
  | alignReceive (cib : Bool) (counts : List Nat) (skew : Nat := 0)
  /-- PORT_UP (R253). -/
  | portUp (cib : Bool) (acount : BitVec 32)
  /-- PORT_DOWN (R254). -/
  | portDown (cib : Bool) (align : Bool)
  /-- SHATHEN_LINK_LOST (R254). -/
  | shathenLinkLost (f : DieNo)
  /-- EQ_ADAPT (R255). -/
  | eqAdapt (n : RxLane) (below now above : Nat)
  /-- LOOP_WRITE (R258). -/
  | loopWrite (tx : Bool) (n : RxLane) (data : Word32)
  /-- SHATHEN_ALIGN_RECEIVE (R260). -/
  | shathenAlignReceive (n : LaneNo) (w : Word64) (stamp : Nat)
  /-- DIE_REG_WR (R264). -/
  | dieRegWr (f : DieNo) (w : Word64)
  /-- DIE_REG_RD (R264). -/
  | dieRegRd (f : DieNo) (w : Word64)
  /-- TSET (R263). -/
  | tset (f : DieNo) (w : Word64)
  /-- RETURN_OP_UNDEFINED (R261). -/
  | returnOpUndefined (f : DieNo) (w : Word64)
  /-- REG_ANSWER (R264). -/
  | regAnswer (f : DieNo) (w : Word64)
  /-- REG_TIMEOUT (R264). -/
  | regTimeout
  /-- ALIGN_ROW_SEND (R268). -/
  | alignRowSend
  /-- SIDE_SEND (R272). -/
  | sideSend (upb : Bool)
  /-- FRAME_SEND (R269). -/
  | frameSend (upb : Bool) (drv other wit : BitVec 32)
  /-- BUILDER_RESTART (R276). -/
  | builderRestart (data : Word32)
  /-- MIRROR_WRITE (R271). -/
  | mirrorWrite (data : Word32)
  /-- TMI_MESSAGE_DISCARD (R280). -/
  | tmiMessageDiscard (alt : Bool) (why : TmiFault) (blocks : List (Bool × Word64) := [])
  /-- CMD_UNKNOWN (R443). -/
  | cmdUnknown (tgt : BitVec 12) (op : Byte) (arg : BitVec 36)
  /-- TMI_REG_WR (R444). -/
  | tmiRegWr (tgt : BitVec 12) (rtag : Byte) (addr data : Word32)
  /-- TMI_REG_RD (R444). -/
  | tmiRegRd (tgt : BitVec 12) (rtag : Byte) (addr : Word32)
  /-- REGISTER_WRITE (R488). -/
  | registerWrite (who : Requester) (tag : Byte) (addr data : Word32)
  /-- HIT_QUEUE_READ (R292). -/
  | hitQueueRead (n : LaneNo) (delay : Nat) (flips : List Nat)
  /-- INGRESS_PUSH (R296). -/
  | ingressPush (n : LaneNo) (w : Word64) (flip : Fin 4) (cross : Nat := 32)
  /-- DROP_COMMAND (R300). -/
  | dropCommand (hq : Bool) (n : LaneNo)
  /-- TREE_READ (R315). -/
  | treeRead (b : Fin 4194304) (flips mapFlips : List (Fin 81)) (use : TreeUse) (rank : Fin 6 := 0)
  /-- TREE_FULL_WRITE (R308). -/
  | treeFullWrite (b : Fin 4194304) (data : Word64) (rank : Fin 6 := 0)
  /-- TREE_BYTE_WRITE (R309). -/
  | treeByteWrite (b : Fin 4194304) (mask : Byte) (data : Word64) (rank : Fin 6 := 0)
  /-- DEBUG_WINDOW_WRITE (R492). -/
  | debugWindowWrite (who : Requester) (tag : Byte) (addr data : Word32)
  /-- SCRUB_VISIT (R319). -/
  | scrubVisit (flips mapFlips : List (Fin 81)) (use : TreeUse) (waiting : Bool)
  /-- TREE_REPAIR (R323). -/
  | treeRepair (data : Word32)
  /-- REPAIR_COPY_DONE (R323). -/
  | repairCopyDone
  /-- CIC1_OUTPUT (R330). -/
  | cic1Output (f : DieNo) (c : ChanNo) (bits : BitVec 100)
  /-- FIR_OUTPUT (R331). -/
  | firOutput (f : DieNo)
  /-- LEVEL_EMIT (R333). -/
  | levelEmit (f : DieNo) (c : ChanNo)
  /-- STP_SYNC (R334). -/
  | stpSync (f : DieNo) (c : ChanNo) (data : Word32)
  /-- STP_PRESET_WRITE (R334). -/
  | stpPresetWrite (f : DieNo) (c : ChanNo) (data : Word32)
  /-- STP_ENABLE (R334). -/
  | stpEnable (f : DieNo) (c : ChanNo) (data : Word32)
  /-- SYNC_ALL (R334). -/
  | syncAll (f : DieNo) (data : Word32)
  /-- STROP_RESET_APPLY (R334). -/
  | stropResetApply (f : DieNo) (c : ChanNo)
  /-- COEF_WRITE (R339). -/
  | coefWrite (f : DieNo) (bankB : Bool) (n : Fin 32) (data : Word32)
  /-- BANK_REQUEST (R341). -/
  | bankRequest (f : DieNo) (data : Word32)
  /-- AMBIENT_WORD_SEND (R342). -/
  | ambientWordSend (n : LaneNo)
  /-- SCAN_START (R358). -/
  | scanStart
  /-- SCAN_STEP_START (R358). -/
  | scanStepStart
  /-- VISIT_MAKE (R351). -/
  | visitMake (cb : Bool)
  /-- EX_RELEASE_WAIT (R353). -/
  | exReleaseWait (cb : Bool)
  /-- HK_CONVERT_END (R354). -/
  | hkConvertEnd (cb : Bool) (code : BitVec 16) (hi lo : Int) (ex : Int := 0)
  /-- HK_CHECK_END (R356). -/
  | hkCheckEnd (cb : Bool) (code : BitVec 12)
  /-- VISIT_END (R361). -/
  | visitEnd (cb : Bool)
  /-- SCAN_STEP_END (R358). -/
  | scanStepEnd
  /-- EXC_WRITE (R352). -/
  | excWrite (n : Fin 32) (data : Word32)
  /-- HK_CHCFG_WRITE (R364). -/
  | hkChcfgWrite (n : Fin 32) (data : Word32)
  /-- URGENT_REQUEST (R360). -/
  | urgentRequest (data : Word32)
  /-- URGENT_VISIT_START (R360). -/
  | urgentVisitStart
  /-- TEMP_UPDATE (R367). -/
  | tempUpdate (f : DieNo) (temp : BitVec 16)
  /-- TEMP_STALE (R367). -/
  | tempStale (f : DieNo)
  /-- CAL_MAXINT_EXPIRE (R368). -/
  | calMaxintExpire (f : DieNo) (cls : Fin 3)
  /-- CAL_RUN_REQUEST (R368). -/
  | calRunRequest (data : Word32)
  /-- CAL (R368). -/
  | cal (tgt : BitVec 12) (arg : BitVec 36)
  /-- CAL_RUN_START (R369). -/
  | calRunStart (f : DieNo)
  /-- HISTOGRAM_DONE (R371). -/
  | histogramDone (n : LaneNo)
  /-- HISTOGRAM_TIMEOUT (R371). -/
  | histogramTimeout (n : LaneNo)
  /-- INJ_RUN_END (R377). -/
  | injRunEnd (f : DieNo) (found : List Bool) (pos : List Nat)
  /-- CAL_COMMIT (R381). -/
  | calCommit (f : DieNo)
  /-- PULSE_ARM (R389). -/
  | pulseArm (data : Word32)
  /-- PULSE_FIRE (R391). -/
  | pulseFire
  /-- PULSE_STOP (R390). -/
  | pulseStop (data : Word32)
  /-- LD_DIAGNOSIS (R394). -/
  | ldDiagnosis (k : Fin 24) (na mv : Nat)
  /-- LAMP_TEMP_TIMEOUT (R393). -/
  | lampTempTimeout
  /-- PROOF_PULSE (R395). -/
  | proofPulse
  /-- PROOF_INTERVAL_END (R395). -/
  | proofIntervalEnd
  /-- LAMP_RESTORE (R396). -/
  | lampRestore (data : Word32)
  /-- BRIDLE_SAMPLE (R403). -/
  | bridleSample (a b c : BitVec 14) (refFail : BitVec 3) (differ : Bool)
  /-- SUMMARY_ARRIVE (R410). -/
  | summaryArrive (f : DieNo) (max : BitVec 24) (nvalid : BitVec 9) (ovl : Bool)
  /-- SUMMARY_STALE (R410). -/
  | summaryStale (f : DieNo)
  /-- SUN_GUARD_RELEASE (R410). -/
  | sunGuardRelease (b : Fin 4)
  /-- DESCENT_TIMEOUT (R404). -/
  | descentTimeout
  /-- TEST_PULSE (R413). -/
  | testPulse (outB : Bool)
  /-- FEEDBACK_CHECK (R412). -/
  | feedbackCheck (outB fb : Bool)
  /-- KEY_RELEASE (R415). -/
  | keyRelease (heldMs : Nat)
  /-- KEY_STUCK (R416). -/
  | keyStuck
  /-- KEY_STUCK_CLEAR (R416). -/
  | keyStuckClear
  /-- DEG_TICK (R417). -/
  | degTick
  /-- SETPOINT_RAMP (R407). -/
  | setpointRamp
  /-- BSET_FRAME (R420). -/
  | bsetFrame (b : Fin 4)
  /-- BIAS_ON (R405). -/
  | biasOn (tgt : BitVec 12) (arg : BitVec 36)
  /-- BIAS_DOWN (R404). -/
  | biasDown (tgt : BitVec 12) (arg : BitVec 36)
  /-- BIAS_OFF_NOW (R404). -/
  | biasOffNow (tgt : BitVec 12) (arg : BitVec 36)
  /-- BIAS_SET (R407). -/
  | biasSet (tgt : BitVec 12) (arg : BitVec 36)
  /-- PROGRAM_REQUEST (R442). -/
  | programRequest (data : Word32)
  /-- PROGRAM_START (R442). -/
  | programStart (upset : Bool)
  /-- PROGRAM_BUDGET_EXPIRE (R442). -/
  | programBudgetExpire
  /-- WRI (R441). -/
  | wri (upset : Bool)
  /-- WRR (R441). -/
  | wrr (upset : Bool)
  /-- RD (R441). -/
  | rd (upset : Bool)
  /-- RMW (R441). -/
  | rmw (upset : Bool)
  /-- LDI (R441). -/
  | ldi (upset : Bool)
  /-- ALU (R441). -/
  | alu (upset : Bool)
  /-- POLL (R441). -/
  | poll (upset : Bool)
  /-- POLL_TIMEOUT (R441). -/
  | pollTimeout
  /-- WAITS (R441). -/
  | waits (upset : Bool)
  /-- WAITC (R441). -/
  | waitc (upset : Bool)
  /-- WAIT_DONE (R441). -/
  | waitDone
  /-- JMP (R441). -/
  | jmp (upset : Bool)
  /-- BR (R441). -/
  | br (upset : Bool)
  /-- PRIM (R441). -/
  | prim (upset : Bool)
  /-- EVT (R441). -/
  | evt (upset : Bool)
  /-- END (R441). -/
  | endProg (upset : Bool)
  /-- RUN_PROG (R443). -/
  | runProg (tgt : BitVec 12) (arg : BitVec 36)
  /-- MEAS_REPORT (R437). -/
  | measReport (tgt : BitVec 12) (arg : BitVec 36)
  /-- STAGE_OPEN (R445). -/
  | stageOpen (tgt : BitVec 12) (arg : BitVec 36)
  /-- ERASE_DONE (R445). -/
  | eraseDone
  /-- STAGE (R446). -/
  | stage (tgt : BitVec 12) (rtag : Byte) (off : Word32) (ws : List Word64)
  /-- STAGE_CLOSE (R445). -/
  | stageClose (tgt : BitVec 12) (arg : BitVec 36)
  /-- STAGE_VERIFY_DONE (R447). -/
  | stageVerifyDone
  /-- STAGE_ABORT (R445). -/
  | stageAbort (tgt : BitVec 12) (arg : BitVec 36)
  /-- RETAINED_LOG_WRITE (R438). -/
  | retainedLogWrite
  /-- RELOAD (R449). -/
  | reload (tgt : BitVec 12) (arg : BitVec 36)
  /-- RESTART (R448). -/
  | restart (tgt : BitVec 12) (arg : BitVec 36)
  /-- DIE_OUT (R451). -/
  | dieOut (tgt : BitVec 12) (arg : BitVec 36)
  /-- DIE_PWR_ON (R452). -/
  | diePwrOn (tgt : BitVec 12) (arg : BitVec 36)
  /-- DIE_PWR_OFF (R485). -/
  | diePwrOff (tgt : BitVec 12) (arg : BitVec 36)
  /-- DIE_INIT (R452). -/
  | dieInit (tgt : BitVec 12) (arg : BitVec 36)
  /-- DIE_JOIN (R453). -/
  | dieJoin (tgt : BitVec 12) (arg : BitVec 36)
  /-- FORCE (R443). -/
  | force (tgt : BitVec 12) (arg : BitVec 36)
  /-- LANE_RETRAIN (R443). -/
  | laneRetrain (tgt : BitVec 12) (arg : BitVec 36)
  /-- DIE_EVENT_WORD (R459). -/
  | dieEventWord (n : LaneNo) (w : Word64)
  /-- EVENT_RAISE (R460). -/
  | eventRaise (id : Fin 544) (data : Word32)
  /-- DATAPATH_PARITY_FAULT (R471). -/
  | datapathParityFault (code : Fin 13) (k : Fin 8) (slot : BitVec 48)
  /-- VIN_WARN_FALL (R478). -/
  | vinWarnFall (vin : Nat)
  /-- VIN_WARN_RELEASE (R479). -/
  | vinWarnRelease (vin : Nat := 0)
  /-- BROWNOUT_RESUME (R479). -/
  | brownoutResume
  /-- VIN_RESET_FALL (R480). -/
  | vinResetFall (vin : Nat := 0)
  /-- RAIL_FAULT (R476). -/
  | railFault (r : Fin 4) (v : Nat)
  /-- RAIL_RESET (R476). -/
  | railReset (r : Fin 4)
  /-- RST_N_LOW (R481). -/
  | rstNLow
  /-- CASE_TEMP_READ (R483). -/
  | caseTempRead (temp : BitVec 16) (vin : BitVec 16)
  /-- CASE_OVERTEMP_RESET (R483). -/
  | caseOvertempReset
  /-- DIE_RAIL_LIMIT (R485). -/
  | dieRailLimit (f : DieNo) (vsa vsd : Nat := 0)
  /-- DIE_RAIL_TRIP (R485). -/
  | dieRailTrip (f : DieNo)
  /-- DIE_RAIL_UV (R485). -/
  | dieRailUv (f : DieNo) (vsa vsd : Nat := 0)
  /-- ROOT_PLL_RELOCK (R240). -/
  | rootPllRelock
  /-- DIE_PLL_LOCK (R91). -/
  | diePllLock (f : DieNo)
  /-- FLASH_PROGRAM_DONE (R445). -/
  | flashProgramDone
  /-- DIMMED_DC_ON (R388). -/
  | dimmedDcOn (k : Fin 24)
  /-- ON_TIME_END (R389). -/
  | onTimeEnd (k : Fin 24)
  /-- TEST_PULSE_END (R414). -/
  | testPulseEnd (outB : Bool)
  /-- EVENT_N_HOLD_END (R463). -/
  | eventNHoldEnd
  deriving DecidableEq, Repr

end Sys2Proof
end

