-- ==== Sys2Proof/Machine/Bits.lean ====
section
/-! DEFINITION. Plain helpers of the meanings: sparse maps in canonical form, bit fields, signed numbers, rounding. -/

namespace Sys2Proof.Machine

/-- A sparse map: pairs in strictly rising key order, no entry equal to what an unlisted key reads as. -/
abbrev SMap (α : Type) := List (Nat × α)

/-- The value of key `k`; `d` says what an unlisted key reads as. -/
def SMap.get {α : Type} (d : Nat → α) (m : SMap α) (k : Nat) : α :=
  match m with
  | [] => d k
  | (j, v) :: t => if j = k then v else SMap.get d t k

/-- Remove every entry of key `k`. -/
def SMap.erase {α : Type} (m : SMap α) (k : Nat) : SMap α :=
  match m with
  | [] => []
  | (j, v) :: t => if j = k then SMap.erase t k else (j, v) :: SMap.erase t k

/-- Put an entry in its place. -/
def SMap.insert {α : Type} (m : SMap α) (k : Nat) (v : α) : SMap α :=
  match m with
  | [] => [(k, v)]
  | (j, u) :: t =>
    if k < j then (k, v) :: (j, u) :: t
    else if k = j then (k, v) :: t
    else (j, u) :: SMap.insert t k v

/-- Write key `k`; writing what an unlisted key reads as removes the entry. -/
def SMap.set {α : Type} [DecidableEq α] (d : Nat → α) (m : SMap α) (k : Nat) (v : α) : SMap α :=
  if v = d k then SMap.erase m k else SMap.insert m k v

/-- The canonical form, from key `b` upwards. -/
def SMap.wfFrom {α : Type} [DecidableEq α] (d : Nat → α) (b : Nat) (m : SMap α) : Bool :=
  match m with
  | [] => true
  | (j, v) :: t => decide (b ≤ j) && decide (v ≠ d j) && SMap.wfFrom d (j + 1) t

/-- The canonical form. -/
def SMap.wf {α : Type} [DecidableEq α] (d : Nat → α) (m : SMap α) : Bool := SMap.wfFrom d 0 m

/-- Bits `[lo + w - 1 : lo]` of a number. -/
def fieldOf (x lo w : Nat) : Nat := x / 2 ^ lo % 2 ^ w

/-- Bit `b` of a number. -/
def bitOf (x b : Nat) : Bool := x / 2 ^ b % 2 == 1

/-- 1 for true, 0 for false. -/
def b2n (b : Bool) : Nat := if b then 1 else 0

/-- A `w`-bit number read as signed. -/
def signed (w x : Nat) : Int := if x % 2 ^ w < 2 ^ (w - 1) then Int.ofNat (x % 2 ^ w) else Int.ofNat (x % 2 ^ w) - 2 ^ w

/-- A signed number in `w` bits, two's complement. -/
def unsigned (w : Nat) (i : Int) : Nat := (i % (2 ^ w : Nat)).toNat

/-- The signed difference of two wrapping `w`-bit values (R7). -/
def wrapDiff (w a b : Nat) : Int := signed w (a % 2 ^ w + 2 ^ w - b % 2 ^ w)

/-- Whether `a` is later than `b` in `w` bits (R7). -/
def laterThan (w a b : Nat) : Bool := decide (0 < wrapDiff w a b)

/-- A sum that stops at the largest `w`-bit number. -/
def satAdd (w a b : Nat) : Nat := min (a + b) (2 ^ w - 1)

/-- An integer held between two bounds. -/
def clampI (lo hi x : Int) : Int := max lo (min hi x)

/-- `a / b` to the nearest, halves up. -/
def roundDiv (a : Int) (b : Nat) : Int := (2 * a + b) / (2 * b)

/-- `a / b` rounded toward zero. -/
def truncDiv (a : Int) (b : Nat) : Int := if a < 0 then - ((-a) / b) else a / b

/-- Arithmetic shift right. -/
def asr (x : Int) (n : Nat) : Int := x / (2 ^ n : Nat)

/-- Quotient of naturals rounded up. -/
def ceilDiv (a b : Nat) : Nat := (a + b - 1) / b

/-- A word from fields (lowest bit, width, value); values are cut to their width. -/
def packN : List (Nat × Nat × Nat) → Nat
  | [] => 0
  | (lo, w, v) :: t => v % 2 ^ w * 2 ^ lo + packN t

/-- A 64-bit word from fields that do not overlap. -/
def pack (fs : List (Nat × Nat × Nat)) : Word64 := BitVec.ofNat 64 (packN fs)

/-- Bits `[lo + w - 1 : lo]` of a 64-bit word. -/
def fw (x : Word64) (lo w : Nat) : Nat := fieldOf x.toNat lo w

/-- The `n` bytes of a number, most significant first. -/
def bytesBE (n x : Nat) : List Nat :=
  match n with
  | 0 => []
  | k + 1 => (x / 256 ^ k % 256) :: bytesBE k x

/-- The number that bytes spell, most significant first. -/
def beNat (bs : List Nat) : Nat := bs.foldl (fun a b => a * 256 + b % 256) 0

/-- The bytes of words, each most significant first (R160). -/
def wordBytes (ws : List Word64) : List Nat := ws.flatMap (fun w => bytesBE 8 w.toNat)

/-- Words from bytes, padded with zero bytes to a whole word (R160). `n` is the number of words. -/
def bytesWords (n : Nat) (bs : List Nat) : List Word64 :=
  match n with
  | 0 => []
  | k + 1 => BitVec.ofNat 64 (beNat ((bs ++ List.replicate 8 0).take 8)) :: bytesWords k (bs.drop 8)

/-- How many bits of a `w`-bit number are 1. -/
def popCount (w x : Nat) : Nat :=
  match w with
  | 0 => 0
  | k + 1 => x % 2 + popCount k (x / 2)

/-- Replace element `i` of a list; a place outside the list changes nothing. -/
def setAt {α : Type} (l : List α) (i : Nat) (v : α) : List α := l.set i v

/-- Whether the bit `2 ^ i` mask `m` has bit i for each listed i. -/
def bitsList (w m : Nat) : List Nat := (List.range w).filter (fun i => bitOf m i)

/-- The mask of listed bits. -/
def maskOf (l : List Nat) : Nat := l.foldl (fun a i => if bitOf a i then a else a + 2 ^ i) 0

/-- Set or clear bit `i` of a number. -/
def withBit (x i : Nat) (b : Bool) : Nat := if bitOf x i then (if b then x else x - 2 ^ i) else (if b then x + 2 ^ i else x)

/-- Insert into an ascending list. -/
def insertNat (x : Nat) : List Nat → List Nat
  | [] => [x]
  | y :: t => if x ≤ y then x :: y :: t else y :: insertNat x t

/-- A list in ascending order. -/
def sortNat (l : List Nat) : List Nat := l.foldr insertNat []

/-- Microseconds in cu: 1 µs is 2,560 cu (R5). -/
def usCu : Nat := 2560

end Sys2Proof.Machine
end

