-- ==== Sys2Proof/Machine/Deflate.lean ====
section
/-! DEFINITION. DEFLATE (08 R202 to R205, R211): the decompressor with its faults, and the coding of a part. Bits are lists in
stream order: within each byte the least significant bit comes first (R202). -/

namespace Sys2Proof.Machine

/-! ### Bits and bytes -/

/-- `n` bits of a number, least significant first. -/
def bitsLE (n x : Nat) : List Bool :=
  match n with
  | 0 => []
  | k + 1 => (x % 2 == 1) :: bitsLE k (x / 2)

/-- The number that bits spell, least significant first. -/
def bitsVal : List Bool → Nat
  | [] => 0
  | b :: t => b2n b + 2 * bitsVal t

/-- Bytes to bits. -/
def bytesToBits (bs : List Nat) : List Bool := bs.flatMap (bitsLE 8)

/-- Bits to bytes, the last one filled with zeros; `fuel` bounds the number of bytes. -/
def bitsToBytes : Nat → List Bool → List Nat
  | 0, _ => []
  | _, [] => []
  | k + 1, b => bitsVal (b.take 8) :: bitsToBytes k (b.drop 8)

/-- Bits up to the next byte boundary, `n` bits into the stream. -/
def padBits (n : Nat) : List Bool := List.replicate ((8 - n % 8) % 8) false

/-! ### Symbols -/

/-- Base and extra bits of length symbols 257 to 285. -/
def lenTable : List (Nat × Nat) :=
  [(3, 0), (4, 0), (5, 0), (6, 0), (7, 0), (8, 0), (9, 0), (10, 0), (11, 1), (13, 1), (15, 1), (17, 1), (19, 2), (23, 2), (27, 2),
   (31, 2), (35, 3), (43, 3), (51, 3), (59, 3), (67, 4), (83, 4), (99, 4), (115, 4), (131, 5), (163, 5), (195, 5), (227, 5), (258, 0)]

/-- Base and extra bits of distance codes 0 to 29. -/
def distTable : List (Nat × Nat) :=
  [(1, 0), (2, 0), (3, 0), (4, 0), (5, 1), (7, 1), (9, 2), (13, 2), (17, 3), (25, 3), (33, 4), (49, 4), (65, 5), (97, 5), (129, 6),
   (193, 6), (257, 7), (385, 7), (513, 8), (769, 8), (1025, 9), (1537, 9), (2049, 10), (3073, 10), (4097, 11), (6145, 11),
   (8193, 12), (12289, 12), (16385, 13), (24577, 13)]

/-- The last entry of a table whose base does not exceed `v`: its place, base and extra bits. -/
def tableFind (t : List (Nat × Nat)) (v : Nat) : Nat × Nat × Nat :=
  let n := (t.filter (fun x => decide (x.1 ≤ v))).length - 1
  (n, (t.getD n (0, 0)).1, (t.getD n (0, 0)).2)

/-- The order of code-length code lengths. -/
def clOrder : List Nat := [16, 17, 18, 0, 8, 7, 9, 6, 10, 5, 11, 4, 12, 3, 13, 2, 14, 1, 15]

/-- The lengths of the fixed codes. -/
def fixedLit : List Nat := List.replicate 144 8 ++ List.replicate 112 9 ++ List.replicate 24 7 ++ List.replicate 8 8
def fixedDist : List Nat := List.replicate 32 5

/-! ### Canonical codes -/

/-- Symbols of length `l`, ascending. -/
def symbolsOf (lens : List Nat) (l : Nat) : List Nat := (lens.zipIdx.filter (fun x => x.1 == l)).map (·.2)

/-- How much of the code space lengths up to 15 leave: negative when over-full, positive when incomplete. -/
def codeLeft (lens : List Nat) : Int :=
  (List.range 15).foldl (fun left i => 2 * left - (symbolsOf lens (i + 1)).length) 1

/-- Whether the lengths are over-full at some length. -/
def overFull (lens : List Nat) : Bool :=
  ((List.range 15).foldl (fun (p : Int × Bool) i =>
    let l := 2 * p.1 - (symbolsOf lens (i + 1)).length
    (l, p.2 || decide (l < 0))) (1, false)).2

/-- Decode one symbol; the answer is the symbol, if any, and the rest of the bits, if they did not run out. -/
def decodeSym (lens : List Nat) : Nat → Nat → Nat → Nat → List Bool → Option (Option Nat × List Bool)
  | 0, _, _, _, bits => some (none, bits)
  | _, _, _, _, [] => none
  | k + 1, l, code, first, b :: t =>
    let code := code + b2n b
    let syms := symbolsOf lens l
    if code < first + syms.length then some (syms[code - first]?, t)
    else decodeSym lens k (l + 1) (2 * code) (2 * (first + syms.length)) t

/-- Decode the next symbol of a code. -/
def nextSym (lens : List Nat) (bits : List Bool) : Option (Option Nat × List Bool) := decodeSym lens 15 1 0 0 bits

/-- The first code of length `l`. -/
def firstCode (lens : List Nat) (l : Nat) : Nat :=
  (List.range (l - 1)).foldl (fun c i => 2 * (c + (symbolsOf lens (i + 1)).length)) 0

/-- The bits of a symbol's code, most significant first; none when it has no code. -/
def codeBits (lens : List Nat) (sym : Nat) : List Bool :=
  let l := lens.getD sym 0
  let code := firstCode lens l + (((lens.take sym).filter (· == l)).length)
  (bitsLE l code).reverse

/-! ### The decompressor (R211, Table 08.5) -/

/-- How a run ended. -/
inductive InflateEnd where
  | done
  /-- The fault code of Table 08.5 and the bits not yet read at the fault. -/
  | fault (code : Nat) (rest : Nat)
  deriving DecidableEq, Repr

/-- Read `n` bits as a number. -/
def takeBits (n : Nat) (bits : List Bool) : Option (Nat × List Bool) :=
  if bits.length < n then none else some (bitsVal (bits.take n), bits.drop n)

/-- Copy a match of length `n` from distance `d`; `out` is reversed. -/
def copyMatch : Nat → Nat → List Nat → List Nat
  | 0, _, out => out
  | n + 1, d, out => copyMatch n d (out.getD (d - 1) 0 :: out)

/-- Inflate the data of a coded block up to its end-of-block symbol. Distance codes 26 and above are illegal, but in an image section
(`sect`) the codes 26 to 29 of RFC 1951 spell a distance beyond 8,192, which R212 makes DIST_FAR (log entry 157). -/
def inflateCodes (sect : Bool) (lit dist : List Nat) (max : Nat) : Nat → List Bool → List Nat → List Nat × (List Bool ⊕ InflateEnd)
  | 0, bits, out => (out, .inr (.fault 1 bits.length))
  | k + 1, bits, out =>
    match nextSym lit bits with
    | none => (out, .inr (.fault 1 0))
    | some (none, r) => (out, .inr (.fault 1 r.length))
    | some (some sym, r) =>
      if sym < 256 then
        if out.length < max then inflateCodes sect lit dist max k r (sym :: out) else (out, .inr (.fault 3 r.length))
      else if sym = 256 then (out, .inl r)
      else if 286 ≤ sym then (out, .inr (.fault 1 r.length))
      else
        let lt := lenTable.getD (sym - 257) (0, 0)
        match takeBits lt.2 r with
        | none => (out, .inr (.fault 1 0))
        | some (le, r) =>
          match nextSym dist r with
          | none => (out, .inr (.fault 1 0))
          | some (none, r) => (out, .inr (.fault 1 r.length))
          | some (some ds, r) =>
            if (if sect then 30 else 26) ≤ ds then (out, .inr (.fault 1 r.length))
            else
              let dt := distTable.getD ds (0, 0)
              match takeBits dt.2 r with
              | none => (out, .inr (.fault 1 0))
              | some (de, r) =>
                let d := dt.1 + de
                let n := lt.1 + le
                if 8192 < d ∨ out.length < d then (out, .inr (.fault 2 r.length))
                else if max < out.length + n then (copyMatch (max - out.length) d out, .inr (.fault 3 r.length))
                else inflateCodes sect lit dist max k r (copyMatch n d out)

/-- Read the code lengths of a dynamic block: `n` of them, through the code-length code; `acc` is reversed. -/
def readLens (cl : List Nat) : Nat → Nat → List Bool → List Nat → List Nat × (List Bool ⊕ InflateEnd)
  | 0, _, bits, acc => (acc, .inr (.fault 1 bits.length))
  | k + 1, n, bits, acc =>
    if n ≤ acc.length then (if n < acc.length then (acc, .inr (.fault 1 bits.length)) else (acc, .inl bits))
    else
      match nextSym cl bits with
      | none => (acc, .inr (.fault 1 0))
      | some (none, r) => (acc, .inr (.fault 1 r.length))
      | some (some sym, r) =>
        if sym < 16 then readLens cl k n r (sym :: acc)
        else
          let rep (base w v : Nat) : List Nat × (List Bool ⊕ InflateEnd) :=
            match takeBits w r with
            | none => (acc, .inr (.fault 1 0))
            | some (e, r) => readLens cl k n r (List.replicate (base + e) v ++ acc)
          if sym = 16 then (match acc with
            | [] => (acc, .inr (.fault 1 r.length))
            | v :: _ => rep 3 2 v)
          else if sym = 17 then rep 3 3 0
          else rep 11 7 0

/-- Read the header of a dynamic block: literal and distance code lengths. -/
def readDynamic (bits : List Bool) : (List Nat × List Nat × List Bool) ⊕ InflateEnd :=
  match takeBits 14 bits with
  | none => .inr (.fault 1 0)
  | some (h, r) =>
    let hlit := h % 32 + 257
    let hdist := h / 32 % 32 + 1
    let hclen := h / 1024 + 4
    match takeBits (3 * hclen) r with
    | none => .inr (.fault 1 0)
    | some (v, r) =>
      let given := (List.range hclen).map (fun i => fieldOf v (3 * i) 3)
      let cl := (List.range 19).map (fun sym =>
        match clOrder.findIdx? (· == sym) with
        | some i => given.getD i 0
        | none => 0)
      if overFull cl ∨ codeLeft cl ≠ 0 then .inr (.fault 1 r.length)
      else
        match readLens cl (hlit + hdist + 1) (hlit + hdist) r [] with
        | (_, .inr e) => .inr e
        | (acc, .inl r) =>
          let all := acc.reverse
          let lit := all.take hlit
          let dist := all.drop hlit
          let used := (dist.filter (· != 0)).length
          let distOk := used = 0 ∨ (used = 1 ∧ (dist.filter (· == 1)).length = 1) ∨ codeLeft dist = 0
          if overFull lit ∨ codeLeft lit ≠ 0 ∨ overFull dist ∨ ¬ distOk then .inr (.fault 1 r.length)
          else .inl (lit, dist, r)

/-- A stored block: the bits from after its type, the total length of the stream in bits. -/
def inflateStored (total max : Nat) (bits : List Bool) (out : List Nat) : List Nat × (List Bool ⊕ InflateEnd) :=
  let bits := bits.drop ((8 - (total - bits.length) % 8) % 8)
  match takeBits 32 bits with
  | none => (out, .inr (.fault 1 0))
  | some (v, r) =>
    let len := v % 65536
    if v / 65536 ≠ 65535 - len then (out, .inr (.fault 1 r.length))
    else
      let bytes := bitsToBytes len (r.take (8 * len))
      if max < out.length + min len bytes.length then ((bytes.take (max - out.length)).reverse ++ out, .inr (.fault 3 r.length))
      else if r.length < 8 * len then (bytes.reverse ++ out, .inr (.fault 1 0))
      else (bytes.reverse ++ out, .inl (r.drop (8 * len)))

/-- Inflate block after block. `part`: the input may end at a block boundary before a final block, as the part of a stream that a
verifier sees does. -/
def inflateBlocks (total max : Nat) (part sect : Bool) : Nat → List Bool → List Nat → List Nat × InflateEnd
  | 0, bits, out => (out, .fault 1 bits.length)
  | k + 1, bits, out =>
    match takeBits 3 bits with
    | none => if part && bits.isEmpty then (out, .done) else (out, .fault 1 0)
    | some (h, r) =>
      let res : List Nat × (List Bool ⊕ InflateEnd) :=
        match h / 2 with
        | 0 => inflateStored total max r out
        | 1 => inflateCodes sect fixedLit fixedDist max (r.length + 1) r out
        | 2 =>
          (match readDynamic r with
          | .inr e => (out, .inr e)
          | .inl (lit, dist, r) => inflateCodes sect lit dist max (r.length + 1) r out)
        | _ => (out, .inr (.fault 1 r.length))
      match res with
      | (out, .inr e) => (out, e)
      | (out, .inl r) => if h % 2 = 1 then (out, .done) else inflateBlocks total max part sect k r out

/-- Inflate bytes, of a part or of an image section or of neither, to at most `max` bytes: the bytes produced,
the fault code and the input byte offset of the fault. -/
def inflate (part sect : Bool) (max : Nat) (input : List Nat) : List Nat × Nat × Nat :=
  let bits := bytesToBits input
  match inflateBlocks bits.length max part sect (bits.length + 1) bits [] with
  | (out, .done) => (out.reverse, 0, 0)
  | (out, .fault c rest) => (out.reverse, c, (bits.length - rest) / 8)

/-! ### Matching (R203, Table 08.4) -/

/-- How many bytes two lists have in common at their heads, at most `n`. -/
def commonLen : Nat → List Nat → List Nat → Nat
  | n + 1, x :: a, y :: b => if x = y then commonLen n a b + 1 else 0
  | _, _, _ => 0

/-- The bytes that a match of distance `d` at place `i` of a part copies, as far as they agree, at most 258. -/
def matchLen (bs : List Nat) (i d : Nat) : Nat := commonLen 258 (bs.drop (i - d)) (bs.drop i)

/-- The candidates at place `i`: the nearest places, at most CHAIN of them, that lie within 8,192 bytes in the part and hold the same three
bytes; the hash tells all triples apart, and the chain is searched from its most recent place, as RFC 1951 has it (log entry 157). -/
def candidates (chain : Nat) (bs : List Nat) (i : Nat) : List Nat :=
  (((List.range (min i 8192)).map (· + 1)).filter (fun d => decide (3 ≤ matchLen bs i d))).take (max 1 chain)

/-- The longest match at place `i`; 0 when there is none. -/
def bestLen (chain : Nat) (bs : List Nat) (i : Nat) : Nat := ((candidates chain bs i).map (matchLen bs i)).foldl max 0

/-- The tokens of a part, literals (0, byte) and matches (length, distance), are those of a greedy search with one-step lazy evaluation: a
match is a longest one, and a literal stands where there is no match or the next place has a longer one. `lazy` says that the token before
was such a literal: its longer match may then be taken at once, or be weighed in its turn (log entry 157). -/
def tokensFit (chain : Nat) (bs : List Nat) : List (Nat × Nat) → Nat → Bool → Bool
  | [], i, _ => i == bs.length
  | (0, b) :: t, i, _ =>
    decide (bs[i]? = some b) && (bestLen chain bs i == 0 || decide (bestLen chain bs i < bestLen chain bs (i + 1))) &&
      tokensFit chain bs t (i + 1) (bestLen chain bs i != 0)
  | (l, d) :: t, i, lazy =>
    l == bestLen chain bs i && (candidates chain bs i).contains d && matchLen bs i d == l &&
      (lazy || decide (bestLen chain bs (i + 1) ≤ l)) && tokensFit chain bs t (i + l) false

/-- The code lengths that code-length symbols with their extra values spell, the last first (RFC 1951, R204). -/
def spellLens : List (Nat × Nat) → List Nat → List Nat
  | [], acc => acc
  | (x, e) :: t, acc =>
    if x = 16 then spellLens t (List.replicate (3 + e % 4) (acc.headD 0) ++ acc)
    else if x = 17 then spellLens t (List.replicate (3 + e % 8) 0 ++ acc)
    else if x = 18 then spellLens t (List.replicate (11 + e % 128) 0 ++ acc)
    else spellLens t (x :: acc)

/-! ### Coding a part (R202 to R205) -/

/-- The symbols of one token, a literal (0, byte) or a match (length, distance): literal or length symbol, and for a match the
extra bits of the length, the distance code and its extra bits, each with its width. -/
def tokenSyms (t : Nat × Nat) : Nat × Option ((Nat × Nat) × Nat × (Nat × Nat)) :=
  if t.1 = 0 then (t.2 % 256, none)
  else
    let l := if t.1 = 258 then (28, 258, 0) else tableFind (lenTable.take 28) t.1
    let d := tableFind distTable t.2
    (257 + l.1, some ((t.1 - l.2.1, l.2.2), d.1, (t.2 - d.2.1, d.2.2)))

/-- The bits of a token under two codes. -/
def tokenBits (lit dist : List Nat) (t : Nat × Nat) : List Bool :=
  match tokenSyms t with
  | (s, none) => codeBits lit s
  | (s, some ((le, lw), ds, (de, dw))) => codeBits lit s ++ bitsLE lw le ++ codeBits dist ds ++ bitsLE dw de

/-- Symbol counts of a list of tokens and its end-of-block symbol: literals and lengths 0 to 285, distances 0 to 25. -/
def tokenCounts (ts : List (Nat × Nat)) : List Nat × List Nat :=
  let syms := ts.map tokenSyms
  let lits := 256 :: syms.map (·.1)
  let dists := syms.filterMap (fun x => x.2.map (fun y => y.2.1))
  ((List.range 286).map (fun k => (lits.filter (· == k)).length), (List.range 26).map (fun k => (dists.filter (· == k)).length))

/-- Merge two lists sorted by weight; at equal weight the first list's entry comes first. -/
def mergeW : Nat → List (Nat × List Nat) → List (Nat × List Nat) → List (Nat × List Nat)
  | 0, a, b => a ++ b
  | _, [], b => b
  | _, a, [] => a
  | k + 1, x :: a, y :: b => if x.1 ≤ y.1 then x :: mergeW k a (y :: b) else y :: mergeW k (x :: a) b

/-- Pair neighbours into packages; a last one without a neighbour is dropped. -/
def pairs2 : List (Nat × List Nat) → List (Nat × List Nat)
  | x :: y :: t => (x.1 + y.1, x.2 ++ y.2) :: pairs2 t
  | _ => []

/-- Insert by weight, after equal weights. -/
def insertW (x : Nat × List Nat) : List (Nat × List Nat) → List (Nat × List Nat)
  | [] => [x]
  | y :: t => if x.1 < y.1 then x :: y :: t else y :: insertW x t

/-- Length-limited Huffman code lengths of symbols with the given counts, at most `limit` bits, ties by ascending symbol number
(R204); a symbol with count 0 has no code. -/
def huffLens (limit : Nat) (counts : List Nat) : List Nat :=
  let leaves := (counts.zipIdx.filter (fun x => x.1 != 0)).map (fun x => (x.1, [x.2]))
  let sorted := leaves.foldl (fun acc x => insertW x acc) []
  let n := sorted.length
  if n ≤ 1 then (List.range counts.length).map (fun k => if counts.getD k 0 = 0 then 0 else 1)
  else
    let top := (List.range (limit - 1)).foldl (fun l _ => mergeW (3 * n + 3) sorted (pairs2 l)) sorted
    let chosen := (top.take (2 * n - 2)).flatMap (·.2)
    (List.range counts.length).map (fun k => (chosen.filter (· == k)).length)

/-- One code-length symbol with its extra bits. -/
def clExtra (x : Nat × Nat) : List Bool :=
  if x.1 = 16 then bitsLE 2 x.2 else if x.1 = 17 then bitsLE 3 x.2 else if x.1 = 18 then bitsLE 7 x.2 else []

/-- The header of a dynamic block with HLIT 29 and HDIST 25, the lengths spelled by `runs`, symbols of the code-length alphabet
with their extra values (R204). -/
def dynHeader (runs : List (Nat × Nat)) : List Bool :=
  let cl := huffLens 7 ((List.range 19).map (fun k => (runs.filter (fun x => x.1 == k)).length))
  let ordered := clOrder.map (fun k => cl.getD k 0)
  let hclen := max 4 (19 - (ordered.reverse.takeWhile (· == 0)).length)
  bitsLE 5 29 ++ bitsLE 5 25 ++ bitsLE 4 (hclen - 4) ++ (ordered.take hclen).flatMap (bitsLE 3) ++
    runs.flatMap (fun x => codeBits cl x.1 ++ clExtra x)

/-- The codes that an engine builds from symbol counts: 1 is added to each (R204). -/
def dynLens (c : List Nat × List Nat) : List Nat × List Nat := (huffLens 15 (c.1.map (· + 1)), huffLens 15 (c.2.map (· + 1)))

/-- The header that the engine sends spells its codes; a part without statistics has none (R204). -/
def headerFits (stats : Option (List Nat × List Nat)) (runs : List (Nat × Nat)) : Bool :=
  match stats with
  | none => true
  | some c => (spellLens runs []).reverse == (dynLens c).1 ++ (dynLens c).2 && runs.all (fun x => decide (x.1 ≤ 18))

/-- A part's one coded block, BFINAL 0: type 01 without statistics, else type 10 with codes from them (R204). -/
def codedBlock (stats : Option (List Nat × List Nat)) (runs tokens : List (Nat × Nat)) : List Bool :=
  match stats with
  | none => [false, true, false] ++ tokens.flatMap (tokenBits fixedLit fixedDist) ++ codeBits fixedLit 256
  | some c =>
    let lit := (dynLens c).1
    let dist := (dynLens c).2
    [false, false, true] ++ dynHeader runs ++ tokens.flatMap (tokenBits lit dist) ++ codeBits lit 256

/-- Bytes as stored blocks of at most 65,535 bytes, BFINAL 0. -/
def storedBlocks : Nat → List Nat → List Nat
  | 0, _ => []
  | _, [] => []
  | k + 1, bs =>
    let n := min 65535 bs.length
    [0, n % 256, n / 256, (65535 - n) % 256, (65535 - n) / 256] ++ bs.take n ++ storedBlocks k (bs.drop n)

/-- The empty stored block that follows a part; `n` bits have gone before it (R202). -/
def emptyStored (n : Nat) (final : Bool) : List Bool :=
  let h := [final, false, false]
  h ++ padBits (n + 3) ++ bytesToBits [0, 0, 255, 255]

/-- What an engine puts out for a part, and whether it is in stored blocks (R202, R205). -/
def encodePart (stats : Option (List Nat × List Nat)) (runs tokens : List (Nat × Nat)) (bytes : List Nat) (last : Bool) :
    List Nat × Bool :=
  let coded := codedBlock stats runs tokens
  let st := storedBlocks (bytes.length / 65535 + 1) bytes
  if 8 * st.length < coded.length then
    (st ++ bitsToBytes 8 (emptyStored 0 last), true)
  else
    let bits := coded ++ emptyStored coded.length last
    (bitsToBytes bits.length bits, false)

end Sys2Proof.Machine
end

