-- ==== Sys2Proof/Machine/Crc.lean ====
section
/-! DEFINITION. The checks over bytes: CRC-32C (R161), CRC-8 (R250) and SHA-256 (R435, FIPS 180-4). -/

namespace Sys2Proof.Machine

/-- `n` shifts of the reflected CRC-32C register (polynomial 0x1EDC6F41, reflected 0x82F63B78). -/
def crc32cShift : Nat → Nat → Nat
  | 0, c => c
  | n + 1, c => crc32cShift n (if c % 2 == 1 then (c / 2) ^^^ 0x82F63B78 else c / 2)

/-- The register after one more byte. -/
def crc32cByte (c b : Nat) : Nat := crc32cShift 8 (c ^^^ (b % 256))

/-- CRC-32C of bytes (R161). -/
def crc32c (bs : List Nat) : Nat := bs.foldl crc32cByte 0xFFFFFFFF ^^^ 0xFFFFFFFF

/-- `n` shifts of the CRC-8 register (polynomial 0x07, not reflected). -/
def crc8Shift : Nat → Nat → Nat
  | 0, c => c
  | n + 1, c => crc8Shift n (if c / 128 % 2 == 1 then (c * 2 % 256) ^^^ 0x07 else c * 2 % 256)

/-- CRC-8 of bytes (R250). -/
def crc8 (bs : List Nat) : Nat := bs.foldl (fun c b => crc8Shift 8 (c ^^^ (b % 256))) 0

/-- The largest `r` with `r ^ k ≤ n`, from `r` downwards over `b` bits. -/
def rootBits (k n : Nat) : Nat → Nat → Nat
  | 0, r => r
  | b + 1, r => rootBits k n b (if (r + 2 ^ b) ^ k ≤ n then r + 2 ^ b else r)

/-- The first 32 bits of the fraction of the `k`-th root of `p`; the root lies below 8. -/
def rootFrac (k p : Nat) : Nat := rootBits k (p * 2 ^ (32 * k)) 35 0 % 2 ^ 32

/-- The first `n` primes, for `n` up to 64. -/
def firstPrimes (n : Nat) : List Nat :=
  ((List.range 312).filter (fun p => decide (1 < p) && (List.range 16).all (fun d => p % (d + 2) != 0 || p == d + 2))).take n

/-- The round constants: from the cube roots of the first 64 primes. -/
def shaRoundConst : List Nat := (firstPrimes 64).map (rootFrac 3)

/-- The eight words of a SHA-256 chaining value. -/
structure Sha where
  a : Nat
  b : Nat
  c : Nat
  d : Nat
  e : Nat
  f : Nat
  g : Nat
  h : Nat
  deriving DecidableEq, Repr

/-- A chaining value from its words. -/
def Sha.ofList (l : List Nat) : Sha :=
  ⟨l.getD 0 0, l.getD 1 0, l.getD 2 0, l.getD 3 0, l.getD 4 0, l.getD 5 0, l.getD 6 0, l.getD 7 0⟩

/-- The initial chaining value: from the square roots of the first eight primes. -/
def Sha.init : Sha := Sha.ofList ((firstPrimes 8).map (rootFrac 2))

/-- Rotate a 32-bit word right. -/
def rotr32 (n x : Nat) : Nat := (x / 2 ^ n) ||| (x * 2 ^ (32 - n) % 2 ^ 32)

/-- One round. -/
def Sha.round (s : Sha) (kw : Nat) : Sha :=
  let s1 := rotr32 6 s.e ^^^ rotr32 11 s.e ^^^ rotr32 25 s.e
  let ch := (s.e &&& s.f) ^^^ ((0xFFFFFFFF ^^^ s.e) &&& s.g)
  let t1 := s.h + s1 + ch + kw
  let s0 := rotr32 2 s.a ^^^ rotr32 13 s.a ^^^ rotr32 22 s.a
  let mj := (s.a &&& s.b) ^^^ (s.a &&& s.c) ^^^ (s.b &&& s.c)
  ⟨(t1 + s0 + mj) % 2 ^ 32, s.a, s.b, s.c, (s.d + t1) % 2 ^ 32, s.e, s.f, s.g⟩

/-- `n` more words of the message schedule; the list is newest first. -/
def shaSched : Nat → List Nat → List Nat
  | 0, w => w
  | n + 1, w =>
    let x2 := w.getD 1 0
    let x7 := w.getD 6 0
    let x15 := w.getD 14 0
    let x16 := w.getD 15 0
    let g0 := rotr32 7 x15 ^^^ rotr32 18 x15 ^^^ (x15 / 8)
    let g1 := rotr32 17 x2 ^^^ rotr32 19 x2 ^^^ (x2 / 1024)
    shaSched n ((x16 + g0 + x7 + g1) % 2 ^ 32 :: w)

/-- The sixteen words of a 64-byte block. -/
def shaWords : Nat → List Nat → List Nat
  | 0, _ => []
  | n + 1, bs => beNat (bs.take 4) :: shaWords n (bs.drop 4)

/-- One 64-byte block. -/
def Sha.block (s : Sha) (bs : List Nat) : Sha :=
  let w := (shaSched 48 (shaWords 16 bs).reverse).reverse
  let r := (w.zip shaRoundConst).foldl (fun t p => t.round (p.1 + p.2)) s
  ⟨(s.a + r.a) % 2 ^ 32, (s.b + r.b) % 2 ^ 32, (s.c + r.c) % 2 ^ 32, (s.d + r.d) % 2 ^ 32,
   (s.e + r.e) % 2 ^ 32, (s.f + r.f) % 2 ^ 32, (s.g + r.g) % 2 ^ 32, (s.h + r.h) % 2 ^ 32⟩

/-- `n` blocks. -/
def Sha.blocks : Nat → Sha → List Nat → Sha
  | 0, s, _ => s
  | n + 1, s, bs => Sha.blocks n (s.block (bs.take 64)) (bs.drop 64)

/-- The padded message: a 1 bit, zeros, the length in bits. -/
def shaPad (bs : List Nat) : List Nat :=
  bs ++ 0x80 :: List.replicate ((119 - bs.length % 64) % 64) 0 ++ bytesBE 8 (8 * bs.length)

/-- SHA-256 of bytes, as its eight 32-bit words. -/
def sha256 (bs : List Nat) : List Nat :=
  let p := shaPad bs
  let s := Sha.blocks (p.length / 64) Sha.init p
  [s.a, s.b, s.c, s.d, s.e, s.f, s.g, s.h]

end Sys2Proof.Machine
end

