-- ==== Sys2Proof/Config.lean ====
section
/-! DEFINITION. What the manual leaves open: the one source of free values. -/

namespace Sys2Proof

/-- The n-th free value. The manual states no value where a meaning draws one; `State.freeCtr` counts the draws. It has no
body, so no proof can see a value of it (log entry 6). -/
opaque Config.freeValue : Nat → Nat

end Sys2Proof
end

