-- ==== Sys2Proof/Machine/Regs.lean ====
section
/-! DEFINITION. The register map: one constructor for each register of the manual's field tables, with its place
(R487 to R491), its fields with their access kinds (Table 00.4) and its reset value. Every row was taken from the field
table named beside it. Registers of die f are indexed by f (arrays by f * count + i), registers of a channel by the global
channel g = 256 f + c (R4). -/

namespace Sys2Proof.Machine

/-- The access kinds of Table 00.4 (R8). -/
inductive Access where
  | ro | rw | w1c | wo | rc | rwl | sr
  deriving DecidableEq, Repr

/-- Where a register stands in the address map: a Saddle page, a Shathen die window, a channel window (Table 21.1). -/
inductive Space where
  | saddle | die | chan
  deriving DecidableEq, Repr

/-- The registers of the module. -/
inductive Reg where
  | PRS_STATE
  | PIX_CTRL
  | PIX_ANODE
  | PIX_TDISC
  | PIX_TRGPOL
  | PIX_TLOOP
  | PIX_TTARGET
  | PIX_TSTAT
  | PIX_INJ
  | PIX_OVR
  | PIXD_TDBASE
  | PIXD_RCV
  | PIXD_LOOP
  | PIXD_INJ
  | AWL_CTRL
  | AWL_TAPSEL
  | AWL_TAPSEL_NEXT
  | AWL_OFFS
  | AWL_STAT
  | AWL_IVLSTAT
  | AWL_IVLSTAT2
  | AWL_QUAL
  | AWLD_CTRL
  | AWLD_BIAS
  | AWLD_RAMP
  | AWLD_PHASE
  | AWLD_IVL
  | AWLD_CSTAT
  | RNG_CTRL
  | RNG_STAT
  | RNG_CNT
  | RNG_CNT2
  | RNGD_CTRL
  | RNGD_APER
  | RNGD_PUSH
  | RNGD_STAT
  | RNGD_RAMP
  | STR_CTRL
  | STR_TRIG
  | STR_HOLD
  | STR_AUTO
  | STR_CALT
  | STR_SRCCLS
  | STR_ROI
  | STR_BUDGET
  | STR_CLASS
  | STR_STAT
  | STR_TRIGNO
  | STR_CTXTO
  | STR_CNT0
  | STR_CNT1
  | STR_CNT2
  | STR_CNT3
  | STR_CNT4
  | STR_CNT5
  | STR_CNT6
  | STR_POOLDESC
  | STR_POOLGRAN
  | STR_RESUME
  | STR_NBR
  | STR_MAPADDR
  | STR_MAPDATA
  | STR_ROIMASK
  | SP_CTRL
  | SP_AMB
  | SP_WAIT
  | SP_STAT
  | SP_CNT0
  | SP_CNT1
  | SP_CNT2
  | SP_CNT3
  | SP_DLOST
  | SP_SEQ
  | STI_CTRL
  | STI_STAT
  | STI_EMIT_LO
  | STI_EMIT_HI
  | STI_WIN
  | STI_CNT0
  | STI_CNT1
  | STI_CNT2
  | STI_CNT3
  | STI_CNT4
  | STI_CNT5
  | STI_CNT6
  | STI_CNT7
  | STI_SHED
  | SKV_CTRL
  | SKV_MODE
  | SKV_LOSS
  | SKV_STAT
  | SKV_VFAIL
  | SKV_CNT0
  | SKV_CNT1
  | SKV_CNT2
  | SKV_IN_LO
  | SKV_IN_HI
  | SKV_OUT_LO
  | SKV_OUT_HI
  | SKV_INSP_SRC
  | SKV_INSP_INLEN
  | SKV_INSP_OUTMAX
  | SKV_INSP_CTRL
  | SKV_INSP_RES
  | SKV_INSP_OCRC
  | SKV_INSP_FOFF
  | GIR_CTRL
  | GIR_STAT
  | GIR_SERVO
  | GIR_STEP
  | GIR_DLY_TMI
  | GIR_DLY_ALT
  | GIR_RXLAT
  | GIR_SYNCTO
  | GIR_AGE
  | GIR_LEARN
  | GIR_XTAL_LO
  | GIR_XTAL_HI
  | GIR_NOW_LO
  | GIR_NOW_HI
  | GIR_NOW_FINE
  | GIR_FRC_LO
  | GIR_FRC_HI
  | GIR_THETA
  | GIR_SYNCSEQ
  | GIR_SNAP_SLOT_LO
  | GIR_SNAP_SLOT_HI
  | GIR_SNAP_SIG_LO
  | GIR_SNAP_SIG_HI
  | GIR_SNAP_REF_LO
  | GIR_SNAP_REF_HI
  | GIR_SNAP_RATE_LO
  | GIR_SNAP_RATE_HI
  | GIR_SNAP_OFFS0
  | GIR_SNAP_OFFS1
  | GIR_SNAP_OFFS2
  | GIR_CNT0
  | GIR_CNT1
  | GIR_CNT2
  | GIR_CNT3
  | HAR_CTRL
  | HAR_STAT
  | HAR_EQ
  | HAR_CNT0
  | HAR_CNT1
  | HAR_CNT2
  | HAR_CNT3
  | HAR_CNT4
  | HAR_CNT5
  | HAR_CNT6
  | HAR_SHLAT
  | HAR_RXL_CTRL
  | HAR_RXL_STAT
  | HAR_RXL_CNT
  | HAR_RXL_PRBS
  | HAR_TXL_CTRL
  | HAR_TXL_PRBS
  | SHL_CTRL
  | SHL_STAT
  | SHL_CNT
  | HQD_CTRL
  | HQD_STAT
  | HQD_CNT
  | HQD_CNTB
  | ING_STAT
  | ING_CNT
  | TRE_CTRL
  | TRE_SCRUB
  | TRE_CNT0
  | TRE_CNT1
  | TRE_CNT2
  | TRE_CNT3
  | TRE_CNT4
  | TRE_CNT5
  | TRE_LOGPTR
  | TRE_LOGA
  | TRE_LOGB
  | TRE_REPAIR
  | TRE_SPARE_SEL
  | TRE_SPARE_STAT
  | TRE_ROWHOT
  | STP_CTRL
  | STP_OFFS
  | STP_LEVEL
  | STP_FLK
  | STP_CNT
  | STPD_CTRL
  | STPD_BANK
  | STPD_FADE
  | STPD_MAX
  | STPD_SUMM
  | STPD_COEF_A
  | STPD_COEF_B
  | HK_CTRL
  | HK_MASK
  | HK_TIMING
  | HK_PLAUS
  | HK_LAMP
  | HK_URG
  | HK_STAT
  | HK_OPEN
  | HK_CNT0
  | HK_CNT1
  | HK_CNT2
  | HK_CNT3
  | HK_CNT4
  | HK_CHCFG
  | HK_CHWIN
  | HK_CHRES
  | BUR_CTRL
  | BUR_STEP
  | BUR_CD
  | BUR_PH
  | BUR_INJ
  | BUR_TCO
  | BUR_RUN
  | BUR_STAT
  | BUR_CNT0
  | BUR_CNT1
  | BUR_CNT2
  | BUR_QUAL
  | BURD_TEMP
  | BURD_HSEL
  | BURD_PHMEAS
  | BURD_ASYM
  | BURD_INJREF
  | BURD_QPK
  | BURD_APEROFS
  | BURD_TLAST0
  | BURD_TLAST1
  | BURD_HSHORT
  | BURD_HIST
  | CAL_OFFS
  | CAL_CHQ
  | RSE_CTRL
  | RSE_STAT
  | RSE_PULSE
  | RSE_PPER
  | RSE_PROOF
  | RSE_DIAG
  | RSE_TEMPTO
  | RSE_TEMPV
  | RSE_FAC
  | RSE_PULSENO
  | RSE_CNT0
  | RSE_CNT1
  | RSE_CNT2
  | RSE_COMP
  | RSE_CH
  | RSE_CHST
  | BRD_STAT
  | BRD_TRIP
  | BRD_MON
  | BRD_DEG
  | BRD_SET
  | BRD_CNT0
  | BRD_CNT1
  | BRD_LIM0
  | BRD_LIM1
  | BRD_LIM2
  | BRD_LIM3
  | BRD_LIM4
  | BRD_LIM5
  | BRD_LIM6
  | BRD_LIM7
  | BRD_LIM8
  | BRD_LIM9
  | BRD_LIM10
  | LAT_STAT
  | LAT_RUN
  | LAT_STAGE
  | LAT_STAGEPOS
  | LAT_CNT0
  | LAT_CNT1
  | LAT_CNT2
  | LAT_CNT3
  | LAT_ABORT
  | LAT_W
  | LAT_LOCK
  | LAT_RETAIN
  | EVM_CFG
  | EVM_CTRL
  | EVM_STAT
  | EVM_CNTG
  | EVM_VOTE
  | EVM_LAST
  | EVM_PEND
  | EVM_CNT
  | EVD_PEND
  | EVD_TEMPHI
  | EVD_VOTE
  | PRS_VIN
  | PRS_CAUSE
  | PRS_DIP
  | PRS_RAIL
  | PRS_DIERAIL
  | PRS_TEMP
  | PRS_CNT
  | ID_PART
  | ID_SHSTEP
  | ID_IDCODE
  | ID_SERIAL_LO
  | ID_SERIAL_HI
  | ID_MODULE
  | ID_IMAGE_LO
  | ID_IMAGE_HI
  | ID_IMAGE_SEQ
  | ID_IMAGE_LEN
  | ID_BOOT
  | ID_IMGMEAS
  | ID_ROMHASH
  | ID_LIVEMEAS
  | SHD_ID
  | HQD_MEM
  deriving DecidableEq, Repr

/-- The place of a register: `base` is a byte address for a Saddle register, an offset in the die window for a die
register, an offset in the channel window for a channel register; element `i` stands `stride * i` bytes further. -/
structure Place where
  space  : Space
  base   : Nat
  stride : Nat
  count  : Nat
  deriving DecidableEq, Repr

/-- A field of a register: its lowest bit, its width, its access kind. -/
structure FieldRow where
  lo  : Nat
  w   : Nat
  acc : Access
  deriving DecidableEq, Repr

/-- Table 21.1 to Table 21.4 (R487 to R491) with the offsets of each block's own field table. -/
def Reg.place : Reg → Place
  | .PRS_STATE => ⟨.saddle, 0x5000, 4, 1⟩
  | .PIX_CTRL => ⟨.chan, 0x0, 4, 1⟩
  | .PIX_ANODE => ⟨.chan, 0x4, 4, 1⟩
  | .PIX_TDISC => ⟨.chan, 0x8, 4, 1⟩
  | .PIX_TRGPOL => ⟨.chan, 0xC, 4, 1⟩
  | .PIX_TLOOP => ⟨.chan, 0x10, 4, 1⟩
  | .PIX_TTARGET => ⟨.chan, 0x14, 4, 1⟩
  | .PIX_TSTAT => ⟨.chan, 0x18, 4, 1⟩
  | .PIX_INJ => ⟨.chan, 0x1C, 4, 1⟩
  | .PIX_OVR => ⟨.chan, 0x20, 4, 1⟩
  | .PIXD_TDBASE => ⟨.die, 0x1000, 4, 1⟩
  | .PIXD_RCV => ⟨.die, 0x1004, 4, 1⟩
  | .PIXD_LOOP => ⟨.die, 0x1008, 4, 1⟩
  | .PIXD_INJ => ⟨.die, 0x100C, 4, 1⟩
  | .AWL_CTRL => ⟨.chan, 0x40, 4, 1⟩
  | .AWL_TAPSEL => ⟨.chan, 0x44, 4, 1⟩
  | .AWL_TAPSEL_NEXT => ⟨.chan, 0x48, 4, 1⟩
  | .AWL_OFFS => ⟨.chan, 0x4C, 4, 1⟩
  | .AWL_STAT => ⟨.chan, 0x50, 4, 1⟩
  | .AWL_IVLSTAT => ⟨.chan, 0x54, 4, 1⟩
  | .AWL_IVLSTAT2 => ⟨.chan, 0x58, 4, 1⟩
  | .AWL_QUAL => ⟨.chan, 0x5C, 4, 1⟩
  | .AWLD_CTRL => ⟨.die, 0x2000, 4, 1⟩
  | .AWLD_BIAS => ⟨.die, 0x2004, 4, 1⟩
  | .AWLD_RAMP => ⟨.die, 0x2008, 4, 1⟩
  | .AWLD_PHASE => ⟨.die, 0x200C, 4, 1⟩
  | .AWLD_IVL => ⟨.die, 0x2010, 4, 1⟩
  | .AWLD_CSTAT => ⟨.die, 0x2020, 4, 4⟩
  | .RNG_CTRL => ⟨.chan, 0x80, 4, 1⟩
  | .RNG_STAT => ⟨.chan, 0x84, 4, 1⟩
  | .RNG_CNT => ⟨.chan, 0x88, 4, 1⟩
  | .RNG_CNT2 => ⟨.chan, 0x8C, 4, 1⟩
  | .RNGD_CTRL => ⟨.die, 0x3000, 4, 1⟩
  | .RNGD_APER => ⟨.die, 0x3004, 4, 1⟩
  | .RNGD_PUSH => ⟨.die, 0x3008, 4, 1⟩
  | .RNGD_STAT => ⟨.die, 0x300C, 4, 1⟩
  | .RNGD_RAMP => ⟨.die, 0x3010, 4, 1⟩
  | .STR_CTRL => ⟨.saddle, 0xC000, 4, 1⟩
  | .STR_TRIG => ⟨.saddle, 0xC004, 4, 1⟩
  | .STR_HOLD => ⟨.saddle, 0xC008, 4, 1⟩
  | .STR_AUTO => ⟨.saddle, 0xC00C, 4, 1⟩
  | .STR_CALT => ⟨.saddle, 0xC010, 4, 1⟩
  | .STR_SRCCLS => ⟨.saddle, 0xC014, 4, 1⟩
  | .STR_ROI => ⟨.saddle, 0xC018, 4, 1⟩
  | .STR_BUDGET => ⟨.saddle, 0xC01C, 4, 1⟩
  | .STR_CLASS => ⟨.saddle, 0xC020, 4, 4⟩
  | .STR_STAT => ⟨.saddle, 0xC030, 4, 1⟩
  | .STR_TRIGNO => ⟨.saddle, 0xC034, 4, 1⟩
  | .STR_CTXTO => ⟨.saddle, 0xC038, 4, 1⟩
  | .STR_CNT0 => ⟨.saddle, 0xC040, 4, 1⟩
  | .STR_CNT1 => ⟨.saddle, 0xC044, 4, 1⟩
  | .STR_CNT2 => ⟨.saddle, 0xC048, 4, 1⟩
  | .STR_CNT3 => ⟨.saddle, 0xC04C, 4, 1⟩
  | .STR_CNT4 => ⟨.saddle, 0xC050, 4, 1⟩
  | .STR_CNT5 => ⟨.saddle, 0xC054, 4, 1⟩
  | .STR_CNT6 => ⟨.saddle, 0xC058, 4, 1⟩
  | .STR_POOLDESC => ⟨.saddle, 0xC060, 4, 1⟩
  | .STR_POOLGRAN => ⟨.saddle, 0xC064, 4, 1⟩
  | .STR_RESUME => ⟨.saddle, 0xC068, 4, 1⟩
  | .STR_NBR => ⟨.saddle, 0xC070, 4, 1⟩
  | .STR_MAPADDR => ⟨.saddle, 0xC074, 4, 1⟩
  | .STR_MAPDATA => ⟨.saddle, 0xC078, 4, 1⟩
  | .STR_ROIMASK => ⟨.saddle, 0xC080, 4, 16⟩
  | .SP_CTRL => ⟨.saddle, 0xA800, 4, 1⟩
  | .SP_AMB => ⟨.saddle, 0xA804, 4, 1⟩
  | .SP_WAIT => ⟨.saddle, 0xA808, 4, 1⟩
  | .SP_STAT => ⟨.saddle, 0xA80C, 4, 1⟩
  | .SP_CNT0 => ⟨.saddle, 0xA810, 4, 1⟩
  | .SP_CNT1 => ⟨.saddle, 0xA814, 4, 1⟩
  | .SP_CNT2 => ⟨.saddle, 0xA818, 4, 1⟩
  | .SP_CNT3 => ⟨.saddle, 0xA81C, 4, 1⟩
  | .SP_DLOST => ⟨.saddle, 0xA840, 4, 16⟩
  | .SP_SEQ => ⟨.saddle, 0xA880, 4, 8⟩
  | .STI_CTRL => ⟨.saddle, 0xA000, 4, 1⟩
  | .STI_STAT => ⟨.saddle, 0xA004, 4, 1⟩
  | .STI_EMIT_LO => ⟨.saddle, 0xA008, 4, 1⟩
  | .STI_EMIT_HI => ⟨.saddle, 0xA00C, 4, 1⟩
  | .STI_WIN => ⟨.saddle, 0xA010, 4, 1⟩
  | .STI_CNT0 => ⟨.saddle, 0xA020, 4, 1⟩
  | .STI_CNT1 => ⟨.saddle, 0xA024, 4, 1⟩
  | .STI_CNT2 => ⟨.saddle, 0xA028, 4, 1⟩
  | .STI_CNT3 => ⟨.saddle, 0xA02C, 4, 1⟩
  | .STI_CNT4 => ⟨.saddle, 0xA030, 4, 1⟩
  | .STI_CNT5 => ⟨.saddle, 0xA034, 4, 1⟩
  | .STI_CNT6 => ⟨.saddle, 0xA038, 4, 1⟩
  | .STI_CNT7 => ⟨.saddle, 0xA03C, 4, 1⟩
  | .STI_SHED => ⟨.saddle, 0xA040, 4, 1⟩
  | .SKV_CTRL => ⟨.saddle, 0xB000, 4, 1⟩
  | .SKV_MODE => ⟨.saddle, 0xB004, 4, 1⟩
  | .SKV_LOSS => ⟨.saddle, 0xB008, 4, 1⟩
  | .SKV_STAT => ⟨.saddle, 0xB00C, 4, 1⟩
  | .SKV_VFAIL => ⟨.saddle, 0xB010, 4, 1⟩
  | .SKV_CNT0 => ⟨.saddle, 0xB014, 4, 1⟩
  | .SKV_CNT1 => ⟨.saddle, 0xB018, 4, 1⟩
  | .SKV_CNT2 => ⟨.saddle, 0xB01C, 4, 1⟩
  | .SKV_IN_LO => ⟨.saddle, 0xB020, 4, 1⟩
  | .SKV_IN_HI => ⟨.saddle, 0xB024, 4, 1⟩
  | .SKV_OUT_LO => ⟨.saddle, 0xB028, 4, 1⟩
  | .SKV_OUT_HI => ⟨.saddle, 0xB02C, 4, 1⟩
  | .SKV_INSP_SRC => ⟨.saddle, 0xB040, 4, 1⟩
  | .SKV_INSP_INLEN => ⟨.saddle, 0xB044, 4, 1⟩
  | .SKV_INSP_OUTMAX => ⟨.saddle, 0xB048, 4, 1⟩
  | .SKV_INSP_CTRL => ⟨.saddle, 0xB04C, 4, 1⟩
  | .SKV_INSP_RES => ⟨.saddle, 0xB050, 4, 1⟩
  | .SKV_INSP_OCRC => ⟨.saddle, 0xB054, 4, 1⟩
  | .SKV_INSP_FOFF => ⟨.saddle, 0xB058, 4, 1⟩
  | .GIR_CTRL => ⟨.saddle, 0x8000, 4, 1⟩
  | .GIR_STAT => ⟨.saddle, 0x8004, 4, 1⟩
  | .GIR_SERVO => ⟨.saddle, 0x8008, 4, 1⟩
  | .GIR_STEP => ⟨.saddle, 0x800C, 4, 1⟩
  | .GIR_DLY_TMI => ⟨.saddle, 0x8010, 4, 1⟩
  | .GIR_DLY_ALT => ⟨.saddle, 0x8014, 4, 1⟩
  | .GIR_RXLAT => ⟨.saddle, 0x8018, 4, 1⟩
  | .GIR_SYNCTO => ⟨.saddle, 0x801C, 4, 1⟩
  | .GIR_AGE => ⟨.saddle, 0x8020, 4, 1⟩
  | .GIR_LEARN => ⟨.saddle, 0x8024, 4, 1⟩
  | .GIR_XTAL_LO => ⟨.saddle, 0x8028, 4, 1⟩
  | .GIR_XTAL_HI => ⟨.saddle, 0x802C, 4, 1⟩
  | .GIR_NOW_LO => ⟨.saddle, 0x8030, 4, 1⟩
  | .GIR_NOW_HI => ⟨.saddle, 0x8034, 4, 1⟩
  | .GIR_NOW_FINE => ⟨.saddle, 0x8038, 4, 1⟩
  | .GIR_FRC_LO => ⟨.saddle, 0x8040, 4, 1⟩
  | .GIR_FRC_HI => ⟨.saddle, 0x8044, 4, 1⟩
  | .GIR_THETA => ⟨.saddle, 0x8048, 4, 1⟩
  | .GIR_SYNCSEQ => ⟨.saddle, 0x804C, 4, 1⟩
  | .GIR_SNAP_SLOT_LO => ⟨.saddle, 0x8060, 4, 1⟩
  | .GIR_SNAP_SLOT_HI => ⟨.saddle, 0x8064, 4, 1⟩
  | .GIR_SNAP_SIG_LO => ⟨.saddle, 0x8068, 4, 1⟩
  | .GIR_SNAP_SIG_HI => ⟨.saddle, 0x806C, 4, 1⟩
  | .GIR_SNAP_REF_LO => ⟨.saddle, 0x8070, 4, 1⟩
  | .GIR_SNAP_REF_HI => ⟨.saddle, 0x8074, 4, 1⟩
  | .GIR_SNAP_RATE_LO => ⟨.saddle, 0x8078, 4, 1⟩
  | .GIR_SNAP_RATE_HI => ⟨.saddle, 0x807C, 4, 1⟩
  | .GIR_SNAP_OFFS0 => ⟨.saddle, 0x8080, 4, 1⟩
  | .GIR_SNAP_OFFS1 => ⟨.saddle, 0x8084, 4, 1⟩
  | .GIR_SNAP_OFFS2 => ⟨.saddle, 0x8088, 4, 1⟩
  | .GIR_CNT0 => ⟨.saddle, 0x80A0, 4, 1⟩
  | .GIR_CNT1 => ⟨.saddle, 0x80A4, 4, 1⟩
  | .GIR_CNT2 => ⟨.saddle, 0x80A8, 4, 1⟩
  | .GIR_CNT3 => ⟨.saddle, 0x80AC, 4, 1⟩
  | .HAR_CTRL => ⟨.saddle, 0x9000, 4, 1⟩
  | .HAR_STAT => ⟨.saddle, 0x9004, 4, 1⟩
  | .HAR_EQ => ⟨.saddle, 0x9008, 4, 1⟩
  | .HAR_CNT0 => ⟨.saddle, 0x9040, 4, 1⟩
  | .HAR_CNT1 => ⟨.saddle, 0x9044, 4, 1⟩
  | .HAR_CNT2 => ⟨.saddle, 0x9048, 4, 1⟩
  | .HAR_CNT3 => ⟨.saddle, 0x904C, 4, 1⟩
  | .HAR_CNT4 => ⟨.saddle, 0x9050, 4, 1⟩
  | .HAR_CNT5 => ⟨.saddle, 0x9054, 4, 1⟩
  | .HAR_CNT6 => ⟨.saddle, 0x9058, 4, 1⟩
  | .HAR_SHLAT => ⟨.saddle, 0x9100, 4, 64⟩
  | .HAR_RXL_CTRL => ⟨.saddle, 0x9400, 16, 82⟩
  | .HAR_RXL_STAT => ⟨.saddle, 0x9404, 16, 82⟩
  | .HAR_RXL_CNT => ⟨.saddle, 0x9408, 16, 82⟩
  | .HAR_RXL_PRBS => ⟨.saddle, 0x940C, 16, 82⟩
  | .HAR_TXL_CTRL => ⟨.saddle, 0x9A00, 8, 33⟩
  | .HAR_TXL_PRBS => ⟨.saddle, 0x9A04, 8, 33⟩
  | .SHL_CTRL => ⟨.die, 0x4000, 4, 1⟩
  | .SHL_STAT => ⟨.die, 0x4004, 4, 1⟩
  | .SHL_CNT => ⟨.die, 0x4008, 4, 1⟩
  | .HQD_CTRL => ⟨.die, 0x5000, 4, 1⟩
  | .HQD_STAT => ⟨.die, 0x5010, 4, 4⟩
  | .HQD_CNT => ⟨.die, 0x5020, 4, 4⟩
  | .HQD_CNTB => ⟨.die, 0x5030, 4, 4⟩
  | .ING_STAT => ⟨.saddle, 0xAC00, 4, 64⟩
  | .ING_CNT => ⟨.saddle, 0xAD00, 4, 1⟩
  | .TRE_CTRL => ⟨.saddle, 0xD000, 4, 1⟩
  | .TRE_SCRUB => ⟨.saddle, 0xD004, 4, 1⟩
  | .TRE_CNT0 => ⟨.saddle, 0xD010, 4, 1⟩
  | .TRE_CNT1 => ⟨.saddle, 0xD014, 4, 1⟩
  | .TRE_CNT2 => ⟨.saddle, 0xD018, 4, 1⟩
  | .TRE_CNT3 => ⟨.saddle, 0xD01C, 4, 1⟩
  | .TRE_CNT4 => ⟨.saddle, 0xD020, 4, 1⟩
  | .TRE_CNT5 => ⟨.saddle, 0xD024, 4, 1⟩
  | .TRE_LOGPTR => ⟨.saddle, 0xD03C, 4, 1⟩
  | .TRE_LOGA => ⟨.saddle, 0xD040, 8, 8⟩
  | .TRE_LOGB => ⟨.saddle, 0xD044, 8, 8⟩
  | .TRE_REPAIR => ⟨.saddle, 0xD080, 4, 1⟩
  | .TRE_SPARE_SEL => ⟨.saddle, 0xD084, 4, 1⟩
  | .TRE_SPARE_STAT => ⟨.saddle, 0xD088, 4, 1⟩
  | .TRE_ROWHOT => ⟨.saddle, 0xD08C, 4, 1⟩
  | .STP_CTRL => ⟨.chan, 0xC0, 4, 1⟩
  | .STP_OFFS => ⟨.chan, 0xC4, 4, 1⟩
  | .STP_LEVEL => ⟨.chan, 0xC8, 4, 1⟩
  | .STP_FLK => ⟨.chan, 0xCC, 4, 1⟩
  | .STP_CNT => ⟨.chan, 0xD0, 4, 1⟩
  | .STPD_CTRL => ⟨.die, 0x6000, 4, 1⟩
  | .STPD_BANK => ⟨.die, 0x6004, 4, 1⟩
  | .STPD_FADE => ⟨.die, 0x6008, 4, 1⟩
  | .STPD_MAX => ⟨.die, 0x600C, 4, 1⟩
  | .STPD_SUMM => ⟨.die, 0x6010, 4, 1⟩
  | .STPD_COEF_A => ⟨.die, 0x6100, 4, 32⟩
  | .STPD_COEF_B => ⟨.die, 0x6180, 4, 32⟩
  | .HK_CTRL => ⟨.saddle, 0xE000, 4, 1⟩
  | .HK_MASK => ⟨.saddle, 0xE004, 4, 1⟩
  | .HK_TIMING => ⟨.saddle, 0xE008, 4, 1⟩
  | .HK_PLAUS => ⟨.saddle, 0xE00C, 4, 1⟩
  | .HK_LAMP => ⟨.saddle, 0xE010, 4, 1⟩
  | .HK_URG => ⟨.saddle, 0xE014, 4, 1⟩
  | .HK_STAT => ⟨.saddle, 0xE018, 4, 1⟩
  | .HK_OPEN => ⟨.saddle, 0xE01C, 4, 1⟩
  | .HK_CNT0 => ⟨.saddle, 0xE020, 4, 1⟩
  | .HK_CNT1 => ⟨.saddle, 0xE024, 4, 1⟩
  | .HK_CNT2 => ⟨.saddle, 0xE028, 4, 1⟩
  | .HK_CNT3 => ⟨.saddle, 0xE02C, 4, 1⟩
  | .HK_CNT4 => ⟨.saddle, 0xE030, 4, 1⟩
  | .HK_CHCFG => ⟨.saddle, 0xE100, 16, 32⟩
  | .HK_CHWIN => ⟨.saddle, 0xE104, 16, 32⟩
  | .HK_CHRES => ⟨.saddle, 0xE108, 16, 32⟩
  | .BUR_CTRL => ⟨.saddle, 0x11000, 4, 1⟩
  | .BUR_STEP => ⟨.saddle, 0x11004, 4, 1⟩
  | .BUR_CD => ⟨.saddle, 0x11008, 4, 1⟩
  | .BUR_PH => ⟨.saddle, 0x1100C, 4, 1⟩
  | .BUR_INJ => ⟨.saddle, 0x11010, 4, 1⟩
  | .BUR_TCO => ⟨.saddle, 0x11014, 4, 1⟩
  | .BUR_RUN => ⟨.saddle, 0x11018, 4, 1⟩
  | .BUR_STAT => ⟨.saddle, 0x1101C, 4, 1⟩
  | .BUR_CNT0 => ⟨.saddle, 0x11020, 4, 1⟩
  | .BUR_CNT1 => ⟨.saddle, 0x11024, 4, 1⟩
  | .BUR_CNT2 => ⟨.saddle, 0x11028, 4, 1⟩
  | .BUR_QUAL => ⟨.saddle, 0x11030, 4, 1⟩
  | .BURD_TEMP => ⟨.die, 0x7000, 4, 1⟩
  | .BURD_HSEL => ⟨.die, 0x7004, 4, 1⟩
  | .BURD_PHMEAS => ⟨.die, 0x7008, 4, 1⟩
  | .BURD_ASYM => ⟨.die, 0x700C, 4, 1⟩
  | .BURD_INJREF => ⟨.die, 0x7010, 4, 1⟩
  | .BURD_QPK => ⟨.die, 0x7014, 4, 1⟩
  | .BURD_APEROFS => ⟨.die, 0x7018, 4, 1⟩
  | .BURD_TLAST0 => ⟨.die, 0x7020, 4, 1⟩
  | .BURD_TLAST1 => ⟨.die, 0x7024, 4, 1⟩
  | .BURD_HSHORT => ⟨.die, 0x73F0, 4, 4⟩
  | .BURD_HIST => ⟨.die, 0x7400, 4, 512⟩
  | .CAL_OFFS => ⟨.chan, 0xE0, 4, 1⟩
  | .CAL_CHQ => ⟨.chan, 0xE4, 4, 1⟩
  | .RSE_CTRL => ⟨.saddle, 0xF000, 4, 1⟩
  | .RSE_STAT => ⟨.saddle, 0xF004, 4, 1⟩
  | .RSE_PULSE => ⟨.saddle, 0xF008, 4, 1⟩
  | .RSE_PPER => ⟨.saddle, 0xF00C, 4, 1⟩
  | .RSE_PROOF => ⟨.saddle, 0xF010, 4, 1⟩
  | .RSE_DIAG => ⟨.saddle, 0xF014, 4, 1⟩
  | .RSE_TEMPTO => ⟨.saddle, 0xF018, 4, 1⟩
  | .RSE_TEMPV => ⟨.saddle, 0xF01C, 4, 1⟩
  | .RSE_FAC => ⟨.saddle, 0xF020, 4, 3⟩
  | .RSE_PULSENO => ⟨.saddle, 0xF02C, 4, 1⟩
  | .RSE_CNT0 => ⟨.saddle, 0xF030, 4, 1⟩
  | .RSE_CNT1 => ⟨.saddle, 0xF034, 4, 1⟩
  | .RSE_CNT2 => ⟨.saddle, 0xF038, 4, 1⟩
  | .RSE_COMP => ⟨.saddle, 0xF040, 4, 24⟩
  | .RSE_CH => ⟨.saddle, 0xF100, 4, 24⟩
  | .RSE_CHST => ⟨.saddle, 0xF180, 4, 24⟩
  | .BRD_STAT => ⟨.saddle, 0x10000, 4, 1⟩
  | .BRD_TRIP => ⟨.saddle, 0x10004, 4, 1⟩
  | .BRD_MON => ⟨.saddle, 0x10008, 4, 3⟩
  | .BRD_DEG => ⟨.saddle, 0x10014, 4, 1⟩
  | .BRD_SET => ⟨.saddle, 0x10020, 4, 4⟩
  | .BRD_CNT0 => ⟨.saddle, 0x10040, 4, 1⟩
  | .BRD_CNT1 => ⟨.saddle, 0x10044, 4, 1⟩
  | .BRD_LIM0 => ⟨.saddle, 0x10100, 4, 1⟩
  | .BRD_LIM1 => ⟨.saddle, 0x10104, 4, 1⟩
  | .BRD_LIM2 => ⟨.saddle, 0x10108, 4, 1⟩
  | .BRD_LIM3 => ⟨.saddle, 0x1010C, 4, 1⟩
  | .BRD_LIM4 => ⟨.saddle, 0x10110, 4, 1⟩
  | .BRD_LIM5 => ⟨.saddle, 0x10114, 4, 1⟩
  | .BRD_LIM6 => ⟨.saddle, 0x10118, 4, 1⟩
  | .BRD_LIM7 => ⟨.saddle, 0x1011C, 4, 1⟩
  | .BRD_LIM8 => ⟨.saddle, 0x10120, 4, 1⟩
  | .BRD_LIM9 => ⟨.saddle, 0x10124, 4, 1⟩
  | .BRD_LIM10 => ⟨.saddle, 0x10128, 4, 1⟩
  | .LAT_STAT => ⟨.saddle, 0x1000, 4, 1⟩
  | .LAT_RUN => ⟨.saddle, 0x1004, 4, 1⟩
  | .LAT_STAGE => ⟨.saddle, 0x1008, 4, 1⟩
  | .LAT_STAGEPOS => ⟨.saddle, 0x100C, 4, 1⟩
  | .LAT_CNT0 => ⟨.saddle, 0x1020, 4, 1⟩
  | .LAT_CNT1 => ⟨.saddle, 0x1024, 4, 1⟩
  | .LAT_CNT2 => ⟨.saddle, 0x1028, 4, 1⟩
  | .LAT_CNT3 => ⟨.saddle, 0x102C, 4, 1⟩
  | .LAT_ABORT => ⟨.saddle, 0x1030, 4, 1⟩
  | .LAT_W => ⟨.saddle, 0x1040, 4, 8⟩
  | .LAT_LOCK => ⟨.saddle, 0x1060, 4, 1⟩
  | .LAT_RETAIN => ⟨.saddle, 0x1064, 4, 1⟩
  | .EVM_CFG => ⟨.saddle, 0x2000, 4, 544⟩
  | .EVM_CTRL => ⟨.saddle, 0x2F00, 4, 1⟩
  | .EVM_STAT => ⟨.saddle, 0x2F04, 4, 1⟩
  | .EVM_CNTG => ⟨.saddle, 0x2F08, 4, 1⟩
  | .EVM_VOTE => ⟨.saddle, 0x2F0C, 4, 1⟩
  | .EVM_LAST => ⟨.saddle, 0x2F10, 4, 1⟩
  | .EVM_PEND => ⟨.saddle, 0x3000, 4, 17⟩
  | .EVM_CNT => ⟨.saddle, 0x4000, 4, 544⟩
  | .EVD_PEND => ⟨.die, 0x8000, 4, 1⟩
  | .EVD_TEMPHI => ⟨.die, 0x8004, 4, 1⟩
  | .EVD_VOTE => ⟨.die, 0x8008, 4, 1⟩
  | .PRS_VIN => ⟨.saddle, 0x5004, 4, 1⟩
  | .PRS_CAUSE => ⟨.saddle, 0x5008, 4, 1⟩
  | .PRS_DIP => ⟨.saddle, 0x500C, 4, 1⟩
  | .PRS_RAIL => ⟨.saddle, 0x5010, 4, 1⟩
  | .PRS_DIERAIL => ⟨.saddle, 0x5014, 4, 1⟩
  | .PRS_TEMP => ⟨.saddle, 0x5018, 4, 1⟩
  | .PRS_CNT => ⟨.saddle, 0x501C, 4, 1⟩
  | .ID_PART => ⟨.saddle, 0x0, 4, 1⟩
  | .ID_SHSTEP => ⟨.saddle, 0x4, 4, 1⟩
  | .ID_IDCODE => ⟨.saddle, 0x8, 4, 1⟩
  | .ID_SERIAL_LO => ⟨.saddle, 0x10, 4, 1⟩
  | .ID_SERIAL_HI => ⟨.saddle, 0x14, 4, 1⟩
  | .ID_MODULE => ⟨.saddle, 0x18, 4, 1⟩
  | .ID_IMAGE_LO => ⟨.saddle, 0x20, 4, 1⟩
  | .ID_IMAGE_HI => ⟨.saddle, 0x24, 4, 1⟩
  | .ID_IMAGE_SEQ => ⟨.saddle, 0x28, 4, 1⟩
  | .ID_IMAGE_LEN => ⟨.saddle, 0x2C, 4, 1⟩
  | .ID_BOOT => ⟨.saddle, 0x30, 4, 1⟩
  | .ID_IMGMEAS => ⟨.saddle, 0x40, 4, 8⟩
  | .ID_ROMHASH => ⟨.saddle, 0x60, 4, 8⟩
  | .ID_LIVEMEAS => ⟨.saddle, 0x80, 4, 8⟩
  | .SHD_ID => ⟨.die, 0x0, 4, 1⟩
  | .HQD_MEM => ⟨.die, 0x5040, 4, 1⟩

/-- The fields of every register; bits that no field names are reserved and read 0 (R9). -/
def Reg.fields : Reg → List FieldRow
  | .PRS_STATE => [⟨16, 16, .ro⟩, ⟨12, 1, .ro⟩, ⟨11, 1, .ro⟩, ⟨10, 1, .ro⟩, ⟨9, 1, .ro⟩, ⟨0, 4, .ro⟩]
  | .PIX_CTRL => [⟨5, 1, .rw⟩, ⟨4, 1, .rw⟩, ⟨3, 1, .rw⟩, ⟨2, 1, .rw⟩, ⟨1, 1, .rw⟩, ⟨0, 1, .rw⟩]
  | .PIX_ANODE => [⟨16, 10, .ro⟩, ⟨0, 10, .rw⟩]
  | .PIX_TDISC => [⟨16, 6, .rw⟩, ⟨8, 2, .rw⟩, ⟨0, 6, .rw⟩]
  | .PIX_TRGPOL => [⟨16, 10, .rw⟩, ⟨0, 10, .rw⟩]
  | .PIX_TLOOP => [⟨24, 8, .rw⟩, ⟨20, 4, .rw⟩, ⟨19, 1, .wo⟩, ⟨18, 1, .rw⟩, ⟨16, 2, .rw⟩, ⟨0, 10, .rw⟩]
  | .PIX_TTARGET => [⟨0, 16, .rw⟩]
  | .PIX_TSTAT => [⟨31, 1, .ro⟩, ⟨30, 1, .ro⟩, ⟨29, 1, .w1c⟩, ⟨28, 1, .ro⟩, ⟨27, 1, .w1c⟩, ⟨16, 10, .ro⟩, ⟨0, 11, .ro⟩]
  | .PIX_INJ => [⟨0, 10, .rw⟩]
  | .PIX_OVR => [⟨16, 16, .ro⟩, ⟨3, 2, .ro⟩, ⟨2, 1, .w1c⟩, ⟨1, 1, .ro⟩, ⟨0, 1, .ro⟩]
  | .PIXD_TDBASE => [⟨0, 8, .rw⟩]
  | .PIXD_RCV => [⟨16, 10, .rw⟩, ⟨0, 10, .rw⟩]
  | .PIXD_LOOP => [⟨16, 16, .rw⟩]
  | .PIXD_INJ => [⟨16, 16, .rw⟩, ⟨8, 8, .rw⟩, ⟨4, 2, .rw⟩, ⟨2, 1, .rw⟩, ⟨1, 1, .ro⟩, ⟨0, 1, .wo⟩]
  | .AWL_CTRL => [⟨0, 1, .rw⟩]
  | .AWL_TAPSEL => [⟨0, 32, .ro⟩]
  | .AWL_TAPSEL_NEXT => [⟨0, 32, .rw⟩]
  | .AWL_OFFS => [⟨16, 16, .rw⟩, ⟨0, 16, .ro⟩]
  | .AWL_STAT => [⟨16, 16, .ro⟩, ⟨8, 8, .ro⟩, ⟨0, 8, .ro⟩]
  | .AWL_IVLSTAT => [⟨16, 16, .ro⟩, ⟨0, 16, .ro⟩]
  | .AWL_IVLSTAT2 => [⟨16, 16, .ro⟩, ⟨0, 16, .ro⟩]
  | .AWL_QUAL => [⟨8, 8, .ro⟩, ⟨0, 8, .ro⟩]
  | .AWLD_CTRL => [⟨8, 4, .ro⟩, ⟨2, 1, .ro⟩, ⟨1, 1, .ro⟩, ⟨0, 1, .wo⟩]
  | .AWLD_BIAS => [⟨16, 10, .ro⟩, ⟨0, 10, .rw⟩]
  | .AWLD_RAMP => [⟨0, 8, .rw⟩]
  | .AWLD_PHASE => [⟨16, 16, .rw⟩, ⟨0, 16, .ro⟩]
  | .AWLD_IVL => [⟨0, 12, .rw⟩]
  | .AWLD_CSTAT => [⟨16, 16, .ro⟩, ⟨0, 9, .ro⟩]
  | .RNG_CTRL => [⟨0, 1, .wo⟩]
  | .RNG_STAT => [⟨20, 1, .ro⟩, ⟨16, 4, .ro⟩, ⟨0, 16, .ro⟩]
  | .RNG_CNT => [⟨16, 16, .ro⟩, ⟨0, 16, .ro⟩]
  | .RNG_CNT2 => [⟨16, 16, .ro⟩, ⟨0, 16, .ro⟩]
  | .RNGD_CTRL => [⟨2, 2, .rw⟩, ⟨0, 1, .wo⟩]
  | .RNGD_APER => [⟨16, 16, .rw⟩, ⟨0, 16, .ro⟩]
  | .RNGD_PUSH => [⟨0, 8, .rw⟩]
  | .RNGD_STAT => [⟨16, 16, .ro⟩, ⟨0, 16, .ro⟩]
  | .RNGD_RAMP => [⟨16, 16, .ro⟩, ⟨0, 12, .ro⟩]
  | .STR_CTRL => [⟨8, 5, .rw⟩, ⟨5, 1, .wo⟩, ⟨4, 1, .wo⟩, ⟨3, 1, .rw⟩, ⟨2, 1, .rw⟩, ⟨1, 1, .rw⟩]
  | .STR_TRIG => [⟨30, 2, .rw⟩, ⟨27, 3, .rw⟩, ⟨12, 13, .rw⟩, ⟨0, 4, .rw⟩]
  | .STR_HOLD => [⟨0, 12, .rw⟩]
  | .STR_AUTO => [⟨0, 16, .rw⟩]
  | .STR_CALT => [⟨17, 1, .rw⟩, ⟨16, 1, .rw⟩, ⟨0, 10, .rw⟩]
  | .STR_SRCCLS => [⟨0, 10, .rw⟩]
  | .STR_ROI => [⟨0, 3, .rw⟩]
  | .STR_BUDGET => [⟨0, 16, .rw⟩]
  | .STR_CLASS => [⟨30, 2, .rw⟩, ⟨28, 2, .rw⟩, ⟨18, 10, .rw⟩, ⟨8, 8, .rw⟩, ⟨0, 8, .rw⟩]
  | .STR_STAT => [⟨28, 4, .ro⟩, ⟨24, 4, .ro⟩, ⟨23, 1, .ro⟩, ⟨22, 1, .ro⟩, ⟨20, 2, .ro⟩, ⟨0, 4, .ro⟩]
  | .STR_TRIGNO => [⟨0, 32, .ro⟩]
  | .STR_CTXTO => [⟨0, 16, .rw⟩]
  | .STR_CNT0 => [⟨16, 16, .ro⟩, ⟨0, 16, .ro⟩]
  | .STR_CNT1 => [⟨16, 16, .ro⟩, ⟨0, 16, .ro⟩]
  | .STR_CNT2 => [⟨16, 16, .ro⟩, ⟨0, 16, .ro⟩]
  | .STR_CNT3 => [⟨16, 16, .ro⟩, ⟨0, 16, .ro⟩]
  | .STR_CNT4 => [⟨16, 16, .ro⟩, ⟨0, 16, .ro⟩]
  | .STR_CNT5 => [⟨16, 16, .ro⟩, ⟨0, 16, .ro⟩]
  | .STR_CNT6 => [⟨16, 16, .ro⟩, ⟨0, 16, .ro⟩]
  | .STR_POOLDESC => [⟨0, 15, .ro⟩]
  | .STR_POOLGRAN => [⟨0, 17, .ro⟩]
  | .STR_RESUME => [⟨16, 12, .rw⟩, ⟨0, 15, .rw⟩]
  | .STR_NBR => [⟨10, 1, .rw⟩, ⟨8, 2, .rw⟩, ⟨7, 1, .rw⟩, ⟨6, 1, .rw⟩, ⟨4, 2, .rw⟩, ⟨3, 1, .rw⟩, ⟨2, 1, .rw⟩, ⟨0, 2, .rw⟩]
  | .STR_MAPADDR => [⟨31, 1, .rw⟩, ⟨0, 12, .rw⟩]
  | .STR_MAPDATA => [⟨15, 1, .rw⟩, ⟨0, 12, .rw⟩]
  | .STR_ROIMASK => [⟨0, 16, .rw⟩]
  | .SP_CTRL => [⟨16, 8, .rw⟩, ⟨0, 12, .rw⟩]
  | .SP_AMB => [⟨16, 16, .rw⟩, ⟨0, 16, .rw⟩]
  | .SP_WAIT => [⟨16, 16, .rw⟩, ⟨0, 16, .rw⟩]
  | .SP_STAT => [⟨0, 16, .ro⟩]
  | .SP_CNT0 => [⟨16, 16, .ro⟩, ⟨0, 16, .ro⟩]
  | .SP_CNT1 => [⟨16, 16, .ro⟩, ⟨0, 16, .ro⟩]
  | .SP_CNT2 => [⟨16, 16, .ro⟩, ⟨0, 16, .ro⟩]
  | .SP_CNT3 => [⟨16, 16, .ro⟩]
  | .SP_DLOST => [⟨0, 32, .ro⟩]
  | .SP_SEQ => [⟨0, 32, .ro⟩]
  | .STI_CTRL => [⟨16, 16, .rw⟩, ⟨8, 8, .rw⟩, ⟨4, 1, .rw⟩, ⟨3, 1, .rw⟩, ⟨2, 1, .rw⟩, ⟨1, 1, .rw⟩]
  | .STI_STAT => [⟨8, 1, .ro⟩, ⟨4, 2, .ro⟩, ⟨0, 2, .ro⟩]
  | .STI_EMIT_LO => [⟨0, 32, .sr⟩]
  | .STI_EMIT_HI => [⟨0, 16, .sr⟩]
  | .STI_WIN => [⟨16, 16, .ro⟩, ⟨0, 16, .rc⟩]
  | .STI_CNT0 => [⟨16, 16, .ro⟩, ⟨0, 16, .ro⟩]
  | .STI_CNT1 => [⟨16, 16, .ro⟩, ⟨0, 16, .ro⟩]
  | .STI_CNT2 => [⟨16, 16, .ro⟩, ⟨0, 16, .ro⟩]
  | .STI_CNT3 => [⟨16, 16, .ro⟩, ⟨0, 16, .ro⟩]
  | .STI_CNT4 => [⟨16, 16, .ro⟩, ⟨0, 16, .ro⟩]
  | .STI_CNT5 => [⟨16, 16, .ro⟩, ⟨0, 16, .ro⟩]
  | .STI_CNT6 => [⟨16, 16, .ro⟩, ⟨0, 16, .ro⟩]
  | .STI_CNT7 => [⟨16, 16, .ro⟩]
  | .STI_SHED => [⟨0, 32, .ro⟩]
  | .SKV_CTRL => [⟨16, 16, .rw⟩, ⟨8, 4, .rw⟩, ⟨0, 6, .rw⟩]
  | .SKV_MODE => [⟨0, 16, .rw⟩]
  | .SKV_LOSS => [⟨8, 3, .rw⟩, ⟨4, 3, .rw⟩, ⟨1, 3, .rw⟩, ⟨0, 1, .rw⟩]
  | .SKV_STAT => [⟨16, 16, .w1c⟩, ⟨0, 16, .ro⟩]
  | .SKV_VFAIL => [⟨28, 4, .ro⟩, ⟨26, 2, .ro⟩, ⟨16, 4, .ro⟩, ⟨0, 16, .ro⟩]
  | .SKV_CNT0 => [⟨16, 16, .ro⟩, ⟨0, 16, .ro⟩]
  | .SKV_CNT1 => [⟨16, 16, .ro⟩, ⟨0, 16, .ro⟩]
  | .SKV_CNT2 => [⟨16, 16, .ro⟩]
  | .SKV_IN_LO => [⟨0, 32, .sr⟩]
  | .SKV_IN_HI => [⟨0, 32, .sr⟩]
  | .SKV_OUT_LO => [⟨0, 32, .sr⟩]
  | .SKV_OUT_HI => [⟨0, 32, .sr⟩]
  | .SKV_INSP_SRC => [⟨3, 22, .rw⟩]
  | .SKV_INSP_INLEN => [⟨0, 24, .rw⟩]
  | .SKV_INSP_OUTMAX => [⟨0, 24, .rw⟩]
  | .SKV_INSP_CTRL => [⟨31, 1, .ro⟩, ⟨30, 1, .w1c⟩, ⟨28, 2, .ro⟩, ⟨0, 1, .wo⟩]
  | .SKV_INSP_RES => [⟨0, 24, .ro⟩]
  | .SKV_INSP_OCRC => [⟨0, 32, .ro⟩]
  | .SKV_INSP_FOFF => [⟨0, 24, .ro⟩]
  | .GIR_CTRL => [⟨8, 1, .rw⟩, ⟨4, 1, .rw⟩, ⟨3, 1, .wo⟩, ⟨2, 1, .rw⟩, ⟨1, 1, .rw⟩, ⟨0, 1, .rw⟩]
  | .GIR_STAT => [⟨16, 16, .ro⟩, ⟨10, 1, .ro⟩, ⟨9, 1, .ro⟩, ⟨8, 1, .ro⟩, ⟨7, 1, .ro⟩, ⟨6, 1, .ro⟩, ⟨5, 1, .ro⟩, ⟨4, 1, .ro⟩, ⟨0, 3, .ro⟩]
  | .GIR_SERVO => [⟨16, 16, .rw⟩, ⟨8, 4, .rw⟩, ⟨0, 4, .rw⟩]
  | .GIR_STEP => [⟨24, 8, .rw⟩, ⟨0, 15, .rw⟩]
  | .GIR_DLY_TMI => [⟨0, 32, .rw⟩]
  | .GIR_DLY_ALT => [⟨0, 32, .rw⟩]
  | .GIR_RXLAT => [⟨16, 16, .ro⟩, ⟨0, 16, .ro⟩]
  | .GIR_SYNCTO => [⟨0, 16, .rw⟩]
  | .GIR_AGE => [⟨0, 16, .rw⟩]
  | .GIR_LEARN => [⟨0, 5, .rw⟩]
  | .GIR_XTAL_LO => [⟨0, 32, .sr⟩]
  | .GIR_XTAL_HI => [⟨0, 16, .sr⟩]
  | .GIR_NOW_LO => [⟨0, 32, .sr⟩]
  | .GIR_NOW_HI => [⟨0, 32, .sr⟩]
  | .GIR_NOW_FINE => [⟨0, 7, .ro⟩]
  | .GIR_FRC_LO => [⟨0, 32, .sr⟩]
  | .GIR_FRC_HI => [⟨0, 32, .sr⟩]
  | .GIR_THETA => [⟨0, 32, .ro⟩]
  | .GIR_SYNCSEQ => [⟨16, 16, .ro⟩, ⟨0, 16, .ro⟩]
  | .GIR_SNAP_SLOT_LO => [⟨0, 32, .ro⟩]
  | .GIR_SNAP_SLOT_HI => [⟨0, 16, .ro⟩]
  | .GIR_SNAP_SIG_LO => [⟨0, 32, .ro⟩]
  | .GIR_SNAP_SIG_HI => [⟨0, 32, .ro⟩]
  | .GIR_SNAP_REF_LO => [⟨0, 32, .ro⟩]
  | .GIR_SNAP_REF_HI => [⟨0, 32, .ro⟩]
  | .GIR_SNAP_RATE_LO => [⟨0, 32, .ro⟩]
  | .GIR_SNAP_RATE_HI => [⟨0, 16, .ro⟩]
  | .GIR_SNAP_OFFS0 => [⟨0, 32, .ro⟩]
  | .GIR_SNAP_OFFS1 => [⟨0, 32, .ro⟩]
  | .GIR_SNAP_OFFS2 => [⟨0, 32, .ro⟩]
  | .GIR_CNT0 => [⟨16, 16, .ro⟩, ⟨0, 16, .ro⟩]
  | .GIR_CNT1 => [⟨16, 16, .ro⟩, ⟨0, 16, .ro⟩]
  | .GIR_CNT2 => [⟨16, 16, .ro⟩, ⟨0, 16, .ro⟩]
  | .GIR_CNT3 => [⟨16, 16, .ro⟩, ⟨0, 16, .ro⟩]
  | .HAR_CTRL => [⟨11, 1, .wo⟩, ⟨10, 1, .wo⟩, ⟨7, 1, .rw⟩, ⟨6, 1, .rw⟩, ⟨5, 1, .rw⟩, ⟨4, 1, .rw⟩]
  | .HAR_STAT => [⟨14, 2, .ro⟩, ⟨12, 2, .ro⟩, ⟨9, 1, .ro⟩, ⟨8, 1, .ro⟩, ⟨5, 1, .ro⟩, ⟨4, 1, .ro⟩, ⟨3, 1, .ro⟩, ⟨2, 1, .ro⟩]
  | .HAR_EQ => [⟨24, 8, .rw⟩, ⟨0, 10, .rw⟩]
  | .HAR_CNT0 => [⟨16, 16, .ro⟩, ⟨0, 16, .ro⟩]
  | .HAR_CNT1 => [⟨16, 16, .ro⟩, ⟨0, 16, .ro⟩]
  | .HAR_CNT2 => [⟨16, 16, .ro⟩, ⟨0, 16, .ro⟩]
  | .HAR_CNT3 => [⟨16, 16, .ro⟩, ⟨0, 16, .ro⟩]
  | .HAR_CNT4 => [⟨16, 16, .ro⟩, ⟨0, 16, .ro⟩]
  | .HAR_CNT5 => [⟨16, 16, .ro⟩, ⟨0, 16, .ro⟩]
  | .HAR_CNT6 => [⟨16, 16, .ro⟩, ⟨0, 16, .ro⟩]
  | .HAR_SHLAT => [⟨0, 10, .ro⟩]
  | .HAR_RXL_CTRL => [⟨28, 4, .rwl⟩, ⟨24, 4, .rwl⟩, ⟨20, 4, .rw⟩, ⟨6, 1, .w1c⟩, ⟨4, 2, .rw⟩, ⟨3, 1, .rw⟩, ⟨2, 1, .rw⟩, ⟨1, 1, .wo⟩, ⟨0, 1, .rw⟩]
  | .HAR_RXL_STAT => [⟨22, 10, .ro⟩, ⟨16, 4, .ro⟩, ⟨9, 7, .ro⟩, ⟨8, 1, .ro⟩, ⟨2, 1, .ro⟩, ⟨0, 2, .ro⟩]
  | .HAR_RXL_CNT => [⟨16, 16, .ro⟩, ⟨0, 16, .ro⟩]
  | .HAR_RXL_PRBS => [⟨0, 32, .ro⟩]
  | .HAR_TXL_CTRL => [⟨6, 1, .w1c⟩, ⟨4, 2, .rw⟩, ⟨3, 1, .rw⟩]
  | .HAR_TXL_PRBS => [⟨0, 32, .ro⟩]
  | .SHL_CTRL => [⟨4, 2, .rw⟩, ⟨3, 1, .rw⟩]
  | .SHL_STAT => [⟨3, 1, .ro⟩, ⟨2, 1, .ro⟩, ⟨0, 2, .ro⟩]
  | .SHL_CNT => [⟨16, 16, .ro⟩, ⟨0, 16, .ro⟩]
  | .HQD_CTRL => [⟨0, 16, .rw⟩]
  | .HQD_STAT => [⟨31, 1, .ro⟩, ⟨0, 12, .ro⟩]
  | .HQD_CNT => [⟨16, 16, .ro⟩, ⟨0, 16, .ro⟩]
  | .HQD_CNTB => [⟨16, 16, .ro⟩, ⟨0, 16, .ro⟩]
  | .ING_STAT => [⟨16, 16, .ro⟩, ⟨0, 13, .ro⟩]
  | .ING_CNT => [⟨16, 16, .ro⟩, ⟨0, 16, .ro⟩]
  | .TRE_CTRL => [⟨16, 16, .rw⟩, ⟨0, 8, .rw⟩]
  | .TRE_SCRUB => [⟨3, 22, .ro⟩]
  | .TRE_CNT0 => [⟨16, 16, .ro⟩, ⟨0, 16, .ro⟩]
  | .TRE_CNT1 => [⟨16, 16, .ro⟩, ⟨0, 16, .ro⟩]
  | .TRE_CNT2 => [⟨16, 16, .ro⟩, ⟨0, 16, .ro⟩]
  | .TRE_CNT3 => [⟨16, 16, .ro⟩, ⟨0, 16, .ro⟩]
  | .TRE_CNT4 => [⟨16, 16, .ro⟩, ⟨0, 16, .ro⟩]
  | .TRE_CNT5 => [⟨16, 16, .ro⟩, ⟨0, 16, .ro⟩]
  | .TRE_LOGPTR => [⟨0, 3, .ro⟩]
  | .TRE_LOGA => [⟨31, 1, .w1c⟩, ⟨29, 2, .ro⟩, ⟨3, 22, .ro⟩]
  | .TRE_LOGB => [⟨0, 32, .ro⟩]
  | .TRE_REPAIR => [⟨31, 1, .wo⟩, ⟨30, 1, .ro⟩, ⟨29, 1, .w1c⟩, ⟨22, 7, .rw⟩, ⟨11, 11, .rw⟩]
  | .TRE_SPARE_SEL => [⟨0, 7, .rw⟩]
  | .TRE_SPARE_STAT => [⟨4, 4, .ro⟩, ⟨0, 4, .ro⟩]
  | .TRE_ROWHOT => [⟨22, 7, .ro⟩, ⟨11, 11, .ro⟩]
  | .STP_CTRL => [⟨8, 4, .rw⟩, ⟨7, 1, .rw⟩, ⟨4, 3, .rw⟩, ⟨2, 2, .rw⟩, ⟨1, 1, .wo⟩, ⟨0, 1, .rw⟩]
  | .STP_OFFS => [⟨0, 16, .rw⟩]
  | .STP_LEVEL => [⟨31, 1, .ro⟩, ⟨30, 1, .ro⟩, ⟨29, 1, .ro⟩, ⟨0, 24, .ro⟩]
  | .STP_FLK => [⟨0, 24, .ro⟩]
  | .STP_CNT => [⟨16, 16, .ro⟩, ⟨0, 16, .ro⟩]
  | .STPD_CTRL => [⟨31, 1, .wo⟩, ⟨16, 1, .rw⟩, ⟨0, 12, .rw⟩]
  | .STPD_BANK => [⟨8, 1, .w1c⟩, ⟨7, 1, .wo⟩, ⟨6, 1, .wo⟩, ⟨5, 1, .ro⟩, ⟨4, 1, .ro⟩, ⟨3, 1, .ro⟩, ⟨0, 1, .ro⟩]
  | .STPD_FADE => [⟨16, 16, .ro⟩, ⟨0, 12, .ro⟩]
  | .STPD_MAX => [⟨0, 24, .ro⟩]
  | .STPD_SUMM => [⟨9, 1, .ro⟩, ⟨0, 9, .ro⟩]
  | .STPD_COEF_A => [⟨0, 18, .rw⟩]
  | .STPD_COEF_B => [⟨0, 18, .rw⟩]
  | .HK_CTRL => [⟨16, 16, .rw⟩]
  | .HK_MASK => [⟨0, 32, .rw⟩]
  | .HK_TIMING => [⟨8, 8, .rw⟩, ⟨0, 8, .rw⟩]
  | .HK_PLAUS => [⟨0, 16, .rw⟩]
  | .HK_LAMP => [⟨5, 1, .rw⟩, ⟨0, 5, .rw⟩]
  | .HK_URG => [⟨31, 1, .wo⟩, ⟨0, 5, .wo⟩]
  | .HK_STAT => [⟨16, 16, .ro⟩, ⟨15, 1, .ro⟩, ⟨14, 1, .ro⟩, ⟨11, 3, .ro⟩]
  | .HK_OPEN => [⟨0, 32, .ro⟩]
  | .HK_CNT0 => [⟨16, 16, .ro⟩, ⟨0, 16, .ro⟩]
  | .HK_CNT1 => [⟨16, 16, .ro⟩, ⟨0, 16, .ro⟩]
  | .HK_CNT2 => [⟨16, 16, .ro⟩, ⟨0, 16, .ro⟩]
  | .HK_CNT3 => [⟨16, 16, .ro⟩, ⟨0, 16, .ro⟩]
  | .HK_CNT4 => [⟨16, 16, .ro⟩, ⟨0, 16, .ro⟩]
  | .HK_CHCFG => [⟨31, 1, .rw⟩, ⟨30, 1, .rw⟩, ⟨28, 2, .rw⟩, ⟨26, 2, .rw⟩, ⟨24, 2, .rw⟩, ⟨21, 3, .rw⟩, ⟨13, 8, .rw⟩, ⟨5, 8, .rw⟩]
  | .HK_CHWIN => [⟨24, 8, .rw⟩, ⟨16, 8, .rw⟩, ⟨0, 16, .rw⟩]
  | .HK_CHRES => [⟨30, 2, .ro⟩, ⟨29, 1, .ro⟩, ⟨28, 1, .ro⟩, ⟨27, 1, .ro⟩, ⟨26, 1, .ro⟩, ⟨25, 1, .ro⟩, ⟨0, 16, .ro⟩]
  | .BUR_CTRL => [⟨16, 16, .rw⟩, ⟨12, 4, .rw⟩, ⟨3, 1, .rw⟩, ⟨0, 3, .rw⟩]
  | .BUR_STEP => [⟨10, 5, .rw⟩, ⟨5, 5, .rw⟩, ⟨0, 5, .rw⟩]
  | .BUR_CD => [⟨16, 16, .rw⟩, ⟨0, 5, .rw⟩]
  | .BUR_PH => [⟨8, 8, .rw⟩, ⟨0, 4, .rw⟩]
  | .BUR_INJ => [⟨24, 8, .rw⟩, ⟨16, 8, .rw⟩, ⟨0, 10, .rw⟩]
  | .BUR_TCO => [⟨0, 16, .rw⟩]
  | .BUR_RUN => [⟨16, 16, .wo⟩, ⟨0, 3, .wo⟩]
  | .BUR_STAT => [⟨16, 16, .ro⟩, ⟨0, 1, .w1c⟩]
  | .BUR_CNT0 => [⟨16, 16, .ro⟩, ⟨0, 16, .ro⟩]
  | .BUR_CNT1 => [⟨16, 16, .ro⟩, ⟨0, 16, .ro⟩]
  | .BUR_CNT2 => [⟨16, 16, .ro⟩, ⟨0, 16, .ro⟩]
  | .BUR_QUAL => [⟨24, 8, .ro⟩, ⟨16, 8, .ro⟩, ⟨8, 8, .ro⟩]
  | .BURD_TEMP => [⟨31, 1, .ro⟩, ⟨0, 16, .ro⟩]
  | .BURD_HSEL => [⟨28, 4, .w1c⟩, ⟨0, 24, .rw⟩]
  | .BURD_PHMEAS => [⟨0, 16, .ro⟩]
  | .BURD_ASYM => [⟨0, 16, .ro⟩]
  | .BURD_INJREF => [⟨0, 16, .ro⟩]
  | .BURD_QPK => [⟨0, 16, .ro⟩]
  | .BURD_APEROFS => [⟨0, 16, .rw⟩]
  | .BURD_TLAST0 => [⟨16, 16, .ro⟩, ⟨0, 16, .ro⟩]
  | .BURD_TLAST1 => [⟨0, 16, .ro⟩]
  | .BURD_HSHORT => [⟨0, 20, .ro⟩]
  | .BURD_HIST => [⟨0, 20, .ro⟩]
  | .CAL_OFFS => [⟨0, 16, .rw⟩]
  | .CAL_CHQ => [⟨31, 1, .w1c⟩, ⟨16, 8, .ro⟩, ⟨0, 8, .ro⟩]
  | .RSE_CTRL => [⟨8, 8, .rw⟩, ⟨4, 1, .wo⟩, ⟨3, 1, .rw⟩, ⟨2, 1, .rw⟩, ⟨1, 1, .rw⟩, ⟨0, 1, .rw⟩]
  | .RSE_STAT => [⟨6, 1, .ro⟩, ⟨5, 1, .ro⟩, ⟨4, 1, .ro⟩, ⟨1, 3, .w1c⟩, ⟨0, 1, .w1c⟩]
  | .RSE_PULSE => [⟨16, 16, .rw⟩, ⟨15, 1, .wo⟩, ⟨12, 3, .rw⟩, ⟨0, 12, .rw⟩]
  | .RSE_PPER => [⟨16, 16, .rw⟩, ⟨0, 16, .rw⟩]
  | .RSE_PROOF => [⟨16, 16, .rw⟩, ⟨0, 16, .rw⟩]
  | .RSE_DIAG => [⟨0, 8, .rw⟩]
  | .RSE_TEMPTO => [⟨0, 16, .rw⟩]
  | .RSE_TEMPV => [⟨0, 20, .ro⟩]
  | .RSE_FAC => [⟨0, 12, .ro⟩]
  | .RSE_PULSENO => [⟨0, 32, .ro⟩]
  | .RSE_CNT0 => [⟨16, 16, .ro⟩, ⟨0, 16, .ro⟩]
  | .RSE_CNT1 => [⟨16, 16, .ro⟩, ⟨0, 16, .ro⟩]
  | .RSE_CNT2 => [⟨16, 16, .ro⟩, ⟨0, 16, .ro⟩]
  | .RSE_COMP => [⟨12, 20, .rw⟩, ⟨0, 12, .rw⟩]
  | .RSE_CH => [⟨30, 2, .rw⟩, ⟨16, 12, .rw⟩, ⟨0, 10, .rw⟩]
  | .RSE_CHST => [⟨31, 1, .w1c⟩, ⟨30, 1, .w1c⟩, ⟨0, 10, .ro⟩]
  | .BRD_STAT => [⟨28, 4, .ro⟩, ⟨15, 1, .ro⟩, ⟨14, 1, .ro⟩, ⟨13, 1, .ro⟩, ⟨12, 1, .ro⟩, ⟨9, 3, .ro⟩, ⟨8, 1, .ro⟩, ⟨7, 1, .ro⟩, ⟨6, 1, .ro⟩, ⟨5, 1, .ro⟩, ⟨0, 2, .ro⟩]
  | .BRD_TRIP => [⟨0, 4, .ro⟩]
  | .BRD_MON => [⟨31, 1, .ro⟩, ⟨30, 1, .ro⟩, ⟨0, 14, .ro⟩]
  | .BRD_DEG => [⟨0, 18, .ro⟩]
  | .BRD_SET => [⟨16, 14, .ro⟩, ⟨0, 14, .ro⟩]
  | .BRD_CNT0 => [⟨16, 16, .ro⟩, ⟨0, 16, .ro⟩]
  | .BRD_CNT1 => [⟨16, 16, .ro⟩, ⟨0, 16, .ro⟩]
  | .BRD_LIM0 => [⟨16, 14, .ro⟩, ⟨0, 14, .ro⟩]
  | .BRD_LIM1 => [⟨24, 8, .ro⟩, ⟨16, 5, .ro⟩, ⟨0, 14, .ro⟩]
  | .BRD_LIM2 => [⟨24, 7, .ro⟩, ⟨16, 7, .ro⟩, ⟨0, 10, .ro⟩]
  | .BRD_LIM3 => [⟨24, 1, .ro⟩, ⟨16, 7, .ro⟩, ⟨0, 10, .ro⟩]
  | .BRD_LIM4 => [⟨0, 24, .ro⟩]
  | .BRD_LIM5 => [⟨0, 24, .ro⟩]
  | .BRD_LIM6 => [⟨20, 10, .ro⟩, ⟨8, 9, .ro⟩, ⟨0, 7, .ro⟩]
  | .BRD_LIM7 => [⟨16, 14, .ro⟩, ⟨0, 10, .ro⟩]
  | .BRD_LIM8 => [⟨16, 14, .ro⟩, ⟨0, 14, .ro⟩]
  | .BRD_LIM9 => [⟨0, 24, .ro⟩]
  | .BRD_LIM10 => [⟨0, 24, .ro⟩]
  | .LAT_STAT => [⟨27, 5, .ro⟩, ⟨26, 1, .ro⟩, ⟨22, 4, .ro⟩, ⟨19, 3, .ro⟩, ⟨18, 1, .ro⟩, ⟨17, 1, .ro⟩, ⟨16, 1, .ro⟩]
  | .LAT_RUN => [⟨31, 1, .wo⟩, ⟨0, 5, .wo⟩]
  | .LAT_STAGE => [⟨16, 16, .ro⟩, ⟨0, 16, .ro⟩]
  | .LAT_STAGEPOS => [⟨0, 32, .ro⟩]
  | .LAT_CNT0 => [⟨16, 16, .ro⟩, ⟨0, 16, .ro⟩]
  | .LAT_CNT1 => [⟨16, 16, .ro⟩, ⟨0, 16, .ro⟩]
  | .LAT_CNT2 => [⟨16, 16, .ro⟩, ⟨0, 16, .ro⟩]
  | .LAT_CNT3 => [⟨16, 16, .ro⟩, ⟨0, 16, .ro⟩]
  | .LAT_ABORT => [⟨27, 5, .ro⟩, ⟨24, 3, .ro⟩, ⟨0, 12, .ro⟩]
  | .LAT_W => [⟨0, 32, .ro⟩]
  | .LAT_LOCK => [⟨1, 8, .ro⟩]
  | .LAT_RETAIN => [⟨0, 32, .ro⟩]
  | .EVM_CFG => [⟨31, 1, .rwl⟩, ⟨30, 1, .rw⟩, ⟨25, 5, .rw⟩, ⟨24, 1, .rw⟩, ⟨23, 1, .rw⟩, ⟨20, 3, .rw⟩, ⟨0, 1, .rw⟩]
  | .EVM_CTRL => [⟨16, 16, .rw⟩, ⟨0, 1, .rw⟩]
  | .EVM_STAT => [⟨31, 1, .ro⟩, ⟨16, 3, .ro⟩, ⟨0, 10, .ro⟩]
  | .EVM_CNTG => [⟨16, 16, .ro⟩, ⟨0, 16, .ro⟩]
  | .EVM_VOTE => [⟨0, 32, .ro⟩]
  | .EVM_LAST => [⟨0, 10, .ro⟩]
  | .EVM_PEND => [⟨0, 32, .w1c⟩]
  | .EVM_CNT => [⟨0, 16, .ro⟩]
  | .EVD_PEND => [⟨0, 24, .w1c⟩]
  | .EVD_TEMPHI => [⟨0, 16, .rw⟩]
  | .EVD_VOTE => [⟨0, 32, .ro⟩]
  | .PRS_VIN => [⟨0, 16, .ro⟩]
  | .PRS_CAUSE => [⟨8, 8, .ro⟩, ⟨0, 4, .ro⟩]
  | .PRS_DIP => [⟨0, 32, .ro⟩]
  | .PRS_RAIL => [⟨8, 5, .w1c⟩, ⟨0, 5, .ro⟩]
  | .PRS_DIERAIL => [⟨16, 16, .w1c⟩, ⟨0, 16, .ro⟩]
  | .PRS_TEMP => [⟨16, 16, .rw⟩, ⟨0, 16, .ro⟩]
  | .PRS_CNT => [⟨16, 16, .ro⟩, ⟨0, 16, .ro⟩]
  | .ID_PART => [⟨16, 16, .ro⟩, ⟨8, 8, .ro⟩, ⟨0, 8, .ro⟩]
  | .ID_SHSTEP => [⟨0, 8, .ro⟩]
  | .ID_IDCODE => [⟨0, 32, .ro⟩]
  | .ID_SERIAL_LO => [⟨0, 32, .ro⟩]
  | .ID_SERIAL_HI => [⟨0, 32, .ro⟩]
  | .ID_MODULE => [⟨31, 1, .ro⟩, ⟨30, 1, .ro⟩, ⟨29, 1, .ro⟩, ⟨16, 12, .ro⟩, ⟨0, 12, .ro⟩]
  | .ID_IMAGE_LO => [⟨0, 32, .ro⟩]
  | .ID_IMAGE_HI => [⟨0, 32, .ro⟩]
  | .ID_IMAGE_SEQ => [⟨0, 32, .ro⟩]
  | .ID_IMAGE_LEN => [⟨0, 32, .ro⟩]
  | .ID_BOOT => [⟨17, 1, .ro⟩, ⟨16, 1, .ro⟩, ⟨0, 16, .ro⟩]
  | .ID_IMGMEAS => [⟨0, 32, .ro⟩]
  | .ID_ROMHASH => [⟨0, 32, .ro⟩]
  | .ID_LIVEMEAS => [⟨0, 32, .ro⟩]
  | .SHD_ID => [⟨24, 8, .ro⟩, ⟨0, 4, .ro⟩]
  | .HQD_MEM => [⟨16, 16, .ro⟩, ⟨0, 16, .ro⟩]

/-- The reset value of a register whose elements all reset alike, from the Reset column of its field table. Fields the tables
call factory, strap or retained read 0 here (log entries 3 to 5). -/
def Reg.resetConst : Reg → Nat
  | .PRS_STATE => 0x401
  | .PIX_CTRL => 0x10
  | .PIX_ANODE => 0x0
  | .PIX_TDISC => 0x100
  | .PIX_TRGPOL => 0x3FF0000
  | .PIX_TLOOP => 0x21003FF
  | .PIX_TTARGET => 0x5
  | .PIX_TSTAT => 0x3FF03FF
  | .PIX_INJ => 0x0
  | .PIX_OVR => 0x0
  | .PIXD_TDBASE => 0xA
  | .PIXD_RCV => 0x1800300
  | .PIXD_LOOP => 0x0
  | .PIXD_INJ => 0x1000
  | .AWL_CTRL => 0x0
  | .AWL_TAPSEL => 0x55555555
  | .AWL_TAPSEL_NEXT => 0x55555555
  | .AWL_OFFS => 0x0
  | .AWL_STAT => 0x80
  | .AWL_IVLSTAT => 0x0
  | .AWL_IVLSTAT2 => 0x0
  | .AWL_QUAL => 0xFFFF
  | .AWLD_CTRL => 0x0
  | .AWLD_BIAS => 0x2000200
  | .AWLD_RAMP => 0x10
  | .AWLD_PHASE => 0x0
  | .AWLD_IVL => 0x100
  | .AWLD_CSTAT => 0x0
  | .RNG_CTRL => 0x0
  | .RNG_STAT => 0x0
  | .RNG_CNT => 0x0
  | .RNG_CNT2 => 0x0
  | .RNGD_CTRL => 0x0
  | .RNGD_APER => 0x0
  | .RNGD_PUSH => 0x40
  | .RNGD_STAT => 0x0
  | .RNGD_RAMP => 0x0
  | .STR_CTRL => 0x4
  | .STR_TRIG => 0x8000004
  | .STR_HOLD => 0x100
  | .STR_AUTO => 0xF42
  | .STR_CALT => 0x40
  | .STR_SRCCLS => 0x0
  | .STR_ROI => 0x2
  | .STR_BUDGET => 0x600
  | .STR_CLASS => 0x6403F20
  | .STR_STAT => 0x0
  | .STR_TRIGNO => 0x0
  | .STR_CTXTO => 0x800
  | .STR_CNT0 => 0x0
  | .STR_CNT1 => 0x0
  | .STR_CNT2 => 0x0
  | .STR_CNT3 => 0x0
  | .STR_CNT4 => 0x0
  | .STR_CNT5 => 0x0
  | .STR_CNT6 => 0x0
  | .STR_POOLDESC => 0x4000
  | .STR_POOLGRAN => 0x10000
  | .STR_RESUME => 0x4001000
  | .STR_NBR => 0x0
  | .STR_MAPADDR => 0x0
  | .STR_MAPDATA => 0x0
  | .STR_ROIMASK => 0xFFFF
  | .SP_CTRL => 0x810000
  | .SP_AMB => 0x1000000
  | .SP_WAIT => 0x4002000
  | .SP_STAT => 0xFFFF
  | .SP_CNT0 => 0x0
  | .SP_CNT1 => 0x0
  | .SP_CNT2 => 0x0
  | .SP_CNT3 => 0x0
  | .SP_DLOST => 0x0
  | .SP_SEQ => 0x0
  | .STI_CTRL => 0x61008
  | .STI_STAT => 0x0
  | .STI_EMIT_LO => 0x0
  | .STI_EMIT_HI => 0x0
  | .STI_WIN => 0x0
  | .STI_CNT0 => 0x0
  | .STI_CNT1 => 0x0
  | .STI_CNT2 => 0x0
  | .STI_CNT3 => 0x0
  | .STI_CNT4 => 0x0
  | .STI_CNT5 => 0x0
  | .STI_CNT6 => 0x0
  | .STI_CNT7 => 0x0
  | .STI_SHED => 0x0
  | .SKV_CTRL => 0xFFFF0410
  | .SKV_MODE => 0xAAAA
  | .SKV_LOSS => 0xE
  | .SKV_STAT => 0x0
  | .SKV_VFAIL => 0x0
  | .SKV_CNT0 => 0x0
  | .SKV_CNT1 => 0x0
  | .SKV_CNT2 => 0x0
  | .SKV_IN_LO => 0x0
  | .SKV_IN_HI => 0x0
  | .SKV_OUT_LO => 0x0
  | .SKV_OUT_HI => 0x0
  | .SKV_INSP_SRC => 0x0
  | .SKV_INSP_INLEN => 0x0
  | .SKV_INSP_OUTMAX => 0xFFFFFF
  | .SKV_INSP_CTRL => 0x0
  | .SKV_INSP_RES => 0x0
  | .SKV_INSP_OCRC => 0x0
  | .SKV_INSP_FOFF => 0x0
  | .GIR_CTRL => 0x17
  | .GIR_STAT => 0x3
  | .GIR_SERVO => 0x400303
  | .GIR_STEP => 0x40007FFF
  | .GIR_DLY_TMI => 0x0
  | .GIR_DLY_ALT => 0x0
  | .GIR_RXLAT => 0x0
  | .GIR_SYNCTO => 0xF42
  | .GIR_AGE => 0x0
  | .GIR_LEARN => 0x14
  | .GIR_XTAL_LO => 0x0
  | .GIR_XTAL_HI => 0x0
  | .GIR_NOW_LO => 0x0
  | .GIR_NOW_HI => 0x0
  | .GIR_NOW_FINE => 0x0
  | .GIR_FRC_LO => 0x0
  | .GIR_FRC_HI => 0x0
  | .GIR_THETA => 0x0
  | .GIR_SYNCSEQ => 0x0
  | .GIR_SNAP_SLOT_LO => 0x0
  | .GIR_SNAP_SLOT_HI => 0x0
  | .GIR_SNAP_SIG_LO => 0x0
  | .GIR_SNAP_SIG_HI => 0x0
  | .GIR_SNAP_REF_LO => 0x0
  | .GIR_SNAP_REF_HI => 0x0
  | .GIR_SNAP_RATE_LO => 0x0
  | .GIR_SNAP_RATE_HI => 0x0
  | .GIR_SNAP_OFFS0 => 0x0
  | .GIR_SNAP_OFFS1 => 0x0
  | .GIR_SNAP_OFFS2 => 0x0
  | .GIR_CNT0 => 0x0
  | .GIR_CNT1 => 0x0
  | .GIR_CNT2 => 0x0
  | .GIR_CNT3 => 0x0
  | .HAR_CTRL => 0x80
  | .HAR_STAT => 0x100
  | .HAR_EQ => 0x4000012C
  | .HAR_CNT0 => 0x0
  | .HAR_CNT1 => 0x0
  | .HAR_CNT2 => 0x0
  | .HAR_CNT3 => 0x0
  | .HAR_CNT4 => 0x0
  | .HAR_CNT5 => 0x0
  | .HAR_CNT6 => 0x0
  | .HAR_SHLAT => 0x0
  | .HAR_RXL_CTRL => 0xF0600004
  | .HAR_RXL_STAT => 0x60000
  | .HAR_RXL_CNT => 0x0
  | .HAR_RXL_PRBS => 0x0
  | .HAR_TXL_CTRL => 0x0
  | .HAR_TXL_PRBS => 0x0
  | .SHL_CTRL => 0x0
  | .SHL_STAT => 0x0
  | .SHL_CNT => 0x0
  | .HQD_CTRL => 0x6000
  | .HQD_STAT => 0x0
  | .HQD_CNT => 0x0
  | .HQD_CNTB => 0x0
  | .ING_STAT => 0x0
  | .ING_CNT => 0x0
  | .TRE_CTRL => 0x100010
  | .TRE_SCRUB => 0x0
  | .TRE_CNT0 => 0x0
  | .TRE_CNT1 => 0x0
  | .TRE_CNT2 => 0x0
  | .TRE_CNT3 => 0x0
  | .TRE_CNT4 => 0x0
  | .TRE_CNT5 => 0x0
  | .TRE_LOGPTR => 0x0
  | .TRE_LOGA => 0x0
  | .TRE_LOGB => 0x0
  | .TRE_REPAIR => 0x0
  | .TRE_SPARE_SEL => 0x0
  | .TRE_SPARE_STAT => 0x0
  | .TRE_ROWHOT => 0x0
  | .STP_CTRL => 0x840
  | .STP_OFFS => 0x0
  | .STP_LEVEL => 0xA0000000
  | .STP_FLK => 0x0
  | .STP_CNT => 0x0
  | .STPD_CTRL => 0x10040
  | .STPD_BANK => 0x0
  | .STPD_FADE => 0x0
  | .STPD_MAX => 0x0
  | .STPD_SUMM => 0x0
  | .STPD_COEF_A => 0x10000
  | .STPD_COEF_B => 0x10000
  | .HK_CTRL => 0x2710000
  | .HK_MASK => 0x0
  | .HK_TIMING => 0x8A0
  | .HK_PLAUS => 0x40
  | .HK_LAMP => 0x0
  | .HK_URG => 0x0
  | .HK_STAT => 0x0
  | .HK_OPEN => 0x0
  | .HK_CNT0 => 0x0
  | .HK_CNT1 => 0x0
  | .HK_CNT2 => 0x0
  | .HK_CNT3 => 0x0
  | .HK_CNT4 => 0x0
  | .HK_CHCFG => 0x4C000280
  | .HK_CHWIN => 0xF80807D0
  | .HK_CHRES => 0x0
  | .BUR_CTRL => 0x1004007
  | .BUR_STEP => 0x4088
  | .BUR_CD => 0x20000010
  | .BUR_PH => 0x808
  | .BUR_INJ => 0x40100100
  | .BUR_TCO => 0x0
  | .BUR_RUN => 0x0
  | .BUR_STAT => 0x0
  | .BUR_CNT0 => 0x0
  | .BUR_CNT1 => 0x0
  | .BUR_CNT2 => 0x0
  | .BUR_QUAL => 0xFFFFFF00
  | .BURD_TEMP => 0x80000000
  | .BURD_HSEL => 0x0
  | .BURD_PHMEAS => 0x0
  | .BURD_ASYM => 0x0
  | .BURD_INJREF => 0x0
  | .BURD_QPK => 0x0
  | .BURD_APEROFS => 0x0
  | .BURD_TLAST0 => 0x0
  | .BURD_TLAST1 => 0x0
  | .BURD_HSHORT => 0x0
  | .BURD_HIST => 0x0
  | .CAL_OFFS => 0x0
  | .CAL_CHQ => 0x0
  | .RSE_CTRL => 0xC
  | .RSE_STAT => 0x0
  | .RSE_PULSE => 0xB
  | .RSE_PPER => 0x10000
  | .RSE_PROOF => 0x80000100
  | .RSE_DIAG => 0x14
  | .RSE_TEMPTO => 0xA00
  | .RSE_TEMPV => 0x0
  | .RSE_FAC => 0x800
  | .RSE_PULSENO => 0x0
  | .RSE_CNT0 => 0x0
  | .RSE_CNT1 => 0x0
  | .RSE_CNT2 => 0x0
  | .RSE_COMP => 0x800
  | .RSE_CH => 0x0
  | .RSE_CHST => 0x0
  | .BRD_STAT => 0xE03
  | .BRD_TRIP => 0x0
  | .BRD_MON => 0x0
  | .BRD_DEG => 0x0
  | .BRD_SET => 0x0
  | .BRD_CNT0 => 0x0
  | .BRD_CNT1 => 0x0
  | .BRD_LIM0 => 0x0
  | .BRD_LIM1 => 0x0
  | .BRD_LIM2 => 0x0
  | .BRD_LIM3 => 0x0
  | .BRD_LIM4 => 0x0
  | .BRD_LIM5 => 0x0
  | .BRD_LIM6 => 0x0
  | .BRD_LIM7 => 0x0
  | .BRD_LIM8 => 0x0
  | .BRD_LIM9 => 0x0
  | .BRD_LIM10 => 0x0
  | .LAT_STAT => 0x0
  | .LAT_RUN => 0x0
  | .LAT_STAGE => 0x0
  | .LAT_STAGEPOS => 0x0
  | .LAT_CNT0 => 0x0
  | .LAT_CNT1 => 0x0
  | .LAT_CNT2 => 0x0
  | .LAT_CNT3 => 0x0
  | .LAT_ABORT => 0x0
  | .LAT_W => 0x0
  | .LAT_LOCK => 0x0
  | .LAT_RETAIN => 0x0
  | .EVM_CFG => 0xA00000
  | .EVM_CTRL => 0x400001
  | .EVM_STAT => 0x0
  | .EVM_CNTG => 0x0
  | .EVM_VOTE => 0x0
  | .EVM_LAST => 0x0
  | .EVM_PEND => 0x0
  | .EVM_CNT => 0x0
  | .EVD_PEND => 0x0
  | .EVD_TEMPHI => 0x550
  | .EVD_VOTE => 0x0
  | .PRS_VIN => 0x0
  | .PRS_CAUSE => 0x201
  | .PRS_DIP => 0x0
  | .PRS_RAIL => 0x1F
  | .PRS_DIERAIL => 0x0
  | .PRS_TEMP => 0x5500000
  | .PRS_CNT => 0x0
  | .ID_PART => 0x4096B1B1
  | .ID_SHSTEP => 0xA2
  | .ID_IDCODE => 0x54096001
  | .ID_SERIAL_LO => 0x0
  | .ID_SERIAL_HI => 0x0
  | .ID_MODULE => 0x0
  | .ID_IMAGE_LO => 0x0
  | .ID_IMAGE_HI => 0x0
  | .ID_IMAGE_SEQ => 0x0
  | .ID_IMAGE_LEN => 0x0
  | .ID_BOOT => 0x0
  | .ID_IMGMEAS => 0x0
  | .ID_ROMHASH => 0x0
  | .ID_LIVEMEAS => 0x0
  | .SHD_ID => 0xA2000000
  | .HQD_MEM => 0x0

/-- The reset value of element `i` of a register: the colour tables start at X = (i - 4) * 0x10000 in 20 bits with factor 0x800 (Table 16.10)
and SHD_ID shows the die number. -/
def Reg.resetWord (r : Reg) (i : Nat) : Nat :=
  if r = .RSE_COMP then ((i % 8 + 12) * 0x10000 % 0x100000) * 0x1000 + 0x800
  else if r = .SHD_ID then r.resetConst + i % 16
  else r.resetConst

/-- Every register, in the order of the manual's tables. -/
def Reg.all : List Reg :=
  ([.PRS_STATE, .PIX_CTRL, .PIX_ANODE, .PIX_TDISC, .PIX_TRGPOL, .PIX_TLOOP, .PIX_TTARGET, .PIX_TSTAT, .PIX_INJ, .PIX_OVR, .PIXD_TDBASE, .PIXD_RCV, .PIXD_LOOP, .PIXD_INJ, .AWL_CTRL, .AWL_TAPSEL, .AWL_TAPSEL_NEXT, .AWL_OFFS, .AWL_STAT, .AWL_IVLSTAT, .AWL_IVLSTAT2, .AWL_QUAL, .AWLD_CTRL, .AWLD_BIAS, .AWLD_RAMP, .AWLD_PHASE, .AWLD_IVL, .AWLD_CSTAT, .RNG_CTRL, .RNG_STAT, .RNG_CNT, .RNG_CNT2, .RNGD_CTRL, .RNGD_APER, .RNGD_PUSH, .RNGD_STAT, .RNGD_RAMP, .STR_CTRL, .STR_TRIG, .STR_HOLD] : List Reg) ++
  ([.STR_AUTO, .STR_CALT, .STR_SRCCLS, .STR_ROI, .STR_BUDGET, .STR_CLASS, .STR_STAT, .STR_TRIGNO, .STR_CTXTO, .STR_CNT0, .STR_CNT1, .STR_CNT2, .STR_CNT3, .STR_CNT4, .STR_CNT5, .STR_CNT6, .STR_POOLDESC, .STR_POOLGRAN, .STR_RESUME, .STR_NBR, .STR_MAPADDR, .STR_MAPDATA, .STR_ROIMASK, .SP_CTRL, .SP_AMB, .SP_WAIT, .SP_STAT, .SP_CNT0, .SP_CNT1, .SP_CNT2, .SP_CNT3, .SP_DLOST, .SP_SEQ, .STI_CTRL, .STI_STAT, .STI_EMIT_LO, .STI_EMIT_HI, .STI_WIN, .STI_CNT0, .STI_CNT1] : List Reg) ++
  ([.STI_CNT2, .STI_CNT3, .STI_CNT4, .STI_CNT5, .STI_CNT6, .STI_CNT7, .STI_SHED, .SKV_CTRL, .SKV_MODE, .SKV_LOSS, .SKV_STAT, .SKV_VFAIL, .SKV_CNT0, .SKV_CNT1, .SKV_CNT2, .SKV_IN_LO, .SKV_IN_HI, .SKV_OUT_LO, .SKV_OUT_HI, .SKV_INSP_SRC, .SKV_INSP_INLEN, .SKV_INSP_OUTMAX, .SKV_INSP_CTRL, .SKV_INSP_RES, .SKV_INSP_OCRC, .SKV_INSP_FOFF, .GIR_CTRL, .GIR_STAT, .GIR_SERVO, .GIR_STEP, .GIR_DLY_TMI, .GIR_DLY_ALT, .GIR_RXLAT, .GIR_SYNCTO, .GIR_AGE, .GIR_LEARN, .GIR_XTAL_LO, .GIR_XTAL_HI, .GIR_NOW_LO, .GIR_NOW_HI] : List Reg) ++
  ([.GIR_NOW_FINE, .GIR_FRC_LO, .GIR_FRC_HI, .GIR_THETA, .GIR_SYNCSEQ, .GIR_SNAP_SLOT_LO, .GIR_SNAP_SLOT_HI, .GIR_SNAP_SIG_LO, .GIR_SNAP_SIG_HI, .GIR_SNAP_REF_LO, .GIR_SNAP_REF_HI, .GIR_SNAP_RATE_LO, .GIR_SNAP_RATE_HI, .GIR_SNAP_OFFS0, .GIR_SNAP_OFFS1, .GIR_SNAP_OFFS2, .GIR_CNT0, .GIR_CNT1, .GIR_CNT2, .GIR_CNT3, .HAR_CTRL, .HAR_STAT, .HAR_EQ, .HAR_CNT0, .HAR_CNT1, .HAR_CNT2, .HAR_CNT3, .HAR_CNT4, .HAR_CNT5, .HAR_CNT6, .HAR_SHLAT, .HAR_RXL_CTRL, .HAR_RXL_STAT, .HAR_RXL_CNT, .HAR_RXL_PRBS, .HAR_TXL_CTRL, .HAR_TXL_PRBS, .SHL_CTRL, .SHL_STAT, .SHL_CNT] : List Reg) ++
  ([.HQD_CTRL, .HQD_STAT, .HQD_CNT, .HQD_CNTB, .ING_STAT, .ING_CNT, .TRE_CTRL, .TRE_SCRUB, .TRE_CNT0, .TRE_CNT1, .TRE_CNT2, .TRE_CNT3, .TRE_CNT4, .TRE_CNT5, .TRE_LOGPTR, .TRE_LOGA, .TRE_LOGB, .TRE_REPAIR, .TRE_SPARE_SEL, .TRE_SPARE_STAT, .TRE_ROWHOT, .STP_CTRL, .STP_OFFS, .STP_LEVEL, .STP_FLK, .STP_CNT, .STPD_CTRL, .STPD_BANK, .STPD_FADE, .STPD_MAX, .STPD_SUMM, .STPD_COEF_A, .STPD_COEF_B, .HK_CTRL, .HK_MASK, .HK_TIMING, .HK_PLAUS, .HK_LAMP, .HK_URG, .HK_STAT] : List Reg) ++
  ([.HK_OPEN, .HK_CNT0, .HK_CNT1, .HK_CNT2, .HK_CNT3, .HK_CNT4, .HK_CHCFG, .HK_CHWIN, .HK_CHRES, .BUR_CTRL, .BUR_STEP, .BUR_CD, .BUR_PH, .BUR_INJ, .BUR_TCO, .BUR_RUN, .BUR_STAT, .BUR_CNT0, .BUR_CNT1, .BUR_CNT2, .BUR_QUAL, .BURD_TEMP, .BURD_HSEL, .BURD_PHMEAS, .BURD_ASYM, .BURD_INJREF, .BURD_QPK, .BURD_APEROFS, .BURD_TLAST0, .BURD_TLAST1, .BURD_HSHORT, .BURD_HIST, .CAL_OFFS, .CAL_CHQ, .RSE_CTRL, .RSE_STAT, .RSE_PULSE, .RSE_PPER, .RSE_PROOF, .RSE_DIAG] : List Reg) ++
  ([.RSE_TEMPTO, .RSE_TEMPV, .RSE_FAC, .RSE_PULSENO, .RSE_CNT0, .RSE_CNT1, .RSE_CNT2, .RSE_COMP, .RSE_CH, .RSE_CHST, .BRD_STAT, .BRD_TRIP, .BRD_MON, .BRD_DEG, .BRD_SET, .BRD_CNT0, .BRD_CNT1, .BRD_LIM0, .BRD_LIM1, .BRD_LIM2, .BRD_LIM3, .BRD_LIM4, .BRD_LIM5, .BRD_LIM6, .BRD_LIM7, .BRD_LIM8, .BRD_LIM9, .BRD_LIM10, .LAT_STAT, .LAT_RUN, .LAT_STAGE, .LAT_STAGEPOS, .LAT_CNT0, .LAT_CNT1, .LAT_CNT2, .LAT_CNT3, .LAT_ABORT, .LAT_W, .LAT_LOCK, .LAT_RETAIN] : List Reg) ++
  ([.EVM_CFG, .EVM_CTRL, .EVM_STAT, .EVM_CNTG, .EVM_VOTE, .EVM_LAST, .EVM_PEND, .EVM_CNT, .EVD_PEND, .EVD_TEMPHI, .EVD_VOTE, .PRS_VIN, .PRS_CAUSE, .PRS_DIP, .PRS_RAIL, .PRS_DIERAIL, .PRS_TEMP, .PRS_CNT, .ID_PART, .ID_SHSTEP, .ID_IDCODE, .ID_SERIAL_LO, .ID_SERIAL_HI, .ID_MODULE, .ID_IMAGE_LO, .ID_IMAGE_HI, .ID_IMAGE_SEQ, .ID_IMAGE_LEN, .ID_BOOT, .ID_IMGMEAS, .ID_ROMHASH, .ID_LIVEMEAS, .SHD_ID, .HQD_MEM] : List Reg)

/-- A named field of a register, for the meanings to read and write. -/
structure Fld where
  reg : Reg
  lo  : Nat
  w   : Nat
  deriving DecidableEq, Repr

/-! PRS_STATE (Table 01.9) -/
def Fld.PRS_STATE_DIE_JOINED : Fld := ⟨.PRS_STATE, 16, 16⟩
def Fld.PRS_STATE_IMAGE_SRC : Fld := ⟨.PRS_STATE, 12, 1⟩
def Fld.PRS_STATE_BROWNOUT : Fld := ⟨.PRS_STATE, 11, 1⟩
def Fld.PRS_STATE_HOLDOVER : Fld := ⟨.PRS_STATE, 10, 1⟩
def Fld.PRS_STATE_MASTER : Fld := ⟨.PRS_STATE, 9, 1⟩
def Fld.PRS_STATE_STATE : Fld := ⟨.PRS_STATE, 0, 4⟩
/-! PIX_CTRL (Table 02.8) -/
def Fld.PIX_CTRL_INJ_EN : Fld := ⟨.PIX_CTRL, 5, 1⟩
def Fld.PIX_CTRL_NB_RCV : Fld := ⟨.PIX_CTRL, 4, 1⟩
def Fld.PIX_CTRL_MASK_TRG : Fld := ⟨.PIX_CTRL, 3, 1⟩
def Fld.PIX_CTRL_MASK_HIT : Fld := ⟨.PIX_CTRL, 2, 1⟩
def Fld.PIX_CTRL_TRG_EN : Fld := ⟨.PIX_CTRL, 1, 1⟩
def Fld.PIX_CTRL_EN : Fld := ⟨.PIX_CTRL, 0, 1⟩
/-! PIX_ANODE (Table 02.9) -/
def Fld.PIX_ANODE_ANODE_NOW : Fld := ⟨.PIX_ANODE, 16, 10⟩
def Fld.PIX_ANODE_ANODE : Fld := ⟨.PIX_ANODE, 0, 10⟩
/-! PIX_TDISC (Table 02.10) -/
def Fld.PIX_TDISC_TRG_TRIM : Fld := ⟨.PIX_TDISC, 16, 6⟩
def Fld.PIX_TDISC_HYST : Fld := ⟨.PIX_TDISC, 8, 2⟩
def Fld.PIX_TDISC_TD_TRIM : Fld := ⟨.PIX_TDISC, 0, 6⟩
/-! PIX_TRGPOL (Table 02.11) -/
def Fld.PIX_TRGPOL_CEIL : Fld := ⟨.PIX_TRGPOL, 16, 10⟩
def Fld.PIX_TRGPOL_FLOOR : Fld := ⟨.PIX_TRGPOL, 0, 10⟩
/-! PIX_TLOOP (Table 02.12) -/
def Fld.PIX_TLOOP_BAND : Fld := ⟨.PIX_TLOOP, 24, 8⟩
def Fld.PIX_TLOOP_STEP : Fld := ⟨.PIX_TLOOP, 20, 4⟩
def Fld.PIX_TLOOP_ACC_LOAD : Fld := ⟨.PIX_TLOOP, 19, 1⟩
def Fld.PIX_TLOOP_FF_EN : Fld := ⟨.PIX_TLOOP, 18, 1⟩
def Fld.PIX_TLOOP_MODE : Fld := ⟨.PIX_TLOOP, 16, 2⟩
def Fld.PIX_TLOOP_FORCE : Fld := ⟨.PIX_TLOOP, 0, 10⟩
/-! PIX_TTARGET (Table 02.13) -/
def Fld.PIX_TTARGET_TARGET : Fld := ⟨.PIX_TTARGET, 0, 16⟩
/-! PIX_TSTAT (Table 02.14) -/
def Fld.PIX_TSTAT_SUN : Fld := ⟨.PIX_TSTAT, 31, 1⟩
def Fld.PIX_TSTAT_CLAMPED : Fld := ⟨.PIX_TSTAT, 30, 1⟩
def Fld.PIX_TSTAT_CLAMP_HIT : Fld := ⟨.PIX_TSTAT, 29, 1⟩
def Fld.PIX_TSTAT_STALE : Fld := ⟨.PIX_TSTAT, 28, 1⟩
def Fld.PIX_TSTAT_WERR : Fld := ⟨.PIX_TSTAT, 27, 1⟩
def Fld.PIX_TSTAT_THR_APPLIED : Fld := ⟨.PIX_TSTAT, 16, 10⟩
def Fld.PIX_TSTAT_THR_LOOP : Fld := ⟨.PIX_TSTAT, 0, 11⟩
/-! PIX_INJ (Table 02.15) -/
def Fld.PIX_INJ_INJ_Q : Fld := ⟨.PIX_INJ, 0, 10⟩
/-! PIX_OVR (Table 02.16) -/
def Fld.PIX_OVR_OVR_COUNT : Fld := ⟨.PIX_OVR, 16, 16⟩
def Fld.PIX_OVR_STATE : Fld := ⟨.PIX_OVR, 3, 2⟩
def Fld.PIX_OVR_LONG : Fld := ⟨.PIX_OVR, 2, 1⟩
def Fld.PIX_OVR_OVR_LG : Fld := ⟨.PIX_OVR, 1, 1⟩
def Fld.PIX_OVR_OVR_HG : Fld := ⟨.PIX_OVR, 0, 1⟩
/-! PIXD_TDBASE (Table 02.17) -/
def Fld.PIXD_TDBASE_TD_BASE : Fld := ⟨.PIXD_TDBASE, 0, 8⟩
/-! PIXD_RCV (Table 02.17) -/
def Fld.PIXD_RCV_NB_LEN : Fld := ⟨.PIXD_RCV, 16, 10⟩
def Fld.PIXD_RCV_RCV_LEN : Fld := ⟨.PIXD_RCV, 0, 10⟩
/-! PIXD_LOOP (Table 02.17) -/
def Fld.PIXD_LOOP_FF_COEF : Fld := ⟨.PIXD_LOOP, 16, 16⟩
/-! PIXD_INJ (Table 02.17) -/
def Fld.PIXD_INJ_INJ_AT : Fld := ⟨.PIXD_INJ, 16, 16⟩
def Fld.PIXD_INJ_INJ_WIN : Fld := ⟨.PIXD_INJ, 8, 8⟩
def Fld.PIXD_INJ_INJ_GROUP : Fld := ⟨.PIXD_INJ, 4, 2⟩
def Fld.PIXD_INJ_INJ_REP : Fld := ⟨.PIXD_INJ, 2, 1⟩
def Fld.PIXD_INJ_INJ_BUSY : Fld := ⟨.PIXD_INJ, 1, 1⟩
def Fld.PIXD_INJ_INJ_ARM : Fld := ⟨.PIXD_INJ, 0, 1⟩
/-! AWL_CTRL (Table 03.7) -/
def Fld.AWL_CTRL_IVL_EN : Fld := ⟨.AWL_CTRL, 0, 1⟩
/-! AWL_TAPSEL (Table 03.7) -/
def Fld.AWL_TAPSEL_TAPSEL : Fld := ⟨.AWL_TAPSEL, 0, 32⟩
/-! AWL_TAPSEL_NEXT (Table 03.7) -/
def Fld.AWL_TAPSEL_NEXT_TAPSEL_NEXT : Fld := ⟨.AWL_TAPSEL_NEXT, 0, 32⟩
/-! AWL_OFFS (Table 03.7) -/
def Fld.AWL_OFFS_OFFS_NEXT : Fld := ⟨.AWL_OFFS, 16, 16⟩
def Fld.AWL_OFFS_OFFS_NOW : Fld := ⟨.AWL_OFFS, 0, 16⟩
/-! AWL_STAT (Table 03.7) -/
def Fld.AWL_STAT_PILE_COUNT : Fld := ⟨.AWL_STAT, 16, 16⟩
def Fld.AWL_STAT_LOST_BURST : Fld := ⟨.AWL_STAT, 8, 8⟩
def Fld.AWL_STAT_CREDIT : Fld := ⟨.AWL_STAT, 0, 8⟩
/-! AWL_IVLSTAT (Table 03.7) -/
def Fld.AWL_IVLSTAT_PAIRS : Fld := ⟨.AWL_IVLSTAT, 16, 16⟩
def Fld.AWL_IVLSTAT_TIMEOUTS : Fld := ⟨.AWL_IVLSTAT, 0, 16⟩
/-! AWL_IVLSTAT2 (Table 03.7) -/
def Fld.AWL_IVLSTAT2_RESTARTS : Fld := ⟨.AWL_IVLSTAT2, 16, 16⟩
def Fld.AWL_IVLSTAT2_ORPHANS : Fld := ⟨.AWL_IVLSTAT2, 0, 16⟩
/-! AWL_QUAL (Table 03.7) -/
def Fld.AWL_QUAL_INL_MAX : Fld := ⟨.AWL_QUAL, 8, 8⟩
def Fld.AWL_QUAL_DNL_MAX : Fld := ⟨.AWL_QUAL, 0, 8⟩
/-! AWLD_CTRL (Table 03.8) -/
def Fld.AWLD_CTRL_EPOCH : Fld := ⟨.AWLD_CTRL, 8, 4⟩
def Fld.AWLD_CTRL_RAMPING : Fld := ⟨.AWLD_CTRL, 2, 1⟩
def Fld.AWLD_CTRL_PENDING : Fld := ⟨.AWLD_CTRL, 1, 1⟩
def Fld.AWLD_CTRL_COMMIT : Fld := ⟨.AWLD_CTRL, 0, 1⟩
/-! AWLD_BIAS (Table 03.8) -/
def Fld.AWLD_BIAS_BIAS_NOW : Fld := ⟨.AWLD_BIAS, 16, 10⟩
def Fld.AWLD_BIAS_BIAS_NEXT : Fld := ⟨.AWLD_BIAS, 0, 10⟩
/-! AWLD_RAMP (Table 03.8) -/
def Fld.AWLD_RAMP_RAMP_SLOTS : Fld := ⟨.AWLD_RAMP, 0, 8⟩
/-! AWLD_PHASE (Table 03.8) -/
def Fld.AWLD_PHASE_PHASE_NEXT : Fld := ⟨.AWLD_PHASE, 16, 16⟩
def Fld.AWLD_PHASE_PHASE_NOW : Fld := ⟨.AWLD_PHASE, 0, 16⟩
/-! AWLD_IVL (Table 03.8) -/
def Fld.AWLD_IVL_TIMEOUT : Fld := ⟨.AWLD_IVL, 0, 12⟩
/-! AWLD_CSTAT (Table 03.8) -/
def Fld.AWLD_CSTAT_CS_FULL : Fld := ⟨.AWLD_CSTAT, 16, 16⟩
def Fld.AWLD_CSTAT_CS_DEPTH : Fld := ⟨.AWLD_CSTAT, 0, 9⟩
/-! RNG_CTRL (Table 04.11) -/
def Fld.RNG_CTRL_RESTART : Fld := ⟨.RNG_CTRL, 0, 1⟩
/-! RNG_STAT (Table 04.11) -/
def Fld.RNG_STAT_FULL : Fld := ⟨.RNG_STAT, 20, 1⟩
def Fld.RNG_STAT_BUSY : Fld := ⟨.RNG_STAT, 16, 4⟩
def Fld.RNG_STAT_RESTART_AT : Fld := ⟨.RNG_STAT, 0, 16⟩
/-! RNG_CNT (Table 04.11) -/
def Fld.RNG_CNT_RECORDS : Fld := ⟨.RNG_CNT, 16, 16⟩
def Fld.RNG_CNT_REFUSED : Fld := ⟨.RNG_CNT, 0, 16⟩
/-! RNG_CNT2 (Table 04.11) -/
def Fld.RNG_CNT2_SHORT : Fld := ⟨.RNG_CNT2, 16, 16⟩
def Fld.RNG_CNT2_OVR_REC : Fld := ⟨.RNG_CNT2, 0, 16⟩
/-! RNGD_CTRL (Table 04.12) -/
def Fld.RNGD_CTRL_GAIN_MODE : Fld := ⟨.RNGD_CTRL, 2, 2⟩
def Fld.RNGD_CTRL_RESTART_ALL : Fld := ⟨.RNGD_CTRL, 0, 1⟩
/-! RNGD_APER (Table 04.12) -/
def Fld.RNGD_APER_APER_NEXT : Fld := ⟨.RNGD_APER, 16, 16⟩
def Fld.RNGD_APER_APER_NOW : Fld := ⟨.RNGD_APER, 0, 16⟩
/-! RNGD_PUSH (Table 04.12) -/
def Fld.RNGD_PUSH_REC_WAIT : Fld := ⟨.RNGD_PUSH, 0, 8⟩
/-! RNGD_STAT (Table 04.12) -/
def Fld.RNGD_STAT_REF_BUSY : Fld := ⟨.RNGD_STAT, 16, 16⟩
def Fld.RNGD_STAT_REF_OTHER : Fld := ⟨.RNGD_STAT, 0, 16⟩
/-! RNGD_RAMP (Table 04.12) -/
def Fld.RNGD_RAMP_RAMP_ERRS : Fld := ⟨.RNGD_RAMP, 16, 16⟩
def Fld.RNGD_RAMP_RAMP_REF : Fld := ⟨.RNGD_RAMP, 0, 12⟩
/-! STR_CTRL (Table 05.14) -/
def Fld.STR_CTRL_SRC_EN : Fld := ⟨.STR_CTRL, 8, 5⟩
def Fld.STR_CTRL_FORCE : Fld := ⟨.STR_CTRL, 5, 1⟩
def Fld.STR_CTRL_FB_CLEAR : Fld := ⟨.STR_CTRL, 4, 1⟩
def Fld.STR_CTRL_HIT_GATE : Fld := ⟨.STR_CTRL, 3, 1⟩
def Fld.STR_CTRL_AUTO_RESUME : Fld := ⟨.STR_CTRL, 2, 1⟩
def Fld.STR_CTRL_MODE_STREAM : Fld := ⟨.STR_CTRL, 1, 1⟩
/-! STR_TRIG (Table 05.14) -/
def Fld.STR_TRIG_COMBINE : Fld := ⟨.STR_TRIG, 30, 2⟩
def Fld.STR_TRIG_WIDTH : Fld := ⟨.STR_TRIG, 27, 3⟩
def Fld.STR_TRIG_MULT : Fld := ⟨.STR_TRIG, 12, 13⟩
def Fld.STR_TRIG_K : Fld := ⟨.STR_TRIG, 0, 4⟩
/-! STR_HOLD (Table 05.14) -/
def Fld.STR_HOLD_HOLDOFF : Fld := ⟨.STR_HOLD, 0, 12⟩
/-! STR_AUTO (Table 05.14) -/
def Fld.STR_AUTO_AUTO_SLOTS : Fld := ⟨.STR_AUTO, 0, 16⟩
/-! STR_CALT (Table 05.14) -/
def Fld.STR_CALT_CAL_INJ : Fld := ⟨.STR_CALT, 17, 1⟩
def Fld.STR_CALT_CAL_LIGHT : Fld := ⟨.STR_CALT, 16, 1⟩
def Fld.STR_CALT_CAL_DELAY : Fld := ⟨.STR_CALT, 0, 10⟩
/-! STR_SRCCLS (Table 05.14) -/
def Fld.STR_SRCCLS_CLS : Fld := ⟨.STR_SRCCLS, 0, 10⟩
/-! STR_ROI (Table 05.14) -/
def Fld.STR_ROI_ROI_R : Fld := ⟨.STR_ROI, 0, 3⟩
/-! STR_BUDGET (Table 05.14) -/
def Fld.STR_BUDGET_QBUDGET : Fld := ⟨.STR_BUDGET, 0, 16⟩
/-! STR_CLASS (Table 05.14) -/
def Fld.STR_CLASS_ROI_MODE : Fld := ⟨.STR_CLASS, 30, 2⟩
def Fld.STR_CLASS_NWINM1 : Fld := ⟨.STR_CLASS, 28, 2⟩
def Fld.STR_CLASS_POST : Fld := ⟨.STR_CLASS, 18, 10⟩
def Fld.STR_CLASS_WINM1 : Fld := ⟨.STR_CLASS, 8, 8⟩
def Fld.STR_CLASS_PRE : Fld := ⟨.STR_CLASS, 0, 8⟩
/-! STR_STAT (Table 05.14) -/
def Fld.STR_STAT_CLAMP : Fld := ⟨.STR_STAT, 28, 4⟩
def Fld.STR_STAT_CTX_BUSY : Fld := ⟨.STR_STAT, 24, 4⟩
def Fld.STR_STAT_FALLBACK : Fld := ⟨.STR_STAT, 23, 1⟩
def Fld.STR_STAT_FB_CAUSE : Fld := ⟨.STR_STAT, 22, 1⟩
def Fld.STR_STAT_NBR_LOST : Fld := ⟨.STR_STAT, 20, 2⟩
def Fld.STR_STAT_PEND : Fld := ⟨.STR_STAT, 0, 4⟩
/-! STR_TRIGNO (Table 05.14) -/
def Fld.STR_TRIGNO_TRIGNO : Fld := ⟨.STR_TRIGNO, 0, 32⟩
/-! STR_CTXTO (Table 05.14) -/
def Fld.STR_CTXTO_CTX_TIMEOUT : Fld := ⟨.STR_CTXTO, 0, 16⟩
/-! STR_CNT0 (Table 05.14) -/
def Fld.STR_CNT0_ACCEPTED : Fld := ⟨.STR_CNT0, 16, 16⟩
def Fld.STR_CNT0_LOST_BUSY : Fld := ⟨.STR_CNT0, 0, 16⟩
/-! STR_CNT1 (Table 05.14) -/
def Fld.STR_CNT1_LOST_HOLD : Fld := ⟨.STR_CNT1, 16, 16⟩
def Fld.STR_CNT1_STREAMED : Fld := ⟨.STR_CNT1, 0, 16⟩
/-! STR_CNT2 (Table 05.14) -/
def Fld.STR_CNT2_LATE : Fld := ⟨.STR_CNT2, 16, 16⟩
def Fld.STR_CNT2_EMPTY : Fld := ⟨.STR_CNT2, 0, 16⟩
/-! STR_CNT3 (Table 05.14) -/
def Fld.STR_CNT3_LOST_BUDGET : Fld := ⟨.STR_CNT3, 16, 16⟩
def Fld.STR_CNT3_DIE_REFUSED : Fld := ⟨.STR_CNT3, 0, 16⟩
/-! STR_CNT4 (Table 05.14) -/
def Fld.STR_CNT4_STALE_REC : Fld := ⟨.STR_CNT4, 16, 16⟩
def Fld.STR_CNT4_REC_MISSING : Fld := ⟨.STR_CNT4, 0, 16⟩
/-! STR_CNT5 (Table 05.14) -/
def Fld.STR_CNT5_TRUNC : Fld := ⟨.STR_CNT5, 16, 16⟩
def Fld.STR_CNT5_POOL_DROP : Fld := ⟨.STR_CNT5, 0, 16⟩
/-! STR_CNT6 (Table 05.14) -/
def Fld.STR_CNT6_FB_ENTRIES : Fld := ⟨.STR_CNT6, 16, 16⟩
def Fld.STR_CNT6_SEGRECS : Fld := ⟨.STR_CNT6, 0, 16⟩
/-! STR_POOLDESC (Table 05.14) -/
def Fld.STR_POOLDESC_FREE_DESC : Fld := ⟨.STR_POOLDESC, 0, 15⟩
/-! STR_POOLGRAN (Table 05.14) -/
def Fld.STR_POOLGRAN_FREE_GRAN : Fld := ⟨.STR_POOLGRAN, 0, 17⟩
/-! STR_RESUME (Table 05.14) -/
def Fld.STR_RESUME_RESUME_G16 : Fld := ⟨.STR_RESUME, 16, 12⟩
def Fld.STR_RESUME_RESUME_DESC : Fld := ⟨.STR_RESUME, 0, 15⟩
/-! STR_NBR (Table 05.14) -/
def Fld.STR_NBR_SEND_EN : Fld := ⟨.STR_NBR, 10, 1⟩
def Fld.STR_NBR_SEND_SIDE : Fld := ⟨.STR_NBR, 8, 2⟩
def Fld.STR_NBR_CIB_REV : Fld := ⟨.STR_NBR, 7, 1⟩
def Fld.STR_NBR_CIB_EN : Fld := ⟨.STR_NBR, 6, 1⟩
def Fld.STR_NBR_CIB_SIDE : Fld := ⟨.STR_NBR, 4, 2⟩
def Fld.STR_NBR_CIA_REV : Fld := ⟨.STR_NBR, 3, 1⟩
def Fld.STR_NBR_CIA_EN : Fld := ⟨.STR_NBR, 2, 1⟩
def Fld.STR_NBR_CIA_SIDE : Fld := ⟨.STR_NBR, 0, 2⟩
/-! STR_MAPADDR (Table 05.14) -/
def Fld.STR_MAPADDR_AINC : Fld := ⟨.STR_MAPADDR, 31, 1⟩
def Fld.STR_MAPADDR_ADDR : Fld := ⟨.STR_MAPADDR, 0, 12⟩
/-! STR_MAPDATA (Table 05.14) -/
def Fld.STR_MAPDATA_VALID : Fld := ⟨.STR_MAPDATA, 15, 1⟩
def Fld.STR_MAPDATA_GCHAN : Fld := ⟨.STR_MAPDATA, 0, 12⟩
/-! STR_ROIMASK (Table 05.14) -/
def Fld.STR_ROIMASK_GROUPS : Fld := ⟨.STR_ROIMASK, 0, 16⟩
/-! SP_CTRL (Table 06.10) -/
def Fld.SP_CTRL_EMPTY_EN : Fld := ⟨.SP_CTRL, 16, 8⟩
def Fld.SP_CTRL_TOT_MIN : Fld := ⟨.SP_CTRL, 0, 12⟩
/-! SP_AMB (Table 06.10) -/
def Fld.SP_AMB_AMB_REFRESH : Fld := ⟨.SP_AMB, 16, 16⟩
def Fld.SP_AMB_AMB_DELTA : Fld := ⟨.SP_AMB, 0, 16⟩
/-! SP_WAIT (Table 06.10) -/
def Fld.SP_WAIT_GATE_WAIT : Fld := ⟨.SP_WAIT, 16, 16⟩
def Fld.SP_WAIT_MARKER_WAIT : Fld := ⟨.SP_WAIT, 0, 16⟩
/-! SP_STAT (Table 06.10) -/
def Fld.SP_STAT_ABSENT_LAST : Fld := ⟨.SP_STAT, 0, 16⟩
/-! SP_CNT0 (Table 06.10) -/
def Fld.SP_CNT0_ZS_TOT : Fld := ⟨.SP_CNT0, 16, 16⟩
def Fld.SP_CNT0_ZS_GATE : Fld := ⟨.SP_CNT0, 0, 16⟩
/-! SP_CNT1 (Table 06.10) -/
def Fld.SP_CNT1_MARKER_LATE : Fld := ⟨.SP_CNT1, 16, 16⟩
def Fld.SP_CNT1_MARKER_SEQ : Fld := ⟨.SP_CNT1, 0, 16⟩
/-! SP_CNT2 (Table 06.10) -/
def Fld.SP_CNT2_LATE_WORDS : Fld := ⟨.SP_CNT2, 16, 16⟩
def Fld.SP_CNT2_GATE_LATE : Fld := ⟨.SP_CNT2, 0, 16⟩
/-! SP_CNT3 (Table 06.10) -/
def Fld.SP_CNT3_ZS_AMB : Fld := ⟨.SP_CNT3, 16, 16⟩
/-! SP_DLOST (Table 06.10) -/
def Fld.SP_DLOST_DLOST : Fld := ⟨.SP_DLOST, 0, 32⟩
/-! SP_SEQ (Table 06.10) -/
def Fld.SP_SEQ_NEXT_SEQ : Fld := ⟨.SP_SEQ, 0, 32⟩
/-! STI_CTRL (Table 07.9) -/
def Fld.STI_CTRL_MERGE_DL : Fld := ⟨.STI_CTRL, 16, 16⟩
def Fld.STI_CTRL_LATE_LIMIT : Fld := ⟨.STI_CTRL, 8, 8⟩
def Fld.STI_CTRL_RING : Fld := ⟨.STI_CTRL, 4, 1⟩
def Fld.STI_CTRL_DEDUP : Fld := ⟨.STI_CTRL, 3, 1⟩
def Fld.STI_CTRL_CIB_EN : Fld := ⟨.STI_CTRL, 2, 1⟩
def Fld.STI_CTRL_CIA_EN : Fld := ⟨.STI_CTRL, 1, 1⟩
/-! STI_STAT (Table 07.9) -/
def Fld.STI_STAT_WIN_FULL : Fld := ⟨.STI_STAT, 8, 1⟩
def Fld.STI_STAT_CIB_STATE : Fld := ⟨.STI_STAT, 4, 2⟩
def Fld.STI_STAT_CIA_STATE : Fld := ⟨.STI_STAT, 0, 2⟩
/-! STI_EMIT_LO (Table 07.9) -/
def Fld.STI_EMIT_LO_EMIT_LO : Fld := ⟨.STI_EMIT_LO, 0, 32⟩
/-! STI_EMIT_HI (Table 07.9) -/
def Fld.STI_EMIT_HI_EMIT_HI : Fld := ⟨.STI_EMIT_HI, 0, 16⟩
/-! STI_WIN (Table 07.9) -/
def Fld.STI_WIN_USED_KIB : Fld := ⟨.STI_WIN, 16, 16⟩
def Fld.STI_WIN_PEAK_KIB : Fld := ⟨.STI_WIN, 0, 16⟩
/-! STI_CNT0 (Table 07.9) -/
def Fld.STI_CNT0_LATE_FWD : Fld := ⟨.STI_CNT0, 16, 16⟩
def Fld.STI_CNT0_CI_RANGE : Fld := ⟨.STI_CNT0, 0, 16⟩
/-! STI_CNT1 (Table 07.9) -/
def Fld.STI_CNT1_DUP : Fld := ⟨.STI_CNT1, 16, 16⟩
def Fld.STI_CNT1_SEQ_STALE : Fld := ⟨.STI_CNT1, 0, 16⟩
/-! STI_CNT2 (Table 07.9) -/
def Fld.STI_CNT2_SEQ_FAULT : Fld := ⟨.STI_CNT2, 16, 16⟩
def Fld.STI_CNT2_CI_HCRC : Fld := ⟨.STI_CNT2, 0, 16⟩
/-! STI_CNT3 (Table 07.9) -/
def Fld.STI_CNT3_CI_PCRC : Fld := ⟨.STI_CNT3, 16, 16⟩
def Fld.STI_CNT3_CI_PARTIAL : Fld := ⟨.STI_CNT3, 0, 16⟩
/-! STI_CNT4 (Table 07.9) -/
def Fld.STI_CNT4_ABS_CIA : Fld := ⟨.STI_CNT4, 16, 16⟩
def Fld.STI_CNT4_ABS_CIB : Fld := ⟨.STI_CNT4, 0, 16⟩
/-! STI_CNT5 (Table 07.9) -/
def Fld.STI_CNT5_WIN_DROP : Fld := ⟨.STI_CNT5, 16, 16⟩
def Fld.STI_CNT5_OWN_RETURN : Fld := ⟨.STI_CNT5, 0, 16⟩
/-! STI_CNT6 (Table 07.9) -/
def Fld.STI_CNT6_SLIP_PREV : Fld := ⟨.STI_CNT6, 16, 16⟩
def Fld.STI_CNT6_SLIP_NEXT : Fld := ⟨.STI_CNT6, 0, 16⟩
/-! STI_CNT7 (Table 07.9) -/
def Fld.STI_CNT7_HIT_RANGE : Fld := ⟨.STI_CNT7, 16, 16⟩
/-! STI_SHED (Table 07.9) -/
def Fld.STI_SHED_SHED : Fld := ⟨.STI_SHED, 0, 32⟩
/-! SKV_CTRL (Table 08.8) -/
def Fld.SKV_CTRL_ENG_EN : Fld := ⟨.SKV_CTRL, 16, 16⟩
def Fld.SKV_CTRL_VFAIL_LIMIT : Fld := ⟨.SKV_CTRL, 8, 4⟩
def Fld.SKV_CTRL_CHAIN : Fld := ⟨.SKV_CTRL, 0, 6⟩
/-! SKV_MODE (Table 08.8) -/
def Fld.SKV_MODE_MODE : Fld := ⟨.SKV_MODE, 0, 16⟩
/-! SKV_LOSS (Table 08.8) -/
def Fld.SKV_LOSS_REQ_K_LG : Fld := ⟨.SKV_LOSS, 8, 3⟩
def Fld.SKV_LOSS_REQ_K_HG : Fld := ⟨.SKV_LOSS, 4, 3⟩
def Fld.SKV_LOSS_FINE_M : Fld := ⟨.SKV_LOSS, 1, 3⟩
def Fld.SKV_LOSS_TOT_LOG : Fld := ⟨.SKV_LOSS, 0, 1⟩
/-! SKV_STAT (Table 08.8) -/
def Fld.SKV_STAT_ENG_OUT : Fld := ⟨.SKV_STAT, 16, 16⟩
def Fld.SKV_STAT_ENG_BUSY : Fld := ⟨.SKV_STAT, 0, 16⟩
/-! SKV_VFAIL (Table 08.8) -/
def Fld.SKV_VFAIL_LAST_ENG : Fld := ⟨.SKV_VFAIL, 28, 4⟩
def Fld.SKV_VFAIL_LAST_FAULT : Fld := ⟨.SKV_VFAIL, 26, 2⟩
def Fld.SKV_VFAIL_LAST_STREAM : Fld := ⟨.SKV_VFAIL, 16, 4⟩
def Fld.SKV_VFAIL_VERIFY_FAIL : Fld := ⟨.SKV_VFAIL, 0, 16⟩
/-! SKV_CNT0 (Table 08.8) -/
def Fld.SKV_CNT0_STORED_WHOLE : Fld := ⟨.SKV_CNT0, 16, 16⟩
def Fld.SKV_CNT0_STORED_PART : Fld := ⟨.SKV_CNT0, 0, 16⟩
/-! SKV_CNT1 (Table 08.8) -/
def Fld.SKV_CNT1_INFLATE_FAULT : Fld := ⟨.SKV_CNT1, 16, 16⟩
def Fld.SKV_CNT1_INSP_FAULT : Fld := ⟨.SKV_CNT1, 0, 16⟩
/-! SKV_CNT2 (Table 08.8) -/
def Fld.SKV_CNT2_BACKLOG : Fld := ⟨.SKV_CNT2, 16, 16⟩
/-! SKV_IN_LO (Table 08.8) -/
def Fld.SKV_IN_LO_IN_LO : Fld := ⟨.SKV_IN_LO, 0, 32⟩
/-! SKV_IN_HI (Table 08.8) -/
def Fld.SKV_IN_HI_IN_HI : Fld := ⟨.SKV_IN_HI, 0, 32⟩
/-! SKV_OUT_LO (Table 08.8) -/
def Fld.SKV_OUT_LO_OUT_LO : Fld := ⟨.SKV_OUT_LO, 0, 32⟩
/-! SKV_OUT_HI (Table 08.8) -/
def Fld.SKV_OUT_HI_OUT_HI : Fld := ⟨.SKV_OUT_HI, 0, 32⟩
/-! SKV_INSP_SRC (Table 08.8) -/
def Fld.SKV_INSP_SRC_SRC : Fld := ⟨.SKV_INSP_SRC, 3, 22⟩
/-! SKV_INSP_INLEN (Table 08.8) -/
def Fld.SKV_INSP_INLEN_INLEN : Fld := ⟨.SKV_INSP_INLEN, 0, 24⟩
/-! SKV_INSP_OUTMAX (Table 08.8) -/
def Fld.SKV_INSP_OUTMAX_OUTMAX : Fld := ⟨.SKV_INSP_OUTMAX, 0, 24⟩
/-! SKV_INSP_CTRL (Table 08.8) -/
def Fld.SKV_INSP_CTRL_BUSY : Fld := ⟨.SKV_INSP_CTRL, 31, 1⟩
def Fld.SKV_INSP_CTRL_DONE : Fld := ⟨.SKV_INSP_CTRL, 30, 1⟩
def Fld.SKV_INSP_CTRL_FAULT : Fld := ⟨.SKV_INSP_CTRL, 28, 2⟩
def Fld.SKV_INSP_CTRL_GO : Fld := ⟨.SKV_INSP_CTRL, 0, 1⟩
/-! SKV_INSP_RES (Table 08.8) -/
def Fld.SKV_INSP_RES_OUTLEN : Fld := ⟨.SKV_INSP_RES, 0, 24⟩
/-! SKV_INSP_OCRC (Table 08.8) -/
def Fld.SKV_INSP_OCRC_OCRC : Fld := ⟨.SKV_INSP_OCRC, 0, 32⟩
/-! SKV_INSP_FOFF (Table 08.8) -/
def Fld.SKV_INSP_FOFF_FOFF : Fld := ⟨.SKV_INSP_FOFF, 0, 24⟩
/-! GIR_CTRL (Table 09.8) -/
def Fld.GIR_CTRL_FORCE_HOLD : Fld := ⟨.GIR_CTRL, 8, 1⟩
def Fld.GIR_CTRL_LEARN_EN : Fld := ⟨.GIR_CTRL, 4, 1⟩
def Fld.GIR_CTRL_SNAP : Fld := ⟨.GIR_CTRL, 3, 1⟩
def Fld.GIR_CTRL_REVERT : Fld := ⟨.GIR_CTRL, 2, 1⟩
def Fld.GIR_CTRL_ALT_EN : Fld := ⟨.GIR_CTRL, 1, 1⟩
def Fld.GIR_CTRL_TMI_EN : Fld := ⟨.GIR_CTRL, 0, 1⟩
/-! GIR_STAT (Table 09.8) -/
def Fld.GIR_STAT_GMID : Fld := ⟨.GIR_STAT, 16, 16⟩
def Fld.GIR_STAT_MASTER_PEND : Fld := ⟨.GIR_STAT, 10, 1⟩
def Fld.GIR_STAT_SLEWING : Fld := ⟨.GIR_STAT, 9, 1⟩
def Fld.GIR_STAT_TIME_VALID : Fld := ⟨.GIR_STAT, 8, 1⟩
def Fld.GIR_STAT_XTAL_VALID : Fld := ⟨.GIR_STAT, 7, 1⟩
def Fld.GIR_STAT_PLL_LOCK : Fld := ⟨.GIR_STAT, 6, 1⟩
def Fld.GIR_STAT_ALT_OK : Fld := ⟨.GIR_STAT, 5, 1⟩
def Fld.GIR_STAT_TMI_OK : Fld := ⟨.GIR_STAT, 4, 1⟩
def Fld.GIR_STAT_REFSEL : Fld := ⟨.GIR_STAT, 0, 3⟩
/-! GIR_SERVO (Table 09.8) -/
def Fld.GIR_SERVO_LOCK_WIN : Fld := ⟨.GIR_SERVO, 16, 16⟩
def Fld.GIR_SERVO_CONFIRM_N : Fld := ⟨.GIR_SERVO, 8, 4⟩
def Fld.GIR_SERVO_GAIN_SHIFT : Fld := ⟨.GIR_SERVO, 0, 4⟩
/-! GIR_STEP (Table 09.8) -/
def Fld.GIR_STEP_SLEW_STEP : Fld := ⟨.GIR_STEP, 24, 8⟩
def Fld.GIR_STEP_STEP_MAX : Fld := ⟨.GIR_STEP, 0, 15⟩
/-! GIR_DLY_TMI (Table 09.8) -/
def Fld.GIR_DLY_TMI_DLY_TMI : Fld := ⟨.GIR_DLY_TMI, 0, 32⟩
/-! GIR_DLY_ALT (Table 09.8) -/
def Fld.GIR_DLY_ALT_DLY_ALT : Fld := ⟨.GIR_DLY_ALT, 0, 32⟩
/-! GIR_RXLAT (Table 09.8) -/
def Fld.GIR_RXLAT_ALT_LAT : Fld := ⟨.GIR_RXLAT, 16, 16⟩
def Fld.GIR_RXLAT_TMI_LAT : Fld := ⟨.GIR_RXLAT, 0, 16⟩
/-! GIR_SYNCTO (Table 09.8) -/
def Fld.GIR_SYNCTO_SYNC_TO : Fld := ⟨.GIR_SYNCTO, 0, 16⟩
/-! GIR_AGE (Table 09.8) -/
def Fld.GIR_AGE_AGE : Fld := ⟨.GIR_AGE, 0, 16⟩
/-! GIR_LEARN (Table 09.8) -/
def Fld.GIR_LEARN_LEARN_TC : Fld := ⟨.GIR_LEARN, 0, 5⟩
/-! GIR_XTAL_LO (Table 09.8) -/
def Fld.GIR_XTAL_LO_XTAL_LO : Fld := ⟨.GIR_XTAL_LO, 0, 32⟩
/-! GIR_XTAL_HI (Table 09.8) -/
def Fld.GIR_XTAL_HI_XTAL_HI : Fld := ⟨.GIR_XTAL_HI, 0, 16⟩
/-! GIR_NOW_LO (Table 09.8) -/
def Fld.GIR_NOW_LO_NOW_LO : Fld := ⟨.GIR_NOW_LO, 0, 32⟩
/-! GIR_NOW_HI (Table 09.8) -/
def Fld.GIR_NOW_HI_NOW_HI : Fld := ⟨.GIR_NOW_HI, 0, 32⟩
/-! GIR_NOW_FINE (Table 09.8) -/
def Fld.GIR_NOW_FINE_FINE : Fld := ⟨.GIR_NOW_FINE, 0, 7⟩
/-! GIR_FRC_LO (Table 09.8) -/
def Fld.GIR_FRC_LO_FRC_LO : Fld := ⟨.GIR_FRC_LO, 0, 32⟩
/-! GIR_FRC_HI (Table 09.8) -/
def Fld.GIR_FRC_HI_FRC_HI : Fld := ⟨.GIR_FRC_HI, 0, 32⟩
/-! GIR_THETA (Table 09.8) -/
def Fld.GIR_THETA_THETA : Fld := ⟨.GIR_THETA, 0, 32⟩
/-! GIR_SYNCSEQ (Table 09.8) -/
def Fld.GIR_SYNCSEQ_LAST_GMID : Fld := ⟨.GIR_SYNCSEQ, 16, 16⟩
def Fld.GIR_SYNCSEQ_LAST_SSEQ : Fld := ⟨.GIR_SYNCSEQ, 0, 16⟩
/-! GIR_SNAP_SLOT_LO (Table 09.8) -/
def Fld.GIR_SNAP_SLOT_LO_SLOT_LO : Fld := ⟨.GIR_SNAP_SLOT_LO, 0, 32⟩
/-! GIR_SNAP_SLOT_HI (Table 09.8) -/
def Fld.GIR_SNAP_SLOT_HI_SLOT_HI : Fld := ⟨.GIR_SNAP_SLOT_HI, 0, 16⟩
/-! GIR_SNAP_SIG_LO (Table 09.8) -/
def Fld.GIR_SNAP_SIG_LO_SIG_LO : Fld := ⟨.GIR_SNAP_SIG_LO, 0, 32⟩
/-! GIR_SNAP_SIG_HI (Table 09.8) -/
def Fld.GIR_SNAP_SIG_HI_SIG_HI : Fld := ⟨.GIR_SNAP_SIG_HI, 0, 32⟩
/-! GIR_SNAP_REF_LO (Table 09.8) -/
def Fld.GIR_SNAP_REF_LO_REF_LO : Fld := ⟨.GIR_SNAP_REF_LO, 0, 32⟩
/-! GIR_SNAP_REF_HI (Table 09.8) -/
def Fld.GIR_SNAP_REF_HI_REF_HI : Fld := ⟨.GIR_SNAP_REF_HI, 0, 32⟩
/-! GIR_SNAP_RATE_LO (Table 09.8) -/
def Fld.GIR_SNAP_RATE_LO_RATE_LO : Fld := ⟨.GIR_SNAP_RATE_LO, 0, 32⟩
/-! GIR_SNAP_RATE_HI (Table 09.8) -/
def Fld.GIR_SNAP_RATE_HI_RATE_HI : Fld := ⟨.GIR_SNAP_RATE_HI, 0, 16⟩
/-! GIR_SNAP_OFFS0 (Table 09.8) -/
def Fld.GIR_SNAP_OFFS0_OFFS0 : Fld := ⟨.GIR_SNAP_OFFS0, 0, 32⟩
/-! GIR_SNAP_OFFS1 (Table 09.8) -/
def Fld.GIR_SNAP_OFFS1_OFFS1 : Fld := ⟨.GIR_SNAP_OFFS1, 0, 32⟩
/-! GIR_SNAP_OFFS2 (Table 09.8) -/
def Fld.GIR_SNAP_OFFS2_OFFS2 : Fld := ⟨.GIR_SNAP_OFFS2, 0, 32⟩
/-! GIR_CNT0 (Table 09.8) -/
def Fld.GIR_CNT0_SYNC_OK : Fld := ⟨.GIR_CNT0, 16, 16⟩
def Fld.GIR_CNT0_SYNC_REJ : Fld := ⟨.GIR_CNT0, 0, 16⟩
/-! GIR_CNT1 (Table 09.8) -/
def Fld.GIR_CNT1_STEPS : Fld := ⟨.GIR_CNT1, 16, 16⟩
def Fld.GIR_CNT1_SLEWS : Fld := ⟨.GIR_CNT1, 0, 16⟩
/-! GIR_CNT2 (Table 09.8) -/
def Fld.GIR_CNT2_REF_SW : Fld := ⟨.GIR_CNT2, 16, 16⟩
def Fld.GIR_CNT2_HOLD_ENTRIES : Fld := ⟨.GIR_CNT2, 0, 16⟩
/-! GIR_CNT3 (Table 09.8) -/
def Fld.GIR_CNT3_ECHO_SENT : Fld := ⟨.GIR_CNT3, 16, 16⟩
def Fld.GIR_CNT3_ECHO_RX : Fld := ⟨.GIR_CNT3, 0, 16⟩
/-! HAR_CTRL (Table 10.9) -/
def Fld.HAR_CTRL_BLD_B_RESTART : Fld := ⟨.HAR_CTRL, 11, 1⟩
def Fld.HAR_CTRL_BLD_A_RESTART : Fld := ⟨.HAR_CTRL, 10, 1⟩
def Fld.HAR_CTRL_TMO_EN : Fld := ⟨.HAR_CTRL, 7, 1⟩
def Fld.HAR_CTRL_UPB_EN : Fld := ⟨.HAR_CTRL, 6, 1⟩
def Fld.HAR_CTRL_UPA_EN : Fld := ⟨.HAR_CTRL, 5, 1⟩
def Fld.HAR_CTRL_MIRROR : Fld := ⟨.HAR_CTRL, 4, 1⟩
/-! HAR_STAT (Table 10.9) -/
def Fld.HAR_STAT_CIB_PORT : Fld := ⟨.HAR_STAT, 14, 2⟩
def Fld.HAR_STAT_CIA_PORT : Fld := ⟨.HAR_STAT, 12, 2⟩
def Fld.HAR_STAT_TMO_SRC : Fld := ⟨.HAR_STAT, 9, 1⟩
def Fld.HAR_STAT_TMO_IDLE : Fld := ⟨.HAR_STAT, 8, 1⟩
def Fld.HAR_STAT_WIT_FAIL : Fld := ⟨.HAR_STAT, 5, 1⟩
def Fld.HAR_STAT_DEGRADED : Fld := ⟨.HAR_STAT, 4, 1⟩
def Fld.HAR_STAT_BLD_B_FAIL : Fld := ⟨.HAR_STAT, 3, 1⟩
def Fld.HAR_STAT_BLD_A_FAIL : Fld := ⟨.HAR_STAT, 2, 1⟩
/-! HAR_EQ (Table 10.9) -/
def Fld.HAR_EQ_EQ_PERIOD : Fld := ⟨.HAR_EQ, 24, 8⟩
def Fld.HAR_EQ_EYE_MIN : Fld := ⟨.HAR_EQ, 0, 10⟩
/-! HAR_CNT0 (Table 10.9) -/
def Fld.HAR_CNT0_DIS_A : Fld := ⟨.HAR_CNT0, 16, 16⟩
def Fld.HAR_CNT0_DIS_B : Fld := ⟨.HAR_CNT0, 0, 16⟩
/-! HAR_CNT1 (Table 10.9) -/
def Fld.HAR_CNT1_DIS_W : Fld := ⟨.HAR_CNT1, 16, 16⟩
def Fld.HAR_CNT1_VOTE_NONE : Fld := ⟨.HAR_CNT1, 0, 16⟩
/-! HAR_CNT2 (Table 10.9) -/
def Fld.HAR_CNT2_REPLAYS : Fld := ⟨.HAR_CNT2, 16, 16⟩
def Fld.HAR_CNT2_SIDE_LATE : Fld := ⟨.HAR_CNT2, 0, 16⟩
/-! HAR_CNT3 (Table 10.9) -/
def Fld.HAR_CNT3_CI_FCRC : Fld := ⟨.HAR_CNT3, 16, 16⟩
def Fld.HAR_CNT3_CI_FBAD : Fld := ⟨.HAR_CNT3, 0, 16⟩
/-! HAR_CNT4 (Table 10.9) -/
def Fld.HAR_CNT4_ITEM_CRC : Fld := ⟨.HAR_CNT4, 16, 16⟩
def Fld.HAR_CNT4_TMI_MCRC : Fld := ⟨.HAR_CNT4, 0, 16⟩
/-! HAR_CNT5 (Table 10.9) -/
def Fld.HAR_CNT5_TMI_BAD : Fld := ⟨.HAR_CNT5, 16, 16⟩
def Fld.HAR_CNT5_ECHO_DROP : Fld := ⟨.HAR_CNT5, 0, 16⟩
/-! HAR_CNT6 (Table 10.9) -/
def Fld.HAR_CNT6_RET_LATE : Fld := ⟨.HAR_CNT6, 16, 16⟩
def Fld.HAR_CNT6_REG_TIMEOUT : Fld := ⟨.HAR_CNT6, 0, 16⟩
/-! HAR_SHLAT (Table 10.9) -/
def Fld.HAR_SHLAT_LAT : Fld := ⟨.HAR_SHLAT, 0, 10⟩
/-! HAR_RXL_CTRL (Table 10.9) -/
def Fld.HAR_RXL_CTRL_EQ_MAX : Fld := ⟨.HAR_RXL_CTRL, 28, 4⟩
def Fld.HAR_RXL_CTRL_EQ_MIN : Fld := ⟨.HAR_RXL_CTRL, 24, 4⟩
def Fld.HAR_RXL_CTRL_EQ_INIT : Fld := ⟨.HAR_RXL_CTRL, 20, 4⟩
def Fld.HAR_RXL_CTRL_WERR : Fld := ⟨.HAR_RXL_CTRL, 6, 1⟩
def Fld.HAR_RXL_CTRL_LOOP : Fld := ⟨.HAR_RXL_CTRL, 4, 2⟩
def Fld.HAR_RXL_CTRL_PRBS_EN : Fld := ⟨.HAR_RXL_CTRL, 3, 1⟩
def Fld.HAR_RXL_CTRL_ADAPT_EN : Fld := ⟨.HAR_RXL_CTRL, 2, 1⟩
def Fld.HAR_RXL_CTRL_SLIP : Fld := ⟨.HAR_RXL_CTRL, 1, 1⟩
def Fld.HAR_RXL_CTRL_LANE_EN : Fld := ⟨.HAR_RXL_CTRL, 0, 1⟩
/-! HAR_RXL_STAT (Table 10.9) -/
def Fld.HAR_RXL_STAT_EYE : Fld := ⟨.HAR_RXL_STAT, 22, 10⟩
def Fld.HAR_RXL_STAT_EQ_NOW : Fld := ⟨.HAR_RXL_STAT, 16, 4⟩
def Fld.HAR_RXL_STAT_SLIPS : Fld := ⟨.HAR_RXL_STAT, 9, 7⟩
def Fld.HAR_RXL_STAT_AT_BOUND : Fld := ⟨.HAR_RXL_STAT, 8, 1⟩
def Fld.HAR_RXL_STAT_SLIP_REQ : Fld := ⟨.HAR_RXL_STAT, 2, 1⟩
def Fld.HAR_RXL_STAT_STATE : Fld := ⟨.HAR_RXL_STAT, 0, 2⟩
/-! HAR_RXL_CNT (Table 10.9) -/
def Fld.HAR_RXL_CNT_LOCK_LOSS : Fld := ⟨.HAR_RXL_CNT, 16, 16⟩
def Fld.HAR_RXL_CNT_BAD_HDR : Fld := ⟨.HAR_RXL_CNT, 0, 16⟩
/-! HAR_RXL_PRBS (Table 10.9) -/
def Fld.HAR_RXL_PRBS_PRBS_ERR : Fld := ⟨.HAR_RXL_PRBS, 0, 32⟩
/-! HAR_TXL_CTRL (Table 10.9) -/
def Fld.HAR_TXL_CTRL_WERR : Fld := ⟨.HAR_TXL_CTRL, 6, 1⟩
def Fld.HAR_TXL_CTRL_LOOP : Fld := ⟨.HAR_TXL_CTRL, 4, 2⟩
def Fld.HAR_TXL_CTRL_PRBS_EN : Fld := ⟨.HAR_TXL_CTRL, 3, 1⟩
/-! HAR_TXL_PRBS (Table 10.9) -/
def Fld.HAR_TXL_PRBS_PRBS_ERR : Fld := ⟨.HAR_TXL_PRBS, 0, 32⟩
/-! SHL_CTRL (Table 10.10) -/
def Fld.SHL_CTRL_LOOP : Fld := ⟨.SHL_CTRL, 4, 2⟩
def Fld.SHL_CTRL_PRBS_EN : Fld := ⟨.SHL_CTRL, 3, 1⟩
/-! SHL_STAT (Table 10.10) -/
def Fld.SHL_STAT_CLK_OK : Fld := ⟨.SHL_STAT, 3, 1⟩
def Fld.SHL_STAT_TSET_DONE : Fld := ⟨.SHL_STAT, 2, 1⟩
def Fld.SHL_STAT_RET_STATE : Fld := ⟨.SHL_STAT, 0, 2⟩
/-! SHL_CNT (Table 10.10) -/
def Fld.SHL_CNT_RET_LOCK_LOSS : Fld := ⟨.SHL_CNT, 16, 16⟩
def Fld.SHL_CNT_RET_BADWORD : Fld := ⟨.SHL_CNT, 0, 16⟩
/-! HQD_CTRL (Table 11.4) -/
def Fld.HQD_CTRL_QAGE : Fld := ⟨.HQD_CTRL, 0, 16⟩
/-! HQD_STAT (Table 11.4) -/
def Fld.HQD_STAT_FULL : Fld := ⟨.HQD_STAT, 31, 1⟩
def Fld.HQD_STAT_DEPTH : Fld := ⟨.HQD_STAT, 0, 12⟩
/-! HQD_CNT (Table 11.4) -/
def Fld.HQD_CNT_OVERRUN : Fld := ⟨.HQD_CNT, 16, 16⟩
def Fld.HQD_CNT_AGED : Fld := ⟨.HQD_CNT, 0, 16⟩
/-! HQD_CNTB (Table 11.4) -/
def Fld.HQD_CNTB_DROPS : Fld := ⟨.HQD_CNTB, 16, 16⟩
def Fld.HQD_CNTB_RESYNCS : Fld := ⟨.HQD_CNTB, 0, 16⟩
/-! ING_STAT (Table 11.5) -/
def Fld.ING_STAT_ING_LOST : Fld := ⟨.ING_STAT, 16, 16⟩
def Fld.ING_STAT_DEPTH : Fld := ⟨.ING_STAT, 0, 13⟩
/-! ING_CNT (Table 11.5) -/
def Fld.ING_CNT_DROPS : Fld := ⟨.ING_CNT, 16, 16⟩
def Fld.ING_CNT_XLOST : Fld := ⟨.ING_CNT, 0, 16⟩
/-! TRE_CTRL (Table 12.7) -/
def Fld.TRE_CTRL_SCRUB_PERIOD : Fld := ⟨.TRE_CTRL, 16, 16⟩
def Fld.TRE_CTRL_ROW_HOT_LIMIT : Fld := ⟨.TRE_CTRL, 0, 8⟩
/-! TRE_SCRUB (Table 12.7) -/
def Fld.TRE_SCRUB_POS : Fld := ⟨.TRE_SCRUB, 3, 22⟩
/-! TRE_CNT0 (Table 12.7) -/
def Fld.TRE_CNT0_CORR_READ : Fld := ⟨.TRE_CNT0, 16, 16⟩
def Fld.TRE_CNT0_CORR_SCRUB : Fld := ⟨.TRE_CNT0, 0, 16⟩
/-! TRE_CNT1 (Table 12.7) -/
def Fld.TRE_CNT1_UNCORR_READ : Fld := ⟨.TRE_CNT1, 16, 16⟩
def Fld.TRE_CNT1_POISON_READ : Fld := ⟨.TRE_CNT1, 0, 16⟩
/-! TRE_CNT2 (Table 12.7) -/
def Fld.TRE_CNT2_POISONED : Fld := ⟨.TRE_CNT2, 16, 16⟩
def Fld.TRE_CNT2_REINIT : Fld := ⟨.TRE_CNT2, 0, 16⟩
/-! TRE_CNT3 (Table 12.7) -/
def Fld.TRE_CNT3_STALE_FIXED : Fld := ⟨.TRE_CNT3, 16, 16⟩
def Fld.TRE_CNT3_STALE_UNCORR : Fld := ⟨.TRE_CNT3, 0, 16⟩
/-! TRE_CNT4 (Table 12.7) -/
def Fld.TRE_CNT4_NEVER_WRITTEN : Fld := ⟨.TRE_CNT4, 16, 16⟩
def Fld.TRE_CNT4_MAP_LOST : Fld := ⟨.TRE_CNT4, 0, 16⟩
/-! TRE_CNT5 (Table 12.7) -/
def Fld.TRE_CNT5_PASSES : Fld := ⟨.TRE_CNT5, 16, 16⟩
def Fld.TRE_CNT5_REPAIRS : Fld := ⟨.TRE_CNT5, 0, 16⟩
/-! TRE_LOGPTR (Table 12.7) -/
def Fld.TRE_LOGPTR_NEXT : Fld := ⟨.TRE_LOGPTR, 0, 3⟩
/-! TRE_LOGA (Table 12.7) -/
def Fld.TRE_LOGA_VALID : Fld := ⟨.TRE_LOGA, 31, 1⟩
def Fld.TRE_LOGA_KIND : Fld := ⟨.TRE_LOGA, 29, 2⟩
def Fld.TRE_LOGA_OFFSET : Fld := ⟨.TRE_LOGA, 3, 22⟩
/-! TRE_LOGB (Table 12.7) -/
def Fld.TRE_LOGB_SLOT_LO : Fld := ⟨.TRE_LOGB, 0, 32⟩
/-! TRE_REPAIR (Table 12.7) -/
def Fld.TRE_REPAIR_GO : Fld := ⟨.TRE_REPAIR, 31, 1⟩
def Fld.TRE_REPAIR_BUSY : Fld := ⟨.TRE_REPAIR, 30, 1⟩
def Fld.TRE_REPAIR_REFUSED : Fld := ⟨.TRE_REPAIR, 29, 1⟩
def Fld.TRE_REPAIR_MACRO : Fld := ⟨.TRE_REPAIR, 22, 7⟩
def Fld.TRE_REPAIR_ROW : Fld := ⟨.TRE_REPAIR, 11, 11⟩
/-! TRE_SPARE_SEL (Table 12.7) -/
def Fld.TRE_SPARE_SEL_MACRO : Fld := ⟨.TRE_SPARE_SEL, 0, 7⟩
/-! TRE_SPARE_STAT (Table 12.7) -/
def Fld.TRE_SPARE_STAT_FUSED : Fld := ⟨.TRE_SPARE_STAT, 4, 4⟩
def Fld.TRE_SPARE_STAT_SOFT : Fld := ⟨.TRE_SPARE_STAT, 0, 4⟩
/-! TRE_ROWHOT (Table 12.7) -/
def Fld.TRE_ROWHOT_MACRO : Fld := ⟨.TRE_ROWHOT, 22, 7⟩
def Fld.TRE_ROWHOT_ROW : Fld := ⟨.TRE_ROWHOT, 11, 11⟩
/-! STP_CTRL (Table 13.7) -/
def Fld.STP_CTRL_DCB_SHIFT : Fld := ⟨.STP_CTRL, 8, 4⟩
def Fld.STP_CTRL_DCB_FREEZE : Fld := ⟨.STP_CTRL, 7, 1⟩
def Fld.STP_CTRL_FLK_LOG2 : Fld := ⟨.STP_CTRL, 4, 3⟩
def Fld.STP_CTRL_PRESET : Fld := ⟨.STP_CTRL, 2, 2⟩
def Fld.STP_CTRL_SYNC : Fld := ⟨.STP_CTRL, 1, 1⟩
def Fld.STP_CTRL_EN : Fld := ⟨.STP_CTRL, 0, 1⟩
/-! STP_OFFS (Table 13.7) -/
def Fld.STP_OFFS_OFFS : Fld := ⟨.STP_OFFS, 0, 16⟩
/-! STP_LEVEL (Table 13.7) -/
def Fld.STP_LEVEL_SETTLING : Fld := ⟨.STP_LEVEL, 31, 1⟩
def Fld.STP_LEVEL_OVL : Fld := ⟨.STP_LEVEL, 30, 1⟩
def Fld.STP_LEVEL_STALE : Fld := ⟨.STP_LEVEL, 29, 1⟩
def Fld.STP_LEVEL_LEVEL : Fld := ⟨.STP_LEVEL, 0, 24⟩
/-! STP_FLK (Table 13.7) -/
def Fld.STP_FLK_FLICKER : Fld := ⟨.STP_FLK, 0, 24⟩
/-! STP_CNT (Table 13.7) -/
def Fld.STP_CNT_OVL_COUNT : Fld := ⟨.STP_CNT, 16, 16⟩
def Fld.STP_CNT_RESETS : Fld := ⟨.STP_CNT, 0, 16⟩
/-! STPD_CTRL (Table 13.8) -/
def Fld.STPD_CTRL_SYNC_ALL : Fld := ⟨.STPD_CTRL, 31, 1⟩
def Fld.STPD_CTRL_FRZ_INJ : Fld := ⟨.STPD_CTRL, 16, 1⟩
def Fld.STPD_CTRL_FADE_LEN : Fld := ⟨.STPD_CTRL, 0, 12⟩
/-! STPD_BANK (Table 13.8) -/
def Fld.STPD_BANK_WERR : Fld := ⟨.STPD_BANK, 8, 1⟩
def Fld.STPD_BANK_REQ : Fld := ⟨.STPD_BANK, 7, 1⟩
def Fld.STPD_BANK_REQ_BANK : Fld := ⟨.STPD_BANK, 6, 1⟩
def Fld.STPD_BANK_PEND : Fld := ⟨.STPD_BANK, 5, 1⟩
def Fld.STPD_BANK_PEND_BANK : Fld := ⟨.STPD_BANK, 4, 1⟩
def Fld.STPD_BANK_FADING : Fld := ⟨.STPD_BANK, 3, 1⟩
def Fld.STPD_BANK_BANK : Fld := ⟨.STPD_BANK, 0, 1⟩
/-! STPD_FADE (Table 13.8) -/
def Fld.STPD_FADE_REPLACED : Fld := ⟨.STPD_FADE, 16, 16⟩
def Fld.STPD_FADE_FADE_POS : Fld := ⟨.STPD_FADE, 0, 12⟩
/-! STPD_MAX (Table 13.8) -/
def Fld.STPD_MAX_MAX : Fld := ⟨.STPD_MAX, 0, 24⟩
/-! STPD_SUMM (Table 13.8) -/
def Fld.STPD_SUMM_OVL : Fld := ⟨.STPD_SUMM, 9, 1⟩
def Fld.STPD_SUMM_NVALID : Fld := ⟨.STPD_SUMM, 0, 9⟩
/-! STPD_COEF_A (Table 13.8) -/
def Fld.STPD_COEF_A_H : Fld := ⟨.STPD_COEF_A, 0, 18⟩
/-! STPD_COEF_B (Table 13.8) -/
def Fld.STPD_COEF_B_H : Fld := ⟨.STPD_COEF_B, 0, 18⟩
/-! HK_CTRL (Table 14.6) -/
def Fld.HK_CTRL_PERIOD : Fld := ⟨.HK_CTRL, 16, 16⟩
/-! HK_MASK (Table 14.6) -/
def Fld.HK_MASK_MASK : Fld := ⟨.HK_MASK, 0, 32⟩
/-! HK_TIMING (Table 14.6) -/
def Fld.HK_TIMING_DISCH : Fld := ⟨.HK_TIMING, 8, 8⟩
def Fld.HK_TIMING_OW_TIME : Fld := ⟨.HK_TIMING, 0, 8⟩
/-! HK_PLAUS (Table 14.6) -/
def Fld.HK_PLAUS_PLAUS_TOL : Fld := ⟨.HK_PLAUS, 0, 16⟩
/-! HK_LAMP (Table 14.6) -/
def Fld.HK_LAMP_LAMP_EN : Fld := ⟨.HK_LAMP, 5, 1⟩
def Fld.HK_LAMP_LAMP_CH : Fld := ⟨.HK_LAMP, 0, 5⟩
/-! HK_URG (Table 14.6) -/
def Fld.HK_URG_GO : Fld := ⟨.HK_URG, 31, 1⟩
def Fld.HK_URG_CH : Fld := ⟨.HK_URG, 0, 5⟩
/-! HK_STAT (Table 14.6) -/
def Fld.HK_STAT_SCANNO : Fld := ⟨.HK_STAT, 16, 16⟩
def Fld.HK_STAT_SCANNING : Fld := ⟨.HK_STAT, 15, 1⟩
def Fld.HK_STAT_URG_BUSY : Fld := ⟨.HK_STAT, 14, 1⟩
def Fld.HK_STAT_URG_PEND : Fld := ⟨.HK_STAT, 11, 3⟩
/-! HK_OPEN (Table 14.6) -/
def Fld.HK_OPEN_OPEN : Fld := ⟨.HK_OPEN, 0, 32⟩
/-! HK_CNT0 (Table 14.6) -/
def Fld.HK_CNT0_SUSPECT : Fld := ⟨.HK_CNT0, 16, 16⟩
def Fld.HK_CNT0_CMW : Fld := ⟨.HK_CNT0, 0, 16⟩
/-! HK_CNT1 (Table 14.6) -/
def Fld.HK_CNT1_PLAUS_FAIL : Fld := ⟨.HK_CNT1, 16, 16⟩
def Fld.HK_CNT1_PLAUS_SKIP : Fld := ⟨.HK_CNT1, 0, 16⟩
/-! HK_CNT2 (Table 14.6) -/
def Fld.HK_CNT2_SCAN_LATE : Fld := ⟨.HK_CNT2, 16, 16⟩
def Fld.HK_CNT2_URG_REFUSED : Fld := ⟨.HK_CNT2, 0, 16⟩
/-! HK_CNT3 (Table 14.6) -/
def Fld.HK_CNT3_EXC_RESTART : Fld := ⟨.HK_CNT3, 16, 16⟩
def Fld.HK_CNT3_EX_WAIT : Fld := ⟨.HK_CNT3, 0, 16⟩
/-! HK_CNT4 (Table 14.6) -/
def Fld.HK_CNT4_SCANS : Fld := ⟨.HK_CNT4, 16, 16⟩
def Fld.HK_CNT4_URG_DONE : Fld := ⟨.HK_CNT4, 0, 16⟩
/-! HK_CHCFG (Table 14.6) -/
def Fld.HK_CHCFG_DIFF : Fld := ⟨.HK_CHCFG, 31, 1⟩
def Fld.HK_CHCFG_AUTO : Fld := ⟨.HK_CHCFG, 30, 1⟩
def Fld.HK_CHCFG_RANGE : Fld := ⟨.HK_CHCFG, 28, 2⟩
def Fld.HK_CHCFG_RMAX : Fld := ⟨.HK_CHCFG, 26, 2⟩
def Fld.HK_CHCFG_OW_PULL : Fld := ⟨.HK_CHCFG, 24, 2⟩
def Fld.HK_CHCFG_EXSRC : Fld := ⟨.HK_CHCFG, 21, 3⟩
def Fld.HK_CHCFG_EXCUR : Fld := ⟨.HK_CHCFG, 13, 8⟩
def Fld.HK_CHCFG_SETTLE : Fld := ⟨.HK_CHCFG, 5, 8⟩
/-! HK_CHWIN (Table 14.6) -/
def Fld.HK_CHWIN_CM_HI : Fld := ⟨.HK_CHWIN, 24, 8⟩
def Fld.HK_CHWIN_CM_LO : Fld := ⟨.HK_CHWIN, 16, 8⟩
def Fld.HK_CHWIN_OW_DELTA : Fld := ⟨.HK_CHWIN, 0, 16⟩
/-! HK_CHRES (Table 14.6) -/
def Fld.HK_CHRES_RANGE : Fld := ⟨.HK_CHRES, 30, 2⟩
def Fld.HK_CHRES_OVR : Fld := ⟨.HK_CHRES, 29, 1⟩
def Fld.HK_CHRES_SUSPECT : Fld := ⟨.HK_CHRES, 28, 1⟩
def Fld.HK_CHRES_CMW : Fld := ⟨.HK_CHRES, 27, 1⟩
def Fld.HK_CHRES_COMP : Fld := ⟨.HK_CHRES, 26, 1⟩
def Fld.HK_CHRES_OWT : Fld := ⟨.HK_CHRES, 25, 1⟩
def Fld.HK_CHRES_CODE : Fld := ⟨.HK_CHRES, 0, 16⟩
/-! BUR_CTRL (Table 15.3) -/
def Fld.BUR_CTRL_MAXINT : Fld := ⟨.BUR_CTRL, 16, 16⟩
def Fld.BUR_CTRL_CONC : Fld := ⟨.BUR_CTRL, 12, 4⟩
def Fld.BUR_CTRL_INJ_OK : Fld := ⟨.BUR_CTRL, 3, 1⟩
def Fld.BUR_CTRL_EN : Fld := ⟨.BUR_CTRL, 0, 3⟩
/-! BUR_STEP (Table 15.3) -/
def Fld.BUR_STEP_INJ_STEP : Fld := ⟨.BUR_STEP, 10, 5⟩
def Fld.BUR_STEP_PH_STEP : Fld := ⟨.BUR_STEP, 5, 5⟩
def Fld.BUR_STEP_CD_STEP : Fld := ⟨.BUR_STEP, 0, 5⟩
/-! BUR_CD (Table 15.3) -/
def Fld.BUR_CD_CD_TIMEOUT : Fld := ⟨.BUR_CD, 16, 16⟩
def Fld.BUR_CD_CD_LOG2 : Fld := ⟨.BUR_CD, 0, 5⟩
/-! BUR_PH (Table 15.3) -/
def Fld.BUR_PH_PH_TOL : Fld := ⟨.BUR_PH, 8, 8⟩
def Fld.BUR_PH_PH_AVG : Fld := ⟨.BUR_PH, 0, 4⟩
/-! BUR_INJ (Table 15.3) -/
def Fld.BUR_INJ_OFFS_N : Fld := ⟨.BUR_INJ, 24, 8⟩
def Fld.BUR_INJ_THR_N : Fld := ⟨.BUR_INJ, 16, 8⟩
def Fld.BUR_INJ_CAL_Q : Fld := ⟨.BUR_INJ, 0, 10⟩
/-! BUR_TCO (Table 15.3) -/
def Fld.BUR_TCO_TCO : Fld := ⟨.BUR_TCO, 0, 16⟩
/-! BUR_RUN (Table 15.3) -/
def Fld.BUR_RUN_DIES : Fld := ⟨.BUR_RUN, 16, 16⟩
def Fld.BUR_RUN_CLASS : Fld := ⟨.BUR_RUN, 0, 3⟩
/-! BUR_STAT (Table 15.3) -/
def Fld.BUR_STAT_LOCK : Fld := ⟨.BUR_STAT, 16, 16⟩
def Fld.BUR_STAT_WERR : Fld := ⟨.BUR_STAT, 0, 1⟩
/-! BUR_CNT0 (Table 15.3) -/
def Fld.BUR_CNT0_RUNS : Fld := ⟨.BUR_CNT0, 16, 16⟩
def Fld.BUR_CNT0_COMMITS : Fld := ⟨.BUR_CNT0, 0, 16⟩
/-! BUR_CNT1 (Table 15.3) -/
def Fld.BUR_CNT1_REJECTS : Fld := ⟨.BUR_CNT1, 16, 16⟩
def Fld.BUR_CNT1_ABORTS : Fld := ⟨.BUR_CNT1, 0, 16⟩
/-! BUR_CNT2 (Table 15.3) -/
def Fld.BUR_CNT2_STARVED : Fld := ⟨.BUR_CNT2, 16, 16⟩
def Fld.BUR_CNT2_THR_FAIL : Fld := ⟨.BUR_CNT2, 0, 16⟩
/-! BUR_QUAL (Table 15.3) -/
def Fld.BUR_QUAL_DNL_WORST : Fld := ⟨.BUR_QUAL, 24, 8⟩
def Fld.BUR_QUAL_INL_WORST : Fld := ⟨.BUR_QUAL, 16, 8⟩
def Fld.BUR_QUAL_THR_WORST : Fld := ⟨.BUR_QUAL, 8, 8⟩
/-! BURD_TEMP (Table 15.4) -/
def Fld.BURD_TEMP_STALE : Fld := ⟨.BURD_TEMP, 31, 1⟩
def Fld.BURD_TEMP_TEMP : Fld := ⟨.BURD_TEMP, 0, 16⟩
/-! BURD_HSEL (Table 15.4) -/
def Fld.BURD_HSEL_DONE : Fld := ⟨.BURD_HSEL, 28, 4⟩
def Fld.BURD_HSEL_CH : Fld := ⟨.BURD_HSEL, 0, 24⟩
/-! BURD_PHMEAS (Table 15.4) -/
def Fld.BURD_PHMEAS_PHI : Fld := ⟨.BURD_PHMEAS, 0, 16⟩
/-! BURD_ASYM (Table 15.4) -/
def Fld.BURD_ASYM_ASYM : Fld := ⟨.BURD_ASYM, 0, 16⟩
/-! BURD_INJREF (Table 15.4) -/
def Fld.BURD_INJREF_INJREF : Fld := ⟨.BURD_INJREF, 0, 16⟩
/-! BURD_QPK (Table 15.4) -/
def Fld.BURD_QPK_QPK : Fld := ⟨.BURD_QPK, 0, 16⟩
/-! BURD_APEROFS (Table 15.4) -/
def Fld.BURD_APEROFS_APEROFS : Fld := ⟨.BURD_APEROFS, 0, 16⟩
/-! BURD_TLAST0 (Table 15.4) -/
def Fld.BURD_TLAST0_T_CD : Fld := ⟨.BURD_TLAST0, 16, 16⟩
def Fld.BURD_TLAST0_T_PH : Fld := ⟨.BURD_TLAST0, 0, 16⟩
/-! BURD_TLAST1 (Table 15.4) -/
def Fld.BURD_TLAST1_T_INJ : Fld := ⟨.BURD_TLAST1, 0, 16⟩
/-! BURD_HSHORT (Table 15.4) -/
def Fld.BURD_HSHORT_COUNT : Fld := ⟨.BURD_HSHORT, 0, 20⟩
/-! BURD_HIST (Table 15.4) -/
def Fld.BURD_HIST_COUNT : Fld := ⟨.BURD_HIST, 0, 20⟩
/-! CAL_OFFS (Table 15.4) -/
def Fld.CAL_OFFS_OFFS_CAL : Fld := ⟨.CAL_OFFS, 0, 16⟩
/-! CAL_CHQ (Table 15.4) -/
def Fld.CAL_CHQ_FAIL : Fld := ⟨.CAL_CHQ, 31, 1⟩
def Fld.CAL_CHQ_TRG_RES : Fld := ⟨.CAL_CHQ, 16, 8⟩
def Fld.CAL_CHQ_TD_RES : Fld := ⟨.CAL_CHQ, 0, 8⟩
/-! RSE_CTRL (Table 16.3) -/
def Fld.RSE_CTRL_GLOBAL : Fld := ⟨.RSE_CTRL, 8, 8⟩
def Fld.RSE_CTRL_STOP : Fld := ⟨.RSE_CTRL, 4, 1⟩
def Fld.RSE_CTRL_COMP_EN : Fld := ⟨.RSE_CTRL, 3, 1⟩
def Fld.RSE_CTRL_PROOF_EN : Fld := ⟨.RSE_CTRL, 2, 1⟩
def Fld.RSE_CTRL_FAIL_ACT : Fld := ⟨.RSE_CTRL, 1, 1⟩
def Fld.RSE_CTRL_EN : Fld := ⟨.RSE_CTRL, 0, 1⟩
/-! RSE_STAT (Table 16.3) -/
def Fld.RSE_STAT_ARMED : Fld := ⟨.RSE_STAT, 6, 1⟩
def Fld.RSE_STAT_BROWN : Fld := ⟨.RSE_STAT, 5, 1⟩
def Fld.RSE_STAT_TEMP_STALE : Fld := ⟨.RSE_STAT, 4, 1⟩
def Fld.RSE_STAT_COL_OFF : Fld := ⟨.RSE_STAT, 1, 3⟩
def Fld.RSE_STAT_FUNC_OFF : Fld := ⟨.RSE_STAT, 0, 1⟩
/-! RSE_PULSE (Table 16.3) -/
def Fld.RSE_PULSE_POFF : Fld := ⟨.RSE_PULSE, 16, 16⟩
def Fld.RSE_PULSE_ARM : Fld := ⟨.RSE_PULSE, 15, 1⟩
def Fld.RSE_PULSE_COLOURS : Fld := ⟨.RSE_PULSE, 12, 3⟩
def Fld.RSE_PULSE_WIDTH : Fld := ⟨.RSE_PULSE, 0, 12⟩
/-! RSE_PPER (Table 16.3) -/
def Fld.RSE_PPER_PERIOD : Fld := ⟨.RSE_PPER, 16, 16⟩
def Fld.RSE_PPER_COUNT : Fld := ⟨.RSE_PPER, 0, 16⟩
/-! RSE_PROOF (Table 16.3) -/
def Fld.RSE_PROOF_PROOF_OFF : Fld := ⟨.RSE_PROOF, 16, 16⟩
def Fld.RSE_PROOF_PROOF_INT : Fld := ⟨.RSE_PROOF, 0, 16⟩
/-! RSE_DIAG (Table 16.3) -/
def Fld.RSE_DIAG_SHORT_V : Fld := ⟨.RSE_DIAG, 0, 8⟩
/-! RSE_TEMPTO (Table 16.3) -/
def Fld.RSE_TEMPTO_TEMP_TO : Fld := ⟨.RSE_TEMPTO, 0, 16⟩
/-! RSE_TEMPV (Table 16.3) -/
def Fld.RSE_TEMPV_V : Fld := ⟨.RSE_TEMPV, 0, 20⟩
/-! RSE_FAC (Table 16.3) -/
def Fld.RSE_FAC_FAC : Fld := ⟨.RSE_FAC, 0, 12⟩
/-! RSE_PULSENO (Table 16.3) -/
def Fld.RSE_PULSENO_PULSENO : Fld := ⟨.RSE_PULSENO, 0, 32⟩
/-! RSE_CNT0 (Table 16.3) -/
def Fld.RSE_CNT0_PULSES : Fld := ⟨.RSE_CNT0, 16, 16⟩
def Fld.RSE_CNT0_PROOFS : Fld := ⟨.RSE_CNT0, 0, 16⟩
/-! RSE_CNT1 (Table 16.3) -/
def Fld.RSE_CNT1_OPENS : Fld := ⟨.RSE_CNT1, 16, 16⟩
def Fld.RSE_CNT1_SHORTS : Fld := ⟨.RSE_CNT1, 0, 16⟩
/-! RSE_CNT2 (Table 16.3) -/
def Fld.RSE_CNT2_SUPPRESSED : Fld := ⟨.RSE_CNT2, 16, 16⟩
def Fld.RSE_CNT2_PROOF_LATE : Fld := ⟨.RSE_CNT2, 0, 16⟩
/-! RSE_COMP (Table 16.3) -/
def Fld.RSE_COMP_X : Fld := ⟨.RSE_COMP, 12, 20⟩
def Fld.RSE_COMP_F : Fld := ⟨.RSE_COMP, 0, 12⟩
/-! RSE_CH (Table 16.3) -/
def Fld.RSE_CH_MODE : Fld := ⟨.RSE_CH, 30, 2⟩
def Fld.RSE_CH_DUTY : Fld := ⟨.RSE_CH, 16, 12⟩
def Fld.RSE_CH_CUR : Fld := ⟨.RSE_CH, 0, 10⟩
/-! RSE_CHST (Table 16.3) -/
def Fld.RSE_CHST_OPEN : Fld := ⟨.RSE_CHST, 31, 1⟩
def Fld.RSE_CHST_SHORT : Fld := ⟨.RSE_CHST, 30, 1⟩
def Fld.RSE_CHST_CUR_EFF : Fld := ⟨.RSE_CHST, 0, 10⟩
/-! BRD_STAT (Table 17.8) -/
def Fld.BRD_STAT_SUN : Fld := ⟨.BRD_STAT, 28, 4⟩
def Fld.BRD_STAT_SECT_BAD : Fld := ⟨.BRD_STAT, 15, 1⟩
def Fld.BRD_STAT_SECT_PEND : Fld := ⟨.BRD_STAT, 14, 1⟩
def Fld.BRD_STAT_KEY_STUCK : Fld := ⟨.BRD_STAT, 13, 1⟩
def Fld.BRD_STAT_DEGRADED : Fld := ⟨.BRD_STAT, 12, 1⟩
def Fld.BRD_STAT_MON_IN : Fld := ⟨.BRD_STAT, 9, 3⟩
def Fld.BRD_STAT_FB_B : Fld := ⟨.BRD_STAT, 8, 1⟩
def Fld.BRD_STAT_FB_A : Fld := ⟨.BRD_STAT, 7, 1⟩
def Fld.BRD_STAT_EN_B : Fld := ⟨.BRD_STAT, 6, 1⟩
def Fld.BRD_STAT_EN_A : Fld := ⟨.BRD_STAT, 5, 1⟩
def Fld.BRD_STAT_STATE : Fld := ⟨.BRD_STAT, 0, 2⟩
/-! BRD_TRIP (Table 17.8) -/
def Fld.BRD_TRIP_CAUSE : Fld := ⟨.BRD_TRIP, 0, 4⟩
/-! BRD_MON (Table 17.8) -/
def Fld.BRD_MON_LOST : Fld := ⟨.BRD_MON, 31, 1⟩
def Fld.BRD_MON_REF_FAIL : Fld := ⟨.BRD_MON, 30, 1⟩
def Fld.BRD_MON_CODE : Fld := ⟨.BRD_MON, 0, 14⟩
/-! BRD_DEG (Table 17.8) -/
def Fld.BRD_DEG_DEG_USED : Fld := ⟨.BRD_DEG, 0, 18⟩
/-! BRD_SET (Table 17.8) -/
def Fld.BRD_SET_REQ : Fld := ⟨.BRD_SET, 16, 14⟩
def Fld.BRD_SET_SENT : Fld := ⟨.BRD_SET, 0, 14⟩
/-! BRD_CNT0 (Table 17.8) -/
def Fld.BRD_CNT0_TRIPS : Fld := ⟨.BRD_CNT0, 16, 16⟩
def Fld.BRD_CNT0_TESTS : Fld := ⟨.BRD_CNT0, 0, 16⟩
/-! BRD_CNT1 (Table 17.8) -/
def Fld.BRD_CNT1_KEY_REFUSED : Fld := ⟨.BRD_CNT1, 16, 16⟩
def Fld.BRD_CNT1_REQ_REFUSED : Fld := ⟨.BRD_CNT1, 0, 16⟩
/-! BRD_LIM0 (Table 17.9) -/
def Fld.BRD_LIM0_RAMP_MAX : Fld := ⟨.BRD_LIM0, 16, 14⟩
def Fld.BRD_LIM0_CEIL : Fld := ⟨.BRD_LIM0, 0, 14⟩
/-! BRD_LIM1 (Table 17.9) -/
def Fld.BRD_LIM1_DIR_TOL : Fld := ⟨.BRD_LIM1, 24, 8⟩
def Fld.BRD_LIM1_TRIP_N : Fld := ⟨.BRD_LIM1, 16, 5⟩
def Fld.BRD_LIM1_OFF_LEVEL : Fld := ⟨.BRD_LIM1, 0, 14⟩
/-! BRD_LIM2 (Table 17.9) -/
def Fld.BRD_LIM2_FB_LAT : Fld := ⟨.BRD_LIM2, 24, 7⟩
def Fld.BRD_LIM2_DISC_N : Fld := ⟨.BRD_LIM2, 16, 7⟩
def Fld.BRD_LIM2_DISC_TOL : Fld := ⟨.BRD_LIM2, 0, 10⟩
/-! BRD_LIM3 (Table 17.9) -/
def Fld.BRD_LIM3_AUTO_OFF : Fld := ⟨.BRD_LIM3, 24, 1⟩
def Fld.BRD_LIM3_DEG_MAX : Fld := ⟨.BRD_LIM3, 16, 7⟩
def Fld.BRD_LIM3_DESC_T : Fld := ⟨.BRD_LIM3, 0, 10⟩
/-! BRD_LIM4 (Table 17.9) -/
def Fld.BRD_LIM4_SUN_LIM : Fld := ⟨.BRD_LIM4, 0, 24⟩
/-! BRD_LIM5 (Table 17.9) -/
def Fld.BRD_LIM5_SUN_TRIP : Fld := ⟨.BRD_LIM5, 0, 24⟩
/-! BRD_LIM6 (Table 17.9) -/
def Fld.BRD_LIM6_SUN_CLR : Fld := ⟨.BRD_LIM6, 20, 10⟩
def Fld.BRD_LIM6_SUN_NMIN : Fld := ⟨.BRD_LIM6, 8, 9⟩
def Fld.BRD_LIM6_SUN_STALE : Fld := ⟨.BRD_LIM6, 0, 7⟩
/-! BRD_LIM7 (Table 17.9) -/
def Fld.BRD_LIM7_STBY : Fld := ⟨.BRD_LIM7, 16, 14⟩
def Fld.BRD_LIM7_STALE_TRIP : Fld := ⟨.BRD_LIM7, 0, 10⟩
/-! BRD_LIM8 (Table 17.9) -/
def Fld.BRD_LIM8_SET_SLEW : Fld := ⟨.BRD_LIM8, 16, 14⟩
def Fld.BRD_LIM8_SET_MAX : Fld := ⟨.BRD_LIM8, 0, 14⟩
/-! BRD_LIM9 (Table 17.9) -/
def Fld.BRD_LIM9_DIEMAP0 : Fld := ⟨.BRD_LIM9, 0, 24⟩
/-! BRD_LIM10 (Table 17.9) -/
def Fld.BRD_LIM10_DIEMAP1 : Fld := ⟨.BRD_LIM10, 0, 24⟩
/-! LAT_STAT (Table 18.13) -/
def Fld.LAT_STAT_PROG : Fld := ⟨.LAT_STAT, 27, 5⟩
def Fld.LAT_STAT_ACTIVE : Fld := ⟨.LAT_STAT, 26, 1⟩
def Fld.LAT_STAT_QDEPTH : Fld := ⟨.LAT_STAT, 22, 4⟩
def Fld.LAT_STAT_STAGE_STATE : Fld := ⟨.LAT_STAT, 19, 3⟩
def Fld.LAT_STAT_FLASH_DEFER : Fld := ⟨.LAT_STAT, 18, 1⟩
def Fld.LAT_STAT_FALLBACK : Fld := ⟨.LAT_STAT, 17, 1⟩
def Fld.LAT_STAT_STAGE_DEV : Fld := ⟨.LAT_STAT, 16, 1⟩
/-! LAT_RUN (Table 18.13) -/
def Fld.LAT_RUN_GO : Fld := ⟨.LAT_RUN, 31, 1⟩
def Fld.LAT_RUN_PROG : Fld := ⟨.LAT_RUN, 0, 5⟩
/-! LAT_STAGE (Table 18.13) -/
def Fld.LAT_STAGE_SECTORS : Fld := ⟨.LAT_STAGE, 16, 16⟩
def Fld.LAT_STAGE_BUF_KIB : Fld := ⟨.LAT_STAGE, 0, 16⟩
/-! LAT_STAGEPOS (Table 18.13) -/
def Fld.LAT_STAGEPOS_NEXT : Fld := ⟨.LAT_STAGEPOS, 0, 32⟩
/-! LAT_CNT0 (Table 18.13) -/
def Fld.LAT_CNT0_PROGS_RUN : Fld := ⟨.LAT_CNT0, 16, 16⟩
def Fld.LAT_CNT0_PROG_ABORTS : Fld := ⟨.LAT_CNT0, 0, 16⟩
/-! LAT_CNT1 (Table 18.13) -/
def Fld.LAT_CNT1_Q_MERGED : Fld := ⟨.LAT_CNT1, 16, 16⟩
def Fld.LAT_CNT1_Q_REFUSED : Fld := ⟨.LAT_CNT1, 0, 16⟩
/-! LAT_CNT2 (Table 18.13) -/
def Fld.LAT_CNT2_STAGE_REFUSED : Fld := ⟨.LAT_CNT2, 16, 16⟩
def Fld.LAT_CNT2_RELOADS : Fld := ⟨.LAT_CNT2, 0, 16⟩
/-! LAT_CNT3 (Table 18.13) -/
def Fld.LAT_CNT3_RELOAD_FAULTS : Fld := ⟨.LAT_CNT3, 16, 16⟩
def Fld.LAT_CNT3_MEAS_REPORTS : Fld := ⟨.LAT_CNT3, 0, 16⟩
/-! LAT_ABORT (Table 18.13) -/
def Fld.LAT_ABORT_PROG : Fld := ⟨.LAT_ABORT, 27, 5⟩
def Fld.LAT_ABORT_CAUSE : Fld := ⟨.LAT_ABORT, 24, 3⟩
def Fld.LAT_ABORT_POS : Fld := ⟨.LAT_ABORT, 0, 12⟩
/-! LAT_W (Table 18.13) -/
def Fld.LAT_W_W : Fld := ⟨.LAT_W, 0, 32⟩
/-! LAT_LOCK (Table 18.13) -/
def Fld.LAT_LOCK_LOCK : Fld := ⟨.LAT_LOCK, 1, 8⟩
/-! LAT_RETAIN (Table 18.13) -/
def Fld.LAT_RETAIN_RSEQ : Fld := ⟨.LAT_RETAIN, 0, 32⟩
/-! EVM_CFG (Table 19.10) -/
def Fld.EVM_CFG_BRIDLE : Fld := ⟨.EVM_CFG, 31, 1⟩
def Fld.EVM_CFG_PROG_EN : Fld := ⟨.EVM_CFG, 30, 1⟩
def Fld.EVM_CFG_PROG : Fld := ⟨.EVM_CFG, 25, 5⟩
def Fld.EVM_CFG_PIN : Fld := ⟨.EVM_CFG, 24, 1⟩
def Fld.EVM_CFG_LOG : Fld := ⟨.EVM_CFG, 23, 1⟩
def Fld.EVM_CFG_SEV : Fld := ⟨.EVM_CFG, 20, 3⟩
def Fld.EVM_CFG_MASK : Fld := ⟨.EVM_CFG, 0, 1⟩
/-! EVM_CTRL (Table 19.10) -/
def Fld.EVM_CTRL_VOTE_LIMIT : Fld := ⟨.EVM_CTRL, 16, 16⟩
def Fld.EVM_CTRL_PIN_EN : Fld := ⟨.EVM_CTRL, 0, 1⟩
/-! EVM_STAT (Table 19.10) -/
def Fld.EVM_STAT_EVENT_N : Fld := ⟨.EVM_STAT, 31, 1⟩
def Fld.EVM_STAT_SEV_MAX : Fld := ⟨.EVM_STAT, 16, 3⟩
def Fld.EVM_STAT_LOG_USED : Fld := ⟨.EVM_STAT, 0, 10⟩
/-! EVM_CNTG (Table 19.10) -/
def Fld.EVM_CNTG_LOG_LOST : Fld := ⟨.EVM_CNTG, 16, 16⟩
def Fld.EVM_CNTG_DP_PARITY : Fld := ⟨.EVM_CNTG, 0, 16⟩
/-! EVM_VOTE (Table 19.10) -/
def Fld.EVM_VOTE_VOTE_CORR : Fld := ⟨.EVM_VOTE, 0, 32⟩
/-! EVM_LAST (Table 19.10) -/
def Fld.EVM_LAST_ID : Fld := ⟨.EVM_LAST, 0, 10⟩
/-! EVM_PEND (Table 19.10) -/
def Fld.EVM_PEND_PEND : Fld := ⟨.EVM_PEND, 0, 32⟩
/-! EVM_CNT (Table 19.10) -/
def Fld.EVM_CNT_COUNT : Fld := ⟨.EVM_CNT, 0, 16⟩
/-! EVD_PEND (Table 19.10) -/
def Fld.EVD_PEND_PEND : Fld := ⟨.EVD_PEND, 0, 24⟩
/-! EVD_TEMPHI (Table 19.10) -/
def Fld.EVD_TEMPHI_TEMPHI : Fld := ⟨.EVD_TEMPHI, 0, 16⟩
/-! EVD_VOTE (Table 19.10) -/
def Fld.EVD_VOTE_VOTE_CORR : Fld := ⟨.EVD_VOTE, 0, 32⟩
/-! PRS_VIN (Table 20.5) -/
def Fld.PRS_VIN_VIN : Fld := ⟨.PRS_VIN, 0, 16⟩
/-! PRS_CAUSE (Table 20.5) -/
def Fld.PRS_CAUSE_CAUSE_MAP : Fld := ⟨.PRS_CAUSE, 8, 8⟩
def Fld.PRS_CAUSE_CAUSE : Fld := ⟨.PRS_CAUSE, 0, 4⟩
/-! PRS_DIP (Table 20.5) -/
def Fld.PRS_DIP_LAST_DIP : Fld := ⟨.PRS_DIP, 0, 32⟩
/-! PRS_RAIL (Table 20.5) -/
def Fld.PRS_RAIL_FAULT : Fld := ⟨.PRS_RAIL, 8, 5⟩
def Fld.PRS_RAIL_IN_WIN : Fld := ⟨.PRS_RAIL, 0, 5⟩
/-! PRS_DIERAIL (Table 20.5) -/
def Fld.PRS_DIERAIL_TRIP : Fld := ⟨.PRS_DIERAIL, 16, 16⟩
def Fld.PRS_DIERAIL_ON : Fld := ⟨.PRS_DIERAIL, 0, 16⟩
/-! PRS_TEMP (Table 20.5) -/
def Fld.PRS_TEMP_CASE_HI : Fld := ⟨.PRS_TEMP, 16, 16⟩
def Fld.PRS_TEMP_CASE : Fld := ⟨.PRS_TEMP, 0, 16⟩
/-! PRS_CNT (Table 20.5) -/
def Fld.PRS_CNT_DIPS : Fld := ⟨.PRS_CNT, 16, 16⟩
def Fld.PRS_CNT_DIE_TRIPS : Fld := ⟨.PRS_CNT, 0, 16⟩
/-! ID_PART (Table 21.7) -/
def Fld.ID_PART_PART : Fld := ⟨.ID_PART, 16, 16⟩
def Fld.ID_PART_MOD_STEP : Fld := ⟨.ID_PART, 8, 8⟩
def Fld.ID_PART_SADDLE_STEP : Fld := ⟨.ID_PART, 0, 8⟩
/-! ID_SHSTEP (Table 21.7) -/
def Fld.ID_SHSTEP_SHATHEN_STEP : Fld := ⟨.ID_SHSTEP, 0, 8⟩
/-! ID_IDCODE (Table 21.7) -/
def Fld.ID_IDCODE_IDCODE : Fld := ⟨.ID_IDCODE, 0, 32⟩
/-! ID_SERIAL_LO (Table 21.7) -/
def Fld.ID_SERIAL_LO_SERIAL_LO : Fld := ⟨.ID_SERIAL_LO, 0, 32⟩
/-! ID_SERIAL_HI (Table 21.7) -/
def Fld.ID_SERIAL_HI_SERIAL_HI : Fld := ⟨.ID_SERIAL_HI, 0, 32⟩
/-! ID_MODULE (Table 21.7) -/
def Fld.ID_MODULE_ID_OVR : Fld := ⟨.ID_MODULE, 31, 1⟩
def Fld.ID_MODULE_MSTR : Fld := ⟨.ID_MODULE, 30, 1⟩
def Fld.ID_MODULE_IMG_MASTER : Fld := ⟨.ID_MODULE, 29, 1⟩
def Fld.ID_MODULE_STRAP : Fld := ⟨.ID_MODULE, 16, 12⟩
def Fld.ID_MODULE_MODULE : Fld := ⟨.ID_MODULE, 0, 12⟩
/-! ID_IMAGE_LO (Table 21.7) -/
def Fld.ID_IMAGE_LO_IMAGE_ID_LO : Fld := ⟨.ID_IMAGE_LO, 0, 32⟩
/-! ID_IMAGE_HI (Table 21.7) -/
def Fld.ID_IMAGE_HI_IMAGE_ID_HI : Fld := ⟨.ID_IMAGE_HI, 0, 32⟩
/-! ID_IMAGE_SEQ (Table 21.7) -/
def Fld.ID_IMAGE_SEQ_IMAGE_SEQ : Fld := ⟨.ID_IMAGE_SEQ, 0, 32⟩
/-! ID_IMAGE_LEN (Table 21.7) -/
def Fld.ID_IMAGE_LEN_IMAGE_LEN : Fld := ⟨.ID_IMAGE_LEN, 0, 32⟩
/-! ID_BOOT (Table 21.7) -/
def Fld.ID_BOOT_FALLBACK : Fld := ⟨.ID_BOOT, 17, 1⟩
def Fld.ID_BOOT_SRC : Fld := ⟨.ID_BOOT, 16, 1⟩
def Fld.ID_BOOT_NRELOAD : Fld := ⟨.ID_BOOT, 0, 16⟩
/-! ID_IMGMEAS (Table 21.7) -/
def Fld.ID_IMGMEAS_IMGMEAS : Fld := ⟨.ID_IMGMEAS, 0, 32⟩
/-! ID_ROMHASH (Table 21.7) -/
def Fld.ID_ROMHASH_ROMHASH : Fld := ⟨.ID_ROMHASH, 0, 32⟩
/-! ID_LIVEMEAS (Table 21.7) -/
def Fld.ID_LIVEMEAS_LIVEMEAS : Fld := ⟨.ID_LIVEMEAS, 0, 32⟩
/-! SHD_ID (Table 21.7) -/
def Fld.SHD_ID_STEP : Fld := ⟨.SHD_ID, 24, 8⟩
def Fld.SHD_ID_POS : Fld := ⟨.SHD_ID, 0, 4⟩
/-! HQD_MEM (Table R327) -/
def Fld.HQD_MEM_CORR : Fld := ⟨.HQD_MEM, 16, 16⟩
def Fld.HQD_MEM_UNCORR : Fld := ⟨.HQD_MEM, 0, 16⟩

end Sys2Proof.Machine
end

