-- ==== Sys2Proof/Machine/State.lean ====
section
/-! DEFINITION. The state of the module: its registers, the state that no register holds, block by block, the waiting
commands, and the state after reset. Register fields have their one home in `regs`; what a register shows of a queue or a
counter kept elsewhere is computed when it is read (`Machine/Access.lean`). -/

namespace Sys2Proof.Machine

/-- The stops of a command that could not have come from any hardware. -/
inductive Fault where
  /-- Raised by a command whose list operand has a shape no signal of the hardware has (a wrong number of codes or bits).
  Safe: nothing is claimed of such a command. -/
  | illFormed
  deriving DecidableEq, Repr

/-- The refusals. -/
inductive Refusal where
  /-- Raised by a row that has no meaning yet, under the row's mnemonic. Safe. -/
  | notModelled (mnemonic : String)
  deriving DecidableEq, Repr

/-- The module states of Table 01.8 (R29). -/
inductive Mode where
  | unpowered | reset | fill | boot | start | run | halt
  deriving DecidableEq, Repr

/-- What the module has put on its lanes and lands, the model's record of its outputs (log entry 7). -/
inductive LineItem where
  /-- An item of an UP port (Table 10.4): the control block and the data blocks that follow; port 0 is UPA, 1 UPB. -/
  | port (p : Nat) (ctl : Word64) (ws : List Word64)
  /-- An ALIGN row of an UP port (R268). -/
  | alignRow (p count : Nat)
  /-- A word of the return lane of die `f` (Table 10.3). -/
  | ret (f : Nat) (w : Word64)
  /-- A block of internal lane `n`: a control block (ALIGN) or a word of quadrant n. -/
  | lane (n : Nat) (ctl : Bool) (w : Word64)
  /-- A block that TMO repeats, with the FRC position in fu at which it leaves the land (R281). -/
  | tmo (at_ : Int) (ctl : Bool) (w : Word64)
  /-- A BSET frame (R420). -/
  | bset (bits : List Bool)
  deriving DecidableEq, Repr

/-- A transmit lane of the block code: the last 58 bits that its scrambler has put out, the newest at bit 0, and the state of its
PRBS31 generator (R247, R257). -/
structure TxLane where
  scr  : BitVec 58
  prbs : BitVec 31
  deriving DecidableEq, Repr

/-- A lane that has sent nothing: the manual gives no start value for either register (log entry 144). -/
def txDefault (_ : Nat) : TxLane := ⟨0, BitVec.ofNat 31 0x7FFFFFFF⟩

/-- The transmit lanes, numbered as HAR_TXL numbers them, the data lane of quadrant n as 64 + n, and the 66-bit blocks that have gone
out on them, oldest first. A block's bits are numbered so that the most significant goes on the wire first (R247, R248). -/
structure Wire where
  lanes : SMap TxLane
  sent  : List (Nat × BitVec 66)
  deriving DecidableEq, Repr

/-! ### Girth (09) -/

/-- A slot strobe as R168 keeps it: the slot it begins, σ, and the triple latched at it. -/
structure Strobe where
  slot   : Nat
  sigma  : Nat
  offset : Int
  rate   : Int
  ref    : Nat
  deriving DecidableEq, Repr

/-- What waits for a strobe under R231 and Table 09.3, in 1/16 fu. -/
inductive Pend where
  /-- A correction within LOCK_WIN, already shifted, in OFFSET units. -/
  | corr (units : Int)
  /-- A step. -/
  | step (theta : Int)
  /-- The start, or the replaced remainder, of a slew. -/
  | slew (theta : Int)
  deriving DecidableEq, Repr

/-- A time mark that waits for the next strobe (R240): TKIND, DELTA in fu, and REFSEL, TIME_VALID and the accepted GMID after its
event. -/
structure Mark where
  kind   : Nat
  delta  : Int
  refsel : Nat
  tv     : Nat
  gmid   : Nat
  deriving DecidableEq, Repr

/-- An echo that has not left (R236, R273): t2 in fu of T, EXSEQ, the input, the FRC position of t2 in fu, and TIME_VALID at t2. -/
structure Echo where
  t2    : Nat
  exseq : Nat
  alt   : Bool
  since : Nat
  tv    : Nat
  deriving DecidableEq, Repr

/-- The Girth beyond its registers. -/
structure Girth where
  /-- OFFSET, RATE, REF (R223). -/
  offset     : Int
  rate       : Int
  ref        : Nat
  /-- The slot that the last strobe began and its σ (R224). -/
  slot       : Nat
  sigma      : Nat
  /-- The last 16 strobes, newest first (R168). -/
  strobes    : List Strobe
  /-- Rebases of R222 that wait for the next strobe, in order: true to holdover, false from it. -/
  rebase     : List Bool
  /-- TMI and TMI_ALT are qualified: OK for 64 consecutive slots (R220). -/
  qual       : List Bool
  /-- FRC at which TMI_ALT was last lost, and at which the loss of TMI last took the Girth to TMI_ALT (R222). -/
  altLost    : Option Nat
  toAlt      : Option Nat
  /-- A pending correction, step or slew, and the FRC from which a strobe may take it (R231). -/
  pend       : Option (Pend × Nat)
  /-- θ of the consecutive SYNCs of the confirmation run, newest first, 1/16 fu (Table 09.3). -/
  run        : List Int
  /-- Last SSEQ taken from the accepted master (R230). -/
  lastSseq   : Option Nat
  /-- A master has been accepted since reset (R233). -/
  haveMaster : Bool
  /-- The GMID that waits to be accepted, its last SSEQ and the θ of its run (R233). -/
  cand       : Option (Nat × Nat × List Int)
  /-- The rest of the slew and the whole amount slewed so far, 1/16 fu (Table 09.3). -/
  slewLeft   : Int
  slewDone   : Int
  /-- Unbroken learning slots (R226). -/
  learned    : Nat
  /-- The first GMID seen since reset (R233). -/
  firstGmid  : Option Nat
  /-- Strobes since the last used SYNC, or since an input was selected (R234). -/
  unused     : Nat
  /-- Slot strobes so far: what a rule counts in slots is counted by them, since a step of T skips slot numbers (R518). -/
  begun      : Nat
  /-- Event 395 has been raised in the present interval without a used SYNC (R234). -/
  syncLate   : Bool
  /-- The echo that has not left (R236, R273). -/
  echo       : Option Echo
  /-- Time marks for the slot that the next strobe begins (R240). -/
  marks      : List Mark
  /-- A step took effect at the last strobe (R125). -/
  stepped    : Bool
  deriving DecidableEq, Repr

/-! ### Event matrix (19) -/

/-- A log entry that waits for its slot to close (R464). -/
structure LogEntry where
  id     : Nat
  sev    : Nat
  replay : Bool
  again  : Nat
  toff   : Nat
  tslot  : Nat
  data   : Nat
  /-- The C40 edge of the raising (R460). -/
  edge   : Nat
  deriving DecidableEq, Repr

structure Matrix where
  log     : List LogEntry
  /-- The number of the C40 edge at which sources were raised last, and these sources (R460). -/
  edge    : Nat
  raised  : List Nat
  /-- The programs that sources raised at that edge have put into the queue of the Latigo, each with its source; and the C40 edge of the
  raising that EVM_LAST shows (R460). -/
  reqs    : List (Nat × Nat)
  lastAt  : Nat
  /-- The FRC until which EVENT_N stays low (R463). -/
  hold    : Option Nat
  /-- VOTE_CORR of each Saddle block at the last strobe, by code of Table 19.8 (R469). -/
  votes   : List Nat
  deriving DecidableEq, Repr

/-! ### Power and reset supervisor (20) -/

structure Supervisor where
  /-- FRC of the recognised fall that began the dip, and of the last recognised rise above 35.0 V (R479). -/
  dipFall  : Nat
  dipRise  : Option Nat
  /-- A TEMP cause has not cleared (R483). -/
  tempHold : Bool
  /-- Event 539 may be raised again (R483). -/
  caseArm  : Bool
  /-- Milliseconds the case has been above 105 °C (R483). -/
  hotMs    : Nat
  /-- FRC of the last reading of the case (R483); since when each Saddle rail is recognised outside its window (R476), and the switch of
  each die limits (R485). -/
  caseAt   : Option Nat
  railOut  : List (Option Nat)
  limitAt  : SMap (Option Nat)
  /-- cu since RESET was entered, as the supervisor counts them (R476, R480). -/
  clock    : Nat
  /-- The factory repairs of the fuse map: macro and row (R322); log entry 3. -/
  fuses    : List (Nat × Nat)
  deriving DecidableEq, Repr

/-! ### Bridle (17) -/

/-- What the Bridle keeps of a die's summaries (R410). -/
structure Summary where
  max    : Nat
  nvalid : Nat
  ovl    : Bool
  /-- FRC of its arrival; none before the first. -/
  at_    : Option Nat
  /-- FRC since when the die's summaries have been stale. -/
  staleAt : Nat
  deriving DecidableEq, Repr

/-- A SAFETY section that a reload has left pending: its words, with what R450 needs of its source: section hash, INDEX, device,
IMAGE_SEQ (R419). -/
structure PendingSection where
  words : List Nat
  hash  : List Nat
  index : Nat
  dev   : Nat
  seq   : Nat
  deriving DecidableEq, Repr

structure Bridle where
  /-- The last 101 samples of the monitors A, B, C, newest first. -/
  samples  : List (Nat × Nat × Nat)
  /-- Consecutive samples of violation: CEIL, RAMP, DIR, SUN, STALE; and of discrepancy: A, B, C, and the pair (R401 to R403). -/
  runs     : List Nat
  discs    : List Nat
  /-- Consecutive 100 µs samples in which the logic channels differ (R403). -/
  xchk     : Nat
  /-- Summaries by die (R410). -/
  sums     : List Summary
  /-- FRC at which each bias channel's guard began to be clear, for SUN_CLR (R410). -/
  clearAt  : List (Option Nat)
  /-- FRC at which DESCEND was entered (R404). -/
  descAt   : Nat
  /-- The FRC by which each feedback must follow its output (R412). -/
  fbDue    : List (Option Nat)
  /-- The output is low for a test pulse that began at this FRC (R413); and whether its feedback fell. -/
  test     : List (Option Nat)
  testOk   : List Bool
  /-- The key: pressed since, released since (R415, R416). -/
  keyUp    : Option Nat
  /-- A safety section that waits for a key press (R419). -/
  pending  : Option PendingSection
  /-- FRC of the last sample of the monitors (R400), of the last step of the setpoints (R407), and from which the second of DEG_USED counts
  (R417). -/
  sampleAt : Option Nat
  rampAt   : Option Nat
  degAt    : Nat
  /-- FRC on the grid of the off-pulses of BIAS_EN_A (R413). -/
  grid     : Option Nat
  /-- Last frame of each bias channel, FRC and setpoint, and FRC at which the line is idle again (R420). -/
  frames   : List (Option (Nat × Nat))
  lineFree : Nat
  deriving DecidableEq, Repr

/-! ### Latigo (18) -/

/-- An entry of the program table (R440). -/
structure Prog where
  first  : Nat
  len    : Nat
  budget : Nat
  deriving DecidableEq, Repr

/-- What the sequencer waits for (R441). -/
inductive SeqWait where
  | none
  /-- WAITS: strobes left. -/
  | strobes (n : Nat)
  /-- WAITC: the FRC of the end. -/
  | cycles (until_ : Nat)
  /-- POLL: the FRC at which TMO has passed. -/
  | poll (until_ : Nat)
  /-- A register access waits or is in flight. -/
  | access
  /-- A primitive waits or runs (R443). -/
  | prim
  deriving DecidableEq, Repr

/-- A flash operation of the Latigo (R429, R445). -/
inductive FlashOp where
  | eraseStage (dev sector : Nat) (lastOne : Bool)
  | progStage (dev off : Nat) (bytes : List Nat)
  | progHeader (dev : Nat) (bytes : List Nat)
  | eraseHeader (dev : Nat)
  | eraseLog (dev sector : Nat)
  | progLog (dev off : Nat) (bytes : List Nat)
  deriving DecidableEq, Repr

/-- A PROGS section that waits for the running program to end: its program table and instructions, with what R450 needs of its
source: section hash, INDEX, device, IMAGE_SEQ (R442). -/
structure NextStore where
  progs : List Prog
  code  : List Word64
  hash  : List Nat
  index : Nat
  dev   : Nat
  seq   : Nat
  deriving DecidableEq, Repr

/-- What BOOT_IMAGE_READ found: whether an image is valid; the device of the image read last, whether both were tried, IMAGE_ID,
IMAGE_SEQ, IMAGE_LEN and measurement of that image (R434 to R436). -/
structure Booted where
  valid : Bool
  dev   : Nat
  both  : Bool
  id    : Nat
  seq   : Nat
  len   : Nat
  meas  : List Nat
  deriving DecidableEq, Repr

/-- A primitive of Table 18.8 that a program or a CMD of TMI has started (R443). -/
structure PrimReq where
  code : Nat
  arg  : Nat
  tmi  : Bool
  deriving DecidableEq, Repr

/-- DIE_INIT under way (R452): its request, the die, how many entries of the template it writes, the next one to send, the FRC at which each
REG_WR left whose answer has not come, oldest first, and whether one has failed. -/
structure InitRun where
  req    : PrimReq
  die    : Nat
  templ  : Nat
  size   : Nat
  next   : Nat
  sent   : List Nat
  failed : Bool
  deriving DecidableEq, Repr

structure Latigo where
  progs    : List Prog
  code     : List Word64
  /-- PROGS sections that wait for the running program to end, in the order of their reloads. -/
  nextStore : List NextStore
  /-- DIE_INIT under way, and the primitives that wait for its end, oldest first (R443, R452). -/
  initRun  : Option InitRun
  prims    : List PrimReq
  /-- The reading of the images in BOOT, until the end of BOOT. -/
  booted   : Option Booted
  pos      : Nat
  flagT    : Bool
  wait     : SeqWait
  /-- Slot strobes since the running program started (R442). -/
  elapsed  : Nat
  queue    : List Nat
  /-- The templates in the store: INDEX (0 to 15, 0x10 the default) and how many (die offset, value) pairs it has, which stand in the Tree
  (Table 18.3, R435). -/
  templ    : List (Nat × Nat)
  /-- REPAIR store: macro and row, not yet applied (Table 18.3). -/
  repair   : List (Nat × Nat)
  /-- The 4 KiB header buffer of staging, as a sparse map, unlisted 0xFF (Table 18.10). -/
  header   : SMap Nat
  /-- Flash operations in order; the first `issued` have been started (R429). -/
  ops      : List FlashOp
  issued   : Bool
  /-- Words in the 64 KiB staging buffer, 8 bytes each (R446). -/
  bufWords : Nat
  /-- Starts since manufacture, next page of each retained log, DEG_USED as last written, FRC of the last record (R438). -/
  starts   : Nat
  logPage  : List Nat
  degSaved : Nat
  savedAt  : Nat
  /-- A LOCKOUT entry calls for a record (R438). -/
  saveDue  : Bool
  /-- FRC from which the next instruction may begin (R441). -/
  seqAt    : Nat
  deriving DecidableEq, Repr

/-- A flash device: the facts of its SFDP table and its bytes (R427, R428); an unlisted byte reads 0xFF (log entry 8). -/
structure Flash where
  sfdp    : Bool
  revB    : Bool
  fast144 : Bool
  erase4k : Bool
  addr4   : Bool
  mbit    : Nat
  /-- Its 1-4-4 read instruction and dummy cycles, how it enters 4-byte addressing, its 4 KiB erase instruction and its page size. -/
  readOp  : Nat
  dummy   : Nat
  addrWay : Nat
  eraseOp : Nat
  page    : Nat
  bytes   : SMap Nat
  /-- The commands with which the boot ROM has probed it, oldest first, and what the module has taken from its table: those five (R427). -/
  probed  : List Nat
  par     : Option (List Nat)
  deriving DecidableEq, Repr

/-! ### Register fabric (18 R444, 00 R10) -/

/-- What is done with the answer of a die access. -/
inductive AccessCont where
  /-- A TMI access with its RTAG: a stream 5 item. -/
  | tmi (rtag : Nat)
  /-- A JTAG access. -/
  | jtag
  /-- Latigo WRI or WRR. -/
  | write
  /-- Latigo RD. -/
  | read (rv : Nat)
  /-- Latigo RMW, read part. -/
  | modify (rv rm : Nat)
  /-- Latigo POLL: value and mask registers, FRC at which TMO has passed. -/
  | poll (rv rm until_ : Nat)
  /-- The program was aborted: the result is discarded (R442). -/
  | drop
  deriving DecidableEq, Repr

/-- An access that waits while the fabric serves another, with the C160 cycle of its arrival (R444). -/
structure Request where
  at_   : Nat := 0
  who   : Requester
  cont  : AccessCont
  wr    : Bool
  addr  : Nat
  data  : Nat
  deriving DecidableEq, Repr

/-- The die access in flight (R264, R490). -/
structure DieAccess where
  die   : Nat
  addr  : Nat
  wr    : Bool
  rtag  : Nat
  since : Nat
  cont  : AccessCont
  deriving DecidableEq, Repr

/-- The shadow of a requester: the SR pair (by its low register's address) and the high part; for GIR_NOW also the fine field. -/
structure Shadow where
  pair : Nat
  high : Nat
  fine : Nat
  deriving DecidableEq, Repr

structure Fabric where
  /-- Shadows of the Latigo, TMI and JTAG (R10, R444). -/
  shadows : List (Option Shadow)
  access  : Option DieAccess
  /-- The accesses that wait, oldest first. -/
  waiting : List Request
  /-- The C160 cycle at which an access was served last, and its requester's place in the order of R444. -/
  edge    : Nat × Nat
  /-- Result of the last JTAG access: STATUS, TEAR and data (the JTAG side of Table 18.9). -/
  jtag    : Nat × Bool × Nat
  deriving DecidableEq, Repr

/-! ### Slot packer and own blocks (06) -/

/-- A slot block as R160 gives it, with its flags still apart. -/
structure Block where
  module   : Nat
  stream   : Nat
  slot     : Nat
  seq      : Nat
  seqInit  : Bool
  mirror   : Bool
  late     : Bool
  absent   : Option Nat
  poison   : Bool
  brownout : Bool
  epochs   : Option Nat
  kind     : Nat
  vclass   : Nat
  lost     : Nat
  /-- The hits that a stream 0 block carries (R181). -/
  hits     : Nat
  ulen     : Nat
  payload  : List Nat
  ccrc     : Nat
  deriving DecidableEq, Repr

/-- A hit that the slot packer keeps: lane, hit word, FRC of its arrival, and once converted its item and global time in fu. -/
structure PackedHit where
  lane : Nat
  w    : Word64
  at_  : Nat
  item : Option (Word64 × Int)
  deriving DecidableEq, Repr

/-- Stream 0 of one slot (R149 to R159). -/
structure OpenSlot where
  slot    : Nat
  /-- Blocks are formed for the slot (R520). -/
  formed  : Bool
  /-- FRC of the strobe that ended the slot; none while it runs. -/
  ended   : Option Nat
  /-- Dies JOINED for the whole of it so far, whose markers it awaits: mask (R32, R155). -/
  dies    : Nat
  /-- Dies whose link has not held lock throughout, or whose latency changed: mask (R32, R260). -/
  gone    : Nat
  hits    : List PackedHit
  /-- The closing marker of each internal lane. -/
  markers : SMap (Option Word64)
  /-- Stream 0 is closed and waits for its gate (R152), with the dies absent and LOST as decided. -/
  closed  : Option (Nat × Nat)
  /-- The slot overlaps streaming fallback (R139). -/
  fb      : Bool
  /-- BROWNOUT was 1 at some moment of the slot (R478). -/
  brown   : Bool
  /-- Streams of which a word failed its data-path parity (R471), mask. -/
  poison  : Nat
  /-- Items lost in the ingress queues during the slot, by die (R159). -/
  lostIn  : SMap Nat
  /-- Epochs in force from the strobe that begins the slot, and in the slot before, a nibble for each die (Table 06.5). -/
  epochs  : Nat
  epochs0 : Nat
  deriving DecidableEq, Repr

structure Packer where
  /-- Items of streams 1 to 7 of the current slot: stream and words, in order. -/
  items   : List (Nat × List Word64)
  /-- Stream 0 slots not yet handed to the Skive, oldest first; the last is the current slot. -/
  slots   : List OpenSlot
  /-- Last reported epoch of each die, a nibble for each. -/
  reported : Nat
  /-- By global channel: level last sent in stream 2 and its slot (Table 06.2); unlisted: none yet (R150). -/
  levels  : SMap (Option (Nat × Nat))
  /-- By internal lane: the slot that the marker last read from its queue opened, plus 1; 0 none. -/
  laneSlot : SMap Nat
  /-- The slots gated last, newest first (R152). -/
  gated   : List Nat
  /-- Streams of which a block has been formed since reset, mask (R163). -/
  begun   : Nat
  deriving DecidableEq, Repr

/-! ### Tree (12) -/

/-- The stored bits of a protection block (Table 12.1): data with byte 0 most significant, row parities, column byte, its parity. -/
structure TBlock where
  data : Nat
  p    : Nat
  c    : Nat
  q    : Bool
  deriving DecidableEq, Repr

/-- An access to a Tree block: a requester's read with what the block holds, a full-block write, a byte write with its mask. -/
inductive TreeAcc where
  | read (i : Nat) (use : TreeUse)
  | full (i data : Nat)
  | bytes (i mask data : Nat)
  deriving DecidableEq, Repr

structure Tree where
  /-- By block number; an unlisted block holds the fill pattern (R312). -/
  blocks  : SMap TBlock
  /-- Soft spares used, by macro (R323). -/
  soft    : SMap Nat
  /-- The row that is being copied, macro and row, and the FRC at which the copy began. -/
  copy    : Option (Nat × Nat × Nat)
  /-- The 16 rows corrected last, newest first, with their counts (R324). -/
  hot     : List (Nat × Nat)
  /-- FRC at which the scrub pass began; the slots in which 484 and 492 were raised last. -/
  passAt  : Nat
  hotSlot : Option Nat
  passSlot : Option Nat
  /-- Accesses, each with its rank, that wait for the copy of their row; repairs that wait for the one that runs (R314, R323). -/
  held    : List (Nat × TreeAcc)
  todo    : List (Nat × Nat)
  /-- The last C640 edge at which an access was served, and its rank there (R314). -/
  edge    : Nat × Nat
  /-- FRC of the scrubber's last visit (R319). -/
  visitAt : Nat
  deriving DecidableEq, Repr

/-! ### Skive (08) -/

/-- A part that an engine holds (R200, R214): its content bytes, and the FRC at which the engine starts it and at which its
verifier finishes. -/
structure Part where
  engine  : Nat
  slot    : Nat
  stream  : Nat
  index   : Nat
  last    : Bool
  dynamic : Bool
  bytes   : List Nat
  start   : Nat
  done    : Nat
  /-- CHAIN and VFAIL_LIMIT as latched when its block entered (R190). -/
  chain   : Nat
  limit   : Nat
  /-- FRC at which its engine had last returned to service as the part started (R210). -/
  since   : Nat
  /-- Its engine has read an uncorrectable block of its history (Table 12.4). -/
  hist    : Bool
  deriving DecidableEq, Repr

/-- An own block in the engines: its header and its stored form in `blk`, the parts verified so far with their payload bytes. -/
structure SkBlock where
  blk    : Block
  kind   : Nat
  parts  : Nat
  out    : List (Nat × List Nat)
  failed : Bool
  deriving DecidableEq, Repr

/-- The end of a verification, the start of its part, and the part's symbol counts, none after a fault (R204). -/
structure Stats where
  at_ : Nat
  start : Nat
  counts : Option (List Nat × List Nat)
  deriving DecidableEq, Repr

structure Skive where
  /-- Blocks that have closed and not yet entered, in order, with the FRC of the C640 edge at which each enters (R189). -/
  inbox  : List (Block × Nat)
  blocks : List SkBlock
  parts  : List Part
  /-- The rotation pointer (R201). -/
  e0     : Nat
  /-- FRC at which each engine is free. -/
  freeAt : List Nat
  /-- Consecutive failed verifications of each engine (R210). -/
  fails  : List Nat
  /-- FRC at which each engine last returned to service (R210). -/
  returned : List Nat
  /-- By engine and stream, 16 e + s: the last two verifications, newest first. -/
  stats  : SMap (List Stats)
  /-- Blocks in the stored path with the FRC at which each leaves (R210). -/
  stored : List (Block × Nat)
  /-- Slots whose stream 0 has closed, with the FRC of the close, for the test of R215. -/
  closed : List (Nat × Nat)
  deriving DecidableEq, Repr

/-! ### Stirrup (05) -/

/-- A trigger that waits for its decision instant (R120, R121). -/
structure Trig where
  /-- Source bits of Table 05.3. -/
  src     : Nat
  /-- A and D as global coarse counts, and TFINE. -/
  a       : Nat
  fine    : Nat
  d       : Nat
  /-- Cells of the windows that met K in the firing bin; none when no IMG firing with PAT is in it (R131). -/
  centres : Option (List Nat)
  deriving DecidableEq, Repr

/-- A busy context: window `win` of a trigger (R126). -/
structure Ctx where
  trigno : Nat
  src    : Nat
  cls    : Nat
  clamp  : Bool
  a      : Nat
  fine   : Nat
  /-- FRC at D. -/
  since  : Nat
  win    : Nat
  nwin   : Nat
  /-- Records still expected, by global channel. -/
  expect : SMap Nat
  /-- Outstanding words, by quadrant (R127). -/
  out    : SMap Nat
  deriving DecidableEq, Repr

/-- A segment descriptor (R134): its number, the trigger's T71 and number, the global channel, the continuation index, and the link to
the descriptor of the next continuation. -/
structure SegDesc where
  id     : Nat
  a      : Nat
  fine   : Nat
  g      : Nat
  trigno : Nat
  cont   : Nat
  link   : Option Nat
  deriving DecidableEq, Repr

/-- Descriptors and granules that items of stream 1, or blocks of stream 1 in the Skive, hold: by slot (R137). -/
structure HeldSegs where
  slot  : Nat
  descs : List Nat
  grans : List Nat
  deriving DecidableEq, Repr

/-- A border cell of the map (R118): global bin, port, side, cell; once its port's peer is lost, the bin from which it is inactive
(R119). -/
structure BorderCell where
  bin  : Nat
  cib  : Bool
  side : Nat
  cell : Nat
  stop : Option Nat
  deriving DecidableEq, Repr

/-- An open segment record (R134, R136). -/
structure SegRec where
  trigno   : Nat
  g        : Nat
  src      : Nat
  cls      : Nat
  clamp    : Bool
  a        : Nat
  fine     : Nat
  nwin     : Nat
  expected : Nat
  nrec     : Nat
  words    : List Word64
  preShort : Bool
  ovr      : Bool
  /-- Its descriptors, the first and its continuations, the granules reserved by number, and the words reserved (R134, R136). -/
  chain    : List SegDesc
  grans    : List Nat
  size     : Nat
  /-- An uncorrectable Tree block was read in one of its granules (Table 12.4). -/
  poison   : Bool
  deriving DecidableEq, Repr

structure Stirrup where
  /-- IMG is suspended until the next strobe after a reload of the map (Table 18.3). -/
  imgHold : Bool
  /-- The trigger map: VALID in bit 15, GCHAN in [11:0] (R114). -/
  map     : SMap Nat
  /-- Primitives in the map: global bin and global channel. -/
  prims   : List (Nat × Nat)
  /-- Border cells in the map (R118). -/
  borders : List BorderCell
  /-- The bin evaluated last and whether the condition held in it (R116). -/
  last    : Option (Nat × Bool)
  trigs   : List Trig
  ctxs    : List (Option Ctx)
  segs    : List SegRec
  /-- Trigger and channel whose later records are dropped (R138). -/
  dropped : List (Nat × Nat)
  held    : List HeldSegs
  /-- By context, the C160 cycle from which it is free after its release (R126). -/
  ctxFree : List Nat
  aLast   : Option Nat
  /-- The strobe at which A_last became empty, and the one that begins the first slot with SRC_EN bit 3 set: FRC and coarse count;
  AUTO periods counted since the base (R125). -/
  emptied : Nat × Nat
  autoOn  : Option (Nat × Nat)
  autoK   : Nat
  /-- FB_CLEAR has been written since the failure (R140). -/
  fbClear : Bool
  /-- Spans of accepted triggers, global coarse counts (R141). -/
  spans   : List (Nat × Nat)
  deriving DecidableEq, Repr

/-! ### Stitch (07) -/

/-- An entry of the duplicate test (R180). -/
structure Dedup where
  high : Nat
  map  : Nat
  init : Option Nat
  deriving DecidableEq, Repr

/-- A slot group that has not been sent (R177). -/
structure Group where
  slot   : Nat
  /-- Blocks are formed for the slot: it began with a UP port enabled (R520). -/
  formed : Bool
  /-- Own streams of the slot that have not left the Skive. -/
  wait   : List Nat
  own    : List Block
  /-- Blocks accepted on CIA and CIB, each with its place in the order of arrival. -/
  cia    : List (Nat × List Word64)
  cib    : List (Nat × List Word64)
  /-- The port is complete for the slot: its slot-end mark came. -/
  doneA  : Bool
  doneB  : Bool
  /-- The merge deadline has passed. -/
  late   : Bool
  /-- In ring forwarding, the arc's group has been sent (R186). -/
  sentA  : Bool
  sentB  : Bool
  deriving DecidableEq, Repr

structure Stitch where
  groups : List Group
  /-- Late blocks that wait, each with its place in the order of arrival and its arc (R178, R179): false CIA, true CIB. -/
  late   : List (Nat × Bool × List Word64)
  /-- Blocks accepted so far: the order of arrival (R178). -/
  taken  : Nat
  dedup  : SMap (Option Dedup)
  /-- Blocks received on CIA and CIB since the last mark, and the slot from which each is awaited (R175, R176). -/
  rxA    : Nat
  rxB    : Nat
  fromA  : Nat
  fromB  : Nat
  /-- Bytes of the merge window in use outside the reserve; own blocks in the reserve by slot, stream and bytes (R181). -/
  used   : Nat
  reserve : List (Nat × Nat × Nat)
  /-- Slots that began without blocks being formed, as ranges, newest first (R520). -/
  unformed : List (Nat × Nat)
  deriving DecidableEq, Repr

/-! ### Harness (10) -/

/-- A frame or a slot-end mark that waits for its port; `counts` says that the port's NBLK is to count the frame (R175). -/
inductive Outgoing where
  | frame (ws : List Word64) (own replay counts : Bool)
  | slotEnd (slot : Nat)
  deriving DecidableEq, Repr

/-- A word that waits for a return lane: one as it stands, or a TSET, which is formed when its block begins (Table 10.3). -/
inductive RetWord where
  | word (w : Word64)
  | tset
  deriving DecidableEq, Repr

/-- The block stream of an UP port (R268, R269): ECHO and SIDE blocks that take the next positions, the blocks of the frame or
slot-end mark that is going out (control or data), and the FRC of the row sent last. -/
structure PortStream where
  prio : List Word64
  fifo : List (Bool × Word64)
  row  : Option Nat
  deriving DecidableEq, Repr

def PortStream.empty : PortStream := ⟨[], [], none⟩

structure Harness where
  /-- Clock lanes that are present, mask (R251, Table 10.1): bit f that of Shathen link f, 16 CIA, 17 CIB, 18 TMI, 19 TMI_ALT, 20 + f the
  C320 forwarded to die f. -/
  clocks : Nat
  /-- Internal lanes that have left LOCKED and whose link's loss has not been declared (R254). -/
  lostLanes : List Nat
  /-- Where the blocks repeated on TMO end, an FRC position in fu; none while it is idle and at a change of source (R281, R282). -/
  tmoEnd : Option Int
  /-- Internal lanes whose latency has not been measured since they left LOCKED, mask (R22). -/
  unmeasured : Nat
  /-- Frames and marks waiting for UPA and UPB, and the blocks sent since the last mark. -/
  outA   : List Outgoing
  outB   : List Outgoing
  sentA  : Nat
  sentB  : Nat
  /-- Frames in the minority in a row: builder A, builder B, witness (R276). -/
  minor  : List Nat
  /-- Builder back in service from the next group (R276). -/
  resume : List Bool
  /-- Port mode in force (R271). -/
  mirror : Bool
  /-- ACOUNT of the last ALIGN row of CIA and CIB (R253). -/
  acount : List (Option Nat)
  /-- Side words formed and not yet sent on UPA and UPB: coarse count of the end of the bin, and payload (R272). -/
  sidesA : List (Nat × Nat)
  sidesB : List (Nat × Nat)
  /-- Freeze commands that wait for the return lane of each die: FRZ0, FRZ1, and the FRC at which the window is ready and at G_k (R261,
  R128). -/
  frzQ   : SMap (List (Word64 × Word64 × Nat × Nat))
  /-- Other words that wait for the return lane of each die, and the FRC from which its next block may begin (R261). -/
  retQ   : SMap (List RetWord)
  retAt  : SMap Nat
  /-- Data blocks on their way to each die that hears its return lane: the FRC at which the die acts on each, and its word (R261). -/
  retIn  : SMap (List (Nat × Word64))
  /-- The elastic buffers of the CI lanes, CIA 0-7 and CIB 8-15, in far-end loopback: blocks received and not yet returned, by lane
  (Table 10.2A). -/
  elastic : SMap (List (Bool × Word64))
  /-- The block streams of UPA and UPB (R268, R269). -/
  streams : List PortStream
  /-- FRC at which the first frame of the group being sent on UPA and UPB left (R274). -/
  groupAt : List (Option Nat)
  /-- Side words and echoes sent on each port in the slot (R274). -/
  sideCnt : List Nat
  echoCnt : List Nat
  frameCnt : List Nat
  /-- Slot of the last adaptation step of each receive lane (R255). -/
  eqAt   : SMap (Option Nat)
  /-- Receive lanes of dies that owe the adaptation step of a PH run (R366, R376): mask. -/
  eqOwed : Nat
  deriving DecidableEq, Repr

/-! ### Burnish (15) -/

/-- What the injections of an INJ run have shown (R377, R379): the injection group, the stage in it (0 the timing offsets, 1 and 2 the
trim and the residual scan of the timing discriminator, 3 and 4 those of the trigger discriminator), whether the scan is the
repeat, the place of the armed injection in the stage, whether it has fired, OFFS_N and THR_N as the run found them, the channels whose
THR_APPLIED has changed in the scan, by channel the number of hits and the sum of their raw times less 128 I, by channel the
responses at each charge, and the channels that have responded to the injection of the slot; by channel the time of the last hit for
the timing offset, PHASE left out, in fu of the FRC; and of each ring record that holds such a hit, how far the hit lies behind its
first cell and its length, both in fu (R377). -/
structure InjRun where
  group  : Nat
  stage  : Nat
  again  : Bool
  index  : Nat
  shot   : Bool
  offs   : Nat
  thr    : Nat
  moved  : List Nat
  hits   : SMap (Nat × Int)
  counts : SMap (List Nat)
  seen   : List Nat
  aim    : SMap (Option Int)
  aper   : List (Int × Nat)
  deriving DecidableEq, Repr

/-- What the Burnish keeps of a die. Class masks: bit 0 CD, 1 PH, 2 INJ. -/
structure BurDie where
  /-- Classes requested, running, and with results that wait for a commit (R368, R370, R381). -/
  req    : Nat
  run    : Nat
  res    : Nat
  /-- Slot strobe at the start of the last run of each class, 0 for none (R368). -/
  last   : List Nat
  /-- CD: quadrants served, slot strobe at which each quadrant's channel was named, histograms read, by channel (R371). -/
  cdDone : Nat
  cdFrom : List Nat
  cdHist : SMap (List Nat)
  /-- Injections of the INJ run fired so far (R377, R379). -/
  fired  : Nat
  shots  : Option InjRun
  /-- Sum of 2 φ and number of measurements (R376). -/
  phiSum : Int
  phiN   : Nat
  /-- Results: PHASE_NEXT and APER_NEXT, BIAS_NEXT, selections by channel. -/
  phase  : Option (Int × Int)
  bias   : Option Nat
  taps   : SMap (Option Nat)
  /-- First slot of the epoch in force, and the classes and the temperature of the commit that waits for its strobe (R381, R382). -/
  epoch0 : Nat
  classes : Nat
  temp   : Nat
  /-- FRC at which the burst writes COMMIT (R381). -/
  commitAt : Option Nat
  /-- Slot strobe of the last temperature reading (R367). -/
  tempAt : Nat
  deriving DecidableEq, Repr

def BurDie.idle : BurDie :=
  { req := 0, run := 0, res := 0, last := [0, 0, 0], cdDone := 0, cdFrom := [0, 0, 0, 0], cdHist := [], fired := 0, shots := none, phiSum := 0,
    phiN := 0, phase := none, bias := none, taps := [], epoch0 := 0, classes := 0, temp := 0, commitAt := none, tempAt := 0 }

/-- What an unlisted die is to the Burnish. -/
def burDefault (_ : Nat) : BurDie := BurDie.idle

/-! ### Rosette (16) -/

/-- A pulse train as ARM latched it (R389): the first slot it may use, and the pulses left, none for an endless train. -/
structure Train where
  poff    : Nat
  colours : Nat
  width   : Nat
  period  : Nat
  left    : Option Nat
  from_   : Nat
  deriving DecidableEq, Repr

/-- A sink that is on: FRC of its on edge and of its end, and whether this on-time has been diagnosed. -/
structure Lit where
  on_   : Nat
  end_  : Nat
  diag  : Bool
  /-- 1 dimmed DC, 2 pulse, 3 proof pulse. -/
  kind  : Nat
  deriving DecidableEq, Repr

/-- The settings in force for a sink in the slot (R387). -/
structure SinkSet where
  mode : Nat
  duty : Nat
  deriving DecidableEq, Repr

structure Rosette where
  train   : Option Train
  /-- Trains that replace it, each from its first qualifying slot, in the order of their ARM (R390). -/
  next    : List Train
  /-- Slot strobe (R518) that began the slot of the last pulse, and of the last proof pulse. -/
  fired   : Option Nat
  proofAt : Option Nat
  sets    : List SinkSet
  global  : Nat
  lit     : SMap (Option Lit)
  /-- Slot in which each sink was last diagnosed, plus 1. -/
  diag    : SMap Nat
  /-- Colours switched off after a fault until a strobe restores them: mask (R396). -/
  off     : Nat
  /-- Sinks whose CUR_EFF is clamped: mask (R392). -/
  clamped : Nat
  /-- Slot strobe of the last valid lamp sample, and of the slot in which an INJ run last ended, plus 1. -/
  sampleAt : Nat
  injAt   : Nat
  /-- A proof interval has ended at the last strobe, and whether with a due sink unproved (R395). -/
  intEnd  : Option Bool
  /-- Sinks that a fault has switched off go off at the next edge (R396). -/
  cut     : Bool
  deriving DecidableEq, Repr

/-! ### Tack (14) -/

inductive VisitPhase where
  /-- BREAK and DISCHARGE; `due` is the MAKE edge. -/
  | make
  /-- Held in DISCHARGE for an EX output (R353). -/
  | wait
  /-- SETTLE and CONVERT; `due` is the sampling instant. -/
  | sample
  /-- OWTEST and CHECK; `due` is the end of CHECK. -/
  | test
  | done
  deriving DecidableEq, Repr

structure Visit where
  /-- 1 scan, 2 urgent, 3 plausibility. -/
  kind   : Nat
  ch     : Nat
  phase  : VisitPhase
  due    : Nat
  /-- HK_CHCFG and HK_CHWIN as taken at MAKE (R351). -/
  cfg    : Word32
  win    : Word32
  /-- The sample: FRC of the sampling instant, code, flags. -/
  at_    : Nat
  code   : Option Int
  cmw    : Bool
  comp   : Bool
  suspect : Bool
  owt    : Bool
  plaus  : Bool
  /-- It has waited for an EX output (R353). -/
  waited : Bool
  /-- The FRC at which SETTLE began after MAKE (R352). -/
  settleAt : Nat := 0
  deriving DecidableEq, Repr

structure Tack where
  visits  : List (Option Visit)
  /-- The scan visit that urgent requests suspended (R360). -/
  saved   : Option Visit
  urgent  : List Nat
  /-- Channels of the running scan not yet dealt; HK31 still to come. -/
  queue   : List Nat
  plaus31 : Bool
  /-- A step runs; it is the plausibility step; its comparison is made. -/
  step    : Bool
  compared : Bool
  waiting : Bool
  /-- The last strobe calls for a scan (R358). -/
  scanDue : Bool
  /-- Consecutive failed and passed tests by channel. -/
  tests   : SMap (Nat × Nat)
  /-- Events 496, 497, 498 raised in this scan: mask. -/
  told    : Nat
  deriving DecidableEq, Repr

/-! ### Dies (01, 10, 18) -/

/-- The state of a die (R32). -/
inductive DiePwr where
  | off | init | joined
  deriving DecidableEq, Repr

/-- An injection that is armed (R52): the FRC of the arming or of the last firing, so that it fires in the first slot that begins
after it; INJ_AT and INJ_GROUP; and whether it has fired. -/
structure Inj where
  since : Nat
  at_   : Nat
  group : Nat
  fired : Bool
  deriving DecidableEq, Repr

/-- The ramp of a die (R68): R, the slot j of the epoch, old and new PHASE and APER. -/
structure Ramp where
  r      : Nat
  j      : Nat
  phase0 : Int
  phase1 : Int
  aper0  : Int
  aper1  : Int
  deriving DecidableEq, Repr

/-- A stretch of FRC, from `from_` until and not including `until_`, over which a die's coarse count was FRC plus `base` (R64, R263). -/
structure Lap where
  from_  : Nat
  until_ : Nat
  base   : Nat
  deriving DecidableEq, Repr

structure Die where
  pwr      : DiePwr
  /-- The die's coarse count minus the FRC, modulo 2^64: slot number and offset together (R263); the FRC from which it holds, and the
  stretches before, newest first: the cells of the rings were written under them (R89). -/
  base     : Nat
  since    : Nat
  laps     : List Lap
  /-- DIE_INIT has completed (R453). -/
  initDone : Bool
  /-- Leaves, joins at the next strobe (R451, R453). -/
  outPend  : Bool
  joinPend : Bool
  /-- Die events raised while a data lane was not LOCKED: event, and the channel when CHV is 1 (R459). -/
  held     : List (Nat × Option Nat)
  inj      : Option Inj
  /-- The die's ROOT PLL is locked (R91, R266). -/
  pll      : Bool
  /-- FRC at which INJ_BUSY falls (R55). -/
  injFall  : Option Nat
  /-- The FRZ0 that waits for its FRZ1, with the FRC at which it was taken (R262). -/
  frz0     : Option (Word64 × Nat)
  ramp     : Ramp
  /-- Length of the running fade, the coarse counts of the last fade output with k < L and of the last FIR output (R340). -/
  fadeLen  : Nat
  fadeAt   : Option Nat
  firAt    : Option Nat
  /-- The ALIGN block of the slot has not gone out on these lanes: mask (R259). -/
  alignDue : Nat
  /-- FIR outputs counted of the AMB interval of an INJ run; none outside one (R380). -/
  amb      : Option Nat
  /-- FRC from which a level counts as fresh: the die became JOINED, or its last AMB interval ended (R51, R380). -/
  freshFrom : Nat
  deriving DecidableEq, Repr

/-- A die that is OFF. -/
def Die.off : Die :=
  { pwr := .off, base := 0, since := 0, laps := [], initDone := false, outPend := false, joinPend := false, held := [],
    pll := false, inj := none, injFall := none, frz0 := none, ramp := ⟨1, 0, 0, 0, 0, 0⟩, fadeLen := 1, fadeAt := none, firAt := none,
    alignDue := 0, amb := none, freshFrom := 0 }

/-- A row of a queue with its sideband: the word, its generation tag and its birth stamp (R287, R290, R291). -/
structure QWord where
  w     : Word64
  tag   : Nat
  birth : Nat
  deriving DecidableEq, Repr

/-- A row that FILL wrote (R325). -/
def rowDefault (_ : Nat) : QWord := ⟨0, 0, 0⟩

/-- A word that goes through the push port of a quadrant: the FRC of its push (one word per 8 cu, R104), and for the end word of a
record whether the record carries PRE_SHORT and OVR (R106). -/
structure Landing where
  at_   : Nat
  w     : Word64
  birth : Nat
  short : Bool
  ovr   : Bool
  deriving DecidableEq, Repr

/-- An entry of the completion stage (R77 to R80, R82), a hit's or a slot marker's; it is listed from the capture. -/
structure Entry where
  /-- FRC of the capturing edge, or of the strobe. -/
  edge  : Nat
  /-- The die's slot offset at that edge (R297). -/
  birth : Nat
  /-- Channel of the die; none for a marker. -/
  chan  : Option Nat
  /-- The entry has been taken. -/
  taken : Bool
  /-- The finished word and the FRC from which the entry is complete. -/
  word  : Option Word64
  due   : Nat
  /-- A start that is not matched. -/
  hold  : Bool
  /-- Discarded: it is skipped at the head. -/
  drop  : Bool
  /-- The raw time on the FRC, in fu. -/
  raw   : Int
  /-- The hit belongs to a pair in interval mode: the FRC at which the timer that a start loads reaches 0 (R82). -/
  limit : Option Nat
  deriving DecidableEq, Repr

/-- The records of a converted bank that wait for the push port (R104): channel, bank, FRC of the end of the conversion. -/
structure Rec where
  chan   : Nat
  bank   : Nat
  at_    : Nat
  waited : Bool
  words  : List Word64
  deriving DecidableEq, Repr

/-- A quadrant of a die: its link side and queues. -/
structure Quad where
  /-- The 2,048 rows of the hit queue by address, and the counts of words written and read: W and R are their low 12 bits, the
  generation tag of a word is its count div 2,048 mod 4 (R288, R290). -/
  rows  : SMap QWord
  wn    : Nat
  rn    : Nat
  /-- Words that have passed, or are to pass, the push port and are not yet in their rows, in order. -/
  inq   : List Landing
  /-- FRC of the last pushes, newest first, for the reader's copy of W; FRC and R after the last reads, for the writer's copy of R
  (R289). -/
  wtimes : List Nat
  rtimes : List (Nat × Nat)
  /-- Counts at which the words stand that begin an item and have not been read. -/
  begs  : List Nat
  /-- The marker side queue, at most 4: a marker and its position P as a count (R287, R294). -/
  marks : List (Word64 × Nat)
  /-- Positions of items discarded since the last marker went out (R294). -/
  lost  : List Nat
  /-- The reader's copy of W as its last cycle found it, and the half-cu from which its next word-clock cycle may begin (R289, R293). -/
  seen  : Nat
  rdAt  : Nat
  /-- The staging buffer: the words of the item that the reader has open, the count at which its first word stands, that word's tag
  and birth stamp, and whether the end word is in (R293). -/
  stg   : List Word64
  stgAt : Nat
  stgTag : Nat
  stgBirth : Nat
  whole : Bool
  /-- The rest of the open item is being discarded (R300). -/
  drain : Bool
  /-- Words that have passed the reader's tests and wait for the lane; the half-cu from which the lane's next block may begin. -/
  out   : List Word64
  laneAt : Nat
  /-- Control and status words that wait for the lane, in order of kind (R259). -/
  cs : List Word64
  /-- Primitive words of bins that have not ended, each with the FRC of its bin's end (R112). -/
  prims : List (Word64 × Nat)
  /-- The completion stage in order of capturing edge and channel. -/
  stage : List Entry
  /-- Converted records in order of the end of conversion. -/
  recs : List Rec
  /-- FRC from which the push port is free (R104). -/
  port : Nat
  /-- FRC of the last ambient word on the lane (R342). -/
  ambAt : Option Nat
  /-- Hits lost with the stage full, and for want of credits, since the last marker (R80, R74). -/
  csLost : Nat
  bLost : Nat
  /-- Edges counted in the quadrant's histogram, and the leading edge counted last: its FRC, the channel in the quadrant, m (R371). -/
  histN : Nat
  histNew : Option (Nat × Nat × Nat)
  deriving DecidableEq, Repr

def Quad.empty : Quad :=
  { rows := [], wn := 0, rn := 0, inq := [], wtimes := [], rtimes := [], begs := [], marks := [], lost := [], stg := [], stgAt := 0,
    stgTag := 0, stgBirth := 0, seen := 0, rdAt := 0, whole := false, drain := false, out := [], laneAt := 0, cs := [], prims := [], stage := [],
    recs := [], port := 0, ambAt := none, csLost := 0, bLost := 0, histN := 0, histNew := none }

/-- What an unlisted quadrant is. -/
def quadDefault (_ : Nat) : Quad := Quad.empty

/-- The sideband of a row of an ingress queue, whose word stands in the Tree: its tag, its birth stamp (the low 16 bits of the FRC at
which it entered the crossing buffer, R295), and the C160 cycle of its push (R302). -/
structure IngSide where
  tag   : Nat
  birth : Nat
  cyc   : Nat
  deriving DecidableEq, Repr

/-- The sideband of a row that nothing has written. -/
def sideDefault (_ : Nat) : IngSide := ⟨0, 0, 0⟩

/-- The ingress side of an internal lane (R287, R295, R296). -/
structure Ingress where
  /-- The crossing buffer: its 32 rows by address (a word, its tag, its entry stamp), the counts of words written and read, and the FRC at
  which the last word entered. -/
  xrows : SMap QWord
  xw    : Nat
  xr    : Nat
  xAt   : Nat
  /-- The ingress queue: the sidebands of its 4,096 rows by address, and the counts of words written and read: W and R are their low 13
  bits, the generation tag of a word is its count div 4,096 mod 4 (R288, R290). -/
  side  : SMap IngSide
  wn    : Nat
  rn    : Nat
  /-- The word of a push that found the queue full, its birth stamp and its C160 cycle: in the cycle after, the oldest unopened item goes for
  it, unless a pop has made room (R296, R302). -/
  extra : Option (Word64 × Nat × Nat)
  /-- The marker side queue, at most 4: a marker, the slot that it opens, plus 1, and its position. -/
  marks : List (Word64 × Nat × Nat)
  /-- Words read of the item that the reader has open, and whether one of them came from a block that no mend could save (Table 12.4). -/
  opened : List Word64
  bad   : Bool
  /-- The rest of the open item is being discarded (R300). -/
  drain : Bool
  deriving DecidableEq, Repr

def Ingress.empty : Ingress :=
  { xrows := [], xw := 0, xr := 0, xAt := 0, side := [], wn := 0, rn := 0, extra := none, marks := [], opened := [], bad := false, drain := false }

/-- What an unlisted ingress queue is. -/
def ingressDefault (_ : Nat) : Ingress := Ingress.empty

/-! ### Channels (02, 03, 04, 13) -/

/-- The Awl channel states (Table 03.2). -/
inductive AwlSt where
  | armed | lost | high | sat | dead | pileHigh
  deriving DecidableEq, Repr

/-- The leading edge of the hit that a channel has open (R65, R66, R74). -/
structure Lead where
  /-- FRC of the capturing edge. -/
  edge  : Nat
  /-- Raw time on the die's count, in fu. -/
  raw   : Int
  /-- Correction C and epoch in force. -/
  corr  : Int
  epoch : Nat
  rcv   : Bool
  cal   : Bool
  pile  : Bool
  trg   : Bool
  deriving DecidableEq, Repr

/-- A freeze command that a channel holds (R92, R94): its applied instant and its region start, as die slot offsets. -/
structure Freeze where
  at_   : Nat
  start : Nat
  tag   : Nat
  pre   : Nat
  win   : Nat
  deriving DecidableEq, Repr

/-- What a hold bank is doing (R93, R96, R105). -/
inductive BankPhase where
  | transfer | convert | converted
  /-- Its last end word is pushed; free from this FRC. -/
  | pushed (free : Nat)
  deriving DecidableEq, Repr

structure Bank where
  tag   : Nat
  pre   : Nat
  win   : Nat
  first : Nat
  epoch : Nat
  /-- FRC of the applied freeze instant, and of the writing of the first cell that a record sends. -/
  at_   : Nat
  cell0 : Int
  /-- Cells of the region written while the high-gain and the low-gain comparator was active, and while the channel was disabled:
  masks by sample index (R35, R90). -/
  satH  : Nat
  satL  : Nat
  idle  : Nat
  phase : BankPhase
  deriving DecidableEq, Repr

/-- What the cells of a ring keep beside their samples (R35, R90). -/
inductive CellMark where
  /-- The comparator of the high-gain or the low-gain path was active. -/
  | highOver | lowOver
  /-- The channel was disabled: an empty input. -/
  | empty
  deriving DecidableEq, Repr

/-- The cells written from FRC `from_` until, and not including, FRC `until_` carry a mark; none while it goes on. -/
structure Span where
  mark   : CellMark
  from_  : Nat
  until_ : Option Nat
  deriving DecidableEq, Repr

/-- The Strop chain of a channel (R328 to R338). -/
structure Strop where
  /-- FRC of the oldest synchronising request that waits (R334). -/
  req    : Option Nat
  /-- Coarse count of r0, none before the first reset. -/
  r0     : Option Nat
  /-- The preset in force since r0 (log entry 21). -/
  preset : Nat
  /-- CIC1: integrators and comb delays, modulo 2^21; the coarse count of its last output. -/
  ints   : Nat × Nat × Nat
  combs  : Nat × Nat × Nat
  cicAt  : Option Nat
  /-- The FIR line, newest first. -/
  line   : List Nat
  /-- The last FIR level, and whether it carries OVL. -/
  fir    : Nat
  firOvl : Bool
  /-- CIC2: integrators, comb delays and last output, modulo 2^44. -/
  ints2  : Nat × Nat
  combs2 : Nat × Nat
  out2   : Nat
  /-- Coarse count of the last FIR output with OVL. -/
  ovlAt  : Option Nat
  /-- The coarse count of the last level emitted since r0. -/
  levelAt : Option Nat
  mean   : Int
  dev    : Nat
  n      : Nat
  /-- OVL and FRZ of the flicker window so far. -/
  flkOvl : Bool
  flkFrz : Bool
  /-- Sum of the FIR levels of a running AMB interval (R380). -/
  ambSum : Nat
  /-- FRC of the last level that was neither stale nor suppressed when emitted (R51). -/
  freshAt : Option Nat
  deriving DecidableEq, Repr

def Strop.zero : Strop :=
  { req := none, r0 := none, preset := 0, ints := (0, 0, 0), combs := (0, 0, 0), cicAt := none, line := List.replicate 32 0,
    fir := 0, firOvl := false, ints2 := (0, 0), combs2 := (0, 0), out2 := 0, ovlAt := none, levelAt := none, mean := 0,
    dev := 0, n := 0, flkOvl := false, flkFrz := false, ambSum := 0, freshAt := none }

structure Chan where
  /-- The threshold loop (R46): accumulator, feed-forward term, last request, firings since the last update. -/
  acc    : Int
  ff     : Int
  req    : Int
  fires  : Nat
  /-- The C40 edge of the last loop update; of the last change of MODE, with the mode before it (R51). -/
  updAt  : Option Nat
  modeAt : Option (Nat × Nat)
  /-- The trigger discriminator is active (R40). -/
  trgOn  : Bool
  /-- FRC of the last anode step (R37). -/
  anodeAt : Nat
  /-- FRC at which OVER was entered; LONG has been raised in it (R57). -/
  overAt : Nat
  overLong : Bool
  /-- Own recovery window and the windows opened by channels c - 1 and c + 1, as FRC of begin and end (R519). -/
  own    : Option (Nat × Nat)
  nbL    : Option (Nat × Nat)
  nbR    : Option (Nat × Nat)
  /-- FRC of the last injection that reached the channel (R54). -/
  inj    : Option Nat
  awl    : AwlSt
  lead   : Option Lead
  /-- FRC of the capture of the last trailing edge (R74). -/
  trail  : Nat
  /-- FRC of the last credit (R73). -/
  creditAt : Option Nat
  /-- The waiting start of an interval pair: FRC of its capturing edge, raw time, FRC at which the timer is 0 (R82). -/
  ivl    : Option (Nat × Int × Nat)
  /-- The ramp of OFFS_NOW (R68). -/
  offOld : Int
  offNew : Int
  /-- FRC of R0 (R91), and a restart that takes effect later: its R0 and the slot offset of R0. -/
  ring0  : Option Nat
  restart : Option (Nat × Nat)
  /-- What the cells of both rings were marked with when they were written, over the last lap and longer (R89, R90). -/
  spans  : List Span
  banks  : List (Option Bank)
  freezes : List Freeze
  strop  : Strop
  deriving DecidableEq, Repr

/-- A channel after its die's switch-on (R46, R74, R452). -/
def Chan.idle : Chan :=
  { acc := 0x3FF, ff := 0, req := 0x3FF, fires := 0, updAt := none, modeAt := none, trgOn := false,
    anodeAt := 0, overAt := 0, overLong := false, own := none, nbL := none,
    nbR := none, inj := none, awl := .armed, lead := none, trail := 0, creditAt := none, ivl := none, offOld := 0, offNew := 0,
    ring0 := none, restart := none, spans := [⟨.empty, 0, none⟩], banks := [none, none, none, none], freezes := [], strop := Strop.zero }

/-- What an unlisted channel is. -/
def chanDefault (_ : Nat) : Chan := Chan.idle

/-! ### The module -/

structure State where
  mode       : Mode
  /-- The free-running counter (R219). -/
  frc        : Nat
  /-- Register words by `Reg.key`; an unlisted register reads its reset word. -/
  regs       : SMap Word32
  dies       : SMap Die
  chans      : SMap Chan
  quads      : SMap Quad
  ingress    : SMap Ingress
  girth      : Girth
  matrix     : Matrix
  supervisor : Supervisor
  bridle     : Bridle
  latigo     : Latigo
  flash      : List Flash
  fabric     : Fabric
  packer     : Packer
  stirrup    : Stirrup
  skive      : Skive
  tree       : Tree
  stitch     : Stitch
  harness    : Harness
  burnish    : SMap BurDie
  rosette    : Rosette
  tack       : Tack
  wire       : Wire
  line       : List LineItem
  freeCtr    : Nat
  pending    : List Instr
  deriving DecidableEq, Repr

/-- What an unlisted register reads as. -/
def regDefault (k : Nat) : Word32 :=
  BitVec.ofNat 32 (((Reg.all[k % 512]?).getD .PRS_STATE).resetWord (k / 512))

/-- What an unlisted die is. -/
def dieDefault (_ : Nat) : Die := Die.off

def Girth.reset : Girth :=
  { offset := 0, rate := 0, ref := 0, slot := 0, sigma := 0, strobes := [⟨0, 0, 0, 0, 0⟩],
    rebase := [], qual := [false, false], altLost := none, toAlt := none, pend := none,
    run := [], lastSseq := none, haveMaster := false, cand := none, slewLeft := 0, slewDone := 0, 
    learned := 0, firstGmid := none, unused := 0, begun := 0, syncLate := false, echo := none, marks := [], stepped := false }

def Matrix.reset : Matrix := { log := [], edge := 0, raised := [], reqs := [], lastAt := 0, hold := none, votes := List.replicate 13 0 }

def Supervisor.reset : Supervisor :=
  { dipFall := 0, dipRise := none, tempHold := false, caseArm := true, hotMs := 0,
    caseAt := none, railOut := List.replicate 4 none, limitAt := [], clock := 0, fuses := [] }

def Bridle.reset : Bridle :=
  { samples := [], runs := List.replicate 5 0, discs := List.replicate 4 0, xchk := 0,
    sums := List.replicate 16 ⟨0, 0, false, none, 0⟩, clearAt := List.replicate 4 none, descAt := 0,
    fbDue := [none, none], test := [none, none], testOk := [false, false], keyUp := none, pending := none,
    sampleAt := none, rampAt := none, degAt := 0, grid := none, frames := List.replicate 4 none, lineFree := 0 }

def Latigo.reset : Latigo :=
  { progs := [], code := [], nextStore := [], initRun := none, prims := [], booted := none, pos := 0, flagT := false, wait := .none, elapsed := 0, queue := [],
    templ := [], repair := [], header := [], ops := [], issued := false, bufWords := 0, starts := 0,
    logPage := [0, 0], degSaved := 0, savedAt := 0, saveDue := false, seqAt := 0 }

/-- A flash device with the facts a usable device has, erased (log entry 8). -/
def Flash.reset : Flash :=
  { sfdp := true, revB := true, fast144 := true, erase4k := true, addr4 := true, mbit := 512, readOp := 0xEB, dummy := 6, addrWay := 0xB7,
    eraseOp := 0x20, page := 256, bytes := [], probed := [], par := none }

def Fabric.reset : Fabric :=
  { shadows := [none, none, none], access := none, waiting := [], edge := (0, 0), jtag := (0, false, 0) }

def Packer.reset : Packer := { items := [], slots := [], reported := 0, levels := [], laneSlot := [], gated := [], begun := 0 }

def Tree.reset : Tree :=
  { blocks := [], soft := [], copy := none, hot := [], passAt := 0, hotSlot := none, passSlot := none, held := [], todo := [],
    edge := (0, 0), visitAt := 0 }

def Skive.reset : Skive :=
  { inbox := [], blocks := [], parts := [], e0 := 0, freeAt := List.replicate 16 0, fails := List.replicate 16 0,
    returned := List.replicate 16 0, stats := [],
    stored := [], closed := [] }

def Stirrup.reset : Stirrup :=
  { imgHold := false, map := [], prims := [], borders := [], last := none, trigs := [],
    ctxs := [none, none, none, none], ctxFree := [0, 0, 0, 0], segs := [],
    dropped := [], held := [], aLast := none, emptied := (0, 0), autoOn := none, autoK := 0, fbClear := false, spans := [] }

def Stitch.reset : Stitch :=
  { groups := [], late := [], taken := 0, dedup := [], rxA := 0, rxB := 0, fromA := 0, fromB := 0, used := 0, reserve := [], unformed := [(0, 0)] }

def Harness.reset : Harness :=
  { clocks := 0, lostLanes := [], tmoEnd := none, unmeasured := 0, outA := [], outB := [], sentA := 0, sentB := 0, minor := [0, 0, 0], resume := [false, false], mirror := false,
    acount := [none, none], sidesA := [], sidesB := [],
    frzQ := [], retQ := [], retAt := [], retIn := [], elastic := [], streams := [PortStream.empty, PortStream.empty],
    groupAt := [none, none], sideCnt := [0, 0], echoCnt := [0, 0], frameCnt := [0, 0], eqAt := [], eqOwed := 0 }

def Rosette.reset : Rosette :=
  { train := none, next := [], fired := none, proofAt := none, sets := List.replicate 24 ⟨0, 0⟩, global := 0, lit := [],
    diag := [], off := 0, clamped := 0, sampleAt := 0, injAt := 0, intEnd := none, cut := false }

def Tack.reset : Tack :=
  { visits := [none, none], saved := none, urgent := [], queue := [], plaus31 := false, step := false, compared := false,
    waiting := false, scanDue := false, tests := [], told := 0 }

/-- The module held in RESET after power-on: what every field table's Reset column gives, PRS_CAUSE after power-on, nothing in
any queue (log entries 2 to 6). -/
def State.reset : State :=
  { mode := .reset, frc := 0, regs := [], dies := [], chans := [], quads := [], ingress := [], girth := Girth.reset, matrix := Matrix.reset,
    supervisor := Supervisor.reset, bridle := Bridle.reset, latigo := Latigo.reset,
    flash := [Flash.reset, Flash.reset], fabric := Fabric.reset, packer := Packer.reset, stirrup := Stirrup.reset,
    skive := Skive.reset, tree := Tree.reset,
    stitch := Stitch.reset, harness := Harness.reset, burnish := [], rosette := Rosette.reset, tack := Tack.reset, wire := ⟨[], []⟩,
    line := [], freeCtr := 0, pending := [] }

end Sys2Proof.Machine
end

