-- ==== Sys2Proof/Machine/Ops.lean ====
section
/-! DEFINITION. The named operations of the meanings: register fields, time, stream items, the output record, free values, and
the raising of an event source with its four actions. -/

namespace Sys2Proof.Machine

/-! ### Registers -/

/-- The key of element `i` of register `r`. -/
def Reg.key (r : Reg) (i : Nat) : Nat := i * 512 + r.ctorIdx

/-- The word a register holds. -/
def State.reg (s : State) (r : Reg) (i : Nat := 0) : Word32 := SMap.get regDefault s.regs (r.key i)

/-- Write the word a register holds. -/
def State.setReg (s : State) (r : Reg) (i : Nat) (w : Word32) : State :=
  { s with regs := SMap.set regDefault s.regs (r.key i) w }

/-- A word with one field replaced by the low bits of a value. -/
def withField (x : Word32) (lo w v : Nat) : Word32 :=
  BitVec.ofNat 32 (x.toNat - fieldOf x.toNat lo w * 2 ^ lo + v % 2 ^ w * 2 ^ lo)

/-- A register field. -/
def State.get (s : State) (f : Fld) (i : Nat := 0) : Nat := fieldOf (s.reg f.reg i).toNat f.lo f.w

/-- Write a register field; the value is cut to the field's width. -/
def State.put (s : State) (f : Fld) (v : Nat) (i : Nat := 0) : State :=
  s.setReg f.reg i (withField (s.reg f.reg i) f.lo f.w v)

/-- A one-bit field. -/
def State.flag (s : State) (f : Fld) (i : Nat := 0) : Bool := s.get f i != 0

/-- Write a one-bit field. -/
def State.putB (s : State) (f : Fld) (b : Bool) (i : Nat := 0) : State := s.put f (b2n b) i

/-- Add to a counter; counters wrap (R7). -/
def State.inc (s : State) (f : Fld) (i : Nat := 0) (n : Nat := 1) : State := s.put f (s.get f i + n) i

/-- A signed field. -/
def State.getS (s : State) (f : Fld) (i : Nat := 0) : Int := signed f.w (s.get f i)

/-- Write a signed field. -/
def State.putS (s : State) (f : Fld) (v : Int) (i : Nat := 0) : State := s.put f (unsigned f.w v) i

/-- A field of a register word that is being written. -/
def Fld.of (f : Fld) (data : Word32) : Nat := fieldOf data.toNat f.lo f.w

/-- A one-bit field of a register word that is being written. -/
def Fld.on (f : Fld) (data : Word32) : Bool := f.of data != 0

/-- Write one field from a register word. -/
def State.take (s : State) (f : Fld) (data : Word32) (i : Nat := 0) : State := s.put f (f.of data) i

/-! ### Outcomes and modes -/

/-- The module runs: it is neither without power nor held in RESET (Table 01.8). -/
def State.alive (s : State) : Bool := decide (s.mode ≠ .unpowered) && decide (s.mode ≠ .reset)

/-- START or RUN (Table 01.8). -/
def State.working (s : State) : Bool := decide (s.mode = .start) || decide (s.mode = .run)

/-- The output PWR_OK is high (R30, Table 20.4). -/
def State.pwrOk (s : State) : Bool := s.alive && decide (s.mode ≠ .fill)

/-- BSET is held low, by its pull-down or driven: no frame leaves (Table 20.4). -/
def State.bsetLow (s : State) : Bool := !s.working

/-- How the chip selects of the flash devices are held (Table 20.4): 0 high impedance, 1 driven high, 2 in use. -/
def State.flashSelects (s : State) : Nat :=
  match s.mode with
  | .unpowered => 0
  | .reset => 1
  | .fill => 1
  | _ => 2

/-- TDO serves accesses; in UNPOWERED, RESET and FILL it is high impedance (Table 20.4). -/
def State.tdoServes (s : State) : Bool := s.alive && decide (s.mode ≠ .fill)

/-- Answer the effect when its condition holds; a command that is not due changes nothing (log entry 1). -/
def when' (c : Bool) (s : State) (f : State → State) : Host.Outcome State Fault Refusal :=
  .next (if c then f s else s)

/-- Any other access clears the shadows of the snapshot pairs (R10). -/
def State.clearShadows (s : State) : State := { s with fabric := { s.fabric with shadows := [none, none, none] } }

/-- As `when'`, for a command that is itself an access to a register (R10). -/
def access' (c : Bool) (s : State) (f : State → State) : Host.Outcome State Fault Refusal := when' c s (fun s => f s.clearShadows)

/-! ### Time (09) -/

/-- T in fu at an FRC position in fu under a triple (R170, R223). -/
def timeFu (offset rate : Int) (ref : Nat) (f : Int) : Int :=
  (f * 2 ^ 48 + offset * 2 ^ 32 + rate * (f - ref * 128) + 2 ^ 47) / 2 ^ 48

/-- T in fu at an FRC position in fu, under the triple in force. -/
def State.timeAt (s : State) (f : Int) : Int := timeFu s.girth.offset s.girth.rate s.girth.ref f

/-- T in fu at the present ROOT edge. -/
def State.nowFu (s : State) : Nat := (s.timeAt (s.frc * 128)).toNat

/-- The coarse count of T. -/
def State.nowCu (s : State) : Nat := s.nowFu / 128 % 2 ^ 64

/-- The slot that runs: the one that the last strobe began (R518). -/
def State.nowSlot (s : State) : Nat := s.girth.slot

/-- What the Burnish keeps of die `f`. -/
def State.bur (s : State) (f : Nat) : BurDie := SMap.get burDefault s.burnish f

/-- Write what the Burnish keeps of die `f`. -/
def State.setBur (s : State) (f : Nat) (b : BurDie) : State := { s with burnish := SMap.set burDefault s.burnish f b }

/-- The slot offset of T in cu. -/
def State.nowOff (s : State) : Nat := s.nowCu % 65536

/-! ### Outputs and streams -/

/-- One bit through the scrambler 1 + x^39 + x^58: the bit out is the bit in, the 39th and the 58th bit out before it (R247). -/
def scrambleBit (r : BitVec 58) (b : Bool) : Bool := Bool.xor b (Bool.xor (r.getLsbD 38) (r.getLsbD 57))

/-- The payload of a block through the scrambler: word bit 63 is payload bit 0 and goes first (R247, R248). Answers the register and
the payload as it goes out, its most significant bit first. -/
def scramble (r : BitVec 58) (w : Word64) : BitVec 58 × Word64 :=
  (List.range 64).foldl (fun p i =>
    let o := BitVec.ofBool (scrambleBit p.1 (w.getLsbD (63 - i)))
    (p.1 <<< 1 ||| o.setWidth 58, p.2 <<< 1 ||| o.setWidth 64)) (r, 0)

/-- A 66-bit block: sync header 0b01 for data and 0b10 for control, not scrambled, then the scrambled payload (R247). -/
def blockBits (ctl : Bool) (x : Word64) : BitVec 66 := (if ctl then 0b10#2 else 0b01#2) ++ x

/-- Transmit lane `m`. -/
def State.tx (s : State) (m : Nat) : TxLane := SMap.get txDefault s.wire.lanes m

/-- Write transmit lane `m`. -/
def State.setTx (s : State) (m : Nat) (x : TxLane) : State :=
  { s with wire := { s.wire with lanes := SMap.set txDefault s.wire.lanes m x } }

/-- A block goes out on transmit lane `m` (R247). -/
def State.wireBlock (s : State) (m : Nat) (ctl : Bool) (w : Word64) : State :=
  let p := scramble (s.tx m).scr w
  let s := s.setTx m { s.tx m with scr := p.1 }
  { s with wire := { s.wire with sent := s.wire.sent ++ [(m, blockBits ctl p.2)] } }

/-- The next 64 bits of a PRBS31 generator x^31 + x^28 + 1, the first of them the most significant (R257). -/
def prbsWord (r : BitVec 31) : BitVec 31 × Word64 :=
  (List.range 64).foldl (fun p _ =>
    let o := BitVec.ofBool (Bool.xor (p.1.getLsbD 30) (p.1.getLsbD 27))
    (p.1 <<< 1 ||| o.setWidth 31, p.2 <<< 1 ||| o.setWidth 64)) (r, 0)

/-- A data block of PRBS31 goes out on lane `m` (R257). -/
def State.prbsBlock (s : State) (m : Nat) : State :=
  let p := prbsWord (s.tx m).prbs
  (s.setTx m { s.tx m with prbs := p.1 }).wireBlock m false p.2

/-- The blocks that an item of the record takes on a lane at once: a return-lane word, and a block of a data lane. The blocks of a port
item go out row by row (R268). -/
def LineItem.blocks : LineItem → List (Nat × Bool × Word64)
  | .ret f w => [(f, false, w)]
  | .lane n ctl w => [(64 + n, ctl, w)]
  | _ => []

/-- Put an item on the output record, and its blocks on their lanes. -/
def State.send (s : State) (i : LineItem) : State :=
  i.blocks.foldl (fun t b => t.wireBlock b.1 b.2.1 b.2.2) { s with line := s.line ++ [i] }

/-- Put an item into stream `k` of the current slot (Table 06.1). -/
def State.item (s : State) (k : Nat) (ws : List Word64) : State :=
  { s with packer := { s.packer with items := s.packer.items ++ [(k, ws)] } }

/-- Draw a free value (log entry 6). -/
def State.draw (s : State) : Nat × State := (Config.freeValue s.freeCtr, { s with freeCtr := s.freeCtr + 1 })

/-! ### Dies -/

/-- Die `f`. -/
def State.die (s : State) (f : Nat) : Die := SMap.get dieDefault s.dies f

/-- Write die `f`. -/
def State.setDie (s : State) (f : Nat) (d : Die) : State := { s with dies := SMap.set dieDefault s.dies f d }

/-- Die `f` is JOINED (R32). -/
def State.joined (s : State) (f : Nat) : Bool := decide ((s.die f).pwr = .joined)

/-- Some die is JOINED. -/
def State.anyJoined (s : State) : Bool := (List.range 16).any (fun f => s.joined f)

/-- The die's coarse count: its slot number and slot offset (R263). -/
def State.dieCount (s : State) (f : Nat) : Nat := (s.frc + (s.die f).base) % 2 ^ 64

/-- The die's slot offset. -/
def State.dieOff (s : State) (f : Nat) : Nat := s.dieCount f % 65536

/-- The bias channel that die `f` is mapped to (Table 17.9), if any. -/
def State.dieMap (s : State) (f : Nat) : Option Nat :=
  let w := if f < 8 then s.get .BRD_LIM9_DIEMAP0 else s.get .BRD_LIM10_DIEMAP1
  let m := fieldOf w (3 * (f % 8)) 3
  if m ≥ 4 then some (m % 4) else none

/-! ### Raising a source (19) -/

/-- The word of EVM_PEND that holds source `i`, and its bit. -/
def State.pendBit (s : State) (i : Nat) : Bool := bitOf (s.get .EVM_PEND_PEND (i / 32)) (i % 32)

/-- Some pending source has MASK 0 and PIN 1 (R463). -/
def State.pinWanted (s : State) : Bool :=
  s.flag .EVM_CTRL_PIN_EN && s.working &&
    (List.range 544).any (fun i => s.pendBit i && !s.flag .EVM_CFG_MASK i && s.flag .EVM_CFG_PIN i)

/-- Drive or release EVENT_N (R463): once low it stays low for 1 µs; released at once outside START and RUN. -/
def State.driveEventN (s : State) : State :=
  if s.pinWanted then
    if s.flag .EVM_STAT_EVENT_N then s
    else ({ s with matrix := { s.matrix with hold := some (s.frc + usCu) } } : State).putB .EVM_STAT_EVENT_N true
  else if !s.working then
    ({ s with matrix := { s.matrix with hold := none } } : State).putB .EVM_STAT_EVENT_N false
  else
    match s.matrix.hold with
    | some t => if t ≤ s.frc then ({ s with matrix := { s.matrix with hold := none } } : State).putB .EVM_STAT_EVENT_N false else s
    | none => s.putB .EVM_STAT_EVENT_N false

/-- Merge a further raising into the waiting entry of the same source and slot (R464). -/
def logMerge (id tslot : Nat) : List LogEntry → Option (List LogEntry)
  | [] => none
  | e :: t =>
    if e.id = id ∧ e.tslot = tslot then some ({ e with again := satAdd 7 e.again 1 } :: t)
    else (logMerge id tslot t).map (e :: ·)

/-- The C40 edge at which the event matrix sees what happens now. -/
def State.matrixEdge (s : State) : Nat := ceilDiv s.frc 64

/-- Place an entry: behind all earlier ones, and among those of its C40 edge in ascending ID (R460). -/
def logPlace (e : LogEntry) : List LogEntry → List LogEntry
  | [] => [e]
  | x :: t => if x.edge = e.edge ∧ e.id < x.id then e :: x :: t else x :: logPlace e t

/-- What became of a log entry: placed or merged, or refused for want of space (R464, R465). -/
def State.logEntry (s : State) (id data : Nat) (replay : Bool) : State × Bool :=
  match logMerge id (s.nowSlot % 2 ^ 32) s.matrix.log with
  | some l => ({ s with matrix := { s.matrix with log := l } }, true)
  | none =>
    let e : LogEntry :=
      { id := id, sev := s.get .EVM_CFG_SEV id, replay := replay, again := 0, toff := s.nowOff,
        tslot := s.nowSlot % 2 ^ 32, data := data % 2 ^ 32, edge := s.matrixEdge }
    if id = 543 then
      -- the last entry is reserved for source 543, and a waiting one absorbs later refusals
      match s.matrix.log.findIdx? (fun x => x.id == 543) with
      | some k =>
        ({ s with matrix := { s.matrix with
            log := s.matrix.log.modify k (fun x => { x with again := satAdd 7 x.again 1 }) } }, true)
      | none => ({ s with matrix := { s.matrix with log := logPlace e s.matrix.log } }, true)
    else if (s.matrix.log.filter (fun x => x.id ≠ 543)).length < 511 then
      ({ s with matrix := { s.matrix with log := logPlace e s.matrix.log } }, true)
    else (s, false)

/-- Request program `n` (R442): merged, queued, or refused. -/
def State.queueProgram (s : State) (n : Nat) : State × Bool :=
  if s.latigo.queue.contains n then (s.inc .LAT_CNT1_Q_MERGED, true)
  else if s.latigo.queue.length < 8 then
    ({ s with latigo := { s.latigo with queue := s.latigo.queue ++ [n] } }, true)
  else (s.inc .LAT_CNT1_Q_REFUSED, false)

/-- Put a program into the queue ahead of those that sources of a higher number have put there at the same C40 edge (R460). -/
def queuePlace (reqs : List (Nat × Nat)) (n id : Nat) : List Nat → List Nat
  | [] => [n]
  | x :: t => if reqs.any (fun r => r.1 == x && decide (id < r.2)) then n :: x :: t else x :: queuePlace reqs n id t

/-- The request of a source (R442, R460): as that of a program, but the sources of one C40 edge count in ascending order, whichever was raised
first. -/
def State.queueEvent (s : State) (n id : Nat) : State × Bool :=
  let reqs := s.matrix.reqs
  let q := s.latigo.queue
  let put (t : State) (q : List Nat) : State :=
    { t with latigo := { t.latigo with queue := queuePlace reqs n id q },
             matrix := { t.matrix with reqs := reqs.filter (fun r => r.1 != n) ++ [(n, id)] } }
  let later := reqs.filter (fun r => decide (id < r.2) && q.contains r.1)
  if q.contains n then
    let s := s.inc .LAT_CNT1_Q_MERGED
    (if later.any (fun r => r.1 == n) then put s (q.erase n) else s, true)
  else if q.length < 8 then (put s q, true)
  else
    let s := s.inc .LAT_CNT1_Q_REFUSED
    match later.find? (fun r => later.all (fun x => decide (x.2 ≤ r.2))) with
    | some r => (put s (q.erase r.1), false)
    | none => (s, false)

/-- The outputs of the Bridle go low and the setpoints sent go to 0 (Table 17.2, R407): the outputs' feedbacks must follow
within FB_LAT (R412). -/
def State.bridleSafe (s : State) : State :=
  let due := some (s.frc + s.get .BRD_LIM2_FB_LAT * usCu)
  let s1 : State := { s with bridle := { s.bridle with
    fbDue := [if s.flag .BRD_STAT_EN_A then due else s.bridle.fbDue.getD 0 none,
              if s.flag .BRD_STAT_EN_B then due else s.bridle.fbDue.getD 1 none],
    test := [none, none], testOk := [false, false] } }
  ((List.range 4).foldl (fun t b => t.put .BRD_SET_SENT 0 b) s1).putB .BRD_STAT_EN_A false |>.putB .BRD_STAT_EN_B false

/-- The Bridle enters LOCKOUT (Table 17.2) but for event 516: answers whether it was not there already. -/
def State.bridleLock (s : State) (cause : Nat) : State × Bool :=
  if s.get .BRD_STAT_STATE = 3 then (s, false)
  else
    let s1 := ((s.bridleSafe.put .BRD_STAT_STATE 3).put .BRD_TRIP_CAUSE cause).inc .BRD_CNT0_TRIPS
    ({ s1 with latigo := { s1.latigo with saveDue := true } }, true)

/-- Remember that source `id` is raised at this C40 edge. -/
def State.noteRaised (s : State) (id : Nat) : State :=
  { s with matrix := { s.matrix with
      edge := s.matrixEdge, raised := if s.matrix.edge = s.matrixEdge then id :: s.matrix.raised else [id],
      reqs := if s.matrix.edge = s.matrixEdge then s.matrix.reqs else [] } }

/-- EVM_LAST shows the source handled last: of those raised at one C40 edge the highest (R460). -/
def State.showLast (s : State) (id : Nat) : State :=
  let last := if s.matrix.lastAt = s.matrixEdge then max id (s.get .EVM_LAST_ID) else id
  ({ s with matrix := { s.matrix with lastAt := s.matrixEdge } } : State).put .EVM_LAST_ID last

/-- Source `id` has been raised at this C40 edge. -/
def State.justRaised (s : State) (id : Nat) : Bool := s.matrix.edge == s.matrixEdge && s.matrix.raised.contains id

/-- Raise source `id` (R460, R461). The four actions may raise further sources: 543 for a refused log entry (R465), 532 for a
refused program request (R442), 516 for the Bridle's trip (R409). `fuel` bounds that chain; where it ends, a further refusal
raises nothing (log entry 9). -/
def State.raiseN : Nat → State → Nat → Nat → Bool → State
  | 0, s, _, _, _ => s
  | fuel + 1, s, id, data, replay =>
    if !s.alive then s
    else
      let s := (s.inc .EVM_CNT_COUNT id).showLast id
      if s.flag .EVM_CFG_MASK id then s
      else
        let s := s.put .EVM_PEND_PEND (withBit (s.get .EVM_PEND_PEND (id / 32)) (id % 32) true) (id / 32)
        let s := s.noteRaised id
        let s :=
          if s.flag .EVM_CFG_LOG id then
            match s.logEntry id data replay with
            | (s1, true) => s1
            | (s1, false) => State.raiseN fuel (s1.inc .EVM_CNTG_LOG_LOST) 543 0 false
          else s
        let s := s.driveEventN
        let s :=
          if s.flag .EVM_CFG_PROG_EN id then
            match s.queueEvent (s.get .EVM_CFG_PROG id) id with
            | (s1, true) => s1
            | (s1, false) => State.raiseN fuel s1 532 0 false
          else s
        if s.flag .EVM_CFG_BRIDLE id then
          match s.bridleLock 0xA with
          | (s1, true) => State.raiseN fuel s1 516 0 false
          | (s1, false) => s1
        else s

/-- Raise Saddle source `id`. -/
def State.raise (s : State) (id : Nat) (data : Nat := 0) : State := State.raiseN 4 s id data false

/-- Raise a source by a REPLAY word of a die (Table 19.4). -/
def State.raiseReplay (s : State) (id data : Nat) : State := State.raiseN 4 s id data true

/-- A trip of the Bridle with its cause (R403, Table 17.2). -/
def State.bridleTrip (s : State) (cause : Nat) : State :=
  match s.bridleLock cause with
  | (s1, true) => s1.raise 516
  | (s1, false) => s1

/-- Request a program; a refusal raises event 532 (R442). Answers whether it was taken. -/
def State.requestProgram (s : State) (n : Nat) : State × Bool :=
  match s.queueProgram n with
  | (s1, true) => (s1, true)
  | (s1, false) => (s1.raise 532, false)

end Sys2Proof.Machine
end

