-- ==== Sys2Proof/Machine/Girth.lean ====
section
/-! DEFINITION. The Girth (09): the reference, the time from the master, the echoes, the snapshot, and what a slot strobe does to
the time scale. -/

namespace Sys2Proof.Machine

/-- TMI messages are acted on in HALT, START and RUN (R444). -/
def State.tmiActs (s : State) : Bool := decide (s.mode = .halt) || s.working

/-- A message names the module by its ID or by 0xFFF (R279). -/
def State.addressed (s : State) (tgt : BitVec 12) : Bool :=
  tgt.toNat = s.get .ID_MODULE_MODULE || tgt.toNat = 0xFFF

/-- A single-block item of a port: CTYPE, CHK over the low 48 bits, payload (R248, R250). -/
def ctlBlock (ctype payload : Nat) : Word64 :=
  pack [(0, 48, payload), (48, 8, crc8 (bytesBE 6 (payload % 2 ^ 48))), (56, 8, ctype)]

/-! ### Far-end loopback of a CI port (Table 10.2A) -/

/-- Lane `i` of a CI port is in far-end loopback. -/
def State.farLane (s : State) (cib : Bool) (i : Nat) : Bool := decide (s.get .HAR_RXL_CTRL_LOOP (64 + 8 * b2n cib + i) = 3)

/-- Blocks that a CI port receives one after the other, the first of them on lane 0, enter the elastic buffers of the lanes in far-end
loopback (R257, log entry 150). -/
def State.farBack (s : State) (cib : Bool) (bs : List (Bool × Word64)) : State :=
  bs.zipIdx.foldl (fun t x =>
    let i := x.2 % 8
    if t.farLane cib i then
      let k := 8 * b2n cib + i
      { t with harness := { t.harness with
        elastic := SMap.set (fun _ => []) t.harness.elastic k (SMap.get (fun _ => []) t.harness.elastic k ++ [x.1]) } }
    else t) s

/-- REFSEL shows HOLD (Table 09.1). -/
def State.inHold (s : State) : Bool := decide (2 ≤ s.get .GIR_STAT_REFSEL)

/-- TMO is idle in HOLD, with TMO_EN 0, and in the states that R30 names (R281). Going idle raises event 424. -/
def State.tmoUpdate (s : State) : State :=
  let idle := s.inHold || !s.flag .HAR_CTRL_TMO_EN || !s.alive || decide (s.mode = .fill)
  let s : State := if idle then { s with harness := { s.harness with tmoEnd := none } } else s
  if idle && !s.flag .HAR_STAT_TMO_IDLE then (s.putB .HAR_STAT_TMO_IDLE true).raise 424
  else s.putB .HAR_STAT_TMO_IDLE idle

/-- TMO follows a change of reference to TMI or TMI_ALT (R282). -/
def State.tmoSwitch (s : State) (alt : Bool) : State :=
  let s1 :=
    if s.flag .HAR_STAT_TMO_SRC = alt then s
    else (({ s with harness := { s.harness with tmoEnd := none } } : State).putB .HAR_STAT_TMO_SRC alt).raise 425
  s1.tmoUpdate

/-- A TMI message block by block: its control block, its data blocks and MEND with the CRC-32C of the earlier ones (Table 10.6). -/
def tmiMessage (ctl : Word64) (data : List Word64) : List (Bool × Word64) :=
  (true, ctl) :: data.map (fun w => (false, w)) ++
    [(true, pack [(56, 8, 0x7F), (0, 32, crc32c ((ctl :: data).flatMap (fun w => bytesBE 8 w.toNat)))])]

/-- The IDLE block of TMI, which is no message (Table 10.6). -/
def tmiIdle : Word64 := pack [(56, 8, 0x11)]

/-- TMO repeats a message of the input that REFSEL selects, bit for bit, 64 cu after its first bit is at the input land at the FRC position
`at_` in fu (R281); a block takes 66 cu. Whole blocks between it and the message before have been IDLE (log entry 156). -/
def State.tmoRepeat (s : State) (alt : Bool) (at_ : Int) (m : List (Bool × Word64)) : State :=
  if s.flag .HAR_STAT_TMO_IDLE || s.flag .HAR_STAT_TMO_SRC != alt || m.isEmpty then s
  else
    let at_ := at_ + 8192
    let idle := match s.harness.tmoEnd with
      | some e => ((at_ - e) / 8448).toNat
      | none => 0
    let bs := List.replicate idle (true, tmiIdle) ++ m
    { s with line := s.line ++ bs.zipIdx.map (fun x => .tmo (at_ + 8448 * ((x.2 : Int) - idle)) x.1.1 x.1.2),
             harness := { s.harness with tmoEnd := some (at_ + 8448 * m.length) } }

/-- The receive latency of an input (GIR_RXLAT). -/
def State.rxLat (s : State) (alt : Bool) : Nat := if alt then s.get .GIR_RXLAT_ALT_LAT else s.get .GIR_RXLAT_TMI_LAT

/-- As `tmoRepeat`, of a message that its command brings as its MEND block has been decoded: its first bit was at the land a block of 66 cu
for each of its blocks and the receive latency earlier, as R280 has it of a TRIG (log entry 156). -/
def State.tmoEnded (s : State) (alt : Bool) (m : List (Bool × Word64)) : State :=
  s.tmoRepeat alt ((s.frc : Int) * 128 - s.rxLat alt - 8448 * m.length) m

/-- As `tmoEnded`, of a message whose command names no input: it came by the one that REFSEL selects (log entry 156). -/
def State.tmoHeard (s : State) (m : List (Bool × Word64)) : State := s.tmoEnded (s.flag .HAR_STAT_TMO_SRC) m

/-- A time mark for the slot that the next strobe begins, with the reference, TIME_VALID and the master after its event (R240). -/
def State.mark (s : State) (kind : Nat) (delta : Int) : State :=
  { s with girth := { s.girth with marks := s.girth.marks ++
      [⟨kind, delta, s.get .GIR_STAT_REFSEL, s.get .GIR_STAT_TIME_VALID, s.get .GIR_STAT_GMID⟩] } }

/-- XTAL_ERR (R226). -/
def State.xtal (s : State) : Int := signed 48 (s.get .GIR_XTAL_LO_XTAL_LO + s.get .GIR_XTAL_HI_XTAL_HI * 2 ^ 32)

/-- Write XTAL_ERR. -/
def State.putXtal (s : State) (x : Int) : State :=
  (s.put .GIR_XTAL_LO_XTAL_LO (unsigned 48 x)).put .GIR_XTAL_HI_XTAL_HI (unsigned 48 x / 2 ^ 32)

/-- T under the triple in force has reached the next slot, and this is the first such edge (R224, R518). -/
def State.strobeDue (s : State) : Bool :=
  let lim : Int := (s.girth.slot + 1) * 2 ^ 23
  decide (s.girth.sigma < s.frc) && decide (lim ≤ s.timeAt (s.frc * 128)) &&
    (decide (s.frc = s.girth.sigma + 1) || decide (s.timeAt ((s.frc : Int) * 128 - 128) < lim))

/-- Holdover entry (Table 09.1, R222): event 386, TMO goes idle, and crystal learning is broken (R226). -/
def State.enterHold (s : State) : State :=
  let s := s.put .GIR_STAT_REFSEL (if s.flag .GIR_STAT_XTAL_VALID then 2 else 3)
  let s : State := { s with girth := { s.girth with rebase := s.girth.rebase ++ [true], learned := 0, syncLate := false, unused := 0 } }
  (((s.inc .GIR_CNT2_HOLD_ENTRIES).raise 386).mark 5 0).tmoUpdate

/-- A correction that a strobe at this edge would have applied is discarded when its input is lost (R222). -/
def State.dropAtStrobe (s : State) : State :=
  match s.girth.pend with
  | some (_, due) =>
    if s.strobeDue && decide (due ≤ s.frc) then
      ({ s with girth := { s.girth with pend := none } } : State).inc .GIR_CNT0_SYNC_REJ
    else s
  | none => s

/-- TMI, and TMI_ALT, is OK and enabled. -/
def State.tmiUsable (s : State) : Bool := s.flag .GIR_STAT_TMI_OK && s.flag .GIR_CTRL_TMI_EN
def State.altUsable (s : State) : Bool := s.flag .GIR_STAT_ALT_OK && s.flag .GIR_CTRL_ALT_EN

/-- An input is OK, or is not (R220); one that is not is not qualified either. -/
def State.putInputOk (s : State) (alt ok : Bool) : State :=
  let s : State := if ok then s else { s with girth := { s.girth with qual := setAt s.girth.qual (b2n alt) false } }
  s.putB (if alt then .GIR_STAT_ALT_OK else .GIR_STAT_TMI_OK) ok

/-- The reference changes to TMI_ALT: REF_SW + 1 (Table 09.1). -/
def State.toAltRef (s : State) : State := (((s.put .GIR_STAT_REFSEL 1).inc .GIR_CNT2_REF_SW).mark 3 0).tmoSwitch true

/-- The reference changes from TMI_ALT to TMI. -/
def State.toTmiRef (s : State) : State := ((s.put .GIR_STAT_REFSEL 0).mark 3 0).tmoSwitch false

/-- A change to TMI_ALT that the loss of both inputs within the same 1,024 cu overtakes has not been made: the Girth enters HOLD directly
(R222; log entry 151). -/
def State.undoAlt (s : State) : State :=
  match s.girth.toAlt with
  | some t =>
    if s.frc ≤ t + 1024 then
      let ms := s.girth.marks
      let s : State := { s with girth := { s.girth with marks := if ms.getLast?.any (fun m => m.kind == 3) then ms.dropLast else ms } }
      s.put .GIR_CNT2_REF_SW (s.get .GIR_CNT2_REF_SW + 65535)
    else s
  | none => s

/-- An input is declared lost (R220, R222, Table 09.1). -/
def State.refLost (s : State) (alt : Bool) : State :=
  let s := s.putInputOk alt false
  if alt then
    let s : State := { s with girth := { s.girth with altLost := some s.frc } }
    if s.get .GIR_STAT_REFSEL = 1 then
      let s := (s.dropAtStrobe).raise 385
      if s.tmiUsable then s.toTmiRef else s.undoAlt.enterHold
    else s
  else if s.get .GIR_STAT_REFSEL = 0 then
    let s := (s.dropAtStrobe).raise 384
    if s.altUsable then ({ s with girth := { s.girth with toAlt := some s.frc } } : State).toAltRef
    else
      let both := s.girth.altLost.any (fun t => decide (s.frc ≤ t + 1024))
      (if both then s.raise 385 else s).enterHold
  else s

/-- Leave HOLD for an input (Table 09.1, R222). -/
def State.leaveHold (s : State) (alt : Bool) : State :=
  let s := s.put .GIR_STAT_REFSEL (b2n alt)
  let s : State := { s with girth := { s.girth with rebase := s.girth.rebase ++ [false], unused := 0 } }
  ((s.raise 387).mark 6 0).tmoSwitch alt

/-- An input is qualified and enabled. -/
def State.qualified (s : State) (alt : Bool) : Bool :=
  s.girth.qual.getD (b2n alt) false && s.flag (if alt then .GIR_CTRL_ALT_EN else .GIR_CTRL_TMI_EN)

/-- The reference that Table 09.1 and the enables of GIR_CTRL select now: FORCE_HOLD selects HOLD; an input that is disabled is no
longer selected, as if lost (log entry 152); a qualified input ends HOLD, and TMI ends TMI_ALT while REVERT is 1. -/
def State.refSelect (s : State) : State :=
  if s.flag .GIR_CTRL_FORCE_HOLD then (if s.inHold then s else s.enterHold)
  else if s.inHold then
    if s.qualified false then s.leaveHold false else if s.qualified true then s.leaveHold true else s
  else if s.get .GIR_STAT_REFSEL = 1 then
    if s.qualified false && s.flag .GIR_CTRL_REVERT then (s.inc .GIR_CNT2_REF_SW).toTmiRef
    else if s.flag .GIR_CTRL_ALT_EN then s
    else if s.tmiUsable then s.toTmiRef else s.enterHold
  else if s.flag .GIR_CTRL_TMI_EN then s
  else if s.altUsable then s.toAltRef else s.enterHold

/-- An input has been OK for 64 consecutive slots (R220, Table 09.1). -/
def State.refQualified (s : State) (alt : Bool) : State :=
  let s := s.putInputOk alt true
  ({ s with girth := { s.girth with qual := setAt s.girth.qual (b2n alt) true } } : State).refSelect

/-- Copy the last strobe into the snapshot registers (R242). -/
def State.girSnap (s : State) : State :=
  let t := s.girth.strobes.headD ⟨0, 0, 0, 0, 0⟩
  let o := unsigned 96 t.offset
  let r := unsigned 48 t.rate
  let s := ((s.put .GIR_SNAP_SLOT_LO_SLOT_LO t.slot).put .GIR_SNAP_SLOT_HI_SLOT_HI (t.slot / 2 ^ 32))
  let s := ((s.put .GIR_SNAP_SIG_LO_SIG_LO t.sigma).put .GIR_SNAP_SIG_HI_SIG_HI (t.sigma / 2 ^ 32))
  let s := ((s.put .GIR_SNAP_REF_LO_REF_LO t.ref).put .GIR_SNAP_REF_HI_REF_HI (t.ref / 2 ^ 32))
  let s := ((s.put .GIR_SNAP_RATE_LO_RATE_LO r).put .GIR_SNAP_RATE_HI_RATE_HI (r / 2 ^ 32))
  ((s.put .GIR_SNAP_OFFS0_OFFS0 o).put .GIR_SNAP_OFFS1_OFFS1 (o / 2 ^ 32)).put .GIR_SNAP_OFFS2_OFFS2 (o / 2 ^ 64)

/-- A write of GIR_CTRL (Table 09.8): the RW fields, a snapshot, and the reference that they select. LEARN_EN 0 breaks crystal learning
(R226). -/
def State.writeGirCtrl (s : State) (data : Word32) : State :=
  let s := (((s.take .GIR_CTRL_LEARN_EN data).take .GIR_CTRL_REVERT data).take .GIR_CTRL_ALT_EN data).take .GIR_CTRL_TMI_EN data
  let s := s.take .GIR_CTRL_FORCE_HOLD data
  let s : State := if s.flag .GIR_CTRL_LEARN_EN then s else { s with girth := { s.girth with learned := 0 } }
  let s := if Fld.on .GIR_CTRL_SNAP data then s.girSnap else s
  s.refSelect

/-! ### Time from the master -/

/-- The strobe whose triple is in force at an FRC position in fu; a stamp at a strobe edge belongs to the new slot (R229). -/
def tripleAt : List Strobe → Nat → Strobe
  | [], _ => ⟨0, 0, 0, 0, 0⟩
  | [t], _ => t
  | t :: u :: r, f => if t.sigma * 128 ≤ f then t else tripleAt (u :: r) f

/-- T of a stamp at a land, in fu: the stamp as an FRC position less the receive latency (R229). -/
def State.stampFu (s : State) (stamp lat : Nat) : Int :=
  let t := tripleAt s.girth.strobes stamp
  timeFu t.offset t.rate t.ref ((stamp : Int) - lat)

/-- Whether θ lies within LOCK_WIN of every θ of a run, in fu without rounding (R230). -/
def State.nearAll (s : State) (th : Int) (run : List Int) : Bool :=
  run.all (fun r => decide ((th - r).natAbs ≤ s.get .GIR_SERVO_LOCK_WIN * 16))

/-- CONFIRM_N; 0 acts as 1 (Table 09.8). -/
def State.confirmN (s : State) : Nat := max 1 (s.get .GIR_SERVO_CONFIRM_N)

/-- A SYNC has been used (R234). -/
def State.syncUsed (s : State) : State :=
  (({ s with girth := { s.girth with unused := 0, syncLate := false } } : State)).inc .GIR_CNT0_SYNC_OK

/-- Put a correction, step or slew in wait for the first strobe at least 256 cu later (R231). -/
def State.pendSync (s : State) (p : Pend) : State :=
  { s with girth := { s.girth with pend := some (p, s.frc + 256), run := [] } }

/-- A θ of 2^31 cu or more (Table 09.3). -/
def bigTheta (th : Int) : Bool := decide (2 ^ 31 * 128 * 16 ≤ th.natAbs)

/-- Apply a θ that needs no further confirmation, by the row of Table 09.3 that its size selects. -/
def State.applyTheta (s : State) (th : Int) : State :=
  if th.natAbs ≤ s.get .GIR_SERVO_LOCK_WIN * 16 then
    s.syncUsed.pendSync (.corr (truncDiv (th * 2 ^ 12) (2 ^ s.get .GIR_SERVO_GAIN_SHIFT)))
  else if th.natAbs ≤ s.get .GIR_STEP_STEP_MAX * 128 * 16 || !s.anyJoined then s.syncUsed.pendSync (.step th)
  else if bigTheta th then (s.inc .GIR_CNT0_SYNC_REJ).raise 391
  else s.syncUsed.pendSync (.slew th)

/-- A SYNC of the accepted master (Table 09.3). -/
def State.syncOwn (s : State) (sseq : Nat) (th : Int) : State :=
  if (s.girth.lastSseq.map (fun q => !laterThan 16 sseq q)).getD false then s.inc .GIR_CNT0_SYNC_REJ
  else
    let s : State := { s with girth := { s.girth with lastSseq := some sseq } }
    if s.girth.pend.isSome then s.inc .GIR_CNT0_SYNC_REJ
    else if th.natAbs ≤ s.get .GIR_SERVO_LOCK_WIN * 16 then s.applyTheta th
    else
      let near := s.nearAll th s.girth.run
      let s : State := { s with girth := { s.girth with run := if near then th :: s.girth.run else [th] } }
      let s := if near then s else s.raise 392
      if bigTheta th && s.anyJoined then (s.inc .GIR_CNT0_SYNC_REJ).raise 391
      else if s.confirmN ≤ s.girth.run.length then s.applyTheta th
      else if near then s.syncUsed
      else s.inc .GIR_CNT0_SYNC_REJ

/-- A SYNC of another GMID breaks the run of the one that waits to be accepted: event 392 when it had begun (R233, R244). -/
def State.breakCand (s : State) : State :=
  match s.girth.cand with
  | some (g, q, ths) =>
    if ths = [] then s else ({ s with girth := { s.girth with cand := some (g, q, []) } } : State).raise 392
  | none => s

/-- A SYNC of another GMID than the accepted one (R233): it is not used for correction. Only the first GMID seen since reset raises no
event 388. -/
def State.syncOther (s : State) (gmid sseq : Nat) (th : Int) : State :=
  let same := (s.girth.cand.map (fun c => decide (c.1 = gmid))).getD false
  let fresh := (s.girth.cand.map (fun c => laterThan 16 sseq c.2.1)).getD true
  if same && !fresh then s.inc .GIR_CNT0_SYNC_REJ
  else
    let first := !s.girth.haveMaster && s.girth.firstGmid.all (fun g => g == gmid)
    let s : State := if s.girth.firstGmid.isNone then { s with girth := { s.girth with firstGmid := some gmid } } else s
    let s := s.putB .GIR_STAT_MASTER_PEND true
    let s := if same then s else s.breakCand
    let s := if !first && !same then s.raise 388 else s
    let ths := if same then (s.girth.cand.map (fun c => c.2.2)).getD [] else []
    if s.girth.pend.isSome then
      ({ s with girth := { s.girth with cand := some (gmid, sseq, ths) } } : State).inc .GIR_CNT0_SYNC_REJ
    else
      let ok := s.nearAll th ths
      let ths' := if ok then th :: ths else [th]
      let s : State := { s with girth := { s.girth with cand := some (gmid, sseq, ths') } }
      let s := if ok then s else s.raise 392
      if s.confirmN ≤ ths'.length then
        let s : State := { s with girth := { s.girth with
          cand := none, run := [], lastSseq := some sseq, haveMaster := true } }
        ((((s.put .GIR_STAT_GMID gmid).putB .GIR_STAT_MASTER_PEND false).mark 4 0)).applyTheta th
      else s.inc (if ok then .GIR_CNT0_SYNC_OK else .GIR_CNT0_SYNC_REJ)

/-- A SYNC message: θ = T1 + D - t2 in 1/16 fu (R230), then what Table 09.3 and R233 say. -/
def State.sync (s : State) (alt : Bool) (gmid sseq t1 stamp : Nat) : State :=
  if s.get .GIR_STAT_REFSEL ≠ b2n alt then s
  else
    let d := if alt then s.get .GIR_DLY_ALT_DLY_ALT else s.get .GIR_DLY_TMI_DLY_TMI
    let th : Int := (t1 : Int) * 16 + d - s.stampFu stamp (s.rxLat alt) * 16
    let s := s.putS .GIR_THETA_THETA (clampI (-(2 ^ 31)) (2 ^ 31 - 1) th)
    let s := (s.put .GIR_SYNCSEQ_LAST_GMID gmid).put .GIR_SYNCSEQ_LAST_SSEQ sseq
    if s.girth.haveMaster && gmid = s.get .GIR_STAT_GMID then s.breakCand.syncOwn sseq th else s.syncOther gmid sseq th

/-! ### Echoes -/

/-- A stream 6 item of Table 09.4; `tv` is TIME_VALID at the stamp. -/
def State.echoItem (s : State) (rkind exseq src port : Nat) (t : Int) (t32 tv : Nat) : State :=
  let g := t.toNat
  s.item 6
    [pack [(60, 4, rkind), (44, 16, exseq), (32, 12, src), (30, 2, port), (29, 1, tv)],
     pack [(0, 64, g / 128)], pack [(32, 32, t32), (0, 7, g)]]

/-- An addressed ECHO_REQ (R236, R273): t2 is the stamp less the receive latency (R229). -/
def State.echoReq (s : State) (alt : Bool) (exseq stamp : Nat) : State :=
  if s.girth.echo.isSome then (s.inc .HAR_CNT5_ECHO_DROP).raise 426
  else
    let t2 := (s.stampFu stamp (s.rxLat alt)).toNat
    { s with girth := { s.girth with echo := some ⟨t2, exseq, alt, stamp - s.rxLat alt, s.get .GIR_STAT_TIME_VALID⟩ } }

/-! ### The slot strobe -/

/-- Rebase so that T stays continuous across a change of RATE (R225). -/
def Girth.rebased (g : Girth) (sigma : Nat) : Girth :=
  { g with offset := g.offset + roundDiv (g.rate * ((sigma : Int) - g.ref)) (2 ^ 25), ref := sigma }

/-- The holdover estimate of RATE (R227). -/
def State.holdRate (s : State) : Int :=
  if s.flag .GIR_STAT_XTAL_VALID then roundDiv (-(s.xtal * 2 ^ 48)) (2 ^ 48 + s.xtal).toNat else 0

/-- The rebases that holdover entry and exit asked for (R222): RATE becomes the holdover estimate, or 0. -/
def State.strobeRebase (s : State) : State :=
  let g := s.girth.rebase.foldl (fun g hold => { g.rebased s.frc with rate := if hold then s.holdRate else 0 }) s.girth
  { s with girth := { g with rebase := [] } }

/-- 50 ppm in units of 2^-48, rounded down (R226). -/
def xtalRange : Int := 14073748835

/-- XTAL_VALID is 0 while XTAL_ERR lies outside ±50 ppm, and event 393 is raised when it leaves that range (R226); `old` is the value
before. In HOLD, REFSEL shows whether the ratio is valid. -/
def State.xtalCheck (s : State) (old : Int) : State :=
  if xtalRange < s.xtal.natAbs then
    let s := s.putB .GIR_STAT_XTAL_VALID false
    let s := if s.inHold then s.put .GIR_STAT_REFSEL 3 else s
    if xtalRange < old.natAbs then s else s.raise 393
  else s

/-- Crystal ageing at slot numbers that are multiples of 2^20 (R228). -/
def State.strobeAge (s : State) (m : Nat) : State :=
  if s.inHold && m % 2 ^ 20 = 0 then
    let a := s.getS .GIR_AGE_AGE
    let g := s.girth.rebased s.frc
    (({ s with girth := { g with rate := g.rate - a } } : State).putXtal (s.xtal + a)).xtalCheck s.xtal
  else s

/-- Some die is JOINED, or becomes JOINED at this strobe. -/
def State.joinedNow (s : State) : Bool :=
  s.anyJoined || (List.range 16).any (fun f => (s.die f).joinPend && decide ((s.die f).pwr = .init))

/-- A slew starts, or its remaining amount is replaced (R231 and the corner case at R235). Its first portion is applied at the same strobe,
so that its mark shows TIME_VALID 1 (R232, R240). -/
def State.slewStart (s : State) (th : Int) : State :=
  if s.flag .GIR_STAT_SLEWING then { s with girth := { s.girth with slewLeft := th } }
  else
    let s : State := { s with girth := { s.girth with slewLeft := th, slewDone := 0 } }
    let s := s.putB .GIR_STAT_TIME_VALID true
    ((((s.putB .GIR_STAT_SLEWING true).inc .GIR_CNT1_SLEWS).mark 1 (truncDiv th 16))).raise 389

/-- A step takes effect (R518): one beyond STEP_MAX that was confirmed with no die JOINED, where a die is JOINED by now, goes by the
row of Table 09.3 that then applies (log entry 153). -/
def State.stepNow (s : State) (th : Int) : State :=
  if s.flag .GIR_STAT_SLEWING then s.slewStart th
  else if s.joinedNow && decide (s.get .GIR_STEP_STEP_MAX * 128 * 16 < th.natAbs) then
    if bigTheta th then (s.inc .GIR_CNT0_SYNC_REJ).raise 391 else s.slewStart th
  else
    let s : State := { s with girth := { s.girth with offset := s.girth.offset + th * 2 ^ 12, stepped := true } }
    ((((s.putB .GIR_STAT_TIME_VALID true).inc .GIR_CNT1_STEPS).mark 1 (truncDiv th 16))).raise 389

/-- A pending correction, step or slew takes effect (R231, R232). -/
def State.strobePend (s : State) : State :=
  match s.girth.pend with
  | none => s
  | some (p, due) =>
    if s.frc < due then s
    else
      let s : State := { s with girth := { s.girth with pend := none } }
      match p with
      | .corr u => ({ s with girth := { s.girth with offset := s.girth.offset + u } } : State).putB .GIR_STAT_TIME_VALID true
      | .step th => s.stepNow th
      | .slew th => s.slewStart th

/-- One strobe's portion of a slew: at most SLEW_STEP cu (Table 09.3). -/
def State.strobeSlew (s : State) : State :=
  if s.flag .GIR_STAT_SLEWING then
    let lim : Int := (max 1 (s.get .GIR_STEP_SLEW_STEP)) * 128 * 16
    let a := clampI (-lim) lim s.girth.slewLeft
    let g := { s.girth with
      offset := s.girth.offset + a * 2 ^ 12, slewLeft := s.girth.slewLeft - a, slewDone := s.girth.slewDone + a }
    let s := ({ s with girth := g } : State).putB .GIR_STAT_TIME_VALID true
    if g.slewLeft = 0 then ((s.putB .GIR_STAT_SLEWING false).mark 2 (truncDiv g.slewDone 16)).raise 390 else s
  else s

/-- The crystal is measured once per slot while an input is selected and LEARN_EN is 1 (R226). -/
def State.strobeLearn (s : State) (meas : Int) : State :=
  if !s.inHold && s.flag .GIR_CTRL_LEARN_EN then
    let tc := min 24 (max 8 (s.get .GIR_LEARN_LEARN_TC))
    let old := s.xtal
    let x := old + asr (meas - old) tc
    let n := s.girth.learned + 1
    let s := (({ s with girth := { s.girth with learned := n } } : State).putXtal x).xtalCheck old
    if (x.natAbs : Int) ≤ xtalRange ∧ 2 ^ (tc + 2) ≤ n then s.putB .GIR_STAT_XTAL_VALID true else s
  else { s with girth := { s.girth with learned := 0 } }

/-- DELTA of a time mark, saturating, and DSAT (Table 09.5). -/
def markDelta (d : Int) : Nat × Nat :=
  if d > 2 ^ 31 - 1 then (2 ^ 31 - 1, 1) else if d < -(2 ^ 31 - 1) then (2 ^ 31 + 1, 1) else (unsigned 32 d, 0)

/-- The two words of a time mark (Table 09.5): the instant is σ of the strobe in global time, and TV is 0 while TIME_VALID is 0 (R232). -/
def State.markWords (s : State) (m : Mark) : List Word64 :=
  let g := (s.timeAt (s.frc * 128)).toNat
  let d := markDelta m.delta
  [pack [(60, 4, 3), (56, 4, m.kind), (53, 3, m.refsel), (52, 1, min m.tv (s.get .GIR_STAT_TIME_VALID)), (36, 16, m.gmid), (33, 1, d.2), (0, 32, d.1)],
   pack [(60, 4, 3), (59, 1, 1), (23, 32, g / 2 ^ 23), (7, 16, g / 128), (0, 7, g)]]

/-- The marks that wait go into stream 7 of the slot that begins (R240). -/
def State.strobeMarks (s : State) : State :=
  let ms := s.girth.marks
  let s := ms.foldl (fun t m => t.item 7 (t.markWords m)) s
  { s with girth := { s.girth with marks := [] } }

/-- What the strobe does to the triple (R222 to R231, R518), and σ and the triple as recorded for the slot that begins (R168). -/
def State.girthStrobe (s : State) (m : Nat) (meas : Int) : State :=
  let s : State := { s with girth := { s.girth with stepped := false, unused := if s.inHold then 0 else s.girth.unused + 1 } }
  let s := (((s.strobeRebase.strobeAge m).strobePend).strobeSlew).strobeLearn meas
  let g := s.girth
  { s with girth := { g with
    slot := m, begun := g.begun + 1, sigma := s.frc, strobes := (⟨m, s.frc, g.offset, g.rate, g.ref⟩ :: g.strobes).take 16 } }

/-! ### Commands -/

/-- REF_INPUT_LOST (R220). -/
def execRefInputLost (alt : Bool) (s : State) : Host.Outcome State Fault Refusal :=
  when' s.alive s (fun s => s.refLost alt)

/-- REF_INPUT_QUALIFIED (R220). -/
def execRefInputQualified (alt : Bool) (s : State) : Host.Outcome State Fault Refusal :=
  when' s.alive s (fun s => s.refQualified alt)

/-- FORCE_HOLD (R220): a write of GIR_CTRL. -/
def execForceHold (data : Word32) (s : State) : Host.Outcome State Fault Refusal :=
  access' s.alive s (fun s => s.writeGirCtrl data)

/-- SYNC (R230). -/
def execSync (alt : Bool) (gmid sseq : BitVec 16) (t1 : BitVec 71) (stamp : Nat) (s : State) : Host.Outcome State Fault Refusal :=
  let s := s.tmoRepeat alt ((stamp : Int) - s.rxLat alt) (tmiMessage
    (pack [(56, 8, 0x71), (40, 16, gmid.toNat), (24, 16, sseq.toNat), (17, 7, t1.toNat % 128)]) [BitVec.ofNat 64 (t1.toNat / 128)])
  when' s.tmiActs s (fun s => s.sync alt gmid.toNat sseq.toNat t1.toNat stamp)

/-- SYNC_TIMEOUT (R234): once for each interval without a used SYNC that has lasted SYNC_TO slots (log entry 58). -/
def execSyncTimeout (s : State) : Host.Outcome State Fault Refusal :=
  when' (s.alive && !s.inHold && !s.girth.syncLate && decide (max 1 (s.get .GIR_SYNCTO_SYNC_TO) ≤ s.girth.unused)) s (fun s =>
    ({ s with girth := { s.girth with syncLate := true } } : State).raise 395)

/-- PLL_UNLOCK (R232). -/
def execPllUnlock (s : State) : Host.Outcome State Fault Refusal :=
  when' (s.alive && s.flag .GIR_STAT_PLL_LOCK) s (fun s =>
    ((s.putB .GIR_STAT_PLL_LOCK false).putB .GIR_STAT_TIME_VALID false).raise 394)

/-- ROOT_PLL_RELOCK (R240): a time mark with TKIND 0x7. -/
def execRootPllRelock (s : State) : Host.Outcome State Fault Refusal :=
  when' (s.alive && !s.flag .GIR_STAT_PLL_LOCK) s (fun s => (s.putB .GIR_STAT_PLL_LOCK true).mark 7 0)

/-- ECHO_REQ (R236, R273). -/
def execEchoReq (alt : Bool) (tgt : BitVec 12) (exseq : BitVec 16) (stamp : Nat) (s : State) :
    Host.Outcome State Fault Refusal :=
  let s := s.tmoRepeat alt ((stamp : Int) - s.rxLat alt) (tmiMessage (pack [(56, 8, 0x72), (44, 12, tgt.toNat), (28, 16, exseq.toNat)]) [])
  when' (s.tmiActs && s.addressed tgt) s (fun s => s.echoReq alt exseq.toNat stamp)

/-- ECHO_RECEIVE (R237). -/
def execEchoReceive (cib : Bool) (exseq : BitVec 16) (src : BitVec 12) (stamp : Nat) (s : State) :
    Host.Outcome State Fault Refusal :=
  when' (s.alive && decide ((if cib then s.get .HAR_STAT_CIB_PORT else s.get .HAR_STAT_CIA_PORT) = 2)) s (fun s =>
    let s := s.farBack cib [(true, ctlBlock 0x66 (exseq.toNat * 2 ^ 32 + src.toNat * 2 ^ 20))]
    (s.echoItem 2 exseq.toNat src.toNat (2 + b2n cib) (s.stampFu stamp 0) 0 (s.get .GIR_STAT_TIME_VALID)).inc .GIR_CNT3_ECHO_RX)

/-- GIR_SNAP (R242): a write of GIR_CTRL with SNAP 1. -/
def execGirSnap (data : Word32) (s : State) : Host.Outcome State Fault Refusal :=
  access' s.alive s (fun s => s.writeGirCtrl data)

end Sys2Proof.Machine
end

