-- ==== Sys2Proof/Machine/Bridle.lean ====
section
/-! DEFINITION. The Bridle (17): monitors and limits, states, sun guard, test pulses, the key, setpoints, and the safety
section. -/

namespace Sys2Proof.Machine

/-- Status codes of Table 18.9. -/
def stOk : Nat := 0
def stUnmapped : Nat := 1
def stTimeout : Nat := 2
def stLocked : Nat := 3
def stRefused : Nat := 4
def stFault : Nat := 5

/-! ### The safety section (R418, R426) -/

/-- Whether `lo ≤ x ≤ hi`. -/
def within (lo hi x : Nat) : Bool := decide (lo ≤ x) && decide (x ≤ hi)

/-- The masks of the bits that Table 17.9 uses in LIM0 to LIM10. -/
def limMasks : List Nat :=
  [0x3FFF3FFF, 0xFF1F3FFF, 0x7F7F03FF, 0x017F03FF, 0x00FFFFFF, 0x00FFFFFF, 0x3FF1FF7F, 0x3FFF03FF, 0x3FFF3FFF,
   0x00FFFFFF, 0x00FFFFFF]

/-- A section is valid when it has eleven words, no reserved bit set and every field in its range (R418, R426). -/
def sectionValid (ws : List Nat) : Bool :=
  let l (i : Nat) : Nat := ws.getD i 0
  let fl (i lo w : Nat) : Nat := fieldOf (l i) lo w
  decide (ws.length = 11) &&
  (ws.zip limMasks).all (fun p => p.1 &&& p.2 == p.1) &&
  within 1 16383 (fl 0 0 14) && within 1 16383 (fl 0 16 14) &&
  within 1 16 (fl 1 16 5) &&
  within 1 1023 (fl 2 0 10) && within 1 64 (fl 2 16 7) && within 10 100 (fl 2 24 7) &&
  within 1 600 (fl 3 0 10) && within 1 72 (fl 3 16 7) &&
  within 1 0xFFFFFF (fl 4 0 24) && within 1 0xFFFFFF (fl 5 0 24) && decide (fl 4 0 24 < fl 5 0 24) &&
  within 1 64 (fl 6 0 7) && within 1 256 (fl 6 8 9) && within 1 600 (fl 6 20 10) &&
  within 1 1000 (fl 7 0 10) &&
  within 1 16383 (fl 8 16 14)

/-- The registers that show LIM0 to LIM10. -/
def limRegs : List Reg :=
  [.BRD_LIM0, .BRD_LIM1, .BRD_LIM2, .BRD_LIM3, .BRD_LIM4, .BRD_LIM5, .BRD_LIM6, .BRD_LIM7, .BRD_LIM8, .BRD_LIM9, .BRD_LIM10]

/-- Put the words of a section in force. -/
def State.putLimits (s : State) (ws : List Nat) : State :=
  (limRegs.zip ws).foldl (fun t p => t.setReg p.1 0 (BitVec.ofNat 32 p.2)) s

/-- The section as the boot ROM takes it (R408, R418): OFF where AUTO_OFF is 1, else LOCKOUT, whatever the section of an image that proved
invalid has left; an invalid one gives LOCKOUT and sets SECT_BAD. -/
def State.bootSection (s : State) (ws : List Nat) : State :=
  if sectionValid ws then
    let s := (s.putLimits ws).putB .BRD_STAT_SECT_BAD false
    s.put .BRD_STAT_STATE (if s.flag .BRD_LIM3_AUTO_OFF then 0 else 3)
  else (s.putB .BRD_STAT_SECT_BAD true).put .BRD_STAT_STATE 3

/-! ### Monitors (R400 to R403) -/

/-- The monitors in service (R401). -/
def State.monitors (s : State) : List Nat := (List.range 3).filter (fun m => !s.flag .BRD_MON_LOST m)

/-- The codes of the monitors in service. -/
def State.monCodes (s : State) : List Nat := s.monitors.map (fun m => s.get .BRD_MON_CODE m)

/-- The median of a list of at most three codes: the middle one of three, the lower one of two. -/
def median (l : List Nat) : Nat := (sortNat l).getD ((l.length - 1) / 2) 0

/-- Absolute difference. -/
def absDiff (a b : Nat) : Nat := (a - b) + (b - a)

/-- Show the monitors in service and DEGRADED (R402); three in service return DEG_USED to 0 (R417). -/
def State.showMonitors (s : State) : State :=
  let ms := s.monitors
  let s := s.put .BRD_STAT_MON_IN (maskOf ms)
  let s := if decide (ms.length < 3) && !s.flag .BRD_STAT_DEGRADED then { s with bridle := { s.bridle with degAt := s.frc } } else s
  let s := s.putB .BRD_STAT_DEGRADED (decide (ms.length < 3))
  if ms.length = 3 then s.put .BRD_DEG_DEG_USED 0 else s

/-- Monitor `m` is lost (R401): event 518. -/
def State.loseMonitor (s : State) (m : Nat) : State :=
  if s.flag .BRD_MON_LOST m then s else (s.putB .BRD_MON_LOST true m).raise 518

/-- How many monitors in service must violate a limit: two of three, one of two (R402). -/
def State.votes (s : State) (p : Nat → Bool) : Bool :=
  let ms := s.monitors
  let n := (ms.filter p).length
  if ms.length = 3 then decide (2 ≤ n) else decide (1 ≤ n)

/-- The code of monitor `m` in a sample. -/
def sampleCode (x : Nat × Nat × Nat) (m : Nat) : Nat :=
  match m with
  | 0 => x.1
  | 1 => x.2.1
  | _ => x.2.2

/-- V(t) - V(t - 10 ms) of monitor `m`, once there are 101 samples. -/
def State.rise10ms (s : State) (m : Nat) : Int :=
  match s.bridle.samples.head?, s.bridle.samples[100]? with
  | some a, some b => (sampleCode a m : Int) - sampleCode b m
  | _, _ => 0

/-! ### Summaries and the sun guard (R410) -/

/-- The summary held of die `f`. -/
def State.summary (s : State) (f : Nat) : Summary := s.bridle.sums.getD f ⟨0, 0, false, none, 0⟩

/-- SUN_STALE in cu. -/
def State.sunStaleCu (s : State) : Nat := s.get .BRD_LIM6_SUN_STALE * 100 * usCu

/-- A summary is fresh when it arrived within SUN_STALE × 100 µs and its NVALID is at least SUN_NMIN. -/
def State.sumFresh (s : State) (f : Nat) : Bool :=
  let x := s.summary f
  match x.at_ with
  | some t => decide (s.frc ≤ t + s.sunStaleCu) && decide (s.get .BRD_LIM6_SUN_NMIN ≤ x.nvalid)
  | none => false

/-- Since when the die's summaries have been stale. -/
def State.staleSince (s : State) (f : Nat) : Nat :=
  let x := s.summary f
  match x.at_ with
  | some t => if s.get .BRD_LIM6_SUN_NMIN ≤ x.nvalid then t + s.sunStaleCu else x.staleAt
  | none => x.staleAt

/-- The dies mapped to bias channel `b`. -/
def State.mapped (s : State) (b : Nat) : List Nat := (List.range 16).filter (fun f => s.dieMap f == some b)

/-- The guard's condition for channel `b`. -/
def State.guardWanted (s : State) (b : Nat) : Bool :=
  (s.mapped b).any (fun f =>
    !s.sumFresh f || decide (s.get .BRD_LIM4_SUN_LIM < (s.summary f).max) || (s.summary f).ovl)

/-- Every mapped die delivers fresh summaries with MAX at or below SUN_LIM - SUN_LIM/8. -/
def State.guardClear (s : State) (b : Nat) : Bool :=
  let lim := s.get .BRD_LIM4_SUN_LIM
  (s.mapped b).all (fun f => s.sumFresh f && decide (8 * (s.summary f).max ≤ 7 * lim) && !(s.summary f).ovl)

/-- The guard of channel `b` is asserted (BRD_STAT.SUN). -/
def State.guardOn (s : State) (b : Nat) : Bool := bitOf (s.get .BRD_STAT_SUN) b

/-- Assert the guard of `b` while its condition holds, and keep the time since when it has been clear. -/
def State.evalGuard (s : State) (b : Nat) : State :=
  let s :=
    if s.guardWanted b then
      let s := s.put .BRD_SET_SENT (min (s.get .BRD_SET_SENT b) (s.get .BRD_LIM7_STBY)) b
      if s.guardOn b then s else (s.put .BRD_STAT_SUN (withBit (s.get .BRD_STAT_SUN) b true)).raise 522
    else s
  let c := if s.guardClear b then some ((s.bridle.clearAt.getD b none).getD s.frc) else none
  { s with bridle := { s.bridle with clearAt := setAt s.bridle.clearAt b c } }

/-! ### Violations (Table 17.1) -/

/-- A die's stale time has reached STALE_TRIP while its channel's setpoint is above STBY: the setpoint requested, since the guard has
lowered the one sent (R410, log entry 168). -/
def State.staleViolated (s : State) (f : Nat) : Bool :=
  match s.dieMap f with
  | some b =>
    !s.sumFresh f && decide (s.staleSince f + s.get .BRD_LIM7_STALE_TRIP * 1000 * usCu ≤ s.frc) &&
      decide (s.get .BRD_LIM7_STBY < s.get .BRD_SET_REQ b)
  | none => false

/-- The five violations in the current sample, without regard to where they are active: CEIL, RAMP, DIR, SUN, STALE. -/
def State.violations (s : State) : List Bool :=
  [s.votes (fun m => decide (s.get .BRD_LIM0_CEIL < s.get .BRD_MON_CODE m)),
   s.votes (fun m => decide (s.get .BRD_LIM0_RAMP_MAX < (s.rise10ms m).natAbs)),
   s.votes (fun m => decide ((s.get .BRD_LIM1_DIR_TOL : Int) < s.rise10ms m)),
   (List.range 16).any (fun f =>
     s.sumFresh f && decide (s.get .BRD_LIM5_SUN_TRIP < (s.summary f).max)),
   (List.range 16).any (fun f => s.staleViolated f)]

/-- Where each violation is active (Table 17.1): ON is 1, DESCEND is 2. -/
def violationActive (state : Nat) : List Bool :=
  let on := decide (state = 1)
  let de := decide (state = 2)
  [on || de, on, de, on || de, on || de]

/-- TRIP_N; a section in force has at least 1. -/
def State.tripN (s : State) : Nat := max 1 (s.get .BRD_LIM1_TRIP_N)

/-! ### State changes (Table 17.2) -/

/-- Enter OFF: both outputs low, setpoints 0. -/
def State.bridleOff (s : State) : State := s.bridleSafe.put .BRD_STAT_STATE 0

/-- Enter ON: both outputs high; each feedback must follow within FB_LAT. -/
def State.bridleOn (s : State) : State :=
  let due := some (s.frc + s.get .BRD_LIM2_FB_LAT * usCu)
  let s := if s.flag .BRD_STAT_EN_A then s else
    { s with bridle := { s.bridle with fbDue := setAt s.bridle.fbDue 0 due } }
  let s := if s.flag .BRD_STAT_EN_B then s else
    { s with bridle := { s.bridle with fbDue := setAt s.bridle.fbDue 1 due } }
  ((s.put .BRD_STAT_STATE 1).putB .BRD_STAT_EN_A true).putB .BRD_STAT_EN_B true

/-- The conditions of R405; outside START and RUN the outputs stay low (R408). -/
def State.onAllowed (s : State) : Bool :=
  s.working && decide (2 ≤ s.monitors.length) &&
  decide (s.get .BRD_DEG_DEG_USED < s.get .BRD_LIM3_DEG_MAX * 3600) &&
  s.violations.all (!·) &&
  !s.flag .BRD_STAT_FB_A && !s.flag .BRD_STAT_FB_B &&
  (List.range 4).all (fun b => decide (s.get .BRD_SET_REQ b = 0) || (s.mapped b).all (fun f => s.sumFresh f))

/-- BIAS_ON with its status (R405, Table 17.2). -/
def State.biasOn (s : State) : State × Nat :=
  if s.get .BRD_STAT_STATE = 1 then (s, stOk)
  else if s.get .BRD_STAT_STATE = 2 then (s.put .BRD_STAT_STATE 1, stOk)
  else if s.get .BRD_STAT_STATE = 0 && s.onAllowed then (s.bridleOn, stOk)
  else ((s.inc .BRD_CNT1_REQ_REFUSED).raise 524, stRefused)

/-- BIAS_DOWN with its status. -/
def State.biasDown (s : State) : State × Nat :=
  if s.get .BRD_STAT_STATE = 1 then
    (({ s with bridle := { s.bridle with descAt := s.frc } } : State).put .BRD_STAT_STATE 2, stOk)
  else (s, stRefused)

/-- BIAS_OFF_NOW with its status; in LOCKOUT it shows as cause 0xC (Table 17.8). -/
def State.biasOffNow (s : State) : State × Nat :=
  if s.get .BRD_STAT_STATE = 3 then (s.bridleSafe.put .BRD_TRIP_CAUSE 0xC, stOk) else (s.bridleOff, stOk)

/-- BIAS_SET with its status (R407). -/
def State.biasSet (s : State) (arg : Nat) : State × Nat :=
  (s.put .BRD_SET_REQ (fieldOf arg 0 14) (fieldOf arg 16 2), stOk)

/-! ### Samples -/

/-- Store a sample and lose the monitors whose reference self-test fails (R400, R401). -/
def State.takeSample (s : State) (a b c refFail : Nat) : State :=
  let s : State := { s with bridle := { s.bridle with samples := ((a, b, c) :: s.bridle.samples).take 101 } }
  (List.range 3).foldl (fun t m =>
    let t := (t.put .BRD_MON_CODE (sampleCode (a, b, c) m) m).putB .BRD_MON_REF_FAIL (bitOf refFail m) m
    if bitOf refFail m then t.loseMonitor m else t) s

/-- Count the discrepancies: against the median of three, or between two (R401, R402). Answers whether two monitors disagree
for DISC_N samples. -/
def State.judgeDisc (s : State) : State × Bool :=
  let tol := s.get .BRD_LIM2_DISC_TOL
  let n := max 1 (s.get .BRD_LIM2_DISC_N)
  let ms := s.monitors
  let far (m : Nat) : Bool := decide (tol < absDiff (s.get .BRD_MON_CODE m) (median s.monCodes))
  let one := (List.range 3).map (fun m =>
    if ms.length = 3 && far m then s.bridle.discs.getD m 0 + 1 else 0)
  let pair :=
    match s.monCodes with
    | [x, y] => if tol < absDiff x y then s.bridle.discs.getD 3 0 + 1 else 0
    | _ => 0
  let s : State := { s with bridle := { s.bridle with discs := one ++ [pair] } }
  ((List.range 3).foldl (fun t m => if n ≤ one.getD m 0 then t.loseMonitor m else t) s, decide (n ≤ pair))

/-- Count the samples in a row that violate each condition where it is active (R404), and those in which the channels differ (R403). -/
def State.countRuns (s : State) (differ : Bool) : State :=
  let st := s.get .BRD_STAT_STATE
  { s with bridle := { s.bridle with
      runs := ((s.violations.zip (violationActive st)).zip s.bridle.runs).map (fun p => if p.1.1 && p.1.2 then p.2 + 1 else 0),
      xchk := if differ then s.bridle.xchk + 1 else 0 } }

/-- One sample of the monitors (R400 to R404): `differ` says that the two logic channels decided differently. -/
def State.bridleSample (s : State) (a b c refFail : Nat) (differ : Bool) : State :=
  let s := s.takeSample a b c refFail
  let (s, disc) := s.judgeDisc
  let s := s.showMonitors
  let s := s.countRuns differ
  let runs := s.bridle.runs
  let x := s.bridle.xchk
  let s := (List.range 5).foldl (fun t k => if s.tripN ≤ runs.getD k 0 then t.bridleTrip (k + 1) else t) s
  let s := if disc then s.bridleTrip 0xB else s
  let s := if s.monitors.length < 2 then s.bridleTrip 8 else s
  let s := if 10 < x then (if x = 11 || s.get .BRD_STAT_STATE != 3 then s.raise 526 else s).bridleTrip 7 else s
  if s.get .BRD_STAT_STATE = 2 && s.monCodes.all (fun v => decide (v ≤ s.get .BRD_LIM1_OFF_LEVEL)) then s.bridleOff else s

/-! ### Key (R415, R416) -/

/-- Admit lost monitors whose code lies within DISC_TOL of the median again (R415). -/
def State.readmit (s : State) : State :=
  let codes := if s.monCodes = [] then (List.range 3).map (fun m => s.get .BRD_MON_CODE m) else s.monCodes
  let med := median codes
  (List.range 3).foldl (fun t m =>
    if t.flag .BRD_MON_LOST m && decide (absDiff (t.get .BRD_MON_CODE m) med ≤ t.get .BRD_LIM2_DISC_TOL) then
      t.putB .BRD_MON_LOST false m else t) s |>.showMonitors

/-! ### The live measurement (R437, R450) -/

/-- The eight words of a digest in registers (R495). -/
def State.putDigest (s : State) (f : Fld) (ws : List Nat) : State := (List.range 8).foldl (fun t k => t.put f (ws.getD k 0) k) s

/-- A digest held in registers. -/
def State.digest (s : State) (f : Fld) : List Nat := (List.range 8).map (fun k => s.get f k)

/-- A digest as four stream words, most significant byte first (R437). -/
def digestWords (ws : List Nat) : List Word64 :=
  (List.range 4).map (fun k => pack [(32, 32, ws.getD (2 * k) 0), (0, 32, ws.getD (2 * k + 1) 0)])

/-- The bytes of a digest. -/
def digestBytes (ws : List Nat) : List Nat := ws.flatMap (bytesBE 4)

/-- What an applied reload leaves (R450): LIVEMEAS, NRELOAD, RELOADS and the Reload item. -/
def State.reloadDone (s : State) (type index dev seq : Nat) (hash : List Nat) : State :=
  let live := sha256 (digestBytes (s.digest .ID_LIVEMEAS_LIVEMEAS) ++ digestBytes hash ++ [type, index, dev] ++ bytesBE 4 seq)
  let s := ((s.putDigest .ID_LIVEMEAS_LIVEMEAS live).inc .ID_BOOT_NRELOAD).inc .LAT_CNT2_RELOADS
  s.item 6 ([pack [(60, 4, 5), (52, 8, type), (44, 8, index), (43, 1, dev)], pack [(32, 32, seq)]] ++ digestWords hash ++
    digestWords live)

/-- A pending safety section takes effect (R419), its die map at once on the guards (R410); its reload is then applied (R450). One that is
invalid is not. -/
def State.takeSection (s : State) : State :=
  match s.bridle.pending with
  | none => s
  | some x =>
    let s : State := { s with bridle := { s.bridle with pending := none } }
    let s := s.putB .BRD_STAT_SECT_PEND false
    if sectionValid x.words then
      ((List.range 4).foldl (fun t b => t.evalGuard b) ((s.putLimits x.words).putB .BRD_STAT_SECT_BAD false)).reloadDone
        7 x.index x.dev x.seq x.hash
    else s.putB .BRD_STAT_SECT_BAD true

/-- A valid press in LOCKOUT (R415). -/
def State.keyPress (s : State) : State :=
  let s := s.takeSection.readmit
  let ok := s.violations.all (!·) && !s.flag .BRD_STAT_FB_A && !s.flag .BRD_STAT_FB_B &&
    decide (2 ≤ s.monitors.length) &&
    (decide (s.get .BRD_DEG_DEG_USED < s.get .BRD_LIM3_DEG_MAX * 3600) || decide (s.monitors.length = 3)) &&
    !s.flag .BRD_STAT_SECT_BAD && decide (0 < s.get .BRD_LIM0_CEIL)
  if ok then (s.put .BRD_STAT_STATE 0).raise 517 else (s.inc .BRD_CNT1_KEY_REFUSED).raise 521

/-! ### Commands -/

/-- `n` µs have passed since FRC `t`; nothing has to have passed where there is no such instant. -/
def State.passed (s : State) (n : Nat) (t : Option Nat) : Bool := t.all (fun t => decide (t + n * usCu ≤ s.frc))

/-- BRIDLE_SAMPLE (R400, R403): every 100 µs. -/
def execBridleSample (a b c : BitVec 14) (refFail : BitVec 3) (differ : Bool) (s : State) :
    Host.Outcome State Fault Refusal :=
  when' (s.alive && s.passed 100 s.bridle.sampleAt) s (fun s =>
    let s : State := { s with bridle := { s.bridle with sampleAt := some s.frc } }
    s.bridleSample a.toNat b.toNat c.toNat refFail.toNat differ)

/-- SUMMARY_ARRIVE (R410). -/
def execSummaryArrive (f : DieNo) (max : BitVec 24) (nvalid : BitVec 9) (ovl : Bool) (s : State) :
    Host.Outcome State Fault Refusal :=
  when' s.alive s (fun s =>
    let old := s.sumFresh f
    let since := if old then s.frc else s.staleSince f
    let s : State := { s with bridle := { s.bridle with
      sums := setAt s.bridle.sums f ⟨max.toNat, nvalid.toNat, ovl, some s.frc, since⟩ } }
    match s.dieMap f with
    | some b => s.evalGuard b
    | none => s)

/-- SUMMARY_STALE (R410): the guard of the die's channel rises. The trip with cause STALE comes with the samples: TRIP_N of them in a row that
find the stale time at STALE_TRIP ms (R403). -/
def execSummaryStale (f : DieNo) (s : State) : Host.Outcome State Fault Refusal :=
  when' (s.alive && !s.sumFresh f) s (fun s =>
    match s.dieMap f with
    | some b => s.evalGuard b
    | none => s)

/-- SUN_GUARD_RELEASE (R410). -/
def execSunGuardRelease (b : Fin 4) (s : State) : Host.Outcome State Fault Refusal :=
  let due := match s.bridle.clearAt.getD b none with
    | some t => decide (t + s.get .BRD_LIM6_SUN_CLR * 100000 * usCu ≤ s.frc) && s.guardClear b
    | none => false
  when' (s.alive && s.guardOn b && due) s (fun s =>
    (s.put .BRD_STAT_SUN (withBit (s.get .BRD_STAT_SUN) b false)).raise 527)

/-- DESCENT_TIMEOUT (Table 17.2). -/
def execDescentTimeout (s : State) : Host.Outcome State Fault Refusal :=
  when' (s.alive && decide (s.get .BRD_STAT_STATE = 2) &&
      decide (s.bridle.descAt + s.get .BRD_LIM3_DESC_T * 1000000 * usCu ≤ s.frc)) s (fun s => s.bridleOff)

/-- The enable field of an output. -/
def enFld (outB : Bool) : Fld := if outB then .BRD_STAT_EN_B else .BRD_STAT_EN_A

/-- The feedback field of an output. -/
def fbFld (outB : Bool) : Fld := if outB then .BRD_STAT_FB_B else .BRD_STAT_FB_A

/-- Change an output outside a trip: its feedback must follow within FB_LAT (R412). -/
def State.setOutput (s : State) (outB level : Bool) : State :=
  ({ s with bridle := { s.bridle with
    fbDue := setAt s.bridle.fbDue (b2n outB) (some (s.frc + s.get .BRD_LIM2_FB_LAT * usCu)) } } : State).putB (enFld outB) level

/-- The grid of the off-pulses, 500 ms, those of BIAS_EN_B 250 ms after those of BIAS_EN_A (R413): the first pulse sets it (log
entry 169). -/
def State.onGrid (s : State) (outB : Bool) : Bool :=
  s.bridle.grid.all (fun g => s.frc % (500000 * usCu) == (g + b2n outB * (250000 * usCu)) % (500000 * usCu))

/-- TEST_PULSE (R413): a pulse that falls due while its output is low is skipped. -/
def execTestPulse (outB : Bool) (s : State) : Host.Outcome State Fault Refusal :=
  when' (s.alive && s.flag (enFld outB) && s.onGrid outB) s (fun s =>
    let grid := s.bridle.grid.getD (s.frc + (500000 - b2n outB * 250000) * usCu)
    let s : State := { s with bridle := { s.bridle with
      grid := some grid, test := setAt s.bridle.test (b2n outB) (some s.frc), testOk := setAt s.bridle.testOk (b2n outB) false } }
    s.setOutput outB false)

/-- TEST_PULSE_END (R414): a pulse that a trip or OFF ended stays low. -/
def execTestPulseEnd (outB : Bool) (s : State) : Host.Outcome State Fault Refusal :=
  let due := match s.bridle.test.getD (b2n outB) none with
    | some t => decide (t + 512000 ≤ s.frc)
    | none => false
  when' (s.alive && due) s (fun s =>
    ({ s with bridle := { s.bridle with test := setAt s.bridle.test (b2n outB) none } } : State).setOutput outB true)

/-- FEEDBACK_CHECK (R412, R413): `fb` is the level read back; before FB_LAT has passed it is only shown. -/
def execFeedbackCheck (outB fb : Bool) (s : State) : Host.Outcome State Fault Refusal :=
  when' s.alive s (fun s =>
    let k := b2n outB
    let s := s.putB (fbFld outB) fb
    match s.bridle.fbDue.getD k none with
    | none => s
    | some t =>
      if s.frc < t then s
      else
        let s : State := { s with bridle := { s.bridle with fbDue := setAt s.bridle.fbDue k none } }
        if fb ≠ s.flag (enFld outB) then (s.raise 523).bridleTrip 6
        else if (s.bridle.test.getD k none).isSome then
          { s with bridle := { s.bridle with testOk := setAt s.bridle.testOk k true } }
        else if fb && s.bridle.testOk.getD k false then
          ({ s with bridle := { s.bridle with testOk := setAt s.bridle.testOk k false } } : State).inc .BRD_CNT0_TESTS
        else s)

/-- KEY_RELEASE (R415): a press of 100 ms to 2 s counts at its release, in LOCKOUT only. -/
def execKeyRelease (heldMs : Nat) (s : State) : Host.Outcome State Fault Refusal :=
  when' s.alive s (fun s =>
    let s : State := { s with bridle := { s.bridle with keyUp := some s.frc } }
    if s.flag .BRD_STAT_KEY_STUCK || heldMs < 100 || 2000 < heldMs then s
    else if s.get .BRD_STAT_STATE = 3 then s.keyPress
    else s)

/-- KEY_STUCK (R416). -/
def execKeyStuck (s : State) : Host.Outcome State Fault Refusal :=
  when' (s.alive && !s.flag .BRD_STAT_KEY_STUCK) s (fun s =>
    (({ s with bridle := { s.bridle with keyUp := none } } : State).putB .BRD_STAT_KEY_STUCK true).raise 520)

/-- KEY_STUCK_CLEAR (R416): after 1 s of continuous release. -/
def execKeyStuckClear (s : State) : Host.Outcome State Fault Refusal :=
  let due := match s.bridle.keyUp with
    | some t => decide (t + 1000000 * usCu ≤ s.frc)
    | none => false
  when' (s.alive && s.flag .BRD_STAT_KEY_STUCK && due) s (fun s => s.putB .BRD_STAT_KEY_STUCK false)

/-- DEG_USED becomes `n`; where that reaches DEG_MAX, event 519 and a trip (R417). -/
def State.degUse (s : State) (n : Nat) : State :=
  let limit := s.get .BRD_LIM3_DEG_MAX * 3600
  let below := decide (s.get .BRD_DEG_DEG_USED < limit)
  let s := s.put .BRD_DEG_DEG_USED n
  if below && decide (limit ≤ n) then (s.raise 519).bridleTrip 9 else s

/-- DEG_TICK (R417): a second more with fewer than three monitors, in every state but those of R30. DEG_USED holds at its largest
value: it returns to 0 only when three monitors are in service. -/
def execDegTick (s : State) : Host.Outcome State Fault Refusal :=
  when' (s.alive && decide (s.mode ≠ .fill) && s.flag .BRD_STAT_DEGRADED && s.passed 1000000 (some s.bridle.degAt)) s (fun s =>
    let s : State := { s with bridle := { s.bridle with degAt := s.frc } }
    s.degUse (satAdd 18 (s.get .BRD_DEG_DEG_USED) 1))

/-- One millisecond of one channel's ramp (R407): toward the request in ON, toward 0 in DESCEND, never above SET_MAX, and never
above STBY while the channel's guard is asserted (R410). -/
def rampStep (sent target slew : Nat) : Nat :=
  if sent < target then min target (sent + slew) else max target (sent - slew)

/-- SETPOINT_RAMP (R407): every ms. -/
def execSetpointRamp (s : State) : Host.Outcome State Fault Refusal :=
  let st := s.get .BRD_STAT_STATE
  when' (s.alive && (decide (st = 1) || decide (st = 2)) && s.passed 1000 s.bridle.rampAt) s (fun s =>
    let s : State := { s with bridle := { s.bridle with rampAt := some s.frc } }
    (List.range 4).foldl (fun t b =>
      let sent := t.get .BRD_SET_SENT b
      let goal := if st = 1 then min (t.get .BRD_SET_REQ b) (t.get .BRD_LIM8_SET_MAX) else 0
      let goal := if t.guardOn b then min goal (t.get .BRD_LIM7_STBY) else goal
      t.put .BRD_SET_SENT (rampStep sent goal (t.get .BRD_LIM8_SET_SLEW)) b) s)

/-- The setpoint as BSET sends it: 0 outside ON and DESCEND, never above SET_MAX (R420). -/
def State.setpointSent (s : State) (b : Nat) : Nat :=
  if s.get .BRD_STAT_STATE = 1 || s.get .BRD_STAT_STATE = 2 then min (s.get .BRD_SET_SENT b) (s.get .BRD_LIM8_SET_MAX) else 0

/-- The four bytes of a frame (R420). -/
def bsetBytes (b sp : Nat) : List Nat :=
  let l := [0xB5, b % 4 * 64 + sp / 256 % 64, sp % 256]
  l ++ [crc8 l]

/-- A character on the line: a start bit, 8 data bits least significant first, a stop bit; the line is idle high (R420). -/
def charBits (x : Nat) : List Bool := false :: (List.range 8).map (fun i => bitOf x i) ++ [true]

/-- The frame of channel `b` is due: 1 ms after its last one, or because the setpoint has changed. -/
def State.frameDue (s : State) (b : Nat) : Bool :=
  match s.bridle.frames.getD b none with
  | some (t, sp) => decide (t + 1000 * usCu ≤ s.frc) || s.setpointSent b != sp
  | none => true

/-- BSET_FRAME (R420), 40 bits of 1 µs. Outside START and RUN the line is driven low and carries no frame (Table 20.4). -/
def execBsetFrame (b : Fin 4) (s : State) : Host.Outcome State Fault Refusal :=
  when' (!s.bsetLow && s.frameDue b && decide (s.bridle.lineFree ≤ s.frc)) s (fun s =>
    let sp := s.setpointSent b
    let s : State := { s with bridle := { s.bridle with
      frames := setAt s.bridle.frames b (some (s.frc, sp)), lineFree := s.frc + 40 * usCu } }
    s.send (.bset ((bsetBytes b sp).flatMap charBits)))

end Sys2Proof.Machine
end

