-- ==== Sys2Proof/Machine/Blocks.lean ====
section
/-! DEFINITION. Slot blocks as words (R160 to R162), and a block's header read back from words. -/

namespace Sys2Proof.Machine

/-- The extension words of a block (Table 06.5). -/
def Block.ext (b : Block) : List Word64 :=
  (match b.absent with | some m => [pack [(0, 18, m)]] | none => []) ++
  (match b.epochs with | some e => [pack [(0, 64, e)]] | none => [])

/-- Header words 0 to 2 (Table 06.4). -/
def Block.head (b : Block) : List Word64 :=
  [pack [(52, 12, b.module), (48, 4, b.stream), (0, 48, b.slot)],
   pack [(32, 32, b.seq), (8, 24, b.payload.length), (4, 4, 1), (0, 1, b2n b.seqInit)],
   pack [(63, 1, b2n b.mirror), (62, 1, b2n b.late), (61, 1, b2n b.absent.isSome), (60, 1, b2n b.poison),
     (59, 1, b2n b.brownout), (58, 1, b2n b.epochs.isSome), (56, 2, b.kind), (54, 2, b.vclass), (32, 16, b.lost),
     (8, 24, b.ulen)]]

/-- HCRC over words 0 to 2, bits [63:32] of word 3 and the extension words (R161). -/
def hcrcOf (head ext : List Word64) : Nat := crc32c (wordBytes head ++ [0, 0, 0, 0] ++ wordBytes ext)

/-- The words of a block (R160). -/
def Block.words (b : Block) : List Word64 :=
  b.head ++ [pack [(0, 32, hcrcOf b.head b.ext)]] ++ b.ext ++ bytesWords (ceilDiv b.payload.length 8) b.payload ++
    [pack [(32, 32, crc32c b.payload), (0, 32, b.ccrc)]]

/-- How many extension words a received block has. -/
def extCount (ws : List Word64) : Nat := fw (ws.getD 2 0) 61 1 + fw (ws.getD 2 0) 58 1

/-- A received block is long enough for its header, extension words, payload and trailer. -/
def blockWhole (ws : List Word64) : Bool :=
  ws.length == 5 + extCount ws + ceilDiv (fw (ws.getD 1 0) 8 24) 8

/-- HCRC of a received block checks (R161). -/
def hcrcOk (ws : List Word64) : Bool :=
  decide (5 + extCount ws ≤ ws.length) && fw (ws.getD 3 0) 0 32 == crc32c (wordBytes (ws.take 3) ++ bytesBE 4 (fw (ws.getD 3 0) 32 32) ++
    wordBytes ((ws.drop 4).take (extCount ws)))

/-- The payload bytes of a received block, padding excluded. -/
def payloadOf (ws : List Word64) : List Nat :=
  (wordBytes ((ws.drop (4 + extCount ws)).dropLast)).take (fw (ws.getD 1 0) 8 24)

/-- PCRC of a received block checks (Table 06.6). -/
def pcrcOk (ws : List Word64) : Bool := blockWhole ws && fw (ws.getLastD 0) 32 32 == crc32c (payloadOf ws)

/-- Set LATE, MIRROR in a block that is forwarded, and recompute HCRC; other words are unchanged (R174). -/
def reflag (late mirror : Bool) (ws : List Word64) : List Word64 :=
  let w2 := (ws.getD 2 0).toNat
  let v2 := withBit (withBit w2 62 (late || bitOf w2 62)) 63 (mirror || bitOf w2 63)
  if v2 = w2 then ws
  else
    let ws := ws.set 2 (BitVec.ofNat 64 v2)
    let c := crc32c (wordBytes (ws.take 3) ++ bytesBE 4 (fw (ws.getD 3 0) 32 32) ++ wordBytes ((ws.drop 4).take (extCount ws)))
    ws.set 3 (pack [(32, 32, fw (ws.getD 3 0) 32 32), (0, 32, c)])

/-- Header fields of a received block. -/
def hdrModule (ws : List Word64) : Nat := fw (ws.getD 0 0) 52 12
def hdrStream (ws : List Word64) : Nat := fw (ws.getD 0 0) 48 4
def hdrSlot (ws : List Word64) : Nat := fw (ws.getD 0 0) 0 48
def hdrSeq (ws : List Word64) : Nat := fw (ws.getD 1 0) 32 32
def hdrInit (ws : List Word64) : Bool := fw (ws.getD 1 0) 0 1 == 1

/-! ### POISON (R164, R174, Table 12.4) -/

/-- Set POISON in a block that is held as words and recompute its HCRC (R174, Table 12.4). -/
def poisonWords (ws : List Word64) : List Word64 :=
  let v2 := withBit (ws.getD 2 0).toNat 60 true
  let ws := ws.set 2 (BitVec.ofNat 64 v2)
  let c := crc32c (wordBytes (ws.take 3) ++ bytesBE 4 (fw (ws.getD 3 0) 32 32) ++ wordBytes ((ws.drop 4).take (extCount ws)))
  ws.set 3 (pack [(32, 32, fw (ws.getD 3 0) 32 32), (0, 32, c)])

/-- The own block of stream `k` of slot `n`. -/
def Block.is (b : Block) (n k : Nat) : Bool := b.slot == n && b.stream == k

/-- Set POISON in a block if it is that one. -/
def Block.poisonIf (n k : Nat) (b : Block) : Block := if b.is n k then { b with poison := true } else b

/-- The waiting frame is an own block, or a forwarded one, of that module, stream and slot. -/
def Outgoing.carries (own : Bool) (m k n : Nat) : Outgoing → Bool
  | .frame ws o _ _ => o == own && hdrModule ws == m && hdrStream ws == k && hdrSlot ws == n % 2 ^ 48
  | .slotEnd _ => false

/-- Set POISON in the block of a waiting frame. -/
def Outgoing.poison : Outgoing → Outgoing
  | .frame ws o r c => .frame (poisonWords ws) o r c
  | x => x

/-- The frames of a block that wait for a port are sent with POISON. -/
def State.poisonFrames (s : State) (own : Bool) (m k n : Nat) : State :=
  let f (q : List Outgoing) : List Outgoing := q.map (fun x => if x.carries own m k n then x.poison else x)
  { s with harness := { s.harness with outA := f s.harness.outA, outB := f s.harness.outB } }

/-- Stream `k` of slot `n` is sent with POISON, wherever its words are: in the slot packer, in the Skive, in the merge window or waiting for
a port (R164). -/
def State.poisonSlot (s : State) (n k : Nat) : State :=
  let s : State := { s with
    packer := { s.packer with slots := s.packer.slots.map (fun o => if o.slot = n then { o with poison := withBit o.poison k true } else o) },
    skive := { s.skive with
      inbox := s.skive.inbox.map (fun x => (x.1.poisonIf n k, x.2)),
      blocks := s.skive.blocks.map (fun x => { x with blk := x.blk.poisonIf n k }),
      stored := s.skive.stored.map (fun x => (x.1.poisonIf n k, x.2)) },
    stitch := { s.stitch with groups := s.stitch.groups.map (fun g => { g with own := g.own.map (Block.poisonIf n k) }) } }
  s.poisonFrames true (s.get .ID_MODULE_MODULE) k n

/-- A forwarded block is sent with POISON and a new HCRC (R174). -/
def State.poisonForwarded (s : State) (m k n : Nat) : State :=
  let f (ws : List Word64) : List Word64 := if hdrModule ws = m ∧ hdrStream ws = k ∧ hdrSlot ws = n then poisonWords ws else ws
  let s : State := { s with stitch := { s.stitch with
    groups := s.stitch.groups.map (fun g => { g with cia := g.cia.map (fun x => (x.1, f x.2)), cib := g.cib.map (fun x => (x.1, f x.2)) }),
    late := s.stitch.late.map (fun x => (x.1, x.2.1, f x.2.2)) } }
  s.poisonFrames false m k n

end Sys2Proof.Machine
end

