-- ==== Sys2Proof/Machine/Dies.lean ====
section
/-! DEFINITION. What a die sends as control and status words, and the raising of a die event (10 R259, 19 R459). -/

namespace Sys2Proof.Machine

/-- Quadrant `n` = 4 f + q. -/
def State.quad (s : State) (n : Nat) : Quad := SMap.get quadDefault s.quads n

/-- Write quadrant `n`. -/
def State.setQuad (s : State) (n : Nat) (q : Quad) : State := { s with quads := SMap.set quadDefault s.quads n q }

/-- The order of the kinds of control and status word on a lane (R259). -/
def csRank (w : Word64) : Nat :=
  match fw w 58 4 with
  | 1 => 0
  | 2 => 1
  | 3 => 2
  | 7 => 3
  | _ => 4

/-- A waiting control and status word that lane `n` may send: an event word only while all lanes of the die are LOCKED (R459). -/
def csMay (locked : Bool) (w : Word64) : Bool := csRank w != 4 && (csRank w != 3 || locked)

/-- Put a word behind the waiting words of its own and earlier kinds (R259). -/
def csInsert (w : Word64) : List Word64 → List Word64
  | [] => [w]
  | x :: t => if csRank w < csRank x then w :: x :: t else x :: csInsert w t

/-- A control and status word waits for lane `n`. -/
def State.csPush (s : State) (n : Nat) (w : Word64) : State :=
  let q := s.quad n
  s.setQuad n { q with cs := csInsert w q.cs }

/-- OR a mask into a waiting primitive word of the same half-quadrant, which keeps its bin (R113). -/
def primMerge (half mask : Nat) : List Word64 → Option (List Word64)
  | [] => none
  | w :: t =>
    if fw w 58 6 = 0x31 ∧ fw w 57 1 = half then some ((w ||| BitVec.ofNat 64 mask) :: t)
    else (primMerge half mask t).map (w :: ·)

/-- A primitive word forms at the end of its bin (R112, R113). -/
def State.formPrim (s : State) (n : Nat) (w : Word64) : State :=
  match primMerge (fw w 57 1) (fw w 0 32) (s.quad n).cs with
  | some l => s.setQuad n { s.quad n with cs := l }
  | none => s.csPush n w

/-- The primitive words whose bins have ended have formed. -/
def State.formPrims (s : State) (n : Nat) : State :=
  let q := s.quad n
  let done := q.prims.filter (fun x => decide (x.2 ≤ s.frc))
  if done = [] then s
  else
    let s := s.setQuad n { q with prims := q.prims.filter (fun x => decide (s.frc < x.2)) }
    done.foldl (fun t x => t.formPrim n x.1) s

/-- The die is powered. -/
def State.diePowered (s : State) (f : Nat) : Bool := decide ((s.die f).pwr ≠ .off)

/-- All four data lanes of die `f` are LOCKED at the Saddle. -/
def State.dieLocked (s : State) (f : Nat) : Bool :=
  (List.range 4).all (fun q => decide (s.get .HAR_RXL_STAT_STATE (4 * f + q) = 2))

/-- A word waits for the return lane of die `f` (R261). -/
def State.retPut (s : State) (f : Nat) (w : RetWord) : State :=
  let q := SMap.get (fun _ => []) s.harness.retQ f ++ [w]
  { s with harness := { s.harness with retQ := SMap.set (fun _ => []) s.harness.retQ f q } }

/-- A die is absent from the slot that runs (R32, R260). -/
def State.slotDieGone (s : State) (f : Nat) : State :=
  { s with packer := { s.packer with slots := s.packer.slots.map (fun o =>
      if o.ended.isNone then { o with gone := withBit o.gone f true } else o) } }

/-- A die leaves JOINED within the slot that runs: the slot awaits no marker of it (R155). -/
def State.slotDieLeft (s : State) (f : Nat) : State :=
  { s with packer := { s.packer with slots := s.packer.slots.map (fun o =>
      if o.ended.isNone then { o with dies := withBit o.dies f false } else o) } }

/-- The die event word (Table 19.4). -/
def dieEventWord (e : Nat) (ch : Option Nat) (replay : Bool) : Word64 :=
  let c := match ch with
    | some c => c
    | none => if 3 ≤ e ∧ e ≤ 6 then 64 * (e - 3) else 0
  pack [(62, 2, 3), (58, 4, 7), (53, 5, e), (52, 1, b2n ch.isSome), (44, 8, c), (43, 1, b2n replay)]

/-- The data lane that carries a die event (R459). -/
def dieEventLane (f e : Nat) (ch : Option Nat) : Nat :=
  if 3 ≤ e ∧ e ≤ 6 then 4 * f + (e - 3)
  else match ch with
    | some c => 4 * f + c / 64
    | none => 4 * f

/-- Raise event `e` of die `f`: its bit in EVD_PEND, and its word on a lane, or one REPLAY word once the lanes are LOCKED
again (R459). -/
def State.raiseDie (s : State) (f e : Nat) (ch : Option Nat := none) : State :=
  if !s.diePowered f then s
  else
    let s := s.put .EVD_PEND_PEND (withBit (s.get .EVD_PEND_PEND f) e true) f
    if s.dieLocked f then s.csPush (dieEventLane f e ch) (dieEventWord e ch false)
    else
      let d := s.die f
      if d.held.any (fun h => h.1 == e) then s else s.setDie f { d with held := d.held ++ [(e, ch)] }

/-- When all four lanes are LOCKED again the held events go out with REPLAY = 1 (R459). -/
def State.replayHeld (s : State) (f : Nat) : State :=
  if s.dieLocked f then
    let d := s.die f
    let s := d.held.foldl (fun t h => t.csPush (dieEventLane f h.1 h.2) (dieEventWord h.1 h.2 true)) s
    s.setDie f { (s.die f) with held := [] }
  else s

end Sys2Proof.Machine
end

