-- ==== Sys2Proof/Machine/Lanes.lean ====
section
/-! DEFINITION. The Harness (10): lanes, ports, alignment, equalisation, loopbacks, frames and the voted builders, TMI messages
that are discarded. -/

namespace Sys2Proof.Machine

/-! ### Receive lanes (R251) -/

/-- The clock lane that serves a lane (Table 10.1): one for each Shathen link, CI port, timing input and return lane. -/
def clockOf (n : Nat) : Nat := if n < 64 then n / 4 else if n < 72 then 16 else if n < 80 then 17 else n - 62

/-- The receive lanes that a clock lane serves. -/
def clockLanes (k : Nat) : List Nat :=
  if k < 16 then [4 * k, 4 * k + 1, 4 * k + 2, 4 * k + 3]
  else if k < 18 then (List.range 8).map (fun i => 64 + 8 * (k - 16) + i)
  else if k < 20 then [62 + k]
  else []

/-- The clock lane of lane `n` is present. -/
def State.clockOk (s : State) (n : Nat) : Bool := bitOf s.harness.clocks (clockOf n)

/-- Note that clock lane `k` is present or absent. -/
def State.putClock (s : State) (k : Nat) (b : Bool) : State :=
  { s with harness := { s.harness with clocks := withBit s.harness.clocks k b } }

/-- The event of a TMI lane that leaves LOCKED (R280). -/
def State.tmiUnlock (s : State) (n : Nat) : State :=
  if n = 80 then s.raise 420 80 else if n = 81 then s.raise 421 81 else s

/-- The Stitch state of a CI port, and its field. -/
def ciFld (cib : Bool) : Fld := if cib then .STI_STAT_CIB_STATE else .STI_STAT_CIA_STATE

/-- The Harness state of a CI port. -/
def portFld (cib : Bool) : Fld := if cib then .HAR_STAT_CIB_PORT else .HAR_STAT_CIA_PORT

/-- ACOUNT of the last ALIGN row of a CI port. -/
def State.putAcount (s : State) (cib : Bool) (c : Option Nat) : State :=
  { s with harness := { s.harness with acount := setAt s.harness.acount (b2n cib) c } }

/-- The latency of every data lane of die `f` has been measured since the lane left LOCKED last (R22). -/
def State.measured (s : State) (f : Nat) : Bool := decide (fieldOf s.harness.unmeasured (4 * f) 4 = 0)

/-- What a lane that leaves LOCKED takes with it: the link of a die is lost, so the die is absent from the slot (R32, R254), and its latency
must be measured again (R22); an aligning
port is DOWN (R253). -/
def State.laneGone (s : State) (n : Nat) : State :=
  if n < 64 then
    ({ s with harness := { s.harness with
        lostLanes := s.harness.lostLanes ++ [n], unmeasured := withBit s.harness.unmeasured n true } } : State).slotDieGone (n / 4)
  else if n < 80 then
    let cib := decide (72 ≤ n)
    if s.get (portFld cib) = 1 then (s.put (portFld cib) 0).putAcount cib none else s
  else s.tmiUnlock n

/-- A receive lane leaves LOCKED by a fault: LOCK_LOSS + 1 (Table 10.2). -/
def State.lockLost (s : State) (n next : Nat) : State :=
  ((s.put .HAR_RXL_STAT_STATE next n).inc .HAR_RXL_CNT_LOCK_LOSS n).laneGone n

/-- The return lane of die `f` leaves LOCKED (Table 10.5A): the die does not hear what has not reached it. -/
def State.retLost (s : State) (f next : Nat) : State :=
  let s : State := { s with harness := { s.harness with
    retIn := SMap.set (fun _ => []) s.harness.retIn f ((SMap.get (fun _ => []) s.harness.retIn f).filter (fun x => decide (x.1 ≤ s.frc))) } }
  ((s.put .SHL_STAT_RET_STATE next f).inc .SHL_CNT_RET_LOCK_LOSS f).raiseDie f 0

/-- The clock lane of receive lane `n` is absent. -/
def State.rxClockLost (s : State) (n : Nat) : State :=
  match s.get .HAR_RXL_STAT_STATE n with
  | 0 => s
  | 2 => s.lockLost n 3
  | _ => s.put .HAR_RXL_STAT_STATE 3 n

/-- The C320 forwarded to die `f` is absent: the die's PLL, which multiplies it, is not locked (R19, R266; log entry 148). -/
def State.fwdClockLost (s : State) (f : Nat) : State :=
  if !s.diePowered f then s
  else
    let s := s.setDie f { s.die f with pll := false }
    let s := (s.putB .SHL_STAT_CLK_OK false f).raiseDie f 1
    match s.get .SHL_STAT_RET_STATE f with
    | 0 => s
    | 2 => s.retLost f 3
    | _ => s.put .SHL_STAT_RET_STATE 3 f

/-- The clock lane of lane `n` goes absent, for every lane that it serves (R251, Table 10.1). A timing input whose clock lane goes absent is
no longer OK from then on (R220, R222). -/
def State.clockLost (s : State) (n : Nat) : State :=
  let k := clockOf n
  let s := s.putClock k false
  let s : State := if k = 19 && s.flag .GIR_STAT_ALT_OK then { s with girth := { s.girth with altLost := some s.frc } } else s
  let s := if k = 18 || k = 19 then s.putInputOk (k == 19) false else s
  if k < 20 then (clockLanes k).foldl (fun t l => t.rxClockLost l) s else s.fwdClockLost (k - 20)

/-- The clock lane returns. A timing input is OK from then on: that its frequency fails the other test of R220 is for REF_INPUT_LOST to
say (log entry 154). -/
def State.clockBack (s : State) (n : Nat) : State :=
  let k := clockOf n
  let s := s.putClock k true
  let s := if k = 18 || k = 19 then s.putInputOk (k == 19) true else s
  if k < 20 then
    (clockLanes k).foldl (fun t l => if t.get .HAR_RXL_STAT_STATE l = 3 then t.put .HAR_RXL_STAT_STATE 1 l else t) s
  else
    let f := k - 20
    if !s.diePowered f then s
    else
      let s := s.putB .SHL_STAT_CLK_OK true f
      if s.get .SHL_STAT_RET_STATE f = 3 then s.put .SHL_STAT_RET_STATE 1 f else s

/-- 64 consecutive valid sync headers take a HUNT lane to LOCKED; a die whose four lanes are LOCKED again replays its held
events (R459). -/
def State.laneLock (s : State) (n : Nat) : State :=
  if n < 82 then
    if s.get .HAR_RXL_STAT_STATE n = 1 then
      let s := s.put .HAR_RXL_STAT_STATE 2 n
      if n < 64 then s.replayHeld (n / 4) else s
    else s
  else if s.get .SHL_STAT_RET_STATE (n - 82) = 1 then s.put .SHL_STAT_RET_STATE 2 (n - 82)
  else s

/-- 16 invalid sync headers within 64 blocks. -/
def State.laneUnlock (s : State) (n : Nat) : State :=
  if n < 82 then (if s.get .HAR_RXL_STAT_STATE n = 2 then s.lockLost n 1 else s)
  else if s.get .SHL_STAT_RET_STATE (n - 82) = 2 then s.retLost (n - 82) 1
  else s

/-- LANE_EN written 1: a DOWN lane whose clock is present goes to HUNT, and EQ_NOW starts at EQ_INIT (R251, R255). -/
def State.laneEnable (s : State) (n : Nat) : State :=
  let s := s.putB .HAR_RXL_CTRL_LANE_EN true n
  if s.get .HAR_RXL_STAT_STATE n = 0 && s.clockOk n then
    ((s.put .HAR_RXL_STAT_STATE 1 n).put .HAR_RXL_STAT_SLIPS 0 n).put .HAR_RXL_STAT_EQ_NOW (s.get .HAR_RXL_CTRL_EQ_INIT n) n
  else s

/-- LANE_EN written 0: the lane goes to DOWN; event 435 when it was LOCKED. -/
def State.laneDisable (s : State) (n : Nat) : State :=
  let was := s.get .HAR_RXL_STAT_STATE n
  let s := (s.putB .HAR_RXL_CTRL_LANE_EN false n).put .HAR_RXL_STAT_STATE 0 n
  if was = 2 then (s.raise 435 n).laneGone n else s

/-- SLIP written 1 in HUNT (Table 10.2): after 66 slips without lock event 429, and SLIPS starts again. -/
def State.laneSlip (s : State) (n : Nat) : State :=
  if s.get .HAR_RXL_STAT_STATE n = 1 then
    let s := (s.putB .HAR_RXL_STAT_SLIP_REQ false n).inc .HAR_RXL_STAT_SLIPS n
    if 66 ≤ s.get .HAR_RXL_STAT_SLIPS n then (s.raise 429 n).put .HAR_RXL_STAT_SLIPS 0 n else s
  else s

/-! ### Loopbacks and lane control words (R258) -/

/-- A receive lane carries no traffic that a loopback would disturb. -/
def State.rxIdle (s : State) (n : Nat) : Bool :=
  if n < 64 then !s.joined (n / 4)
  else if n < 72 then decide (s.get .STI_STAT_CIA_STATE = 0)
  else if n < 80 then decide (s.get .STI_STAT_CIB_STATE = 0)
  else decide (s.get .HAR_RXL_STAT_STATE n ≠ 2)

/-- A transmit lane carries no traffic. -/
def State.txIdle (s : State) (m : Nat) : Bool :=
  if m < 16 then !s.joined m
  else if m < 24 then !s.flag .HAR_CTRL_UPA_EN
  else if m < 32 then !s.flag .HAR_CTRL_UPB_EN
  else s.flag .HAR_STAT_TMO_IDLE

/-- The section lock of type `t` is set (R432). -/
def State.locked (s : State) (t : Nat) : Bool := bitOf (s.get .LAT_LOCK_LOCK * 2) t

/-- The LOOP and PRBS_EN part of a lane control write (R258): ignored with WERR while the lane carries traffic. -/
def State.writeLoop (s : State) (loop prbs werr : Fld) (idle : Bool) (n : Nat) (data : Word32) : State :=
  let s := if werr.on data then s.putB werr false n else s
  if loop.of data = s.get loop n ∧ prbs.of data = s.get prbs n then s
  else if idle then (s.take loop data n).take prbs data n
  else s.putB werr true n

/-- A CI lane that is not in far-end loopback has nothing in its elastic buffer. -/
def State.farClear (s : State) (n : Nat) : State :=
  if 64 ≤ n ∧ n < 80 then { s with harness := { s.harness with elastic := SMap.set (fun _ => []) s.harness.elastic (n - 64) [] } } else s

/-- A write of HAR_RXL_CTRL (Table 10.9). -/
def State.writeRxlCtrl (s : State) (n : Nat) (data : Word32) : State :=
  let s := if s.locked 2 then s else (s.take .HAR_RXL_CTRL_EQ_MAX data n).take .HAR_RXL_CTRL_EQ_MIN data n
  let s := (s.take .HAR_RXL_CTRL_EQ_INIT data n).take .HAR_RXL_CTRL_ADAPT_EN data n
  let s := s.writeLoop .HAR_RXL_CTRL_LOOP .HAR_RXL_CTRL_PRBS_EN .HAR_RXL_CTRL_WERR (s.rxIdle n) n data
  let s := if s.get .HAR_RXL_CTRL_LOOP n = 3 then s else s.farClear n
  let s := if Fld.on .HAR_RXL_CTRL_SLIP data then s.laneSlip n else s
  if Fld.on .HAR_RXL_CTRL_LANE_EN data then s.laneEnable n else s.laneDisable n

/-- A write of HAR_TXL_CTRL. -/
def State.writeTxlCtrl (s : State) (m : Nat) (data : Word32) : State :=
  s.writeLoop .HAR_TXL_CTRL_LOOP .HAR_TXL_CTRL_PRBS_EN .HAR_TXL_CTRL_WERR (s.txIdle m) m data

/-- A write of SHL_CTRL: the die end of a Shathen lane follows the same rule, and has no WERR (R258, Table 10.10). -/
def State.writeShlCtrl (s : State) (f : Nat) (data : Word32) : State :=
  if s.joined f then s else (s.take .SHL_CTRL_LOOP data f).take .SHL_CTRL_PRBS_EN data f

/-- What the checker of a lane counted in a slot: bit errors while PRBS_EN is 1, and 64 for each overflow or underflow of the
elastic buffer of a far-end loopback; a rise raises event 427. Lanes 0 to 81 receive, 82 + m is transmit lane m with its near-end
checker (R257, R258, log entry 59). -/
def State.checkerCount (s : State) (lane errs slips : Nat) : State :=
  if lane < 82 then
    let k := (if s.flag .HAR_RXL_CTRL_PRBS_EN lane then errs else 0) + (if s.get .HAR_RXL_CTRL_LOOP lane = 3 then 64 * slips else 0)
    if k = 0 then s else (s.inc .HAR_RXL_PRBS_PRBS_ERR lane k).raise 427 lane
  else
    let m := lane - 82
    let near := s.get .HAR_TXL_CTRL_LOOP m == 1 || s.get .HAR_TXL_CTRL_LOOP m == 2
    if s.flag .HAR_TXL_CTRL_PRBS_EN m && near && errs != 0 then (s.inc .HAR_TXL_PRBS_PRBS_ERR m errs).raise 427 (128 + m) else s

/-! ### Equalisation (R255, R256) -/

/-- The event of an eye below EYE_MIN, by lane. -/
def eyeEvent (n : Nat) : Nat := if n < 64 then 398 else if n < 80 then 405 else 420

/-- One adaptation step: `below`, `now`, `above` are the eye widths at EQ_NOW - 1, EQ_NOW, EQ_NOW + 1; `first` says that the lane has not
been measured before, so that there is no width that EYE falls from (log entry 17). Of two neighbours equally wide the lower code is taken
(log entry 212). -/
def State.eqAdapt (s : State) (n below now above : Nat) (first : Bool) : State :=
  let old := s.get .HAR_RXL_STAT_EYE n
  let eyeMin := s.get .HAR_EQ_EYE_MIN
  let eq := s.get .HAR_RXL_STAT_EQ_NOW n
  let lo := s.get .HAR_RXL_CTRL_EQ_MIN n
  let hi := s.get .HAR_RXL_CTRL_EQ_MAX n
  let want : Int := if now < below ∧ above ≤ below then (eq : Int) - 1 else if now < above then (eq : Int) + 1 else eq
  let out := decide (want < lo) || decide ((hi : Int) < want)
  let next : Int := if hi < lo then lo else clampI lo hi want
  let was := s.flag .HAR_RXL_STAT_AT_BOUND n
  let s := ((s.put .HAR_RXL_STAT_EYE now n).put .HAR_RXL_STAT_EQ_NOW next.toNat n).putB .HAR_RXL_STAT_AT_BOUND out n
  let s := if out && !was && decide (n < 80) then s.raise (if n < 64 then 399 else 406) n else s
  if now < eyeMin ∧ (first ∨ eyeMin ≤ old) then s.raise (eyeEvent n) n else s

/-! ### Ports (R253, R254, Table 07.3) -/

/-- All eight lanes of a CI port are LOCKED. -/
def State.portLocked (s : State) (cib : Bool) : Bool :=
  (List.range 8).all (fun i => decide (s.get .HAR_RXL_STAT_STATE ((if cib then 72 else 64) + i) = 2))

/-- The port becomes UP; a LOST cascade port goes to JOINING: the block lock that Table 07.3 has regained is taken as that of the port,
not of its lanes alone (log entry 149). -/
def State.portUp (s : State) (cib : Bool) : State :=
  let s := (s.put (portFld cib) 2).raise (402 + b2n cib)
  if s.get (ciFld cib) = 3 then s.put (ciFld cib) 1 else s

/-- The border cells of a port are inactive from the present bin onwards, those of bins before it stay (R119, log entry 178). -/
def State.borderLost (s : State) (cib : Bool) : State :=
  let b := s.nowCu / 8
  let s : State := { s with stirrup := { s.stirrup with borders := s.stirrup.borders.map (fun x =>
    if x.cib == cib && x.stop.isNone then { x with stop := some b } else x) } }
  (s.put .STR_STAT_NBR_LOST (withBit (s.get .STR_STAT_NBR_LOST) (b2n cib) true)).raise (481 + b2n cib)

/-- The port leaves UP and its partner is declared lost: the cascade port goes to LOST (Table 07.3). -/
def State.portDown (s : State) (cib align : Bool) : State :=
  if s.get (portFld cib) ≠ 2 then s
  else
    let s := (s.putAcount cib none).put (portFld cib) (b2n (s.portLocked cib))
    let s := if align then s.raise 404 else s
    let s := s.raise (400 + b2n cib)
    let s := if s.get (ciFld cib) = 1 || s.get (ciFld cib) = 2 then (s.put (ciFld cib) 3).raise (436 + b2n cib) else s
    s.borderLost cib

/-- An ALIGN row (R253): lanes that disagree, or an ACOUNT that is not one more than the last, take an UP port down; a port that is not
UP aligns on a row whose lanes agree and lie within 48 cu. `skew` is that of the lanes, in cu. -/
def State.alignRow (s : State) (cib : Bool) (counts : List Nat) (skew : Nat) : State :=
  let c := counts.headD 0 % 2 ^ 32
  let agree := counts.all (fun x => x % 2 ^ 32 == c)
  let last := s.harness.acount.getD (b2n cib) none
  let next := match last with
    | some a => decide (wrapDiff 32 c a = 1)
    | none => true
  if s.get (portFld cib) = 2 then
    if agree && next then s.putAcount cib (some c) else s.portDown cib true
  else if !agree || decide (48 < skew) then (s.putAcount cib none).raise 404
  else if s.portLocked cib then (s.putAcount cib (some c)).put (portFld cib) 1
  else s

/-- The ALIGN block of a port (Table 10.4): CHK, LANE, ACOUNT. -/
def portAlign (lane acount : Nat) : Word64 := ctlBlock 0x22 (lane % 8 * 2 ^ 44 + acount % 2 ^ 32)

/-- What lane `i` of a UP port sends at a row start: PRBS31 while PRBS_EN is 1; what the CI lane opposite has received while that is in
far-end loopback, IDLE when its elastic buffer holds nothing else; else its own block, if it has one (R257, R268, log entry 206). -/
def State.upLane (s : State) (upb : Bool) (i : Nat) (own : Option (Bool × Word64)) : State :=
  let m := 16 + 8 * b2n upb + i
  if s.flag .HAR_TXL_CTRL_PRBS_EN m then s.prbsBlock m
  else if s.farLane upb i then
    let k := 8 * b2n upb + i
    match SMap.get (fun _ => []) s.harness.elastic k with
    | b :: t =>
      ({ s with harness := { s.harness with elastic := SMap.set (fun _ => []) s.harness.elastic k t } } : State).wireBlock m b.1 b.2
    | [] => s.wireBlock m true (ctlBlock 0x11 0)
  else
    match own with
    | some b => s.wireBlock m b.1 b.2
    | none => s

/-! ### Frames and the voted builders (R269, R275 to R277) -/

/-- The enable of a UP port. -/
def upEn (upb : Bool) : Fld := if upb then .HAR_CTRL_UPB_EN else .HAR_CTRL_UPA_EN

/-- The failure flag of a builder. -/
def bldFail (upb : Bool) : Fld := if upb then .HAR_STAT_BLD_B_FAIL else .HAR_STAT_BLD_A_FAIL

/-- What waits for a port. -/
def State.outQ (s : State) (upb : Bool) : List Outgoing := if upb then s.harness.outB else s.harness.outA

/-- Replace what waits for a port. -/
def State.setOutQ (s : State) (upb : Bool) (q : List Outgoing) : State :=
  { s with harness := if upb then { s.harness with outB := q } else { s.harness with outA := q } }

/-- The block stream of a port. -/
def State.stream (s : State) (upb : Bool) : PortStream := s.harness.streams.getD (b2n upb) PortStream.empty

/-- Replace the block stream of a port. -/
def State.setStream (s : State) (upb : Bool) (x : PortStream) : State :=
  { s with harness := { s.harness with streams := setAt s.harness.streams (b2n upb) x } }

/-- A port sends: it is enabled and its builder is in service (R276). -/
def State.portSends (s : State) (upb : Bool) : Bool := s.flag (upEn upb) && !s.flag (bldFail upb)

/-- An item goes into the stream of a port, one block after the other (R267, R269). -/
def State.putItem (s : State) (upb : Bool) (ctl : Word64) (ws : List Word64) : State :=
  let x := s.stream upb
  (s.setStream upb { x with fifo := x.fifo ++ (true, ctl) :: ws.map (fun w => (false, w)) }).send (.port (b2n upb) ctl ws)

/-- A SIDE block, or an ECHO block ahead of it, takes one of the next positions of a port's stream, inside a frame too (R269). -/
def State.putPrio (s : State) (upb echo : Bool) (ctl : Word64) : State :=
  let x := s.stream upb
  (s.setStream upb { x with prio := if echo then ctl :: x.prio else x.prio ++ [ctl] }).send (.port (b2n upb) ctl [])

/-- The frame or mark that goes out has less than a row left: the next one follows it without a gap (R268). -/
def State.streamFree (s : State) (upb : Bool) : Bool := decide ((s.stream upb).fifo.length < 8)

/-- Count a block sent on a port since its last slot-end mark. -/
def State.countSent (s : State) (upb : Bool) : State :=
  { s with harness := if upb then { s.harness with sentB := s.harness.sentB + 1 }
                      else { s.harness with sentA := s.harness.sentA + 1 } }

/-- The vote of R275 over the values of builder A, builder B and the witness: FCRC, whether a value has two votes, and who is
in the minority. With the witness failed the two builders are compared. -/
def crcVote (a b w : Nat) (witFail : Bool) : Nat × Bool × List Bool :=
  if witFail then (a, a == b, [false, false, false])
  else if a = b then (a, true, [false, false, a != w])
  else if a = w then (a, true, [false, true, false])
  else if b = w then (b, true, [true, false, false])
  else (a, false, [false, false, false])

/-- The frame's own entries of a queue: everything before the slot-end mark of its group, and the rest. -/
def splitShare : List Outgoing → List Outgoing × List Outgoing
  | [] => ([], [])
  | .slotEnd n :: t => ([], .slotEnd n :: t)
  | x :: t => let p := splitShare t; (x :: p.1, p.2)

/-- The queue of a port that takes over what waits for a stopped port, group by group: the blocks of a group follow the port's own
share of it (R277). -/
def takeOver : Nat → List Outgoing → List Outgoing → List Outgoing
  | 0, a, b => a ++ b
  | fuel + 1, a, b =>
    let p := splitShare a
    let q := splitShare b
    match p.2, q.2 with
    | .slotEnd n :: t, .slotEnd m :: u =>
      if m < n then q.1 ++ takeOver fuel a u
      else if n < m then p.1 ++ .slotEnd n :: takeOver fuel t b
      else p.1 ++ q.1 ++ .slotEnd n :: takeOver fuel t u
    | [], .slotEnd _ :: u => takeOver fuel (p.1 ++ q.1) u
    | _, _ => p.1 ++ q.1 ++ p.2

/-- What moves to the other port is counted there, a replay too (R175, log entry 18). -/
def Outgoing.moved : Outgoing → Outgoing
  | .frame ws own replay _ => .frame ws own replay true
  | x => x

/-- A builder is declared failed (R276, R277): its port goes idle at once; in split mode the blocks that remain on it follow the other
port's share of their group. -/
def State.builderFails (s : State) (upb : Bool) : State :=
  let s := (s.putB (bldFail upb) true).raise (414 + b2n upb)
  let rest := s.outQ upb
  let s := (s.setOutQ upb []).setStream upb PortStream.empty
  let s : State := { s with harness := { s.harness with groupAt := setAt s.harness.groupAt (b2n upb) none } }
  let s := if s.harness.mirror then s
    else s.setOutQ (!upb) (takeOver (rest.length + (s.outQ !upb).length + 1) (s.outQ !upb) (rest.map Outgoing.moved))
  if s.flag .HAR_STAT_DEGRADED then s else (s.putB .HAR_STAT_DEGRADED true).raise 418

/-- The minority counts of the vote, their events, and the failures after 4 frames in a row (R275, R276). -/
def State.countMinor (s : State) (minority : List Bool) (agreed : Bool) : State :=
  let s := if minority.getD 0 false then (s.inc .HAR_CNT0_DIS_A).raise 411 else s
  let s := if minority.getD 1 false then (s.inc .HAR_CNT0_DIS_B).raise 412 else s
  let s := if minority.getD 2 false then (s.inc .HAR_CNT1_DIS_W).raise 413 else s
  let s := if agreed then s else (s.inc .HAR_CNT1_VOTE_NONE).raise 416
  let runs := (List.range 3).map (fun b => if minority.getD b false then s.harness.minor.getD b 0 + 1 else 0)
  let s : State := { s with harness := { s.harness with minor := runs } }
  if 4 ≤ runs.getD 2 0 then s.putB .HAR_STAT_WIT_FAIL true else s

/-- The frame start block (Table 10.4). -/
def fsBlock (n : Nat) : Word64 := ctlBlock 0x33 (n % 2 ^ 22)

/-- The frame end block (Table 10.4). -/
def feBlock (fbad : Bool) (fcrc : Nat) : Word64 := ctlBlock 0x3C (b2n fbad * 2 ^ 32 + fcrc % 2 ^ 32)

/-- The slot-end control block and its data word (Table 10.4). -/
def seWords (slot nblk : Nat) : Word64 × Word64 :=
  let c := ctlBlock 0x44 slot
  let top := nblk % 2 ^ 16 * 2 ^ 16
  (c, pack [(48, 16, nblk), (0, 32, crc32c (bytesBE 7 (fw c 0 56) ++ bytesBE 4 top))])

/-- The module enters RUN when the first slot block leaves (R439). -/
def State.enterRun (s : State) : State := if s.mode = .start then { s with mode := .run } else s

/-- Send one frame on a port with the CRC values of its driving builder, the other builder and the witness (R269, R275, R277). -/
def State.sendFrame (s : State) (upb : Bool) (ws : List Word64) (own replay counts : Bool) (drv other wit : Nat) : State :=
  let a := if upb then other else drv
  let b := if upb then drv else other
  let (fcrc, agreed, minority) := crcVote a b wit (s.flag .HAR_STAT_WIT_FAIL)
  let fbad := !agreed || drv != fcrc
  let s := (s.putItem upb (fsBlock ws.length) ws).putItem upb (feBlock fbad fcrc) []
  let s := if counts then s.countSent upb else s
  let s : State := { s with harness := { s.harness with
    frameCnt := setAt s.harness.frameCnt (b2n upb) (s.harness.frameCnt.getD (b2n upb) 0 + 1) } }
  let s := if s.harness.frameCnt.getD (b2n upb) 0 = 1025 then s.raise 434 else s
  let s : State := if (s.harness.groupAt.getD (b2n upb) none).isSome then s else { s with harness := { s.harness with
    groupAt := setAt s.harness.groupAt (b2n upb) (some s.frc) } }
  let s := s.enterRun.countMinor minority agreed
  let failed := decide (4 ≤ s.harness.minor.getD (b2n upb) 0) && !s.flag (bldFail upb)
  let s := if failed then s.builderFails upb else s
  let otherFails := decide (4 ≤ s.harness.minor.getD (b2n !upb) 0) && !s.flag (bldFail (!upb))
  let s := if otherFails then s.builderFails !upb else s
  if replay || !fbad then s
  else if s.harness.mirror then
    if agreed then s
    else
      let again := Outgoing.frame ws own true false
      ((s.setOutQ false (again :: s.outQ false)).setOutQ true (again :: s.outQ true)).inc .HAR_CNT2_REPLAYS |>.raise 417
  else
    let p := if failed then !upb else upb
    -- on the other port the frame is one of the blocks that its NBLK counts (R175)
    ((s.setOutQ p (.frame ws own true failed :: s.outQ p)).inc .HAR_CNT2_REPLAYS).raise 417

/-- Send the slot-end mark of a group on a port (R175). -/
def State.sendSlotEnd (s : State) (upb : Bool) (slot : Nat) : State :=
  let n := if upb then s.harness.sentB else s.harness.sentA
  let p := seWords slot n
  let s := s.putItem upb p.1 [p.2]
  let long := match s.harness.groupAt.getD (b2n upb) none with
    | some t => decide (t + 65536 < s.frc)
    | none => false
  let s := if long then s.raise 419 else s
  let s : State := { s with harness := { s.harness with groupAt := setAt s.harness.groupAt (b2n upb) none } }
  { s with harness := if upb then { s.harness with sentB := 0 } else { s.harness with sentA := 0 } }

/-- A write of HAR_CTRL (Table 10.9). MIRROR takes effect at the next group; a restarted builder resumes there too. -/
def State.writeHarCtrl (s : State) (data : Word32) : State :=
  let s := ((s.take .HAR_CTRL_UPB_EN data).take .HAR_CTRL_UPA_EN data).take .HAR_CTRL_MIRROR data
  let s := (s.take .HAR_CTRL_TMO_EN data).tmoUpdate
  let restart (t : State) (upb : Bool) : State :=
    if t.flag (bldFail upb) then
      ({ t with harness := { t.harness with
          resume := setAt t.harness.resume (b2n upb) true, minor := setAt t.harness.minor (b2n upb) 0 } } : State)
    else t
  let s := if Fld.on .HAR_CTRL_BLD_A_RESTART data then restart s false else s
  if Fld.on .HAR_CTRL_BLD_B_RESTART data then restart s true else s

/-- At the first group after a write: the port mode, and the builders that return to service (R271, R276). -/
def State.groupMode (s : State) : State :=
  let s : State := { s with harness := { s.harness with mirror := s.flag .HAR_CTRL_MIRROR } }
  let back (t : State) (upb : Bool) : State :=
    if t.harness.resume.getD (b2n upb) false then
      ({ t with harness := { t.harness with resume := setAt t.harness.resume (b2n upb) false } } : State).putB (bldFail upb) false
    else t
  let s := back (back s false) true
  if s.flag (bldFail false) || s.flag (bldFail true) then s else s.putB .HAR_STAT_DEGRADED false

/-! ### Echoes (R236, R273) -/

/-- The FRC at which the next row of blocks begins that is not an ALIGN row. -/
def State.nextRow (s : State) : Nat :=
  let r := ceilDiv s.frc 6 * 6
  if r % 24576 = 0 then r + 6 else r

/-- The echo goes into the streams of the UP ports that send, and t2 and t3 - t2 are reported (R236, R239); `stamp` is the FRC position
of t3 in fu. -/
def State.echoSend (s : State) (e : Echo) (stamp : Nat) : State :=
  let own := s.get .ID_MODULE_MODULE
  let ctl := ctlBlock 0x66 (e.exseq % 2 ^ 16 * 2 ^ 32 + own * 2 ^ 20)
  let s := [false, true].foldl (fun t p =>
    if t.portSends p then
      let n := t.harness.echoCnt.getD (b2n p) 0 + 1
      let t : State := { t with harness := { t.harness with echoCnt := setAt t.harness.echoCnt (b2n p) n } }
      let t := t.putPrio p true ctl
      if n = 17 then t.raise 434 else t
    else t) s
  let s := s.echoItem 1 e.exseq own (b2n e.alt) e.t2 (unsigned 32 (s.stampFu stamp 0 - e.t2)) e.tv
  let s : State := { s with girth := { s.girth with echo := none } }
  s.inc .GIR_CNT3_ECHO_SENT

/-! ### Commands -/

/-- LANE_CLOCK_LOSS (R251). -/
def execLaneClockLoss (n : AnyLane) (s : State) : Host.Outcome State Fault Refusal := when' s.alive s (fun s => s.clockLost n)

/-- LANE_CLOCK_RETURN (R251). -/
def execLaneClockReturn (n : AnyLane) (s : State) : Host.Outcome State Fault Refusal := when' s.alive s (fun s => s.clockBack n)

/-- LANE_LOCK (R251). -/
def execLaneLock (n : AnyLane) (s : State) : Host.Outcome State Fault Refusal := when' s.alive s (fun s => s.laneLock n)

/-- LANE_LOCK_LOSS (R251). -/
def execLaneLockLoss (n : AnyLane) (s : State) : Host.Outcome State Fault Refusal := when' s.alive s (fun s => s.laneUnlock n)

/-- SLIP_REQUEST (R251). -/
def execSlipRequest (n : RxLane) (s : State) : Host.Outcome State Fault Refusal :=
  when' (s.alive && decide (s.get .HAR_RXL_STAT_STATE n = 1) && !s.flag .HAR_RXL_STAT_SLIP_REQ n) s (fun s =>
    (s.putB .HAR_RXL_STAT_SLIP_REQ true n).raise 428 n)

/-- SLIP (R251). -/
def execSlip (n : RxLane) (s : State) : Host.Outcome State Fault Refusal := access' s.alive s (fun s => s.laneSlip n)

/-- LANE_ENABLE (R251). -/
def execLaneEnable (n : RxLane) (s : State) : Host.Outcome State Fault Refusal := access' s.alive s (fun s => s.laneEnable n)

/-- LANE_DISABLE (R251). -/
def execLaneDisable (n : RxLane) (s : State) : Host.Outcome State Fault Refusal := access' s.alive s (fun s => s.laneDisable n)

/-- BAD_CONTROL_BLOCK (R249, R250): `chkFail` says that the block's CTYPE was defined and its CHK failed; a DOWN lane reports nothing
(R252). -/
def execBadControlBlock (n : RxLane) (chkFail : Bool) (s : State) : Host.Outcome State Fault Refusal :=
  when' s.alive s (fun s =>
    if s.get .HAR_RXL_STAT_STATE n = 0 then s
    else if chkFail then (s.inc .HAR_CNT4_ITEM_CRC).raise 409 n else s.inc .HAR_RXL_CNT_BAD_HDR n)

/-- ALIGN_RECEIVE (R253): the ACOUNT that each of the eight lanes shows, and the skew between them in cu. -/
def execAlignReceive (cib : Bool) (counts : List Nat) (s : State) (skew : Nat := 0) : Host.Outcome State Fault Refusal :=
  if counts.length = 8 then when' s.alive s (fun s =>
    (s.farBack cib (counts.zipIdx.map (fun x => (true, portAlign x.2 x.1)))).alignRow cib counts skew) else .fault .illFormed

/-- PORT_UP (R253): the lanes are LOCKED and an ALIGN row with this ACOUNT on every lane, within the skew, has been received. -/
def execPortUp (cib : Bool) (acount : BitVec 32) (s : State) : Host.Outcome State Fault Refusal :=
  when' (s.alive && s.portLocked cib && decide (s.get (portFld cib) = 1) && s.harness.acount.getD (b2n cib) none == some acount.toNat) s
    (fun s => s.portUp cib)

/-- PORT_DOWN (R254): `align` says that the alignment failed. -/
def execPortDown (cib align : Bool) (s : State) : Host.Outcome State Fault Refusal := when' s.alive s (fun s => s.portDown cib align)

/-- EQ_PERIOD slots have passed since the lane's last adaptation step; 0 acts as 1 (R255). -/
def State.eqDue (s : State) (n : Nat) : Bool :=
  match SMap.get (fun _ => none) s.harness.eqAt n with
  | some m => decide (m + max 1 (s.get .HAR_EQ_EQ_PERIOD) ≤ s.girth.begun)
  | none => true

/-- EQ_ADAPT (R255), or the step that a PH run takes outside EQ_PERIOD (R366, log entry 164). -/
def execEqAdapt (n : RxLane) (below now above : Nat) (s : State) : Host.Outcome State Fault Refusal :=
  let due := s.eqDue n
  when' (s.alive && s.flag .HAR_RXL_CTRL_ADAPT_EN n && decide (s.get .HAR_RXL_STAT_STATE n = 2) && (due || bitOf s.harness.eqOwed n)) s (fun s =>
    let first := (SMap.get (fun _ => none) s.harness.eqAt n).isNone
    let h := s.harness
    let s : State := { s with harness :=
      if due then { h with eqAt := SMap.set (fun _ => none) h.eqAt n (some s.girth.begun) }
      else { h with eqOwed := withBit h.eqOwed n false } }
    s.eqAdapt n below now above first)

/-- LOOP_WRITE (R258): a write of a lane's control register; `tx` selects the transmit lane of that number. -/
def execLoopWrite (tx : Bool) (n : RxLane) (data : Word32) (s : State) : Host.Outcome State Fault Refusal :=
  access' s.alive s (fun s =>
    if tx then (if n.val < 33 then s.writeTxlCtrl n data else s) else s.writeRxlCtrl n data)

/-- The eight blocks of a row leave together, block i on lane i of the port (R268). -/
def State.sendRow (s : State) (upb : Bool) (bs : List (Bool × Word64)) : State :=
  let s := s.setStream upb { s.stream upb with row := some s.frc }
  bs.zipIdx.foldl (fun t x => t.upLane upb x.2 (some x.1)) s

/-- An ALIGN row: one ALIGN block on each lane, and no other block (R268). -/
def State.sendAlign (s : State) (upb : Bool) : State :=
  let c := s.frc / 24576 % 2 ^ 32
  (s.sendRow upb ((List.range 8).map (fun i => (true, portAlign i c)))).send (.alignRow (b2n upb) c)

/-- The row of this ROOT edge has gone out on the port. -/
def State.rowDone (s : State) (upb : Bool) : Bool := (s.stream upb).row == some s.frc

/-- Any other row: ECHO and SIDE blocks, then the blocks of frames and marks, then IDLE (R269). -/
def State.sendBlocks (s : State) (upb : Bool) : State :=
  let x := s.stream upb
  let bs := x.prio.map (fun w => (true, w)) ++ x.fifo
  let k := min 8 x.prio.length
  let s := s.setStream upb { x with prio := x.prio.drop k, fifo := x.fifo.drop (8 - k) }
  s.sendRow upb ((bs ++ List.replicate 8 (true, ctlBlock 0x11 0)).take 8)

/-- ALIGN_ROW_SEND (R268): on every UP port that sends. -/
def execAlignRowSend (s : State) : Host.Outcome State Fault Refusal :=
  when' (s.working && decide (s.frc % 24576 = 0)) s (fun s =>
    [false, true].foldl (fun t p => if t.portSends p && !t.rowDone p then t.sendAlign p else t) s)

/-- ECHO_SEND (R236, R273): when the next row begins at least 256 cu after t2. `stamp` is t3, the FRC position in fu of the first bit at
the UP lands, corrected for the skew of its lane; the two ports differ by at most 2 fu. -/
def execEchoSend (stamp : Nat) (s : State) : Host.Outcome State Fault Refusal :=
  match s.girth.echo with
  | some e =>
    let row := s.nextRow * 128
    when' (s.working && decide (e.since + 256 * 128 ≤ row) && decide (row ≤ stamp) && decide (stamp ≤ row + 2)) s
      (fun s => s.echoSend e stamp)
  | none => .next s

/-- FRAME_SEND (R269): the next frame or slot-end mark of a port, with the CRC-32C values that its driving builder, the other
builder and the witness hold (R275). It follows what is going out without a gap. -/
def execFrameSend (upb : Bool) (drv other wit : BitVec 32) (s : State) : Host.Outcome State Fault Refusal :=
  when' (s.working && s.portSends upb && s.streamFree upb) s (fun s =>
    match s.outQ upb with
    | [] => s
    | .frame ws own replay counts :: t => (s.setOutQ upb t).sendFrame upb ws own replay counts drv.toNat other.toNat wit.toNat
    | .slotEnd n :: t => (s.setOutQ upb t).sendSlotEnd upb n)

/-- BUILDER_RESTART (R276): a write of HAR_CTRL. -/
def execBuilderRestart (data : Word32) (s : State) : Host.Outcome State Fault Refusal := access' s.alive s (fun s => s.writeHarCtrl data)

/-- MIRROR_WRITE (R271): a write of HAR_CTRL. -/
def execMirrorWrite (data : Word32) (s : State) : Host.Outcome State Fault Refusal := access' s.alive s (fun s => s.writeHarCtrl data)

/-- TMI_MESSAGE_DISCARD (R280): the input, and the blocks it has received of the message, which TMO repeats all the same (R281). -/
def execTmiMessageDiscard (alt : Bool) (why : TmiFault) (s : State) (blocks : List (Bool × Word64) := []) :
    Host.Outcome State Fault Refusal :=
  let s := s.tmoEnded alt blocks
  when' s.tmiActs s (fun s =>
    match why with
    | .mcrc => (s.inc .HAR_CNT4_TMI_MCRC).raise 422 (80 + b2n alt)
    | .bad => (s.inc .HAR_CNT5_TMI_BAD).raise 423 (80 + b2n alt)
    | .unlocked => s.inc .HAR_CNT5_TMI_BAD)

/-- DIE_EVENT_WORD (R459): the arrival of the word is the raising of the die event. -/
def execDieEventWord (n : LaneNo) (w : Word64) (s : State) : Host.Outcome State Fault Refusal :=
  when' (s.alive && decide (fw w 58 6 = 0x37) && decide (fw w 53 5 < 24)) s (fun s =>
    let f := n.val / 4
    let data := fw w 52 1 * 4096 + 256 * f + fw w 44 8
    if fw w 43 1 = 1 then s.raiseReplay (24 * f + fw w 53 5) data else s.raise (24 * f + fw w 53 5) data)

/-- EVENT_RAISE (R460): a source of the Saddle or of a die is raised at the matrix. -/
def execEventRaise (id : Fin 544) (data : Word32) (s : State) : Host.Outcome State Fault Refusal :=
  when' s.alive s (fun s => s.raise id data.toNat)

/-- EVENT_N_HOLD_END (R463). -/
def execEventNHoldEnd (s : State) : Host.Outcome State Fault Refusal :=
  when' (s.alive && (match s.matrix.hold with | some t => decide (t ≤ s.frc) | none => false)) s (fun s =>
    if s.pinWanted then { s with matrix := { s.matrix with hold := none } } else s.driveEventN)

end Sys2Proof.Machine
end

