-- ==== Sys2Proof/Machine/Stitch.lean ====
section
/-! DEFINITION. The Stitch (07): local to global time, the checks on received blocks, cascade ports, slot groups, the duplicate
test and the merge window. -/

namespace Sys2Proof.Machine

/-! ### From local to global time (R168 to R172) -/

/-- The full local offset k of a hit, from COARSE and the arrival `a` in cu (R169). -/
def localOffset (coarse : Nat) (a : Int) : Int := a + signed 16 (unsigned 16 ((coarse : Int) - a))

/-- The global time g of a hit in fu (R170). -/
def hitGlobal (t : Strobe) (k : Int) (fine : Nat) : Int :=
  timeFu t.offset t.rate t.ref (((t.sigma : Int) + k) * 128 + fine)

/-- The SLIP code of m - n (R171). -/
def slipCode (d : Int) : Nat := if d = 0 then 0 else if d = 1 then 1 else if d = -1 then 3 else 2

/-- The stream 0 item of global channel `gch` carried in slot `n`, with global time `g` and the other fields of its hit word
(Table 07.1). -/
def hitItem (gch n : Nat) (g : Int) (tot rcv cal pile epoch trg : Nat) : Word64 :=
  let slip := slipCode (g / 2 ^ 23 - n)
  pack [(62, 2, 1), (50, 12, gch), (34, 16, (g / 128 % 65536).toNat), (27, 7, (g % 128).toNat), (15, 12, tot), (14, 1, rcv),
    (13, 1, cal), (12, 1, pile), (8, 4, epoch), (7, 1, trg), (5, 2, slip)]

/-- Count a SLIP (R171). -/
def State.countSlip (s : State) (d : Int) : State :=
  match slipCode d with
  | 1 => s.inc .STI_CNT6_SLIP_NEXT
  | 3 => s.inc .STI_CNT6_SLIP_PREV
  | 2 => (s.inc .STI_CNT7_HIT_RANGE).raise 447
  | _ => s

/-! ### The number E and the groups -/

/-- E, the next group to leave. -/
def State.emit (s : State) : Nat := s.get .STI_EMIT_LO_EMIT_LO + s.get .STI_EMIT_HI_EMIT_HI * 2 ^ 32

/-- Write E. -/
def State.putEmit (s : State) (e : Nat) : State :=
  (s.put .STI_EMIT_LO_EMIT_LO e).put .STI_EMIT_HI_EMIT_HI (e / 2 ^ 32)

/-- E is the slot of the first formed group, or the slot after the present one (R520, R518). -/
def State.showEmit (s : State) : State :=
  match s.stitch.groups.find? (fun g => g.formed) with
  | some g => s.putEmit g.slot
  | none => s.putEmit (s.girth.slot + 1)

/-- A group that has nothing yet. -/
def Group.fresh (n : Nat) : Group :=
  { slot := n, formed := false, wait := [], own := [], cia := [], cib := [], doneA := false, doneB := false, late := false,
    sentA := false, sentB := false }

/-- Change the group of slot `n`, which is made in its place when there is none. -/
def editGroup (n : Nat) (f : Group → Group) : List Group → List Group
  | [] => [f (Group.fresh n)]
  | g :: t =>
    if n < g.slot then f (Group.fresh n) :: g :: t
    else if n = g.slot then f g :: t
    else g :: editGroup n f t

/-- Change the group of slot `n` in the state. -/
def State.editGroup (s : State) (n : Nat) (f : Group → Group) : State :=
  { s with stitch := { s.stitch with groups := Sys2Proof.Machine.editGroup n f s.stitch.groups } }

/-- Ring forwarding acts (R186). -/
def State.ring (s : State) : Bool := s.flag .STI_CTRL_RING && s.flag .HAR_CTRL_MIRROR

/-- The lowest slot whose group has not been sent: of the port's own arc in a ring (R186), else E. -/
def State.arcEmit (s : State) (cib : Bool) : Nat :=
  if s.ring then
    match s.stitch.groups.find? (fun g => g.formed && !(if cib then g.sentB else g.sentA)) with
    | some g => g.slot
    | none => s.girth.slot + 1
  else s.emit

/-! ### The merge window (R181) -/

/-- Bytes of the window outside the reserve (R26). -/
def windowBytes : Nat := 11010048 - 65536

/-- Bytes of the reserve in use. -/
def State.reserveUsed (s : State) : Nat := (s.stitch.reserve.map (fun x => x.2.2)).foldl (· + ·) 0

/-- Show the use of the window (STI_WIN), in whole KiB rounded up, the reserve included (log entry 199). -/
def State.showWindow (s : State) : State :=
  let k := ceilDiv (s.stitch.used + s.reserveUsed) 1024
  (s.put .STI_WIN_USED_KIB k).put .STI_WIN_PEAK_KIB (max k (s.get .STI_WIN_PEAK_KIB))

/-- Whether `n` more bytes fit. -/
def State.fits (s : State) (n : Nat) : Bool := decide (s.stitch.used + n ≤ windowBytes)

/-- Take `n` bytes of the window. -/
def State.useWindow (s : State) (n : Nat) : State :=
  ({ s with stitch := { s.stitch with used := s.stitch.used + n } } : State).showWindow

/-- Give back `n` bytes of the window, those of slot `slot` in the reserve from there. -/
def State.giveBack (s : State) (slot n : Nat) : State :=
  let r := ((s.stitch.reserve.filter (fun x => x.1 = slot)).map (fun x => x.2.2)).foldl (· + ·) 0
  let s : State := { s with stitch := { s.stitch with
    reserve := s.stitch.reserve.filter (fun x => x.1 ≠ slot), used := s.stitch.used - (n - r) } }
  s.showWindow

/-- A group has been sent: its bytes are given back, and WIN_FULL clears once 1 MiB is free (R181). -/
def State.freeWindow (s : State) (slot n : Nat) : State :=
  let s := s.giveBack slot n
  if s.stitch.used + 2 ^ 20 ≤ windowBytes then s.putB .STI_STAT_WIN_FULL false else s

/-- Put an own block of slot `n` into its group. -/
def Group.addOwn (b : Block) (g : Group) : Group :=
  { g with own := (g.own.filter (fun x => decide (x.stream < b.stream))) ++ b ::
             (g.own.filter (fun x => decide (b.stream < x.stream))),
           wait := g.wait.filter (fun k => k ≠ b.stream) }

/-- An own stream has nothing to send in slot `n`, or its block was dropped. -/
def Group.noOwn (k : Nat) (g : Group) : Group := { g with wait := g.wait.filter (fun x => x ≠ k) }

/-- A block that leaves the Skive is placed in the window, shed, moved to the reserve or dropped (R181): the header, map and trailer of a shed
block are placed in any case (log entry 197), and a block of streams 4 to 7 that the reserve does not hold counts as dropped (log entry 198). -/
def State.placeOwn (s : State) (b : Block) : State :=
  let n := 8 * b.words.length
  if s.fits n then (s.useWindow n).editGroup b.slot (Group.addOwn b)
  else
    let s := s.putB .STI_STAT_WIN_FULL true
    if b.stream = 0 then
      let hits := b.hits
      let b' := { b with payload := [], ulen := 0, kind := 0, vclass := 0, lost := satAdd 16 b.lost hits }
      let s := (s.inc .STI_SHED_SHED 0 hits).raise 444
      (s.useWindow (8 * b'.words.length)).editGroup b.slot (Group.addOwn b')
    else if 4 ≤ b.stream ∧ s.reserveUsed + n ≤ 65536 then
      let s : State := { s with stitch := { s.stitch with reserve := s.stitch.reserve ++ [(b.slot, b.stream, n)] } }
      s.showWindow.editGroup b.slot (Group.addOwn b)
    else ((s.editGroup b.slot (Group.noOwn b.stream)).inc .STI_CNT5_WIN_DROP).raise 445

/-! ### Received blocks (R173, R178 to R180) -/

/-- What the duplicate test decides: keep, discard as a duplicate, as stale, or forward with a fault; and the entry after it
(Table 07.4). -/
inductive DedupVerdict where
  | keep | dup | stale | fault
  deriving DecidableEq, Repr

/-- The duplicate test of Table 07.4. -/
def dedupTest (e : Option Dedup) (seq slotLo : Nat) (init : Bool) : DedupVerdict × Option Dedup :=
  match e with
  | none => (.keep, some ⟨seq, 1, if init then some slotLo else none⟩)
  | some x =>
    if init && x.init != some slotLo then (.keep, some ⟨seq, 1, some slotLo⟩)
    else
      let d := wrapDiff 32 seq x.high
      if 0 < d then
        let m := if d < 64 then (x.map * 2 ^ d.toNat) % 2 ^ 64 else 0
        (.keep, some { x with high := seq, map := withBit m 0 true })
      else if -64 < d then
        if bitOf x.map (-d).toNat then (.dup, some x) else (.keep, some { x with map := withBit x.map (-d).toNat true })
      else if d = -(2 ^ 31) then (.fault, some x)
      else (.stale, some x)

/-- Slots for which no blocks are formed (R520). -/
def State.isUnformed (s : State) (n : Nat) : Bool := s.stitch.unformed.any (fun r => decide (r.1 ≤ n) && decide (n ≤ r.2))

/-- Slot `n` lies before E for a port: its group has been sent, or a step has skipped it (R179, R518). -/
def State.beforeE (s : State) (cib : Bool) (n : Nat) : Bool :=
  decide (n < s.arcEmit cib) || (decide (n < s.girth.slot) && !s.stitch.groups.any (fun g => g.formed && g.slot == n))

/-- Hold an accepted block with its group, or as late (R178, R179). -/
def State.acceptBlock (s : State) (cib : Bool) (ws : List Word64) : State :=
  let n := 8 * ws.length
  if !s.fits n then ((s.putB .STI_STAT_WIN_FULL true).inc .STI_CNT5_WIN_DROP).raise 445
  else
    let k := s.stitch.taken
    let s := ({ s with stitch := { s.stitch with taken := k + 1 } } : State).useWindow n
    if s.beforeE cib (hdrSlot ws) then
      let s : State := { s with stitch := { s.stitch with late := s.stitch.late ++ [(k, cib, reflag true false ws)] } }
      (s.inc .STI_CNT0_LATE_FWD).raise 440
    else s.editGroup (hdrSlot ws) (fun g => if cib then { g with cib := g.cib ++ [(k, ws)] } else { g with cia := g.cia ++ [(k, ws)] })

/-- MERGE_DL; below 2 it acts as 2 (R184). -/
def State.mergeDl (s : State) : Nat := max 2 (s.get .STI_CTRL_MERGE_DL)

/-- The checks of Table 07.2, in order, on a block from a CI port. -/
def State.checkBlock (s : State) (cib : Bool) (ws : List Word64) : State :=
  if !hcrcOk ws then (s.inc .STI_CNT2_CI_HCRC).raise 442
  else if hdrModule ws = s.get .ID_MODULE_MODULE then (s.inc .STI_CNT5_OWN_RETURN).raise 446
  else
    let d := wrapDiff 48 (hdrSlot ws) s.emit
    if d < -(s.get .STI_CTRL_LATE_LIMIT : Int) ∨ (s.mergeDl : Int) + 4 < d ∨
        (s.get .STI_CTRL_LATE_LIMIT = 0 ∧ d < 0) then (s.inc .STI_CNT0_CI_RANGE).raise 441
    else
      let key := hdrModule ws * 16 + hdrStream ws
      let r := dedupTest (SMap.get (fun _ => none) s.stitch.dedup key) (hdrSeq ws) (hdrSlot ws % 2 ^ 32) (hdrInit ws)
      let on := s.flag .STI_CTRL_DEDUP
      let s : State := if on then
        { s with stitch := { s.stitch with dedup := SMap.set (fun _ => none) s.stitch.dedup key r.2 } } else s
      if on && decide (r.1 = .dup) then s.inc .STI_CNT1_DUP
      else if on && decide (r.1 = .stale) then s.inc .STI_CNT1_SEQ_STALE
      else
        let s := if on && decide (r.1 = .fault) then (s.inc .STI_CNT2_SEQ_FAULT).raise 443 else s
        let s := if pcrcOk ws then s else (s.inc .STI_CNT3_CI_PCRC).raise 442
        s.acceptBlock cib ws

/-- Count a whole frame received on a port (R175). -/
def State.countRx (s : State) (cib : Bool) : State :=
  { s with stitch := if cib then { s.stitch with rxB := s.stitch.rxB + 1 } else { s.stitch with rxA := s.stitch.rxA + 1 } }

/-- A frame from a CI port that is UP (R278, R176). -/
def State.ciFrame (s : State) (cib fbad fcrcOk : Bool) (ws : List Word64) : State :=
  if fbad then (s.inc .HAR_CNT3_CI_FBAD).raise 408
  else
    let s := if fcrcOk then s else (s.inc .HAR_CNT3_CI_FCRC).raise 407
    if s.get (ciFld cib) = 0 then s
    else
      let s := s.countRx cib
      if s.isUnformed (hdrSlot ws) then s else s.checkBlock cib ws

/-- A slot-end mark from a CI port that is UP (R175, Table 07.3). -/
def State.ciSlotEnd (s : State) (cib : Bool) (n nblk : Nat) : State :=
  if s.get (ciFld cib) = 0 then s
  else
    let rx := if cib then s.stitch.rxB else s.stitch.rxA
    let s := if rx < nblk && !s.isUnformed n then s.inc .STI_CNT3_CI_PARTIAL else s
    let s : State := { s with stitch := if cib then { s.stitch with rxB := 0 } else { s.stitch with rxA := 0 } }
    if s.isUnformed n then s
    else if s.get (ciFld cib) = 1 then
      if n < s.emit then s
      else
        let s : State := { s with stitch := if cib then { s.stitch with fromB := n + 1 } else { s.stitch with fromA := n + 1 } }
        s.put (ciFld cib) 2
    else if s.beforeE cib n then s
    else if s.get (ciFld cib) = 2 then
      s.editGroup n (fun g => if cib then { g with doneB := true } else { g with doneA := true })
    else s

/-- CIx_EN is written (Table 07.3). -/
def State.ciEnable (s : State) (cib on : Bool) : State :=
  let s := s.putB (if cib then .STI_CTRL_CIB_EN else .STI_CTRL_CIA_EN) on
  if on then (if s.get (ciFld cib) = 0 then s.put (ciFld cib) 1 else s) else s.put (ciFld cib) 0

/-- A write of STI_CTRL (Table 07.9). -/
def State.writeStiCtrl (s : State) (data : Word32) : State :=
  let s := ((s.take .STI_CTRL_MERGE_DL data).take .STI_CTRL_LATE_LIMIT data).take .STI_CTRL_RING data
  let s := s.take .STI_CTRL_DEDUP data
  (s.ciEnable false (Fld.on .STI_CTRL_CIA_EN data)).ciEnable true (Fld.on .STI_CTRL_CIB_EN data)

/-! ### Readiness and sending (R177, R178, R186, R270, R271) -/

/-- The port does not keep group `g` waiting. -/
def State.portReady (s : State) (cib : Bool) (g : Group) : Bool :=
  s.get (ciFld cib) != 2 || g.late || (if cib then g.doneB else g.doneA) ||
    decide (g.slot < (if cib then s.stitch.fromB else s.stitch.fromA))

/-- The enable of a CI port. -/
def State.ciOn (s : State) (cib : Bool) : Bool := s.flag (if cib then .STI_CTRL_CIB_EN else .STI_CTRL_CIA_EN)

/-- The port's absence bit: enabled, and no block of the slot accepted; an arc that has gone out already has shown its own (log entry
205). -/
def State.portAbsent (s : State) (cib : Bool) (g : Group) : Bool :=
  s.ciOn cib && (if cib then g.cib.isEmpty && !g.sentB else g.cia.isEmpty && !g.sentA)

/-- The dies that are absent from the slot, as the closing of stream 0 has decided (R156). -/
def Group.dies (g : Group) : Nat :=
  match g.own.find? (fun b => b.stream == 0) with
  | some b => b.absent.getD 0
  | none => 0

/-- Complete an own block: the dies and the port bits of the absence map for streams 0 and 2, and ABSENT (R164, R177, Table 06.5). -/
def Block.complete (b : Block) (dies ports : Nat) : Block :=
  match b.absent with
  | some m =>
    let m := (m ||| dies) + ports * 65536
    { b with absent := if m = 0 then none else some m }
  | none => b

/-- Bytes of whole blocks in a list of outgoing frames. -/
def bytesOf (l : List (List Word64)) : Nat := (l.map (fun w => 8 * w.length)).foldl (· + ·) 0

/-- Share blocks between two ports: each to the port with fewer bytes so far, a tie to UPA (R270). -/
def share : List (List Word64) → Nat → Nat → List (List Word64) × List (List Word64)
  | [], _, _ => ([], [])
  | w :: t, a, b =>
    if a ≤ b then let p := share t (a + 8 * w.length) b; (w :: p.1, p.2)
    else let p := share t a (b + 8 * w.length); (p.1, w :: p.2)

/-- Queue frames and the slot-end mark on a port that is enabled. -/
def State.queueGroup (s : State) (upb : Bool) (ws : List (List Word64)) (slot : Nat) : State :=
  if s.portSends upb then
    s.setOutQ upb (s.outQ upb ++ ws.map (fun w => Outgoing.frame w false false true) ++ [.slotEnd slot])
  else s

/-- Send a whole group: late blocks, own blocks, CIA, CIB (R178), over the ports of the mode in force. -/
def State.sendGroup (s : State) (g : Group) : State :=
  let s := s.groupMode
  let absA := s.portAbsent false g
  let absB := s.portAbsent true g
  let s := if absA then (s.inc .STI_CNT4_ABS_CIA).raise 438 else s
  let s := if absB then (s.inc .STI_CNT4_ABS_CIB).raise 439 else s
  let ports := b2n absA + 2 * b2n absB
  let mir := s.harness.mirror
  let own := g.own.map (fun b => ({ (b.complete g.dies ports) with mirror := mir } : Block).words)
  let fwd := s.stitch.late.map (·.2.2)
  let ci := (g.cia ++ g.cib).map (·.2)
  let all := fwd.map (reflag false mir) ++ own ++ ci.map (reflag false mir)
  let s : State := { s with stitch := { s.stitch with
    late := [], groups := s.stitch.groups.filter (fun x => x.slot ≠ g.slot) } }
  let s :=
    if mir then (s.queueGroup false all g.slot).queueGroup true all g.slot
    else if s.portSends false && s.portSends true then
      let p := share all 0 0
      (s.queueGroup false p.1 g.slot).queueGroup true p.2 g.slot
    else (s.queueGroup false all g.slot).queueGroup true all g.slot
  (s.freeWindow g.slot (bytesOf (fwd ++ g.own.map Block.words ++ ci))).showEmit

/-- Send one arc's group in a ring: UPA carries the CIA blocks, UPB the CIB blocks (R186). They leave the window with it
(log entry 205). -/
def State.sendArc (s : State) (cib : Bool) (g : Group) : State :=
  let s := s.groupMode
  let own := g.own.map (fun b => ({ (b.complete g.dies 0) with mirror := true } : Block).words)
  let late := (s.stitch.late.filter (fun x => x.2.1 == cib)).map (·.2.2)
  let fwd := (if cib then g.cib else g.cia).map (·.2)
  let all := late.map (reflag false true) ++ own ++ fwd.map (reflag false true)
  let g' := if cib then { g with sentB := true, cib := [] } else { g with sentA := true, cia := [] }
  let s : State := { s with stitch := { s.stitch with late := s.stitch.late.filter (fun x => x.2.1 != cib) } }
  let s := s.queueGroup cib all g.slot
  let both := g'.sentA && g'.sentB
  let s : State :=
    if both then { s with stitch := { s.stitch with groups := s.stitch.groups.filter (fun x => x.slot ≠ g.slot) } }
    else s.editGroup g.slot (fun _ => g')
  let s := s.freeWindow (if both then g.slot else 2 ^ 48) (bytesOf (late ++ fwd) + (if both then bytesOf (g.own.map Block.words) else 0))
  s.showEmit

/-- The first formed group that this arc has not sent. -/
def State.nextArc (s : State) (cib : Bool) : Option Group :=
  s.stitch.groups.find? (fun g => g.formed && !(if cib then g.sentB else g.sentA))

/-- The next group leaves when it is ready (R177); in a ring each arc has its own group (R186). -/
def State.groupReady (s : State) : State :=
  if s.ring then
    [false, true].foldl (fun t cib =>
      match t.nextArc cib with
      | some g => if g.wait = [] && t.portReady cib g then t.sendArc cib g else t
      | none => t) s
  else
    match s.stitch.groups.find? (fun g => g.formed) with
    | some g => if g.wait = [] && s.portReady false g && s.portReady true g then s.sendGroup g else s
    | none => s

/-! ### Commands -/

/-- A frame that a port in far-end loopback returns (R257): an FCRC that did not match is a value that no command brings (log entry 150). -/
def State.farFrame (s : State) (cib fbad fcrcOk : Bool) (ws : List Word64) : State :=
  let good := crc32c (wordBytes ws)
  let d := s.draw
  let fcrc := if fcrcOk then good else if d.1 % 2 ^ 32 = good then good ^^^ 1 else d.1
  (if fcrcOk then s else d.2).farBack cib
    ((true, fsBlock ws.length) :: ws.map (fun w => (false, w)) ++ [(true, feBlock fbad fcrc)])

/-- CI_FRAME_RECEIVE (R278): the words of a frame, FBAD of its FE, and whether FCRC matched. -/
def execCiFrameReceive (cib fbad fcrcOk : Bool) (ws : List Word64) (s : State) : Host.Outcome State Fault Refusal :=
  when' (s.alive && decide (s.get (portFld cib) = 2)) s (fun s => (s.farFrame cib fbad fcrcOk ws).ciFrame cib fbad fcrcOk ws)

/-- CI_SLOT_END_RECEIVE (R175). -/
def execCiSlotEndReceive (cib : Bool) (slot : BitVec 48) (nblk : BitVec 16) (s : State) : Host.Outcome State Fault Refusal :=
  when' (s.alive && decide (s.get (portFld cib) = 2)) s (fun s =>
    let p := seWords slot.toNat nblk.toNat
    (s.farBack cib [(true, p.1), (false, p.2)]).ciSlotEnd cib slot.toNat nblk.toNat)

/-- CI_PORT_ENABLE (R176): a write of STI_CTRL. -/
def execCiPortEnable (cib : Bool) (s : State) : Host.Outcome State Fault Refusal := access' s.alive s (fun s => s.ciEnable cib true)

/-- CI_PORT_DISABLE (R176): a write of STI_CTRL. -/
def execCiPortDisable (cib : Bool) (s : State) : Host.Outcome State Fault Refusal := access' s.alive s (fun s => s.ciEnable cib false)

/-- MERGE_DEADLINE_EXPIRE (R177): the strobe that ends slot n + MERGE_DL has passed for the groups it marks. -/
def execMergeDeadlineExpire (s : State) : Host.Outcome State Fault Refusal :=
  when' s.alive s (fun s =>
    { s with stitch := { s.stitch with groups := s.stitch.groups.map (fun g =>
        if g.formed && decide (g.slot + s.mergeDl < s.girth.slot) then { g with late := true } else g) } })

/-- GROUP_READY (R177). -/
def execGroupReady (s : State) : Host.Outcome State Fault Refusal := when' s.alive s (fun s => s.groupReady)

end Sys2Proof.Machine
end

