-- ==== Sys2Proof/Machine/TreeMem.lean ====
section
/-! DEFINITION. The memory of the Tree (12): protection blocks, mending, stale column parity, poison, the log, reads and writes of one
block. -/

namespace Sys2Proof.Machine

/-! ### Protection blocks (R305, R306) -/

/-- Even parity of an 8-bit number. -/
def par8 (x : Nat) : Nat := popCount 8 x % 2

/-- Byte r of a block. -/
def TBlock.byte (b : TBlock) (r : Nat) : Nat := fieldOf b.data (8 * (7 - r)) 8

/-- Row parities of data. -/
def rowsOf (data : Nat) : Nat := maskOf ((List.range 8).filter (fun r => par8 (fieldOf data (8 * (7 - r)) 8) == 1))

/-- The column byte of data: the XOR of its bytes. -/
def colsOf (data : Nat) : Nat := (List.range 8).foldl (fun a r => a ^^^ fieldOf data (8 * r) 8) 0

/-- A block with every parity current (R308). -/
def TBlock.full (data : Nat) : TBlock :=
  { data := data % 2 ^ 64, p := rowsOf data, c := colsOf data, q := par8 (colsOf data) == 1 }

/-- Block number at which the stale-map region begins, and the part that covers the map itself (R310, R312). -/
def mapStart : Nat := 0x01F80000 / 8
def mapSelf : Nat := 0x01FFE000 / 8

/-- The fill pattern of block `i` (R312). -/
def treeDefault (i : Nat) : TBlock :=
  if i < mapStart then { data := 0, p := 0, c := 0, q := true }
  else if i < mapSelf then TBlock.full (2 ^ 64 - 1)
  else TBlock.full 0

/-- Block `i`. -/
def State.block (s : State) (i : Nat) : TBlock := SMap.get treeDefault s.tree.blocks i

/-- Write block `i`. -/
def State.setBlock (s : State) (i : Nat) (b : TBlock) : State :=
  { s with tree := { s.tree with blocks := SMap.set treeDefault s.tree.blocks i b } }

/-- The block after one stored bit has flipped: 0 to 63 D[r][c] as 8 r + c, then P, C and Q. -/
def TBlock.flip (b : TBlock) (k : Nat) : TBlock :=
  if k < 64 then let n := 8 * (7 - k / 8) + k % 8
    { b with data := withBit b.data n (!bitOf b.data n) }
  else if k < 72 then { b with p := withBit b.p (k - 64) (!bitOf b.p (k - 64)) }
  else if k < 80 then { b with c := withBit b.c (k - 72) (!bitOf b.c (k - 72)) }
  else { b with q := !b.q }

/-- The row checks that fail. -/
def TBlock.rowFails (b : TBlock) : List Nat := bitsList 8 (b.p ^^^ rowsOf b.data)

/-- The column checks that fail. -/
def TBlock.colFails (b : TBlock) : List Nat := bitsList 8 (b.c ^^^ colsOf b.data)

/-- The column-byte check fails. -/
def TBlock.qFails (b : TBlock) : Bool := b.q != (par8 b.c == 1)

/-- The classes of Table 12.2. -/
inductive BlockClass where
  | clean
  | mend (b : TBlock)
  | poison
  | uncorrectable
  deriving DecidableEq, Repr

/-- Classify a block whose column parity is current (Table 12.2). -/
def TBlock.classify (b : TBlock) : BlockClass :=
  match b.rowFails, b.colFails, b.qFails with
  | [], [], false => .clean
  | [r], [c], false => .mend (b.flip (8 * r + c))
  | [r], [], false => .mend (b.flip (64 + r))
  | [], [c], true => .mend (b.flip (72 + c))
  | [], [], true => .mend (b.flip 80)
  | rs, [], false => if rs.length = 8 then .poison else .uncorrectable
  | _, _, _ => .uncorrectable

/-- The poison syndrome over the data as read (R316). -/
def TBlock.poisoned (b : TBlock) : TBlock := { (TBlock.full b.data) with p := 255 - rowsOf b.data }

/-! ### The stale map (R310) -/

/-- The map block and the bit in it that hold the stale bit of block `i`: byte i div 8 of the map, bit i mod 8. -/
def staleAt (i : Nat) : Nat × Nat :=
  let byte := i / 8
  (mapStart + byte / 8, 8 * (7 - byte % 8) + i % 8)

/-- The stale bit of block `i`. -/
def State.stale (s : State) (i : Nat) : Bool := bitOf (s.block (staleAt i).1).data (staleAt i).2

/-- Write the stale bit of block `i` by a full-block write of its map block (R28, R310). -/
def State.setStale (s : State) (i : Nat) (b : Bool) : State :=
  let m := staleAt i
  if s.stale i = b then s else s.setBlock m.1 (TBlock.full (withBit (s.block m.1).data m.2 b))

/-! ### The log, hot rows, and events -/

/-- Write the next TRE_LOG entry (R315): event 491 when it still held a record. -/
def State.treeLog (s : State) (kind i : Nat) : State :=
  let k := s.get .TRE_LOGPTR_NEXT
  let was := s.flag .TRE_LOGA_VALID k
  let s := (((s.putB .TRE_LOGA_VALID true k).put .TRE_LOGA_KIND kind k).put .TRE_LOGA_OFFSET i k).put .TRE_LOGB_SLOT_LO s.nowSlot k
  let s := s.inc .TRE_LOGPTR_NEXT
  if was then s.raise 491 else s

/-- Count a correction in the table of hot rows (R324). -/
def State.rowCorrected (s : State) (i : Nat) : State :=
  let row := i / 16
  let n := ((s.tree.hot.find? (fun x => x.1 == row)).map (·.2)).getD 0 + 1
  let hot := ((row, n) :: s.tree.hot.filter (fun x => x.1 != row)).take 16
  let s : State := { s with tree := { s.tree with hot := hot } }
  if n = max 1 (s.get .TRE_CTRL_ROW_HOT_LIMIT) then
    let s := (s.put .TRE_ROWHOT_MACRO (row / 2048)).put .TRE_ROWHOT_ROW row
    if s.tree.hotSlot = some s.girth.slot then s
    else ({ s with tree := { s.tree with hotSlot := some s.girth.slot } } : State).raise 484
  else s

/-- An uncorrectable map block is rewritten, every pattern of Table 12.2 that is not mended among them (R318). -/
def State.mapLost (s : State) (i : Nat) : State :=
  let s := s.setBlock i (treeDefault i)
  ((s.inc .TRE_CNT4_MAP_LOST).treeLog 3 i).raise 488 (8 * i)

/-- Mend the map block that covers block `i`, or rewrite it, so that its bits may be read. -/
def State.checkMap (s : State) (i : Nat) (scrub : Bool) : State :=
  let m := (staleAt i).1
  match (s.block m).classify with
  | .clean => s
  | .mend b => ((s.setBlock m b).inc (if scrub then .TRE_CNT0_CORR_SCRUB else .TRE_CNT0_CORR_READ)).rowCorrected m
  | _ => s.mapLost m

/-- Flip stored bits of a block. -/
def State.strike (s : State) (i : Nat) (flips : List (Fin 81)) : State :=
  if flips = [] then s else s.setBlock i (flips.foldl (fun b (k : Fin 81) => b.flip k.val) (s.block i))

/-! ### Reads (R306, R307, R311, R313, R315) -/

/-- What a requester's read finds. -/
inductive ReadResult where
  | good
  | poison
  | bad (stale : Bool)
  deriving DecidableEq, Repr

/-- A requester's read of block `i` mends it where it can; answers what it found. -/
def State.readBlock (s : State) (i : Nat) : State × ReadResult :=
  let s := s.checkMap i false
  let b := s.block i
  if s.stale i then
    if b.rowFails ≠ [] then (s.inc .TRE_CNT3_STALE_UNCORR, .bad true)
    else if b.data = 0 ∧ b.c = 0 ∧ b.q = true then (s.inc .TRE_CNT4_NEVER_WRITTEN, .good)
    else (s, .good)
  else
    match b.classify with
    | .clean => (s, .good)
    | .mend b' => (((s.setBlock i b').inc .TRE_CNT0_CORR_READ).rowCorrected i, .good)
    | .poison => (s.inc .TRE_CNT1_POISON_READ, .poison)
    | .uncorrectable => (s, .bad false)

/-- The block is written with the poison syndrome, and its stale bit is cleared (R316). -/
def State.poisonBlock (s : State) (i : Nat) : State := (s.setBlock i (s.block i).poisoned).setStale i false

/-! ### Writes (R308 to R310) -/

/-- A full-block write. -/
def State.treeWrite (s : State) (i data : Nat) : State := ((s.checkMap i false).setBlock i (TBlock.full data)).setStale i false

/-- Replace the bytes of a mask with their row parity; bit r of the mask is byte r. -/
def TBlock.writeBytes (b : TBlock) (mask data : Nat) : TBlock :=
  let rs := bitsList 8 mask
  let data' := rs.foldl (fun d r => d - fieldOf d (8 * (7 - r)) 8 * 2 ^ (8 * (7 - r)) + fieldOf data (8 * (7 - r)) 8 * 2 ^ (8 * (7 - r))) b.data
  let p' := rs.foldl (fun p r => withBit p r (par8 (fieldOf data (8 * (7 - r)) 8) == 1)) b.p
  { data := data', p := p', c := 0, q := false }

/-- A byte write (R309). -/
def State.treeBytes (s : State) (i mask data : Nat) : State :=
  let s := s.checkMap i false
  if mask % 256 = 0 then s else (s.setBlock i ((s.block i).writeBytes mask data)).setStale i true

/-! ### Accesses from inside (R314, R315) -/

/-- The row of block `i` is being copied. -/
def State.copying (s : State) (i : Nat) : Bool :=
  match s.tree.copy with
  | some (m, r, _) => i / 16 == m * 2048 + r
  | none => false

/-- What a requester's read of block `i` finds and does, but for what the requester itself does with it (R315): answers whether the data
is bad. -/
def State.treeFetch (s : State) (i : Nat) : State × Bool :=
  match s.readBlock i with
  | (s1, .good) => (s1, false)
  | (s1, .poison) => (if mapStart ≤ i then s1.mapLost i else s1, true)
  | (s1, .bad _) =>
    (if mapStart ≤ i then s1.mapLost i
     else (((s1.poisonBlock i).treeLog 0 i).inc .TRE_CNT1_UNCORR_READ).raise 485 (8 * i), true)

/-- An access of that rank comes in the order of R314: none of a later rank has been served at this C640 edge
(log entry 185). -/
def State.inOrder (s : State) (rank : Nat) : Bool := !(s.tree.edge.1 == ceilDiv s.frc 4 && decide (rank < s.tree.edge.2))

/-- An access of that rank is served at this C640 edge. -/
def State.treeMark (s : State) (rank : Nat) : State :=
  let e := ceilDiv s.frc 4
  { s with tree := { s.tree with edge := (e, if s.tree.edge.1 = e then max s.tree.edge.2 rank else rank) } }

/-- A full-block write of rank `rank`: one to a row that is being copied waits for the copy (R323). -/
def State.treeStore (s : State) (rank i data : Nat) : State :=
  let s := s.treeMark rank
  if s.copying i then { s with tree := { s.tree with held := s.tree.held ++ [(rank, .full i data)] } } else s.treeWrite i data

/-! ### The template store (R435, R467, log entry 208) -/

/-- The Tree block that holds pair `k` of the template with INDEX `i`: 64 KiB for each template. -/
def templBlock (i k : Nat) : Nat := 0x01E30000 / 8 + 8192 * i + k % 8192

/-- The number of pairs that the template with INDEX `i` holds. -/
def State.templSize (s : State) (i : Nat) : Nat := ((s.latigo.templ.find? (fun x => x.1 == i)).map (·.2)).getD 0

end Sys2Proof.Machine
end

