-- ==== Sys2Proof/Machine/Queues.lean ====
section
/-! DEFINITION. Hit queues and ingress queues (11): the push side and the reader of a quadrant hit queue with its staging buffer,
overrun, age and markers, and the crossing buffers and ingress queues of the Saddle. -/

namespace Sys2Proof.Machine

/-! ### Items -/

/-- Word types of the data path: 0 marker, 1 hit, 2 record, 3 control and status. -/
def wType (w : Word64) : Nat := fw w 62 2

/-- KIND of a record word: 0 header, 2 sample word, 3 end word. -/
def wKind (w : Word64) : Nat := fw w 60 2

/-- A hit word or a record header begins an item (R292). -/
def beginsItem (w : Word64) : Bool := wType w == 1 || (wType w == 2 && wKind w == 0)

/-- A record end word. -/
def isEnd (w : Word64) : Bool := wType w == 2 && wKind w == 3

/-- A cut end word: NWORDS = 0 (R301). -/
def isCut (w : Word64) : Bool := isEnd w && fw w 33 6 == 0

/-! ### The push side of a quadrant hit queue (R288 to R291) -/

/-- The write pointer W and the read pointer R: the low 12 bits of the counts (R288). -/
def Quad.wPtr (q : Quad) : Nat := q.wn % 4096
def Quad.rPtr (q : Quad) : Nat := q.rn % 4096

/-- (a − b) mod 2^12 (R288). -/
def ptrDiff (a b : Nat) : Nat := (a % 4096 + 4096 - b % 4096) % 4096

/-- The row at which the word with count `p` stands. -/
def Quad.row (q : Quad) (p : Nat) : QWord := SMap.get rowDefault q.rows (p % 2048)

/-- Write a word, its tag and its birth stamp into the row at W; the writer never waits (R289 to R291). -/
def Quad.putRow (q : Quad) (l : Landing) : Quad :=
  { q with rows := SMap.set rowDefault q.rows (q.wn % 2048) ⟨l.w, q.wn / 2048 % 4, l.birth % 65536⟩, wn := q.wn + 1,
           wtimes := (l.at_ :: q.wtimes).take 8, begs := if beginsItem l.w then q.begs ++ [q.wn] else q.begs }

/-- A word goes through the push port at FRC `t`. -/
def Quad.push (q : Quad) (t : Nat) (w : Word64) (birth : Nat) : Quad := { q with inq := q.inq ++ [⟨t, w, birth, false, false⟩] }

/-- The words pushed before this instant stand in their rows: a read in the cycle of a push finds the row as it stood before (R291).
Each end word counts its record (R106). -/
def State.land (s : State) (n : Nat) : State :=
  let q := s.quad n
  let done := q.inq.takeWhile (fun l => decide (l.at_ < s.frc))
  if done = [] then s
  else
    let s := s.setQuad n { done.foldl Quad.putRow q with inq := q.inq.drop done.length }
    done.foldl (fun t l =>
      if isEnd l.w then
        let g := 256 * (n / 4) + fw l.w 52 8
        ((t.inc .RNG_CNT_RECORDS g).inc .RNG_CNT2_SHORT g (b2n l.short)).inc .RNG_CNT2_OVR_REC g (b2n l.ovr)
      else t) s

/-- W at FRC `t`, words of `t` included: where a marker that goes to the side queue at `t` stands (R104, R294,
log entry 177). -/
def Quad.markPos (q : Quad) (t : Nat) : Nat :=
  q.wn + (q.inq.takeWhile (fun l => decide (l.at_ < t) || (decide (l.at_ = t) && wType l.w == 1))).length

/-- Place a marker in the side queue of 4 entries (R287, R294); one that found it full would be lost, which the manual excludes (log
entry 145). -/
def Quad.pushMark (q : Quad) (w : Word64) (t : Nat) : Quad :=
  if q.marks.length < 4 then { q with marks := q.marks ++ [(w, q.markPos t)] } else q

/-! ### Crossing the clocks (R289, R303) -/

/-- The reader's copy W_s at FRC `t` when a pointer takes `delay` cu to cross: words pushed since do not show, and the copy never goes
back. -/
def Quad.wCopy (q : Quad) (t delay : Nat) : Nat :=
  max q.seen (q.wn - (q.wtimes.filter (fun x => decide (t < x + delay))).length)

/-- The writer's copy R_s at FRC `t` when a pointer takes `delay` cu to cross: R as the last reads that have crossed left it, 0 before the
first. -/
def Quad.rCopy (q : Quad) (t delay : Nat) : Nat :=
  match q.rtimes.find? (fun x => decide (x.1 + delay ≤ t)) with
  | some x => x.2
  | none => 0

/-- FULL and DEPTH of HQD_STAT: the writer's flag and the reader's depth, each formed from a copy that lags by a time the manual
leaves open (R289, R303, R304, log entry 99). -/
def State.hqStat (s : State) (n : Nat) : State :=
  let s := s.land n
  let a := s.draw
  let b := a.2.draw
  let q := b.2.quad n
  let s := b.2.put .HQD_STAT_DEPTH (min 2048 (ptrDiff (q.wCopy s.frc (1 + a.1 % 49)) q.rn)) n
  s.putB .HQD_STAT_FULL (decide (ptrDiff q.wn (q.rCopy s.frc (1 + b.1 % 49)) = 2048)) n

/-! ### The lane (R257, R259, R266) -/

/-- The IDLE block (Table 10.4, R259). -/
def idleBlock : Word64 := ctlBlock 0x11 0

/-- The die sends blocks on its data lanes: its ROOT PLL is locked (R266). -/
def State.lanesOn (s : State) (f : Nat) : Bool := s.diePowered f && (s.die f).pll

/-- The data lane of quadrant `n` may begin its next block at this ROOT edge or half a cu later, and the die sends words on it: it sends
neither PRBS31 nor what its return lane brings (Table 10.2A, R286). -/
def State.laneReady (s : State) (n : Nat) : Bool :=
  s.lanesOn (n / 4) && !s.flag .SHL_CTRL_PRBS_EN (n / 4) && decide (s.get .SHL_CTRL_LOOP (n / 4) ≠ 3) &&
    decide ((s.quad n).laneAt ≤ 2 * s.frc + 1)

/-- A block of 16.5 cu takes the data lane of quadrant `n`. -/
def State.laneTake (s : State) (n : Nat) : State :=
  let q := s.quad n
  s.setQuad n { q with laneAt := max q.laneAt (2 * s.frc) + 33 }

/-- A word or control block goes out on the data lane of quadrant `n`. -/
def State.laneSend (s : State) (n : Nat) (ctl : Bool) (w : Word64) : State := (s.laneTake n).send (.lane n ctl w)

/-- An IDLE block goes out on the data lane of quadrant `n` (R259, log entry 181). -/
def State.laneIdle (s : State) (n : Nat) : State := (s.laneTake n).wireBlock (64 + n) true idleBlock

/-! ### The reader of a quadrant hit queue (R292 to R294, R297, R299 to R301) -/

/-- The marker as it goes out: QLOST counts the items lost before its position (R294). -/
def Quad.markOut (q : Quad) (w : Word64) (p : Nat) : Quad :=
  let n := (q.lost.filter (fun x => decide (x < p))).length
  let w' := BitVec.ofNat 64 (w.toNat - fieldOf w.toNat 24 16 * 2 ^ 24 + satAdd 16 n 0 * 2 ^ 24)
  { q with lost := q.lost.filter (fun x => decide (p ≤ x)), out := q.out ++ [w'] }

/-- The markers whose position the reader has come to or passed go out before the next word is read (R294). -/
def Quad.marksOut (q : Quad) : Quad :=
  let due := q.marks.takeWhile (fun m => decide (m.2 ≤ q.rn))
  due.foldl (fun t m => t.markOut m.1 m.2) { q with marks := q.marks.drop due.length }

/-- Declare an overrun (R292): R moves to W_s − 2,048 + 16, or to `from_` where that lies behind it, and on to a word that begins an
item. Every item discarded counts in OVERRUN and in QLOST, the one in the staging buffer once; RESYNCS and die event 3 + q. A drop
that was draining ends here (R301). A row with two flips is passed before `from_` is taken (log entry 176). -/
def State.hqOverrun (s : State) (n from_ ws : Nat) : State :=
  let q := s.quad n
  let r1 := max from_ (ws + 16 - 2048)
  let r2 := (q.begs.find? (fun b => decide (r1 ≤ b) && decide (b < ws))).getD (max r1 ws)
  let gone := (if q.stg = [] then [] else [q.stgAt]) ++ q.begs.filter (fun b => decide (b < r2))
  let s := s.setQuad n { q with rn := r2, begs := q.begs.filter (fun b => decide (r2 ≤ b)), lost := q.lost ++ gone, stg := [],
                                whole := false, drain := false }
  ((s.inc .HQD_CNT_OVERRUN n gone.length).inc .HQD_CNTB_RESYNCS n).raiseDie (n / 4) (3 + n % 4)

/-- QAGE in force (R298). -/
def State.qage (s : State) (f : Nat) : Nat := min 24576 (max 1024 (s.get .HQD_CTRL_QAGE f))

/-- The staged item leaves the staging buffer: for the lane, or discarded, when it counts in the next marker's QLOST (R294). -/
def Quad.unstage (q : Quad) (keep : Bool) : Quad :=
  { q with out := if keep then q.out ++ q.stg else q.out, lost := if keep then q.lost else q.lost ++ [q.stgAt], stg := [], whole := false }

/-- The reader takes the staged item for the lane: after the end word of an item of several words it reads the tag of its first word
again, and a changed tag is an overrun (R293); an item older than QAGE is discarded (R297), and a record that ends in a cut end word
(R301). -/
def State.hqTake (s : State) (n ws : Nat) : State :=
  let q := s.quad n
  if !q.whole then s
  else if decide (1 < q.stg.length) && (q.row q.stgAt).tag != q.stgTag then s.hqOverrun n q.rn ws
  else if (s.qage (n / 4) : Int) < wrapDiff 16 (s.dieOff (n / 4)) q.stgBirth then
    ((s.setQuad n (q.unstage false)).inc .HQD_CNT_AGED n).raiseDie (n / 4) (3 + n % 4)
  else s.setQuad n (q.unstage (!isCut (q.stg.getLastD 0)))

/-- An ambient word may take a block of lane `n`: none has in the last 8 blocks of 16.5 cu (R342). -/
def State.ambientSpaced (s : State) (n : Nat) : Bool :=
  match (s.quad n).ambAt with
  | some a => decide (2 * a + 264 ≤ 2 * s.frc)
  | none => true

/-- One block of the lane: PRBS31 while PRBS_EN of the die is 1 (R286); a waiting control and status word or ALIGN block has it (R259);
else the next word that has passed the reader's tests, or an IDLE block. Answers whether a discard has left the block to what is read
next: it costs none (R297). -/
def State.hqLane (s : State) (n ws : Nat) : State × Bool :=
  let cs := (s.quad n).cs
  if s.lanesOn (n / 4) && s.flag .SHL_CTRL_PRBS_EN (n / 4) && decide ((s.quad n).laneAt ≤ 2 * s.frc + 1) then
    ((s.laneTake n).prbsBlock (64 + n), false)
  else
  let held := bitOf (s.die (n / 4)).alignDue (n % 4) || cs.any (csMay (s.dieLocked (n / 4))) ||
    (cs.any (fun w => csRank w == 4) && s.ambientSpaced n)
  if !s.laneReady n || held then (s, false)
  else
    let tried := (s.quad n).out = [] ∧ (s.quad n).whole
    let s := if tried then s.hqTake n ws else s
    match (s.quad n).out with
    | w :: t => ((s.setQuad n { s.quad n with out := t }).laneSend n false w, false)
    | [] => if tried then (s, true) else (s.laneIdle n, false)

/-- A word read from the queue enters the staging buffer, or is discarded: as the rest of a dropped item (R300), or because no item
begins with it (R292). -/
def Quad.stageWord (q : Quad) (x : QWord) : Quad :=
  let q : Quad := { q with rn := q.rn + 1, begs := q.begs.filter (fun b => b != q.rn) }
  if q.drain then { q with drain := !isEnd x.w }
  else if q.stg = [] then
    if beginsItem x.w then { q with stg := [x.w], stgAt := q.rn - 1, stgTag := x.tag, stgBirth := x.birth, whole := wType x.w == 1 }
    else q
  else { q with stg := q.stg ++ [x.w], whole := isEnd x.w }

/-- One read of the row at R, of which `flips` bits are flipped (R288, R292, R325). With the queue empty, or a whole item staged, the
reader stalls. -/
def State.hqReadWord (s : State) (n ws flips : Nat) : State :=
  let s := if (s.quad n).whole then s else s.setQuad n (s.quad n).marksOut
  let q := s.quad n
  if q.whole || ptrDiff ws q.rn = 0 then s
  else
    let s := if flips = 1 then (s.inc .HQD_MEM_CORR (n / 4)).raiseDie (n / 4) 18 else s
    if 2 ≤ flips then ((s.inc .HQD_MEM_UNCORR (n / 4)).raiseDie (n / 4) 19).hqOverrun n (q.rn + 1) ws
    else if (q.row q.rn).tag ≠ q.rn / 2048 % 4 ∨ 2048 < ptrDiff ws q.rn then s.hqOverrun n q.rn ws
    else s.setQuad n ((s.quad n).stageWord (q.row q.rn))

/-- One read of a cycle; where a discard has left the lane's block free, what is read may have it (R297). -/
def State.hqRead (s : State) (n ws flips : Nat) (free : Bool) : State × Bool :=
  let s := s.hqReadWord n ws flips
  if free then s.hqLane n ws else (s, false)

/-- One word-clock cycle of the reader of quadrant `n` (R292 to R301): a block of the lane, and two words into the staging buffer. The
write pointer takes `delay` cu to cross; `flips` are the flipped bits of the rows read. -/
def State.hqCycle (s : State) (n delay : Nat) (flips : List Nat) : State :=
  let s := s.land n
  let q := s.quad n
  let ws := q.wCopy s.frc delay
  let s := s.setQuad n { q with seen := ws, rdAt := max q.rdAt (2 * s.frc) + 33 }
  let p := s.hqLane n ws
  let p := p.1.hqRead n ws (flips.getD 0 0) p.2
  let p := p.1.hqRead n ws (flips.getD 1 0) p.2
  let s := if p.2 then p.1.laneIdle n else p.1
  let q := s.quad n
  s.setQuad n { q with rtimes := ((s.frc, q.rn) :: q.rtimes).take 8 }

/-- A drop command to the hit-queue reader of quadrant `n` (R300): the item whose first word it has read and whose end word it has not
is discarded with its staged words; with no such item the command is ignored. -/
def State.hqDrop (s : State) (n : Nat) : State :=
  let q := s.quad n
  if q.stg = [] ∨ q.whole then s
  else (s.setQuad n { q with stg := [], drain := true }).inc .HQD_CNTB_DROPS n

/-! ### Ingress queues (R287, R288, R290, R295, R296, R300, R302) -/

/-- Ingress queue `n`. -/
def State.ing (s : State) (n : Nat) : Ingress := SMap.get ingressDefault s.ingress n

/-- Write ingress queue `n`. -/
def State.setIng (s : State) (n : Nat) (q : Ingress) : State := { s with ingress := SMap.set ingressDefault s.ingress n q }

/-- The C160 cycle of this instant (log entry 183). -/
def State.c160 (s : State) : Nat := s.frc / 16

/-- Count an item that the Saddle lost for die `f` in the running slot (R159). -/
def State.ingressLoss (s : State) (f : Nat) : State :=
  { s with packer := { s.packer with slots := s.packer.slots.map (fun o =>
      if o.ended.isNone then
        { o with lostIn := SMap.set (fun _ => 0) o.lostIn f (SMap.get (fun _ => 0) o.lostIn f + 1) } else o) } }

/-- The slot, plus 1, that a marker opened which entered the crossing buffer at FRC `t`. -/
def State.slotOpened (s : State) (t : Nat) : Nat := (tripleAt s.girth.strobes (t * 128)).slot + 1

/-- (a − b) mod 2^13 (R288). -/
def ingDiff (a b : Nat) : Nat := (a % 8192 + 8192 - b % 8192) % 8192

/-- DEPTH (R288); the queue is empty, or full. -/
def Ingress.depth (q : Ingress) : Nat := ingDiff q.wn q.rn
def Ingress.isEmpty (q : Ingress) : Bool := q.depth == 0
def Ingress.isFull (q : Ingress) : Bool := q.depth == 4096

/-- The Tree block of the row at which the word with count `p` of ingress queue `n` stands (Table 11.1). -/
def ingBlock (n p : Nat) : Nat := 0x01A80000 / 8 + 4096 * n + p % 4096

/-- The word with count `p` of ingress queue `n` as its row holds it, and its sideband. -/
def State.ingWord (s : State) (n p : Nat) : Word64 := BitVec.ofNat 64 (s.block (ingBlock n p)).data
def Ingress.sideAt (q : Ingress) (p : Nat) : IngSide := SMap.get sideDefault q.side (p % 4096)

/-- Write a word and its sideband into the row at W: an ingress write of the Tree (R287, R290, R314). -/
def State.ingPut (s : State) (n : Nat) (w : Word64) (birth cyc : Nat) : State :=
  let q := s.ing n
  (s.setIng n { q with side := SMap.set sideDefault q.side (q.wn % 4096) ⟨q.wn / 4096 % 4, birth, cyc⟩, wn := q.wn + 1 }).treeStore 0
    (ingBlock n q.wn) w.toNat

/-- How many of the words from count `p` on make the rest of an item, through its end word; all `k` that are there when it has none. -/
def State.restOf (s : State) (n p : Nat) : Nat → Nat
  | 0 => 0
  | k + 1 => if isEnd (s.ingWord n p) then 1 else 1 + s.restOf n (p + 1) k

/-- How many words the item that begins at count `p` has, of `k` words that are there. -/
def State.itemSize (s : State) (n p k : Nat) : Nat := if wType (s.ingWord n p) = 1 then 1 else s.restOf n p k

/-- The `m` words from count `p` on move up by `k` rows, the last first. -/
def State.ingMove (s : State) (n p k : Nat) : Nat → State
  | 0 => s
  | m + 1 =>
    let q := s.ing n
    let a := p + m
    let x := q.sideAt a
    ((s.setIng n { q with side := SMap.set sideDefault q.side ((a + k) % 4096) { x with tag := (a + k) / 4096 % 4 } }).treeStore 0
      (ingBlock n (a + k)) (s.ingWord n a).toNat).ingMove n p k m

/-- Remove the oldest whole item that the reader has not opened (R296): the words of the open record that stand before it move up to the
item behind it (log entry 202). -/
def State.ingRemove (s : State) (n : Nat) : State :=
  let q := s.ing n
  let m := if q.opened = [] then 0 else s.restOf n q.rn q.depth
  let k := s.itemSize n (q.rn + m) (q.depth - m)
  let s := s.ingMove n q.rn k m
  let q := s.ing n
  let s := s.setIng n { q with rn := q.rn + k, marks := q.marks.map (fun x => (x.1, x.2.1, max x.2.2 (q.rn + m + k))) }
  (s.inc .ING_STAT_ING_LOST n).ingressLoss (n / 4)

/-- The word of a push that found the queue full goes into the row that has come free (R302). -/
def State.ingExtra (s : State) (n : Nat) : State :=
  let q := s.ing n
  match q.extra with
  | some (w, birth, cyc) => if q.isFull then s else (s.setIng n { q with extra := none }).ingPut n w birth cyc
  | none => s

/-- A push that found the queue full in an earlier cycle without a pop has removed the oldest unopened item: ING_LOST, and a loss of
R159 (R296, R302). -/
def State.ingSettle (s : State) (n : Nat) : State :=
  match (s.ing n).extra with
  | some (_, _, c) => if c < s.c160 then (s.ingRemove n).ingExtra n else s
  | none => s

/-- The markers whose position the reader of ingress queue `n` has come to pass: the words behind belong to the slot that each
opened (R294). -/
def State.passMarkers (s : State) (n : Nat) : State :=
  let q := s.ing n
  let ms := q.marks.takeWhile (fun m => decide (m.2.2 ≤ q.rn))
  match ms.getLast? with
  | none => s
  | some m =>
    let s := s.setIng n { q with marks := q.marks.drop ms.length }
    { s with packer := { s.packer with laneSlot := SMap.set (fun _ => 0) s.packer.laneSlot n m.2.1 } }

/-- Push a word that entered the crossing buffer at FRC `t` into ingress queue `n` (R294, R296, R300, R302). A marker goes to the side
queue of 4 entries (log entry 145) with the slot that it opens, which the stamp of its entry tells. -/
def State.ingPush (s : State) (n : Nat) (w : Word64) (t : Nat) : State :=
  let s := s.ingSettle n
  let q := s.ing n
  if wType w = 0 then
    let s := s.passMarkers n
    let q := s.ing n
    (if q.marks.length < 4 then s.setIng n { q with marks := q.marks ++ [(w, s.slotOpened t, q.wn)] } else s).passMarkers n
  else if q.drain then s.setIng n { q with drain := !isEnd w }
  else if q.isFull then s.setIng n { q with extra := some (w, t % 65536, s.c160) }
  else s.ingPut n w (t % 65536) s.c160

/-- The oldest word of the queue may be popped: it was pushed in an earlier C160 cycle (R302), and its row is not being copied (R323). -/
def State.ingReady (s : State) (n : Nat) : Bool :=
  let q := s.ing n
  !q.isEmpty && decide ((q.sideAt q.rn).cyc < s.c160) && !s.copying (ingBlock n q.rn)

/-- The oldest word, without its pop. -/
def State.ingHead (s : State) (n : Nat) : Option Word64 := if s.ingReady n then some (s.ingWord n (s.ing n).rn) else none

/-- A word as it is popped, with its arrival stamp, and whether its block was beyond mending. -/
structure Popped where
  w     : Word64
  birth : Nat
  bad   : Bool
  deriving DecidableEq, Repr

/-- Pop the oldest word, a read of the Tree (R290, R302, R315): a word whose tag is not the one the reader expects is discarded as an ingress
loss (log entry 203). A push of this cycle that found the queue full takes the row that comes free. -/
def State.ingPop (s : State) (n : Nat) : State × Option Popped :=
  if !s.ingReady n then (s, none)
  else
    let q := s.ing n
    let p := (s.treeMark 1).treeFetch (ingBlock n q.rn)
    let w := p.1.ingWord n q.rn
    let x := q.sideAt q.rn
    let s := (p.1.setIng n { p.1.ing n with rn := q.rn + 1 }).ingExtra n
    if x.tag = q.rn / 4096 % 4 then (s, some ⟨w, x.birth, p.2⟩) else (s.ingressLoss (n / 4), none)

/-! ### The crossing buffer (R287 to R290, R295) -/

/-- Depth of the crossing buffer as its reader sees it, of which `hidden` words are still crossing; EMPTY and FULL (R288, R289). -/
def Ingress.xDepth (q : Ingress) (hidden : Nat) : Nat := ((q.xw - hidden) % 64 + 64 - q.xr % 64) % 64
def Ingress.xEmpty (q : Ingress) (hidden : Nat) : Bool := q.xDepth hidden == 0
def Ingress.xFull (q : Ingress) : Bool := q.xDepth 0 == 32

/-- A word enters the crossing buffer of lane `n` at FRC `t`: it is stored with its tag and stamped with the low 16 bits of the FRC, whatever
FULL shows; `flip` is the upset of the stored tag (R289, R290, R295). -/
def State.crossWrite (s : State) (n t : Nat) (w : Word64) (flip : Nat) : State :=
  let q := s.ing n
  s.setIng n { q with xrows := SMap.set rowDefault q.xrows (q.xw % 32) ⟨w, (q.xw / 32 % 4) ^^^ (flip % 4), t % 65536⟩, xw := q.xw + 1, xAt := t }

/-- The reader of the crossing buffer takes a word: one whose tag is not the one it expects is discarded, XLOST, and a loss of R159
(R295). -/
def State.crossRead (s : State) (n : Nat) : State × Bool :=
  let q := s.ing n
  let ok := (SMap.get rowDefault q.xrows (q.xr % 32)).tag == q.xr / 32 % 4
  let s := s.setIng n { q with xr := q.xr + 1 }
  if ok then (s, true) else ((s.inc .ING_CNT_XLOST).ingressLoss (n / 4), false)

/-- A word through the crossing buffer of lane `n`: it entered at FRC `t`, and by this C160 edge the write pointer has crossed. -/
def State.crossIn (s : State) (n t : Nat) (w : Word64) (flip : Nat) : State × Bool := (s.crossWrite n t w flip).crossRead n

/-- The FRC of an arrival from its stamp: the last instant with those low 16 bits (R169, R295). -/
def State.stampFrc (s : State) (birth : Nat) : Nat := s.frc - (s.frc + 65536 - birth % 65536) % 65536

/-- A drop command to the ingress reader of lane `n` (R300): with no item open it is ignored. -/
def State.ingDrop (s : State) (n : Nat) : State :=
  let s := s.ingSettle n
  let q := s.ing n
  if q.opened = [] then s
  else
    let k := s.restOf n q.rn q.depth
    let whole := decide (0 < k) && isEnd (s.ingWord n (q.rn + k - 1))
    let s := s.setIng n { q with rn := q.rn + k, opened := [], bad := false, drain := !whole }
    let s := match (s.ing n).extra with
      | some (w, _, _) => if whole then s.ingExtra n else s.setIng n { s.ing n with extra := none, drain := !isEnd w }
      | none => s
    s.inc .ING_CNT_DROPS

/-! ### Commands -/

/-- HIT_QUEUE_READ (R292): one word-clock cycle of 16.5 cu of the reader; a pointer crosses within 49.5 cu (R303). -/
def execHitQueueRead (n : LaneNo) (delay : Nat) (flips : List Nat) (s : State) : Host.Outcome State Fault Refusal :=
  when' (s.alive && s.diePowered (n.val / 4) && decide (1 ≤ delay) && decide (delay ≤ 49) && decide ((s.quad n).rdAt ≤ 2 * s.frc + 1)) s
    (fun s => (s.formPrims n).hqCycle n delay flips)

/-- DROP_COMMAND (R300): to the reader of a hit queue (`hq`), or of an ingress queue. -/
def execDropCommand (hq : Bool) (n : LaneNo) (s : State) : Host.Outcome State Fault Refusal :=
  when' s.alive s (fun s => if hq then (if s.diePowered (n.val / 4) then s.hqDrop n else s) else s.ingDrop n)

end Sys2Proof.Machine
end

