-- ==== Sys2Proof/Machine/Stirrup.lean ====
section
/-! DEFINITION. The Stirrup (05): the trigger map, exchange with neighbours, trigger formation and outcomes, contexts, freeze
commands, segment records and streaming fallback. -/

namespace Sys2Proof.Machine

/-! ### The map and its bins (R112 to R118) -/

/-- The global bin whose low 13 bits are `b` and which lies nearest the present one (R7). -/
def State.nearBin (s : State) (b : Nat) : Nat :=
  let p := s.nowCu / 8
  ((p : Int) + wrapDiff 13 b p).toNat

/-- WIDTH in bins (R115). -/
def State.bins (s : State) : Nat := s.get .STR_TRIG_WIDTH + 1

/-- K in force (R116). -/
def State.majority (s : State) : Nat := min 9 (max 2 (s.get .STR_TRIG_K))

/-- Internal cells that map a channel: row, column, channel. -/
def State.mapped3 (s : State) : List (Nat × Nat × Nat) :=
  s.stirrup.map.filterMap (fun x => if bitOf x.2 15 then some (x.1 / 64, x.1 % 64, x.2 % 4096) else none)

/-- Active internal cells of bin `b`, as row and column each plus 1 (R115). -/
def State.activeCells (s : State) (b : Nat) : List (Nat × Nat) :=
  let now := s.stirrup.prims.filter (fun p => decide (p.1 ≤ b) && decide (b < p.1 + s.bins))
  s.mapped3.filterMap (fun x => if now.any (fun p => p.2 == x.2.2) then some (x.1 + 1, x.2.1 + 1) else none)

/-- Where cell `i` of a border side lies, row and column each plus 1 (R114). -/
def borderPlace (side i : Nat) : Nat × Nat :=
  match side with
  | 0 => (0, i + 1)
  | 1 => (i + 1, 65)
  | 2 => (65, i + 1)
  | _ => (i + 1, 0)

/-- Active border cells of bin `b`. -/
def State.activeBorder (s : State) (b : Nat) : List (Nat × Nat) :=
  (s.stirrup.borders.filter (fun p => decide (p.bin ≤ b) && decide (b < p.bin + s.bins) && p.stop.all (fun x => decide (b < x)))).map
    (fun p => borderPlace p.side p.cell)

/-- Internal cells on which a 3 × 3 window holds at least K active cells, as 64 r + c. -/
def windowHits (active : List (Nat × Nat)) (k : Nat) : List Nat :=
  if active.length < k then []
  else
    (List.range 4096).filter (fun x =>
      let r := x / 64 + 1
      let c := x % 64 + 1
      decide (k ≤ (active.filter (fun p => decide (p.1 ≤ r + 1) && decide (r ≤ p.1 + 1) &&
        decide (p.2 ≤ c + 1) && decide (c ≤ p.2 + 1))).length))

/-- PAT, MULT and the condition selected in bin `b`, with the centres of the windows that met K (R116). -/
def State.binCondition (s : State) (b : Nat) : Bool × Bool × List Nat :=
  let inner := s.activeCells b
  let centres := windowHits ((inner ++ s.activeBorder b).eraseDups) s.majority
  let pat := !centres.isEmpty
  let m := s.get .STR_TRIG_MULT
  let mult := decide (m ≠ 0) && decide (m ≤ inner.length)
  let c := match s.get .STR_TRIG_COMBINE with
    | 0 => pat
    | 1 => mult
    | 2 => pat || mult
    | _ => pat && mult
  (c, pat, centres)

/-- Exchange is on (R120). -/
def State.exchange (s : State) : Bool := s.flag .STR_NBR_CIA_EN || s.flag .STR_NBR_CIB_EN

/-- The place along a side of the internal cell (r, c), if it lies on that side (R117). -/
def sidePlace (side r c : Nat) : Option Nat :=
  match side with
  | 0 => if r = 0 then some c else none
  | 1 => if c = 63 then some r else none
  | 2 => if r = 63 then some c else none
  | _ => if c = 0 then some r else none

/-- Add a primitive to the side words that wait for a port: one word for each half of the side and bin (Table 05.2). -/
def addSide (side : Nat) (bin i : Nat) : List (Nat × Nat) → List (Nat × Nat)
  | [] => [(8 * bin + 8, side * 2 ^ 46 + i / 32 * 2 ^ 45 + bin % 8192 * 2 ^ 32 + 2 ^ (i % 32))]
  | x :: t =>
    if x.1 = 8 * bin + 8 ∧ x.2 / 2 ^ 45 = side * 2 + i / 32 then
      (x.1, if bitOf x.2 (i % 32) then x.2 else x.2 + 2 ^ (i % 32)) :: t
    else x :: addSide side bin i t

/-- A primitive of channel `g` in bin `b` enters the map, and the side words when its cell lies on the side that is sent. -/
def State.enterPrim (s : State) (b g : Nat) : State :=
  let s : State := { s with stirrup := { s.stirrup with prims := s.stirrup.prims ++ [(b, g)] } }
  if s.flag .STR_NBR_SEND_EN then
    let side := s.get .STR_NBR_SEND_SIDE
    let cells := s.mapped3.filterMap (fun x => if x.2.2 = g then sidePlace side x.1 x.2.1 else none)
    cells.foldl (fun t i => { t with harness := { t.harness with
      sidesA := addSide side b i t.harness.sidesA, sidesB := addSide side b i t.harness.sidesB } }) s
  else s

/-- A primitive word of lane `n` enters the map (Table 05.1). -/
def State.primitiveEnter (s : State) (n : Nat) (w : Word64) : State :=
  let b := s.nearBin (fw w 44 13)
  let c0 := 64 * (n % 4) + 32 * fw w 57 1
  (bitsList 32 (fw w 0 32)).foldl (fun t i => t.enterPrim b (256 * (n / 4) + c0 + i)) s

/-! ### Triggers (R120 to R125) -/

/-- The number of a source bit in Table 05.3: IMG 0, EXT 1, FORCE 2, AUTO 3, CAL 4; in the order of rank (R121). -/
def rankOrder : List Nat := [4, 1, 2, 0, 3]

/-- The highest-ranked source of a mask. -/
def topSource (src : Nat) : Nat := (rankOrder.find? (fun k => bitOf src k)).getD 3

/-- The decision instant of the general rule (R120). -/
def State.ruleD (s : State) (a : Nat) : Nat := (8 * (a / 8) + 8 + (if s.exchange then 288 else 160)) % 2 ^ 64

/-- Triggers in the wait list of R122. -/
def State.waitList (s : State) : Nat := (s.stirrup.trigs.filter (fun t => bitOf t.src 1 || bitOf t.src 4)).length

/-- Show the wait list. -/
def State.showPend (s : State) : State := s.put .STR_STAT_PEND s.waitList

/-- The capture class of a trigger: STR_SRCCLS of its highest-ranked source (R121, R129). -/
def State.trigClass (s : State) (src : Nat) : Nat :=
  let sh := match topSource src with
    | 4 => 8
    | 2 => 6
    | 1 => 4
    | 0 => 2
    | _ => 0
  fieldOf (s.get .STR_SRCCLS_CLS) sh 2

/-- Fields of a class: PRE, WIN, POST, NWIN, ROI_MODE. -/
def State.classPre (s : State) (k : Nat) : Nat := s.get .STR_CLASS_PRE k
def State.classWin (s : State) (k : Nat) : Nat := s.get .STR_CLASS_WINM1 k + 1
def State.classPost (s : State) (k : Nat) : Nat := s.get .STR_CLASS_POST k
def State.classNwin (s : State) (k : Nat) : Nat := s.get .STR_CLASS_NWINM1 k + 1

/-- The 16-channel groups of a die that lie within ROI_R of a centre (R131). -/
def State.roiGroups (s : State) (centres : List Nat) (f : Nat) : Nat :=
  let r := s.get .STR_ROI_ROI_R
  maskOf (s.mapped3.filterMap (fun x =>
    if x.2.2 / 256 = f ∧ centres.any (fun c => decide (absDiff (c / 64) x.1 ≤ r) && decide (absDiff (c % 64) x.2.1 ≤ r)) then
      some (x.2.2 % 256 / 16) else none))

/-- The groups of die `f` that a trigger selects; none of a die that is not JOINED (R131). -/
def State.selected (s : State) (t : Trig) (f : Nat) : Nat :=
  if !s.joined f then 0
  else
    match s.get .STR_CLASS_ROI_MODE (s.trigClass t.src) with
    | 1 => (match t.centres with
      | some cs => s.roiGroups cs f
      | none => 0xFFFF)
    | 2 => s.get .STR_ROIMASK_GROUPS f
    | _ => 0xFFFF

/-- Records expected of each channel of die `f` and window (R127). -/
def State.perRegion (s : State) (f : Nat) : Nat := if s.get .RNGD_CTRL_GAIN_MODE f = 3 then 2 else 1

/-- Words that a record of `win` samples takes. -/
def recordWords (win : Nat) : Nat := 2 + ceilDiv win 5

/-- The channels of die `f` in a group mask. -/
def groupChannels (f mask : Nat) : List Nat := (List.range 256).filterMap (fun c => if bitOf mask (c / 16) then some (256 * f + c) else none)

/-- Outstanding words of quadrant `n` (R127). -/
def State.outstanding (s : State) (n : Nat) : Nat :=
  (s.stirrup.ctxs.filterMap (fun c => c.map (fun c => SMap.get (fun _ => 0) c.out n))).foldl (· + ·) 0

/-- The words that one window of a trigger adds to quadrant `n`. -/
def State.addedWords (s : State) (t : Trig) (n : Nat) : Nat :=
  let m := s.selected t (n / 4)
  let ch := 16 * popCount 4 (fieldOf m (4 * (n % 4)) 4)
  ch * s.perRegion (n / 4) * recordWords (s.classWin (s.trigClass t.src))

/-- HOLDOFF in force (R124). -/
def State.holdoff (s : State) : Nat := min 2560 (max 64 (s.get .STR_HOLD_HOLDOFF))

/-- Free contexts: a released one is free from the C160 cycle after its release (R126). -/
def State.freeCtxs (s : State) : List Nat :=
  (List.range 4).filter (fun k => (s.stirrup.ctxs.getD k none).isNone && decide (s.stirrup.ctxFree.getD k 0 ≤ s.c160))

/-- Some window fails the deadline of R128. -/
def State.deadlineFails (s : State) (t : Trig) : Bool :=
  let c := s.trigClass t.src
  (List.range (s.classNwin c)).any (fun k =>
    decide (0 < wrapDiff 64 (t.d + 192 + 132 * k + 16 + s.classPre c) (t.a + k * s.classWin c + 1024)))

/-- The outcome of a trigger in the order of Table 05.4, its codes. -/
def State.outcome (s : State) (t : Trig) (full : Bool) : Nat :=
  let c := s.trigClass t.src
  let n := s.classNwin c
  if full || s.deadlineFails t then 4
  else if s.flag .STR_STAT_FALLBACK then 3
  else if (match s.stirrup.aLast with | some a => decide ((wrapDiff 64 t.a a).natAbs < s.holdoff) | none => false) then 2
  else if s.freeCtxs.length < n then 1
  else if (List.range 64).any (fun q => decide (0 < s.addedWords t q) &&
      decide (s.get .STR_BUDGET_QBUDGET < s.outstanding q + n * s.addedWords t q)) then 6
  else if (List.range 16).all (fun f => decide (s.selected t f = 0)) then 5
  else 0

/-- Show which contexts are busy. -/
def State.showCtx (s : State) : State :=
  s.put .STR_STAT_CTX_BUSY (maskOf ((List.range 4).filter (fun k => (s.stirrup.ctxs.getD k none).isSome)))

/-- TAG of window `k` (R130). -/
def tagOf (ctx trigno k : Nat) : Nat := ctx % 4 * 256 + trigno % 64 * 4 + k % 4

/-- The two freeze command words (Table 05.5). -/
def freezeWords (groups a tag pre win post : Nat) : Word64 × Word64 :=
  (pack [(60, 4, 4), (44, 16, groups), (28, 16, a), (18, 10, tag)],
   pack [(60, 4, 5), (52, 8, pre), (44, 8, win - 1), (34, 10, post)])

/-- Window `k` of an accepted trigger takes context `ctx` and its freeze commands wait for the return lanes (R130, R132). -/
def State.takeWindow (s : State) (t : Trig) (trigno k ctx : Nat) : State :=
  let c := s.trigClass t.src
  let win := s.classWin c
  let sel := (List.range 16).map (fun f => (f, s.selected t f))
  let expect : SMap Nat := sel.flatMap (fun x => (groupChannels x.1 x.2).map (fun g => (g, s.perRegion x.1)))
  let out : SMap Nat := (List.range 64).filterMap (fun q => if s.addedWords t q = 0 then none else some (q, s.addedWords t q))
  let ctxv : Ctx :=
    { trigno := trigno, src := t.src, cls := c, clamp := bitOf (s.get .STR_STAT_CLAMP) c, a := t.a, fine := t.fine,
      since := s.frc - (s.nowCu - t.d), win := k, nwin := s.classNwin c, expect := expect, out := out }
  let s : State := { s with stirrup := { s.stirrup with ctxs := setAt s.stirrup.ctxs ctx (some ctxv) } }
  sel.foldl (fun u x =>
    if x.2 = 0 then u
    else
      let p := freezeWords x.2 (t.a + k * win) (tagOf ctx trigno k) (s.classPre c) win (s.classPost c)
      let q := SMap.get (fun _ => []) u.harness.frzQ x.1 ++ [(p.1, p.2, s.frc - (s.nowCu - t.d) + 2, s.frc - (s.nowCu - t.d) + 192 + 132 * k)]
      { u with harness := { u.harness with frzQ := SMap.set (fun _ => []) u.harness.frzQ x.1 q } }) s

/-- The counter and the event of an outcome (Table 05.4). -/
def State.countOutcome (s : State) (o : Nat) : State :=
  match o with
  | 0 => s.inc .STR_CNT0_ACCEPTED
  | 1 => (s.inc .STR_CNT0_LOST_BUSY).raise 474
  | 2 => s.inc .STR_CNT1_LOST_HOLD
  | 3 => s.inc .STR_CNT1_STREAMED
  | 4 => (s.inc .STR_CNT2_LATE).raise 476
  | 5 => s.inc .STR_CNT2_EMPTY
  | _ => (s.inc .STR_CNT3_LOST_BUDGET).raise 475

/-- The trigger mark (Table 05.10). -/
def trigMark (t : Trig) (o cls ctx frozen trigno : Nat) : List Word64 :=
  [pack [(60, 4, 1), (55, 5, t.src), (52, 3, o), (50, 2, cls), (48, 2, ctx), (33, 15, frozen), (0, 32, trigno)],
   pack [(60, 4, 1), (59, 1, 1), (23, 32, t.a / 65536), (7, 16, t.a), (0, 7, t.fine)]]

/-- Remember the span of an accepted trigger, and count GATE_LATE when it reaches back into a gated slot (R141, R152). -/
def State.addSpan (s : State) (t : Trig) (cls : Nat) : State :=
  let lo := t.a - s.classPre cls
  let hi := lo + s.classNwin cls * s.classWin cls - 1
  let s := if s.packer.gated.any (fun n => decide (lo / 65536 ≤ n) && decide (n ≤ hi / 65536)) then s.inc .SP_CNT2_GATE_LATE else s
  { s with stirrup := { s.stirrup with
    spans := s.stirrup.spans.filter (fun x => decide (s.nowCu ≤ x.2 + 4 * 65536)) ++ [(lo, hi)] } }

/-- The period of the AUTO source in cu. -/
def State.autoPeriod (s : State) : Nat := max 1 (s.get .STR_AUTO_AUTO_SLOTS) * 65536

/-- The coarse count from which AUTO periods are counted: A_last, else that of the later of two strobes (R120, R125). -/
def State.autoBase (s : State) : Option Nat :=
  match s.stirrup.aLast with
  | some a => some a
  | none => s.stirrup.autoOn.map (fun x => if s.stirrup.emptied.1 ≤ x.1 then x.2 else s.stirrup.emptied.2)

/-- The number of AUTO periods that have passed since the base. -/
def State.autoPeriods (s : State) : Nat :=
  match s.autoBase with
  | some b => (s.nowCu - b) / s.autoPeriod
  | none => 0

/-- AUTO fires next at the first period to come: those that have passed by now, under the base and the period now in force, form no
trigger (R120). -/
def State.autoRebase (s : State) : State := { s with stirrup := { s.stirrup with autoK := s.autoPeriods } }

/-- Decide a trigger (R123): its number, its outcome, contexts and budget, and its mark. -/
def State.decideTrig (s : State) (t : Trig) (full : Bool) : State :=
  let no := s.get .STR_TRIGNO_TRIGNO
  let cls := s.trigClass t.src
  let o := s.outcome t full
  let s := s.inc .STR_TRIGNO_TRIGNO
  let s := s.countOutcome o
  let ctx := s.freeCtxs.headD 0
  let n := s.classNwin cls
  let frozen := 16 * (((List.range 16).map (fun f => popCount 16 (s.selected t f))).foldl (· + ·) 0) * n
  let s := s.item 7 (trigMark t o cls (if o = 0 then ctx else 0) (if o = 0 then frozen else 0) no)
  let s : State := if o = 0 ∨ o = 3 then
    ({ s with stirrup := { s.stirrup with aLast := some t.a } } : State).autoRebase else s
  if o = 0 then
    ((((s.freeCtxs.take n).zipIdx).foldl (fun u x => u.takeWindow t no x.2 x.1) s).showCtx).addSpan t cls
  else s

/-- The triggers that a new one joins: same D, and A in the same bin (R121). -/
def sameTrig (a d : Nat) (t : Trig) : Bool := decide (t.d = d) && decide (t.a / 8 = a / 8)

/-- Merge a source into a trigger: A and TFINE come from the highest-ranked source present (R121). -/
def Trig.merge (t : Trig) (k a fine : Nat) (centres : Option (List Nat)) : Trig :=
  let src := withBit t.src k true
  let t' : Trig := { t with src := src, centres := if centres.isSome then centres else t.centres }
  if topSource src = k ∧ topSource t.src ≠ k then { t' with a := a, fine := fine } else t'

/-- Form a trigger of source bit `k` (R120 to R122). One that the wait list has no room for is refused at once, and its mark goes with the slot
that runs (log entry 196). -/
def State.form (s : State) (k a fine d : Nat) (centres : Option (List Nat) := none) : State :=
  if !bitOf (s.get .STR_CTRL_SRC_EN) k then s
  else
    let listed := decide (k = 1) || decide (k = 4)
    let alone : Trig := { src := 2 ^ k, a := a, fine := fine, d := d, centres := centres }
    match s.stirrup.trigs.find? (sameTrig a d) with
    | some t =>
      if listed && !bitOf t.src 1 && !bitOf t.src 4 && decide (8 ≤ s.waitList) then s.decideTrig alone true
      else
        let l := s.stirrup.trigs.map (fun x => if sameTrig a d x then x.merge k a fine centres else x)
        ({ s with stirrup := { s.stirrup with trigs := l } } : State).showPend
    | none =>
      if listed && decide (8 ≤ s.waitList) then s.decideTrig alone true
      else ({ s with stirrup := { s.stirrup with trigs := s.stirrup.trigs ++ [alone] } } : State).showPend

/-- The image trigger of bin `b` (R116). It includes PAT when PAT is true, also where COMBINE asks for MULT only (R131, log entry 182). -/
def State.binEvaluate (s : State) (b : Nat) : State :=
  let now := s.binCondition b
  let before := match s.stirrup.last with
    | some (x, c) => if x + 1 = b then c else (s.binCondition (b - 1)).1
    | none => (s.binCondition (b - 1)).1
  let s : State := { s with stirrup := { s.stirrup with
    last := some (b, now.1),
    prims := s.stirrup.prims.filter (fun p => decide (b ≤ p.1 + 16)),
    borders := s.stirrup.borders.filter (fun p => decide (b ≤ p.bin + 16)) } }
  if now.1 && !before && !s.stirrup.imgHold then s.form 0 (8 * b) 0 (s.ruleD (8 * b)) (if now.2.1 then some now.2.2 else none) else s

/-- A forced trigger: the start of the bin after the write (Table 05.3). -/
def State.forceTrig (s : State) : State :=
  let a := 8 * (s.nowCu / 8 + 1)
  s.form 2 a 0 (s.ruleD a)

/-- A CAL trigger for a pulse or an injection at coarse count `p`, while its enable `en` is 1 (Table 05.3). -/
def State.calTrig (s : State) (en : Fld) (p : Nat) : State :=
  let a := p + s.get .STR_CALT_CAL_DELAY
  if s.flag en then s.form 4 a 0 (s.ruleD a) else s

/-- A_last is emptied at a strobe at which a step takes effect (R125). -/
def State.emptyALast (s : State) : State :=
  ({ s with stirrup := { s.stirrup with aLast := none, emptied := (s.frc, s.nowCu) } } : State).autoRebase

/-- A write of STR_AUTO (Table 05.14). -/
def State.writeStrAuto (s : State) (data : Word32) : State := (s.take .STR_AUTO_AUTO_SLOTS data).autoRebase

/-- T at the last strobe, its coarse count: a step that the strobe took is in it (R125, R518). -/
def State.strobeCu (s : State) : Nat := (s.timeAt (s.girth.sigma * 128)).toNat / 128 % 2 ^ 64

/-- A write of STR_CTRL (Table 05.14). -/
def State.writeStrCtrl (s : State) (data : Word32) : State :=
  let was := bitOf (s.get .STR_CTRL_SRC_EN) 3
  let s := ((s.take .STR_CTRL_SRC_EN data).take .STR_CTRL_HIT_GATE data).take .STR_CTRL_AUTO_RESUME data
  let s := s.take .STR_CTRL_MODE_STREAM data
  let on := bitOf (s.get .STR_CTRL_SRC_EN) 3
  let s : State :=
    if on = was then s
    else ({ s with stirrup := { s.stirrup with autoOn := if on then some (s.girth.sigma, s.strobeCu) else none } } : State).autoRebase
  let s : State := if Fld.on .STR_CTRL_FB_CLEAR data then { s with stirrup := { s.stirrup with fbClear := true } } else s
  if Fld.on .STR_CTRL_FORCE data then s.forceTrig else s

/-! ### Fallback (R139, R140) -/

/-- The slot that runs overlaps fallback. -/
def State.markFb (s : State) : State :=
  { s with packer := { s.packer with slots := s.packer.slots.map (fun o => if o.ended.isNone then { o with fb := true } else o) } }

/-- Fallback begins. -/
def State.fbEnter (s : State) (dry : Bool) : State :=
  let s : State := if dry then { s with stirrup := { s.stirrup with fbClear := false } } else s
  if s.flag .STR_STAT_FALLBACK then (if dry then s.putB .STR_STAT_FB_CAUSE true else s)
  else
    ((((s.putB .STR_STAT_FALLBACK true).putB .STR_STAT_FB_CAUSE dry).inc .STR_CNT6_FB_ENTRIES).markFb).raise 472

/-- What R139 and R140 do at a slot strobe. -/
def State.fbStrobe (s : State) : State :=
  let s := if s.flag .STR_CTRL_MODE_STREAM then s.fbEnter false else s
  let free := decide (s.get .STR_RESUME_RESUME_DESC ≤ s.get .STR_POOLDESC_FREE_DESC) &&
    decide (16 * s.get .STR_RESUME_RESUME_G16 ≤ s.get .STR_POOLGRAN_FREE_GRAN)
  let may := !s.flag .STR_STAT_FB_CAUSE || s.flag .STR_CTRL_AUTO_RESUME || s.stirrup.fbClear
  if s.flag .STR_STAT_FALLBACK && !s.flag .STR_CTRL_MODE_STREAM && free && may then
    (s.putB .STR_STAT_FALLBACK false).raise 473
  else s

/-! ### Contexts and segment records (R126, R133 to R138) -/

/-- Records of trigger `no` and channel `g` that are still expected in any busy context. -/
def State.remaining (s : State) (no g : Nat) : Nat :=
  (s.stirrup.ctxs.filterMap (fun c => c.bind (fun c =>
    if c.trigno = no then some (SMap.get (fun _ => 0) c.expect g) else none))).foldl (· + ·) 0

/-- Replace the segment records. -/
def State.setSegs (s : State) (l : List SegRec) : State := { s with stirrup := { s.stirrup with segs := l } }

/-- SRH0 and SRH1 (Tables 05.8 and 05.9). -/
def SegRec.header (r : SegRec) (trunc missing : Bool) : List Word64 :=
  [pack [(62, 2, 2), (60, 2, 1), (47, 12, r.g), (15, 32, r.trigno), (10, 5, r.src), (8, 2, r.cls), (7, 1, b2n r.preShort),
     (6, 1, b2n trunc), (5, 1, b2n r.clamp), (4, 1, b2n missing), (3, 1, b2n r.ovr), (1, 2, r.nwin - 1)],
   pack [(62, 2, 2), (60, 2, 1), (59, 1, 1), (27, 32, r.a / 65536), (11, 16, r.a), (4, 7, r.fine), (0, 4, r.nrec)]]

/-- Close a segment record: it enters stream 1 of the current slot (R137). -/
def State.closeSeg (s : State) (r : SegRec) (trunc : Bool) : State :=
  let missing := decide (r.nrec < r.expected)
  let s := s.setSegs (s.stirrup.segs.filter (fun x => !(x.trigno == r.trigno && x.g == r.g)))
  let s := (s.item 1 (r.header trunc missing ++ r.words)).inc .STR_CNT6_SEGRECS
  let s := if r.poison then s.poisonSlot s.girth.slot 1 else s
  let s : State := { s with stirrup := { s.stirrup with held := s.stirrup.held ++ [⟨s.girth.slot, r.chain.map (·.id), r.grans⟩] } }
  let s := if missing then (s.inc .STR_CNT4_REC_MISSING 0 (r.expected - r.nrec)).raise 478 else s
  if trunc then (s.inc .STR_CNT5_TRUNC).raise 479 else s

/-- Close the segment record of a trigger and channel when nothing more is expected. -/
def State.closeIfDone (s : State) (no g : Nat) : State :=
  if s.remaining no g ≠ 0 then s
  else
    match s.stirrup.segs.find? (fun x => x.trigno == no && x.g == g) with
    | some r => s.closeSeg r false
    | none => s

/-- The descriptors and granules of the segment records of slot `n` return to the pool (R137). -/
def State.releaseHeld (s : State) (n : Nat) : State :=
  let mine := s.stirrup.held.filter (fun x => x.slot == n)
  let s : State := { s with stirrup := { s.stirrup with held := s.stirrup.held.filter (fun x => x.slot != n) } }
  mine.foldl (fun t x => (t.inc .STR_POOLDESC_FREE_DESC 0 x.descs.length).inc .STR_POOLGRAN_FREE_GRAN 0 x.grans.length) s

/-- The lowest number from `i` on that is not in use. -/
def freshId (used : List Nat) : Nat → Nat → Nat
  | 0, i => i
  | f + 1, i => if used.contains i then freshId used f (i + 1) else i

/-- The `k` lowest numbers that are not in use: the manual does not say which descriptors and granules a grant takes (log entry 146). -/
def freshIds (used : List Nat) : Nat → List Nat
  | 0 => []
  | k + 1 => let i := freshId used used.length 0; i :: freshIds (i :: used) k

/-- The numbers of the descriptors, and of the granules, that are in use. -/
def State.usedDescs (s : State) : List Nat :=
  s.stirrup.segs.flatMap (fun r => r.chain.map (·.id)) ++ s.stirrup.held.flatMap (·.descs)
def State.usedGrans (s : State) : List Nat := s.stirrup.segs.flatMap (·.grans) ++ s.stirrup.held.flatMap (·.grans)

/-- Take descriptors into a chain: each new one is a continuation, and the last before it links to it (R134). -/
def SegRec.extend (r : SegRec) (ids : List Nat) : SegRec :=
  ids.foldl (fun x i =>
    { x with chain := (x.chain.map (fun d => if d.link.isNone then { d with link := some i } else d)) ++
        [⟨i, x.a, x.fine, x.g, x.trigno, x.chain.length, none⟩] }) r

/-- The context and window that a TAG names, when it is busy and the trigger bits match (R130, R138). A window index below NWIN that is
not the one the context holds is stale too (log entry 147). -/
def State.tagCtx (s : State) (tag : Nat) : Option Ctx :=
  match s.stirrup.ctxs.getD (tag / 256 % 4) none with
  | some c => if c.trigno % 64 = tag / 4 % 64 ∧ tag % 4 < c.nwin ∧ tag % 4 = c.win then some c else none
  | none => none

/-- Put context `k`. -/
def State.putCtx (s : State) (k : Nat) (c : Option Ctx) : State :=
  ({ s with stirrup := { s.stirrup with ctxs := setAt s.stirrup.ctxs k c } } : State).showCtx

/-- The record that the reader of lane `n` has open is of trigger `no`. -/
def State.openTrig (s : State) (n : Nat) (no : Nat) : Bool :=
  match (s.ing n).opened with
  | h :: _ => match s.tagCtx (fw h 39 10) with
    | some c => c.trigno == no
    | none => false
  | [] => false

/-- Release context `k`: what it still expected is missing; records that are still arriving are dropped (R126, R138). -/
def State.releaseCtx (s : State) (k : Nat) : State :=
  match s.stirrup.ctxs.getD k none with
  | none => s
  | some c =>
    let s := (List.range 64).foldl (fun t n =>
      match (t.ing n).opened with
      | h :: _ => if fw h 47 2 = k ∧ s.openTrig n c.trigno then t.ingDrop n else t
      | [] => t) s
    let s := s.putCtx k none
    let s : State := { s with stirrup := { s.stirrup with ctxFree := setAt s.stirrup.ctxFree k (s.c160 + 1) } }
    let s := c.expect.foldl (fun t x => t.closeIfDone c.trigno x.1) s
    if s.stirrup.ctxs.any (fun x => (x.map (fun y => y.trigno == c.trigno)).getD false) then s
    else { s with stirrup := { s.stirrup with dropped := s.stirrup.dropped.filter (fun x => x.1 ≠ c.trigno) } }

/-- `m` records of channel `g` count as arrived in context `k`, with their words; the context is released when it expects
nothing more. -/
def State.arrived (s : State) (k g m words : Nat) : State :=
  match s.stirrup.ctxs.getD k none with
  | none => s
  | some c =>
    let q := g / 64
    let c' : Ctx := { c with
      expect := SMap.set (fun _ => 0) c.expect g (SMap.get (fun _ => 0) c.expect g - m),
      out := SMap.set (fun _ => 0) c.out q (SMap.get (fun _ => 0) c.out q - words) }
    let s := (s.putCtx k (some c')).closeIfDone c.trigno g
    if c'.expect = [] then s.releaseCtx k else s

/-- A record is dropped for want of the pool (R138). -/
def State.poolDrop (s : State) (n k g words : Nat) (c : Ctx) : State :=
  let s := (s.ingDrop n).inc .STR_CNT5_POOL_DROP
  let s : State := if s.stirrup.dropped.contains (c.trigno, g) then s
    else { s with stirrup := { s.stirrup with dropped := s.stirrup.dropped ++ [(c.trigno, g)] } }
  let s := match s.stirrup.segs.find? (fun x => x.trigno == c.trigno && x.g == g) with
    | some r => s.closeSeg r true
    | none => s
  s.arrived k g 1 words

/-- The segment record of a trigger and channel as it stands, or new: GAIN_MODE is read when its first header arrives (R127, log entry 195). -/
def State.segOf (s : State) (c : Ctx) (g : Nat) : SegRec :=
  match s.stirrup.segs.find? (fun x => x.trigno == c.trigno && x.g == g) with
  | some r => r
  | none =>
    { trigno := c.trigno, g := g, src := c.src, cls := c.cls, clamp := c.clamp, a := c.a, fine := c.fine, nwin := c.nwin,
      expected := c.nwin * s.perRegion (g / 256), nrec := 0, words := [], preShort := false, ovr := false, chain := [], grans := [],
      size := 0, poison := false }

/-- Put a segment record in place of the one of its trigger and channel. -/
def State.putSeg (s : State) (r : SegRec) : State :=
  if s.stirrup.segs.any (fun x => x.trigno == r.trigno && x.g == r.g) then
    s.setSegs (s.stirrup.segs.map (fun x => if x.trigno == r.trigno && x.g == r.g then r else x))
  else s.setSegs (s.stirrup.segs ++ [r])

/-- The header of a record reaches the Stirrup (R136, R138): it is stale, or its words are reserved, or the pool is dry. Answers
whether the record goes on. A record of a die that has left JOINED, of a trigger whose context is still busy, is expected no more: it is
dropped (log entry 55). -/
def State.recordHeader (s : State) (n : Nat) (h : Word64) : State × Bool :=
  let g := 256 * (n / 4) + fw h 52 8
  let k := fw h 47 2
  match s.tagCtx (fw h 39 10) with
  | none => (((s.ingDrop n).inc .STR_CNT4_STALE_REC).raise 480, false)
  | some c =>
    if !s.joined (n / 4) then (s.ingDrop n, false)
    else
    let words := recordWords (fw h 14 9)
    -- in auto mode a high-gain record with OVR announces one more (R127)
    let more := decide (s.get .RNGD_CTRL_GAIN_MODE (n / 4) = 0) && decide (fw h 51 1 = 0) && decide (fw h 13 1 = 1)
    let c1 : Ctx := if more then
      { c with expect := SMap.set (fun _ => 0) c.expect g (SMap.get (fun _ => 0) c.expect g + 1) } else c
    let s := s.putCtx k (some c1)
    if s.stirrup.dropped.contains (c.trigno, g) then (s.poolDrop n k g words c1, false)
    else
      let r := s.segOf c1 g
      let size := r.size + words + (if r.chain = [] then 2 else 0)
      let gran := ceilDiv size 32 - r.grans.length
      let desc := ceilDiv size 256 - r.chain.length
      if s.get .STR_POOLDESC_FREE_DESC < desc ∨ s.get .STR_POOLGRAN_FREE_GRAN < gran then
        (((s.poolDrop n k g words c1)).fbEnter true, false)
      else
        let r := r.extend (freshIds s.usedDescs desc)
        let r : SegRec := { r with size := size, grans := r.grans ++ freshIds s.usedGrans gran, expected := r.expected + b2n more }
        let s := (s.put .STR_POOLDESC_FREE_DESC (s.get .STR_POOLDESC_FREE_DESC - desc)).put .STR_POOLGRAN_FREE_GRAN
          (s.get .STR_POOLGRAN_FREE_GRAN - gran)
        (s.putSeg r, true)

/-- A whole record has arrived (R137); one of whose words no mend could save makes its segment record poison (Table 12.4). -/
def State.recordDone (s : State) (n : Nat) (ws : List Word64) (bad : Bool) : State :=
  let h := ws.headD 0
  let g := 256 * (n / 4) + fw h 52 8
  match s.tagCtx (fw h 39 10) with
  | none => s
  | some c =>
    let r := s.segOf c g
    let s := s.putSeg { r with nrec := r.nrec + 1, words := r.words ++ ws, preShort := r.preShort || decide (fw h 12 1 = 1),
                               ovr := r.ovr || decide (fw h 13 1 = 1), poison := r.poison || bad }
    s.arrived (fw h 47 2) g 1 ws.length

/-- Read on in the record that is open on lane `n`, through its end word or as far as words may be popped; `k` bounds how many. -/
def State.recordRead (s : State) (n : Nat) : Nat → State
  | 0 => s
  | k + 1 =>
    if !s.ingReady n then s
    else
      match s.ingPop n with
      | (s1, none) => s1.recordRead n k
      | (s1, some x) =>
        let q := s1.ing n
        if isEnd x.w then (s1.setIng n { q with opened := [], bad := false }).recordDone n (q.opened ++ [x.w]) (q.bad || x.bad)
        else (s1.setIng n { q with opened := q.opened ++ [x.w], bad := q.bad || x.bad }).recordRead n k

/-- The record at the head of ingress queue `n` reaches the Stirrup (R136). -/
def State.recordArrive (s : State) (n : Nat) : State :=
  let s := (s.ingSettle n).passMarkers n
  if (s.ing n).opened ≠ [] then s.recordRead n 4096
  else
    match s.ingHead n with
    | some w =>
      if wType w = 2 ∧ wKind w = 0 then
        match s.ingPop n with
        | (s1, some x) =>
          match (s1.setIng n { s1.ing n with opened := [x.w], bad := x.bad }).recordHeader n x.w with
          | (s2, true) => s2.recordRead n 4096
          | (s2, false) => s2
        | (s1, none) => s1
      else s
    | none => s

/-- A refusal word (Table 05.7, R133). -/
def State.refusalArrive (s : State) (n : Nat) (w : Word64) : State :=
  let s := (s.inc .STR_CNT3_DIE_REFUSED).raise 477
  let tag := fw w 38 10
  match s.tagCtx tag with
  | none => s
  | some c =>
    let g := 256 * (n / 4) + fw w 50 8
    s.arrived (tag / 256) g (SMap.get (fun _ => 0) c.expect g) 0

/-- Records of trigger `no` and channel `g` that did not arrive, where no segment record is open that counts them (R138). -/
def State.countMissing (s : State) (no g m : Nat) : State :=
  if s.stirrup.segs.any (fun x => x.trigno == no && x.g == g) then s else s.inc .STR_CNT4_REC_MISSING 0 m

/-- A die leaves JOINED: its expected records are removed at once (R126, R138), and a record that is still arriving is dropped. -/
def State.ctxDieLeft (s : State) (f : Nat) : State :=
  let s := (List.range 4).foldl (fun t q => t.ingDrop (4 * f + q)) s
  (List.range 4).foldl (fun t k =>
    match t.stirrup.ctxs.getD k none with
    | none => t
    | some c =>
      let mine := c.expect.filter (fun x => x.1 / 256 == f)
      if mine = [] then t
      else
        let t := t.putCtx k (some { c with expect := c.expect.filter (fun x => x.1 / 256 != f) })
        let t := mine.foldl (fun u x => (u.countMissing c.trigno x.1 x.2).closeIfDone c.trigno x.1) t
        if c.expect.all (fun x => x.1 / 256 == f) then t.releaseCtx k else t) s

/-! ### Classes and the map registers (R114, R129) -/

/-- A write of STR_CLASS `k`, stored clamped (R129). -/
def State.writeClass (s : State) (k : Nat) (data : Word32) : State :=
  let pre := Fld.of .STR_CLASS_PRE data
  let win := Fld.of .STR_CLASS_WINM1 data + 1
  let post := Fld.of .STR_CLASS_POST data
  let win' := max 16 win
  let pre' := min pre (win' - 1)
  let post' := max (win' - pre' - 1) (min (1008 - pre') post)
  let s := ((s.put .STR_CLASS_PRE pre' k).put .STR_CLASS_WINM1 (win' - 1) k).put .STR_CLASS_POST post' k
  let s := (s.take .STR_CLASS_NWINM1 data k).take .STR_CLASS_ROI_MODE data k
  let changed := decide (pre' ≠ pre) || decide (win' ≠ win) || decide (post' ≠ post)
  let s := s.put .STR_STAT_CLAMP (withBit (s.get .STR_STAT_CLAMP) k changed)
  if changed then s.raise 483 else s

/-- The access pointer moves on (STR_MAPADDR.AINC). -/
def State.mapNext (s : State) : State := if s.flag .STR_MAPADDR_AINC then s.inc .STR_MAPADDR_ADDR else s

/-- The cell that STR_MAPADDR names, as STR_MAPDATA shows it. -/
def State.mapCell (s : State) : Nat := SMap.get (fun _ => 0) s.stirrup.map (s.get .STR_MAPADDR_ADDR)

/-- A write of STR_MAPDATA. -/
def State.writeMapData (s : State) (data : Word32) : State :=
  let v := Fld.of .STR_MAPDATA_VALID data * 2 ^ 15 + Fld.of .STR_MAPDATA_GCHAN data
  ({ s with stirrup := { s.stirrup with map := SMap.set (fun _ => 0) s.stirrup.map (s.get .STR_MAPADDR_ADDR) v } } : State).mapNext

/-- A read of STR_MAPDATA: the register shows the cell, and the pointer moves on. -/
def State.readMapData (s : State) : State × Nat :=
  let v := s.mapCell
  (((s.put .STR_MAPDATA_VALID (v / 2 ^ 15)).put .STR_MAPDATA_GCHAN v).mapNext, v)

/-! ### Commands -/

/-- PRIMITIVE_ENTER (R112): 128 cu after the end of its bin. -/
def execPrimitiveEnter (n : LaneNo) (w : Word64) (s : State) : Host.Outcome State Fault Refusal :=
  when' (s.working && s.joined (n.val / 4) && decide (fw w 58 6 = 0x31) &&
      decide (8 * s.nearBin (fw w 44 13) + 8 + 128 ≤ s.nowCu)) s (fun s => s.primitiveEnter n w)

/-- SIDE_WORD_ENTER (R117, R118, R272): a side word of a CI port; one that arrives after its instant is discarded. -/
def execSideWordEnter (cib : Bool) (w : Word64) (s : State) : Host.Outcome State Fault Refusal :=
  when' (s.alive && decide (s.get (portFld cib) = 2)) s (fun s =>
    let s := s.farBack cib [(true, ctlBlock 0x55 (fw w 0 48))]
    let b := s.nearBin (fw w 32 13)
    if 8 * b + 8 + 256 < s.nowCu then (s.inc .HAR_CNT2_SIDE_LATE).raise 410
    else
      let en := s.flag (if cib then .STR_NBR_CIB_EN else .STR_NBR_CIA_EN)
      if !en || bitOf (s.get .STR_STAT_NBR_LOST) (b2n cib) then s
      else
        let side := s.get (if cib then .STR_NBR_CIB_SIDE else .STR_NBR_CIA_SIDE)
        let rev := s.flag (if cib then .STR_NBR_CIB_REV else .STR_NBR_CIA_REV)
        let cells := (bitsList 32 (fw w 0 32)).map (fun j =>
          let i := 32 * fw w 45 1 + j
          if rev then 63 - i else i)
        { s with stirrup := { s.stirrup with borders := s.stirrup.borders ++ cells.map (fun i => ⟨b, cib, side, i, none⟩) } })

/-- The bin that can be evaluated now: its primitives, and with exchange on its side words, have had time to arrive (R118). -/
def State.evalBin (s : State) : Nat := (s.nowCu - 8 - (if s.exchange then 256 else 128)) / 8

/-- BIN_EVALUATE (R116). -/
def execBinEvaluate (s : State) : Host.Outcome State Fault Refusal :=
  when' (s.working && decide (264 + 8 ≤ s.nowCu) &&
      (match s.stirrup.last with | some (x, _) => decide (x < s.evalBin) | none => true)) s (fun s => s.binEvaluate s.evalBin)

/-- TRIG (R122). `alt` names the input. -/
def execTrig (alt : Bool) (tslot : BitVec 32) (toff : BitVec 16) (tfine : BitVec 7) (now : Bool) (s : State) :
    Host.Outcome State Fault Refusal :=
  let s := s.tmoEnded alt (tmiMessage
    (pack [(56, 8, 0x73), (24, 32, tslot.toNat), (8, 16, toff.toNat), (1, 7, tfine.toNat), (0, 1, b2n now)]) [])
  when' s.working s (fun s =>
    let n := unsigned 48 ((s.nowCu / 65536 : Nat) + wrapDiff 32 tslot.toNat (s.nowCu / 65536))
    let a := if now then 8 * (s.nowCu / 8) else n * 65536 + toff.toNat
    s.form 1 a tfine.toNat (if wrapDiff 64 s.nowCu (s.ruleD a) < 0 then s.ruleD a else s.nowCu))

/-- STR_FORCE (R120): a write of STR_CTRL. -/
def execStrForce (data : Word32) (s : State) : Host.Outcome State Fault Refusal := access' s.alive s (fun s => s.writeStrCtrl data)

/-- AUTO_TRIGGER (R125): a further period has passed. -/
def execAutoTrigger (s : State) : Host.Outcome State Fault Refusal :=
  when' (s.working && bitOf (s.get .STR_CTRL_SRC_EN) 3 && decide (s.stirrup.autoK < s.autoPeriods)) s (fun s =>
    let k := s.autoPeriods
    let a := 8 * ((s.autoBase.getD 0 + k * s.autoPeriod) / 8)
    ({ s with stirrup := { s.stirrup with autoK := k } } : State).form 3 a 0 (s.ruleD a))

/-- The trigger that is decided next: the earliest D, the first formed among equals. -/
def firstTrig : List Trig → Option Trig
  | [] => none
  | t :: r => match firstTrig r with
    | some u => some (if u.d < t.d then u else t)
    | none => some t

/-- TRIGGER_DECIDE (R123). -/
def execTriggerDecide (s : State) : Host.Outcome State Fault Refusal :=
  match firstTrig s.stirrup.trigs with
  | some t =>
    when' (s.working && decide (t.d ≤ s.nowCu)) s (fun s =>
      let s := ({ s with stirrup := { s.stirrup with trigs := s.stirrup.trigs.erase t } } : State).showPend
      s.decideTrig t false)
  | none => .next s

/-- The next word of return lane `f` may begin at this ROOT edge: one of its grid, FRC ≡ 0 mod 66, with no block in flight (Table 10.1) and
no PRBS31 on the lane (log entry 155). -/
def State.retFree (s : State) (f : Nat) : Bool :=
  decide (s.frc % 66 = 0) && !s.flag .HAR_TXL_CTRL_PRBS_EN f && decide (SMap.get (fun _ => 0) s.harness.retAt f ≤ s.frc)

/-- A die hears the blocks of its return lane: it is powered and the lane is aligning or LOCKED (log entry 207). -/
def State.hears (s : State) (f : Nat) : Bool := s.diePowered f && ([1, 2] : List Nat).contains (s.get .SHL_STAT_RET_STATE f)

/-- A die in far-end loopback returns a block of its return lane on its four data lanes, with the three IDLE blocks between that the time
of one return-lane block leaves (Table 10.2A); lanes that send PRBS31 do not (log entry 206). -/
def State.retEcho (s : State) (f : Nat) (ctl : Bool) (w : Word64) : State :=
  if s.get .SHL_CTRL_LOOP f = 3 && s.lanesOn f && !s.flag .SHL_CTRL_PRBS_EN f then
    [0, 1, 2, 3].foldl (fun t q =>
      [idleBlock, idleBlock, idleBlock].foldl (fun u i => u.wireBlock (64 + 4 * f + q) true i) (t.wireBlock (64 + 4 * f + q) ctl w)) s
  else s

/-- A data block goes out on return lane `f` that the die acts on `after` cu from now (R261, log entry 207). -/
def State.retHeard (s : State) (f after : Nat) (w : Word64) : State :=
  if s.hears f then
    let l := (SMap.get (fun _ => []) s.harness.retIn f).filter (fun x => decide (s.frc ≤ x.1 + 4096))
    { s with harness := { s.harness with retIn := SMap.set (fun _ => []) s.harness.retIn f (l ++ [(s.frc + after, w)]) } }
  else s

/-- A data block goes out on return lane `f`. -/
def State.retBlock (s : State) (f after : Nat) (w : Word64) : State := ((s.send (.ret f w)).retHeard f after w).retEcho f false w

/-- An IDLE block goes out on return lane `f`. -/
def State.retIdle (s : State) (f : Nat) : State := (s.wireBlock f true idleBlock).retEcho f true idleBlock

/-- A block of PRBS31 goes out on return lane `f`, at a block start of its grid: a data block to the die like any other (R257). -/
def State.retPrbs (s : State) (f : Nat) : State :=
  let w := (prbsWord (s.tx f).prbs).2
  ((s.prbsBlock f).retHeard f 90 w).retEcho f false w

/-- A block that `p` accepts has come to the edge at which die `f` acts on it (R261). -/
def State.retDue (s : State) (f : Nat) (p : Word64 → Bool) : Bool :=
  (SMap.get (fun _ => []) s.harness.retIn f).any (fun x => decide (x.1 ≤ s.frc) && p x.2)

/-- The die has acted on the first block that `p` accepts; what came before it the die has not taken (R249). -/
def State.retTaken (s : State) (f : Nat) (p : Word64 → Bool) : State :=
  { s with harness := { s.harness with
    retIn := SMap.set (fun _ => []) s.harness.retIn f (((SMap.get (fun _ => []) s.harness.retIn f).dropWhile (fun x => !p x.2)).drop 1) } }

/-- Return lane `f` is busy through `k` blocks of 66 cu. -/
def State.retTake (s : State) (f k : Nat) : State :=
  { s with harness := { s.harness with retAt := SMap.set (fun _ => 0) s.harness.retAt f (s.frc + 66 * k) } }

/-- The first window that waits for return lane `f` goes out: FRZ0 and at once FRZ1; event 430 when the die acts on FRZ1 after G_k,
66 + 56 cu after the first bit of FRZ0 (R261). -/
def State.freezeSend (s : State) (f : Nat) : State :=
  match SMap.get (fun _ => []) s.harness.frzQ f with
  | (w0, w1, _, g) :: t =>
    let s : State := { s with harness := { s.harness with frzQ := SMap.set (fun _ => []) s.harness.frzQ f t } }
    -- FRZ1 begins 66 cu from now, and the die acts on it 56 cu after
    let s := ((s.retTake f 2).retBlock f 90 w0).retBlock f 122 w1
    if g < s.frc + 122 then (s.inc .HAR_CNT6_RET_LATE).raise 430 (128 + f) else s
  | [] => s

/-- A window waits that is ready: 2 cu after D (R261). -/
def State.freezeReady (s : State) (f : Nat) : Bool :=
  match SMap.get (fun _ => []) s.harness.frzQ f with
  | (_, _, ready, _) :: _ => decide (ready ≤ s.frc)
  | [] => false

/-- FREEZE_SEND (R261): in the order of acceptance, 2 cu after D at the earliest, at a block start of the return lane. -/
def execFreezeSend (f : DieNo) (s : State) : Host.Outcome State Fault Refusal :=
  when' (s.working && s.retFree f && s.freezeReady f) s (fun s => s.freezeSend f)

/-- RECORD_ARRIVE (R136). -/
def execRecordArrive (n : LaneNo) (s : State) : Host.Outcome State Fault Refusal :=
  when' s.working s (fun s => s.recordArrive n)

/-- REFUSAL_ARRIVE (R133). -/
def execRefusalArrive (n : LaneNo) (w : Word64) (s : State) : Host.Outcome State Fault Refusal :=
  when' (s.working && decide (fw w 58 6 = 0x32)) s (fun s => s.refusalArrive n w)

/-- CTX_TIMEOUT (R126). -/
def execCtxTimeout (k : Fin 4) (s : State) : Host.Outcome State Fault Refusal :=
  match s.stirrup.ctxs.getD k none with
  | some c =>
    when' (s.working && decide (c.since + max 1 (s.get .STR_CTXTO_CTX_TIMEOUT) * 256 ≤ s.frc)) s (fun s => s.releaseCtx k)
  | none => .next s

/-- STR_CLASS_WRITE (R129). -/
def execStrClassWrite (k : Fin 4) (data : Word32) (s : State) : Host.Outcome State Fault Refusal :=
  access' s.alive s (fun s => s.writeClass k data)

/-- STR_MAPDATA_ACCESS (R114). -/
def execStrMapdataAccess (wr : Bool) (data : Word32) (s : State) : Host.Outcome State Fault Refusal :=
  access' s.alive s (fun s => if wr then s.writeMapData data else s.readMapData.1)

/-- FB_CLEAR (R140): a write of STR_CTRL. -/
def execFbClear (data : Word32) (s : State) : Host.Outcome State Fault Refusal := access' s.alive s (fun s => s.writeStrCtrl data)

/-- The side words that wait for a port. -/
def State.sides (s : State) (upb : Bool) : List (Nat × Nat) := if upb then s.harness.sidesB else s.harness.sidesA

/-- SIDE_SEND (R117, R272): the first waiting side word whose bin ended at least 136 cu ago. -/
def execSideSend (upb : Bool) (s : State) : Host.Outcome State Fault Refusal :=
  match s.sides upb with
  | x :: t =>
    when' (s.working && decide (x.1 + 136 ≤ s.nowCu)) s (fun s =>
      let s : State := { s with harness := if upb then { s.harness with sidesB := t } else { s.harness with sidesA := t } }
      if s.portSends upb then
        let n := s.harness.sideCnt.getD (b2n upb) 0 + 1
        let s : State := { s with harness := { s.harness with sideCnt := setAt s.harness.sideCnt (b2n upb) n } }
        let s := s.putPrio upb false (ctlBlock 0x55 x.2)
        if n = 1025 then s.raise 434 else s
      else s)
  | [] => .next s

end Sys2Proof.Machine
end

