-- ==== Sys2Proof/Machine/Packer.lean ====
section
/-! DEFINITION. The slot packer (06): hits into slots, markers and the closing of a slot, the gate, and the forming of own
blocks. -/

namespace Sys2Proof.Machine

/-! ### Own blocks (R147, R160 to R164) -/

/-- Whether any nibble of two epoch words differs (Table 06.7). -/
def epochsDiffer (a b : Nat) : Bool := a != b

/-- Form the own block of stream `k` of slot `o`: the next SEQ, the flags, the content as payload (R163, R164, Table 06.5). -/
def State.formBlock (s : State) (o : OpenSlot) (k : Nat) (ws : List Word64) (absent : Option Nat) (lost : Nat) : State :=
  let first := !bitOf s.packer.begun k
  let bytes := wordBytes ws
  let science := k = 0 || k = 1 || k = 7
  let b : Block :=
    { module := s.get .ID_MODULE_MODULE, stream := k, slot := o.slot, seq := s.get .SP_SEQ_NEXT_SEQ k, seqInit := first,
      mirror := false, late := false, absent := absent, poison := bitOf o.poison k, brownout := o.brown,
      epochs := if (k = 0 || k = 1) && (first || epochsDiffer o.epochs o.epochs0) then some o.epochs else none,
      kind := 0, vclass := if science then 0 else 2, lost := lost, hits := if k = 0 then ws.length else 0, ulen := bytes.length, payload := bytes,
      ccrc := if science then 0 else crc32c bytes }
  let s : State := { s with
    packer := { s.packer with begun := withBit s.packer.begun k true },
    skive := { s.skive with inbox := s.skive.inbox ++ [(b, ceilDiv s.frc 4 * 4)] } }
  s.inc .SP_SEQ_NEXT_SEQ k

/-- The group of a formed slot need not wait for stream `k` (R147). -/
def State.noBlock (s : State) (slot k : Nat) : State := s.editGroup slot (Group.noOwn k)

/-- Streams 1 to 7 of the slot that ends close at its strobe (R159, R147). In a slot for which no blocks are formed their items
are discarded (R520). `log` are the words of the stream 4 entries. -/
def State.closeServices (s : State) (o : OpenSlot) (log : List Word64) : State :=
  let s :=
    if o.formed then
      [1, 2, 3, 4, 5, 6, 7].foldl (fun t k =>
        let ws := if k = 4 then log else (t.packer.items.filter (fun x => x.1 == k)).flatMap (·.2)
        if ws = [] ∧ k ≠ 7 ∧ !bitOf (t.get .SP_CTRL_EMPTY_EN) k then t.noBlock o.slot k
        else t.formBlock o k ws (if k = 2 then
            some (65535 - maskOf ((List.range 16).filter (fun f => bitOf o.dies f && !bitOf o.gone f))) else none) 0) s
    else s.releaseHeld o.slot
  { s with packer := { s.packer with items := [] } }

/-! ### Hits into the packer (R149, R151, R158, R166) -/

/-- Change the open slot with number `n`. -/
def State.editSlot (s : State) (n : Nat) (f : OpenSlot → OpenSlot) : State :=
  { s with packer := { s.packer with slots := s.packer.slots.map (fun o => if o.slot = n then f o else o) } }

/-- A hit word of lane `n`, arrived at FRC `at_`, enters the packer for the slot `cur - 1`; `cur` is 0 before the first marker of
a die, whose words are discarded without counting (R159), and words of a slot for which no blocks are formed go with its items (R520). -/
def State.packHit (s : State) (n cur : Nat) (w : Word64) (at_ : Nat) : State :=
  if cur = 0 then s
  else
    match s.packer.slots.find? (fun o => decide (o.slot = cur - 1) && o.closed.isNone) with
    | none => if s.isUnformed (cur - 1) then s else (s.inc .SP_CNT2_LATE_WORDS).raise 451
    | some _ =>
      if fw w 19 12 < s.get .SP_CTRL_TOT_MIN ∧ fw w 11 1 = 0 ∧ fw w 17 1 = 0 then s.inc .SP_CNT0_ZS_TOT
      else s.editSlot (cur - 1) (fun o => { o with hits := o.hits ++ [⟨n, w, at_, none⟩] })

/-- The hit at the head of ingress queue `n` enters the packer; one that no mend could save poisons its slot (Table 12.4). -/
def State.packHead (s : State) (n : Nat) : State :=
  let s := (s.ingSettle n).passMarkers n
  match s.ingHead n with
  | some w =>
    if wType w = 1 ∧ (s.ing n).opened = [] then
      match s.ingPop n with
      | (t, some x) =>
        let cur := SMap.get (fun _ => 0) s.packer.laneSlot n
        let t := if x.bad && cur != 0 then t.poisonSlot (cur - 1) 0 else t
        if wType x.w = 1 then t.packHit n cur x.w (t.stampFrc x.birth) else t.ingressLoss (n / 4)
      | (t, none) => t
    else s
  | none => s

/-! ### Conversion (R168 to R171) -/

/-- The strobe that began slot `n`. -/
def State.strobeOf (s : State) (n : Nat) : Strobe :=
  (s.girth.strobes.find? (fun t => t.slot == n)).getD (s.girth.strobes.headD ⟨0, 0, 0, 0, 0⟩)

/-- Convert a hit that slot `n` carries: its item and its global time in fu. -/
def State.convert (s : State) (n : Nat) (h : PackedHit) : State × PackedHit :=
  let t := s.strobeOf n
  let a : Int := (h.at_ : Int) - t.sigma - ((s.get .HAR_SHLAT_LAT h.lane + 3) / 4 : Nat)
  let g := hitGlobal t (localOffset (fw h.w 38 16) a) (fw h.w 31 7)
  let item := hitItem (256 * (h.lane / 4) + fw h.w 54 8) n g (fw h.w 19 12) (fw h.w 18 1) (fw h.w 17 1) (fw h.w 16 1) (fw h.w 12 4)
    (fw h.w 11 1)
  (s.countSlip (g / 2 ^ 23 - n), { h with item := some (item, g) })

/-- Convert the hits of a list that are not yet converted. -/
def State.convertAll (s : State) (n : Nat) : List PackedHit → State × List PackedHit
  | [] => (s, [])
  | h :: t =>
    let p := if h.item.isSome then (s, h) else s.convert n h
    let q := p.1.convertAll n t
    (q.1, p.2 :: q.2)

/-! ### The gate (R141, R152) -/

/-- Whether a converted hit passes the gate: SLIP 0b10 always does. -/
def State.inSpan (s : State) (h : PackedHit) : Bool :=
  match h.item with
  | some (w, g) =>
    decide (fw w 5 2 = 2) || s.stirrup.spans.any (fun x => decide ((x.1 : Int) ≤ g / 128) && decide (g / 128 ≤ x.2))
  | none => true

/-- Stream 0 of slot `o` is complete: the gate, the order of R172, the block. -/
def State.finishSlot (s : State) (o : OpenSlot) (absent lost : Nat) : State :=
  let s : State := { s with packer := { s.packer with slots := s.packer.slots.filter (fun x => x.slot ≠ o.slot) } }
  if !o.formed then s
  else
    let c := s.convertAll o.slot o.hits
    let s := c.1
    let gate := s.flag .STR_CTRL_HIT_GATE && !o.fb
    let kept := if gate then c.2.filter s.inSpan else c.2
    let s := s.inc .SP_CNT0_ZS_GATE 0 (c.2.length - kept.length)
    let s : State := if gate then { s with packer := { s.packer with gated := (o.slot :: s.packer.gated).take 4 } } else s
    let items := (List.range 64).flatMap (fun n => (kept.filter (fun h => h.lane == n)).filterMap (fun h => h.item.map (·.1)))
    s.formBlock o 0 items (some absent) lost

/-! ### Closing a slot (R155 to R159) -/

/-- The closing marker of a lane. -/
def OpenSlot.marker (o : OpenSlot) (n : Nat) : Option Word64 := SMap.get (fun _ => none) o.markers n

/-- Every marker that slot `o` awaits has come (R155). -/
def OpenSlot.allMarkers (o : OpenSlot) : Bool :=
  (List.range 64).all (fun n => !bitOf o.dies (n / 4) || (o.marker n).isSome)

/-- A die of the slot lacks a closing marker. -/
def OpenSlot.late (o : OpenSlot) (f : Nat) : Bool := (List.range 4).any (fun q => (o.marker (4 * f + q)).isNone)

/-- A closing marker of the die names another slot. -/
def OpenSlot.wrongSeq (o : OpenSlot) (f : Nat) : Bool :=
  (List.range 4).any (fun q => match o.marker (4 * f + q) with
    | some w => fw w 44 16 != (o.slot + 1) % 65536
    | none => false)

/-- What the markers of a die of the slot count (R159). -/
def OpenSlot.markerLost (o : OpenSlot) (f : Nat) : Nat :=
  ((List.range 4).map (fun q => match o.marker (4 * f + q) with
    | some w => fw w 24 16 + fw w 16 8 + fw w 8 8
    | none => 0)).foldl (· + ·) 0

/-- Items lost for die `f` in the slot. -/
def OpenSlot.dieLost (o : OpenSlot) (f : Nat) : Nat := o.markerLost f + SMap.get (fun _ => 0) o.lostIn f

/-- The packer and the Stirrup take from ingress queue `l` what waits for slot `n` before it closes, the oldest word first, as far as words
may be popped (R302); `k` bounds how many items. -/
def State.drainLane (s : State) (n l : Nat) : Nat → State
  | 0 => s
  | k + 1 =>
    let s := (s.ingSettle l).passMarkers l
    if SMap.get (fun _ => 0) s.packer.laneSlot l ≤ n + 1 ∧ s.ingReady l then
      let t := if wType (s.ingWord l (s.ing l).rn) = 1 && (s.ing l).opened == [] then s.packHead l else s.recordArrive l
      if (t.ing l).rn = (s.ing l).rn then t else t.drainLane n l k
    else s

/-- All ingress queues are drained for slot `n`. -/
def State.drainSlot (s : State) (n : Nat) : State := (List.range 64).foldl (fun t l => t.drainLane n l 4096) s

/-- Stream 0 of the oldest ended slot closes (R155 to R159). -/
def State.closeSlot (s : State) (n : Nat) : State :=
  let s := s.drainSlot n
  match s.packer.slots.find? (fun o => o.slot == n) with
  | none => s
  | some o =>
    let dies := (List.range 16).filter (fun f => bitOf o.dies f)
    let s := dies.foldl (fun t f =>
      let t := if o.late f then (t.inc .SP_CNT1_MARKER_LATE).raise 448 else t
      if o.wrongSeq f then (t.inc .SP_CNT1_MARKER_SEQ).raise 449 else t) s
    let present := dies.filter (fun f => !bitOf o.gone f && !o.late f && !o.wrongSeq f)
    let absent := 65535 - maskOf present
    let s := present.foldl (fun t f => t.inc .SP_DLOST_DLOST f (o.dieLost f)) s
    let lost := satAdd 16 ((present.map o.dieLost).foldl (· + ·) 0) 0
    let s := s.put .SP_STAT_ABSENT_LAST absent
    let s := if o.formed && decide (0 < lost) then s.raise 450 else s
    let s : State := { s with skive := { s.skive with
      closed := if o.formed then s.skive.closed ++ [(n, s.frc)] else s.skive.closed } }
    let o := { o with hits := o.hits.filter (fun h => present.contains (h.lane / 4)), closed := some (absent, lost) }
    let s := s.editSlot n (fun _ => o)
    let gateAt := (o.ended.getD 0) + s.get .SP_WAIT_GATE_WAIT
    if s.flag .STR_CTRL_HIT_GATE && !o.fb && decide (s.frc < gateAt) then s else s.finishSlot o absent lost

/-- The oldest slot that has ended and is not closed. -/
def State.nextClose (s : State) : Option OpenSlot := s.packer.slots.find? (fun o => o.ended.isSome && o.closed.isNone)

/-- A slot marker of lane `n` that entered the crossing buffer at FRC `at_` enters its ingress queue: it closes the oldest ended slot on its
lane, and brings the epoch of its die for the slot that runs (R153, R155, R164). -/
def State.markerArrive (s : State) (n : Nat) (w : Word64) (at_ : Nat) : State :=
  let f := n / 4
  let s := s.ingPush n w at_
  let e := fw w 40 4
  let nib (x : Nat) : Nat := x - fieldOf x (4 * f) 4 * 2 ^ (4 * f) + e * 2 ^ (4 * f)
  let s : State := { s with packer := { s.packer with
    reported := nib s.packer.reported,
    slots := s.packer.slots.map (fun o => if o.ended.isNone then { o with epochs := nib o.epochs } else o) } }
  match s.nextClose with
  | none => s
  | some o =>
    let s := if (o.marker n).isSome then s
      else s.editSlot o.slot (fun x => { x with markers := SMap.set (fun _ => none) x.markers n (some w) })
    match s.nextClose with
    | some o => if o.allMarkers then s.closeSlot o.slot else s
    | none => s

/-! ### Commands -/

/-- A word may come out of the crossing buffer of lane `n` at this C160 edge: it entered `cross` cu ago, behind the word before it, and its write
pointer has crossed (R289, R303). -/
def State.crossFits (s : State) (n cross : Nat) : Bool :=
  let q := s.ing n
  decide (s.frc % 16 = 0) && decide (1 ≤ cross) && decide (cross ≤ 48) && decide (cross ≤ s.frc) &&
    (decide (q.xw = 0) || decide (q.xAt + 16 ≤ s.frc - cross))

/-- A word of the data path comes off lane `n`, `cross` cu after it entered the crossing buffer (R295): into the ingress queue. -/
def State.dataWord (s : State) (n : Nat) (w : Word64) (flip cross : Nat) : State :=
  match s.crossIn n (s.frc - cross) w flip with
  | (t, true) => if wType w = 0 then t.markerArrive n w (s.frc - cross) else t.ingPush n w (s.frc - cross)
  | (t, false) => t

/-- MARKER_ARRIVE (R155): at the C160 edge at which the marker comes out of the crossing buffer (log entry 204). -/
def execMarkerArrive (n : LaneNo) (w : Word64) (s : State) (cross : Nat := 32) : Host.Outcome State Fault Refusal :=
  when' (s.working && decide (wType w = 0) && s.diePowered (n.val / 4) && s.crossFits n cross) s (fun s => s.dataWord n w 0 cross)

/-- INGRESS_PUSH (R296): `flip` is the upset of the tag in the crossing buffer, which its reader finds (R295). Control and
status words do not enter the queue; a marker that does is taken as MARKER_ARRIVE says. -/
def execIngressPush (n : LaneNo) (w : Word64) (flip : Fin 4) (s : State) (cross : Nat := 32) : Host.Outcome State Fault Refusal :=
  when' (s.alive && wType w != 3 && s.crossFits n cross) s (fun s => s.dataWord n w flip cross)

/-- MARKER_WAIT_EXPIRE (R155): the C160 edge that comes MARKER_WAIT cu after the strobe that ended the oldest slot still open. -/
def execMarkerWaitExpire (s : State) : Host.Outcome State Fault Refusal :=
  match s.nextClose with
  | some o => when' (s.working && decide (s.frc % 16 = 0) && decide (o.ended.getD 0 + s.get .SP_WAIT_MARKER_WAIT ≤ s.frc)) s (fun s => s.closeSlot o.slot)
  | none => .next s

/-- HIT_GATE_EVAL (R152): GATE_WAIT cu after the strobe that ended the oldest closed slot that waits for its gate. -/
def execHitGateEval (s : State) : Host.Outcome State Fault Refusal :=
  match s.packer.slots.find? (fun o => o.closed.isSome) with
  | some o =>
    when' (s.working && decide (o.ended.getD 0 + s.get .SP_WAIT_GATE_WAIT ≤ s.frc)) s (fun s =>
      s.finishSlot o ((o.closed.getD (0, 0)).1) ((o.closed.getD (0, 0)).2))
  | none => .next s

/-- SLOT_PACK_HIT (R149). -/
def execSlotPackHit (n : LaneNo) (s : State) : Host.Outcome State Fault Refusal := when' s.working s (fun s => s.packHead n)

/-- HIT_CONVERT (R170): the oldest hit of the lane that the packer holds unconverted. -/
def execHitConvert (n : LaneNo) (s : State) : Host.Outcome State Fault Refusal :=
  match s.packer.slots.find? (fun o => o.hits.any (fun h => h.lane == n.val && h.item.isNone)) with
  | some o =>
    when' s.working s (fun s =>
      match o.hits.findIdx? (fun h => h.lane == n.val && h.item.isNone) with
      | some i =>
        let p := s.convert o.slot (o.hits.getD i ⟨n, 0, 0, none⟩)
        p.1.editSlot o.slot (fun x => { x with hits := setAt x.hits i p.2 })
      | none => s)
  | none => .next s

end Sys2Proof.Machine
end

