-- ==== Sys2Proof/Machine/Tree.lean ====
section
/-! DEFINITION. The Tree (12): its regions and what they hold, what a fault in them does, the scrubber, spare rows, the order of
accesses. -/

namespace Sys2Proof.Machine

/-- The regions of the Tree (Table 01.7). -/
inductive Region where
  | segment | window | queues | history | map
  deriving DecidableEq, Repr

/-- The region of block `i`. -/
def regionOf (i : Nat) : Region :=
  if i < 0x01000000 / 8 then .segment
  else if i < 0x01A80000 / 8 then .window
  else if i < 0x01F40000 / 8 then .queues
  else if i < mapStart then .history
  else .map

/-- The engine whose history, or whose verifier's history, block `i` holds: 16 KiB each (Table 01.7; log entry 158). -/
def historyEngine (i : Nat) : Nat := (i - 0x01F40000 / 8) / 2048

/-- The record that is open in a granule, or the stream 1 block that has taken it, is sent with POISON. -/
def State.poisonGranule (s : State) (n : Nat) : State :=
  let segs := s.stirrup.segs.map (fun r => if r.grans.contains n then { r with poison := true } else r)
  let s : State := { s with stirrup := { s.stirrup with segs := segs } }
  (s.stirrup.held.filter (fun h => h.grans.contains n)).foldl (fun t h => t.poisonSlot h.slot 1) s

/-- The segment record whose chain holds a descriptor, or the stream 1 block that has taken it, is sent with POISON. -/
def State.poisonDesc (s : State) (n : Nat) : State :=
  let segs := s.stirrup.segs.map (fun r => if r.chain.any (fun d => d.id == n) then { r with poison := true } else r)
  let s : State := { s with stirrup := { s.stirrup with segs := segs } }
  (s.stirrup.held.filter (fun h => h.descs.contains n)).foldl (fun t h => t.poisonSlot h.slot 1) s

/-- The oldest part that engine `e` has started, and whose verification has not ended, fails it (Table 12.4, R207; log entry 158). -/
def State.historyBad (s : State) (e : Nat) : State :=
  match s.skive.parts.findIdx? (fun p => p.engine == e && decide (p.start ≤ s.frc)) with
  | some k => { s with skive := { s.skive with parts := s.skive.parts.modify k (fun p => { p with hist := true }) } }
  | none => s

/-- What the requester of uncorrectable block `i` does (Table 12.4). -/
def State.carryFault (s : State) (i : Nat) (u : TreeUse) : State :=
  match regionOf i, u with
  | .segment, .place => s.poisonGranule (i / 32)
  | .history, .place => s.historyBad (historyEngine i)
  | .queues, .item n k => s.poisonSlot n.toNat k
  | .queues, .segment n => s.poisonDesc n
  | .window, .own n k => s.poisonSlot n.toNat k
  | .queues, .own n k => s.poisonSlot n.toNat k
  | .window, .forwarded m k n => s.poisonForwarded m.toNat k.toNat n.toNat
  | .queues, .forwarded m k n => s.poisonForwarded m.toNat k.toNat n.toNat
  | .queues, .dedup key => { s with stitch := { s.stitch with dedup := SMap.set (fun _ => none) s.stitch.dedup key none } }
  | _, _ => s

/-- Some own block of stream `k` of slot `n` has not been sent. -/
def State.ownHeld (s : State) (n k : Nat) : Bool :=
  s.skive.inbox.any (fun x => x.1.is n k) || s.skive.blocks.any (fun x => x.blk.is n k) || s.skive.stored.any (fun x => x.1.is n k) ||
    s.stitch.groups.any (fun g => g.own.any (fun b => b.is n k)) ||
    (s.harness.outA ++ s.harness.outB).any (fun x => x.carries true (s.get .ID_MODULE_MODULE) k n)

/-- A forwarded block of that module, stream and slot has not been sent. -/
def State.forwardedHeld (s : State) (m k n : Nat) : Bool :=
  s.stitch.groups.any (fun g => (g.cia ++ g.cib).any (fun x => hdrModule x.2 == m && hdrStream x.2 == k && hdrSlot x.2 == n)) ||
    s.stitch.late.any (fun x => hdrModule x.2.2 == m && hdrStream x.2.2 == k && hdrSlot x.2.2 == n) ||
    (s.harness.outA ++ s.harness.outB).any (fun x => x.carries false m k n)

/-- A row of an ingress queue is in use: it lies between the queue's read and write pointers (Table 12.4, Table 11.1). -/
def State.ingUsed (s : State) (i : Nat) : Bool :=
  let n := (i - 0x01A80000 / 8) / 4096
  let q := s.ing n
  decide ((i % 4096 + 4096 - q.rn % 4096) % 4096 < q.depth)

/-- A block of the template store is in use: it holds a pair. -/
def State.templUsed (s : State) (i : Nat) : Bool :=
  let k := i - 0x01E30000 / 8
  decide (k % 8192 < s.templSize (k / 8192))

/-- Block `i`, said to hold `u`, is in use (Table 12.4). -/
def State.inUse (s : State) (i : Nat) (u : TreeUse) : Bool :=
  if ingBlock 0 0 ≤ i ∧ i < ingBlock 64 0 then s.ingUsed i
  else if templBlock 0 0 ≤ i ∧ i < templBlock 17 0 then s.templUsed i
  else
  match regionOf i, u with
  | .queues, .segment n => s.usedDescs.contains n
  | .segment, _ => s.usedGrans.contains (i / 32)
  | .history, _ => true
  | .map, _ => true
  | .queues, .item n _ => s.packer.slots.any (fun o => o.slot == n.toNat)
  | .queues, .dedup _ => true
  | _, .own n k => s.ownHeld n.toNat k
  | _, .forwarded m k n => s.forwardedHeld m.toNat k.toNat n.toNat
  | _, _ => false

/-- A requester reads block `i`, which holds `u` (R315). -/
def State.treeRead (s : State) (i : Nat) (u : TreeUse) : State :=
  let p := s.treeFetch i
  if p.2 && decide (i < mapStart) then p.1.carryFault i u else p.1

/-! ### The scrubber (R319, R320) -/

/-- What a visit does with block `i`. -/
def State.scrubBlock (s : State) (i : Nat) (inUse waiting : Bool) : State :=
  let s := s.checkMap i true
  let b := s.block i
  let bad (t : State) : State :=
    if waiting then t
    else if mapStart ≤ i then t.mapLost i
    else if inUse then (((t.poisonBlock i).inc .TRE_CNT2_POISONED).treeLog 1 i).raise 486 (8 * i)
    else ((((t.setBlock i (treeDefault i)).setStale i true).inc .TRE_CNT2_REINIT).treeLog 2 i).raise 487 (8 * i)
  if s.stale i then
    if b.rowFails ≠ [] then bad (s.inc .TRE_CNT3_STALE_UNCORR)
    else if b.c = 0 ∧ b.q = true then s
    else ((s.setBlock i (TBlock.full b.data)).setStale i false).inc .TRE_CNT3_STALE_FIXED
  else
    match b.classify with
    | .clean => s
    | .mend b' => ((s.setBlock i b').inc .TRE_CNT0_CORR_SCRUB).rowCorrected i
    | .poison => if inUse && decide (i < mapStart) then s else bad s
    | .uncorrectable => bad s

/-- The pass that ends took longer than the period of TRE_CTRL allows. -/
def State.scrubLate (s : State) : Bool := decide (2816000000 * s.get .TRE_CTRL_SCRUB_PERIOD < s.frc - s.tree.passAt)

/-- The end of a pass (R319, R326). -/
def State.scrubPass (s : State) : State :=
  let s := s.inc .TRE_CNT5_PASSES
  let late := s.scrubLate
  let s : State := { s with tree := { s.tree with passAt := s.frc } }
  let s := if late then s.raise 493 else s
  if s.tree.passSlot = some s.girth.slot then s
  else ({ s with tree := { s.tree with passSlot := some s.girth.slot } } : State).raise 492

/-- One visit, of a block that is said to hold `u`. -/
def State.scrub (s : State) (u : TreeUse) (waiting : Bool) : State :=
  let i := s.get .TRE_SCRUB_POS
  let s : State := { s with tree := { s.tree with visitAt := s.frc } }
  let s := (s.scrubBlock i (s.inUse i u) waiting).inc .TRE_SCRUB_POS
  if s.get .TRE_SCRUB_POS = 0 then s.scrubPass else s

/-! ### Spare rows (R321 to R323) -/

/-- Spares of macro `m` used by the fuse map. -/
def State.fused (s : State) (m : Nat) : Nat := (s.supervisor.fuses.filter (fun x => x.1 == m)).length

/-- Spares of macro `m` used by soft repairs. -/
def State.soft (s : State) (m : Nat) : Nat := SMap.get (fun _ => 0) s.tree.soft m

/-- Copy a row into a spare: correctable blocks are copied corrected. -/
def State.copyRow (s : State) (m r : Nat) : State :=
  (List.range 16).foldl (fun t k =>
    let i := m * 32768 + r * 16 + k
    if t.stale i then t
    else match (t.block i).classify with
      | .mend b => t.setBlock i b
      | _ => t) s

/-- The copy is complete: the row uses its spare. -/
def State.copyDone (s : State) (m r : Nat) : State :=
  let s := s.copyRow m r
  let s : State := { s with tree := { s.tree with copy := none, soft := SMap.set (fun _ => 0) s.tree.soft m (s.soft m + 1) } }
  ((s.putB .TRE_REPAIR_BUSY false).inc .TRE_CNT5_REPAIRS).raise 489

/-- A repair begins, or is refused for want of a spare. -/
def State.repairStart (s : State) (m r : Nat) : State :=
  if 4 ≤ s.fused m + s.soft m then (s.putB .TRE_REPAIR_REFUSED true).raise 490
  else
    ({ s with tree := { s.tree with copy := some (m, r, s.frc) } } : State).putB .TRE_REPAIR_BUSY true

/-- The repairs that wait for the one that ran (log entry 159): the next one that is not refused begins. -/
def State.nextRepair : List (Nat × Nat) → State → State
  | [], s => { s with tree := { s.tree with todo := [] } }
  | x :: t, s =>
    let s := s.repairStart x.1 x.2
    if s.tree.copy.isSome then { s with tree := { s.tree with todo := t } } else State.nextRepair t s

/-! ### Meeting accesses (R314) -/

/-- Serve an access. -/
def State.runAcc (s : State) : TreeAcc → State
  | .read i u => s.treeRead i u
  | .full i data => s.treeWrite i data
  | .bytes i mask data => s.treeBytes i mask data

/-- The block of an access. -/
def TreeAcc.block : TreeAcc → Nat
  | .read i _ => i
  | .full i _ => i
  | .bytes i _ _ => i

/-- An access of a requester: it waits for the copy of its row (R323). -/
def State.treeAccess (s : State) (rank : Nat) (a : TreeAcc) : State :=
  let s := s.treeMark rank
  if s.copying a.block then { s with tree := { s.tree with held := s.tree.held ++ [(rank, a)] } } else s.runAcc a

/-- The accesses that waited are served, in the order of their ranks. -/
def State.runHeld (s : State) : State :=
  let l := (List.range 6).flatMap (fun r => s.tree.held.filter (fun x => x.1 == r))
  l.foldl (fun t x => t.runAcc x.2) ({ s with tree := { s.tree with held := [] } } : State)

/-- The copy of a row ends: what waited for it is served, and the next repair begins. -/
def State.repairDone (s : State) (m r : Nat) : State :=
  let s := ((s.treeMark 6).copyDone m r).runHeld
  State.nextRepair s.tree.todo s

/-- A write of TRE_REPAIR: GO while a copy runs does nothing. -/
def State.writeTreRepair (s : State) (data : Word32) : State :=
  let s := if Fld.on .TRE_REPAIR_REFUSED data then s.putB .TRE_REPAIR_REFUSED false else s
  let s := (s.take .TRE_REPAIR_MACRO data).take .TRE_REPAIR_ROW data
  if Fld.on .TRE_REPAIR_GO data && s.tree.copy.isNone then s.repairStart (s.get .TRE_REPAIR_MACRO) (s.get .TRE_REPAIR_ROW) else s

/-! ### Commands -/

/-- TREE_READ (R315): `flips` are the stored bits of the block, `mapFlips` those of the map block that covers it, which have flipped
since they were last accessed; `rank` is the requester's place in the order of R314. -/
def execTreeRead (b : Fin 4194304) (flips mapFlips : List (Fin 81)) (use : TreeUse) (s : State) (rank : Fin 6 := 0) :
    Host.Outcome State Fault Refusal :=
  when' (s.alive && s.inOrder rank) s (fun s => ((s.strike b flips).strike (staleAt b).1 mapFlips).treeAccess rank (.read b use))

/-- TREE_FULL_WRITE (R308). -/
def execTreeFullWrite (b : Fin 4194304) (data : Word64) (s : State) (rank : Fin 6 := 0) : Host.Outcome State Fault Refusal :=
  when' (s.alive && s.inOrder rank) s (fun s => s.treeAccess rank (.full b data.toNat))

/-- TREE_BYTE_WRITE (R309): no byte write goes into the stale-parity map (R28). -/
def execTreeByteWrite (b : Fin 4194304) (mask : Byte) (data : Word64) (s : State) (rank : Fin 6 := 0) :
    Host.Outcome State Fault Refusal :=
  when' (s.alive && s.inOrder rank && decide (b.val < mapStart)) s (fun s => s.treeAccess rank (.bytes b mask.toNat data.toNat))

/-- A visit is due: 99 % of the spacing that gives a pass of SCRUB_PERIOD seconds has passed since the last (R319). -/
def State.visitDue (s : State) : Bool :=
  decide (99 * 2560000000 * s.get .TRE_CTRL_SCRUB_PERIOD ≤ 100 * 4194304 * (s.frc - s.tree.visitAt))

/-- SCRUB_VISIT (R319) of the next block, which holds `use`; `waiting` when a requester waits for the block. Its rank is the last of
R314. -/
def execScrubVisit (flips mapFlips : List (Fin 81)) (use : TreeUse) (waiting : Bool) (s : State) : Host.Outcome State Fault Refusal :=
  let i := s.get .TRE_SCRUB_POS
  when' (s.alive && decide (s.get .TRE_CTRL_SCRUB_PERIOD ≠ 0) && s.visitDue && !s.copying i) s (fun s =>
    (((s.treeMark 7).strike i flips).strike (staleAt i).1 mapFlips).scrub use waiting)

/-- TREE_REPAIR (R323): a write of TRE_REPAIR. -/
def execTreeRepair (data : Word32) (s : State) : Host.Outcome State Fault Refusal := access' s.alive s (fun s => s.writeTreRepair data)

end Sys2Proof.Machine
end

