-- ==== Sys2Proof/Machine/Skive.lean ====
section
/-! DEFINITION. The Skive (08): pre-coding, parts and engines, verification, stored forms, inspection. -/

namespace Sys2Proof.Machine

/-! ### Pre-coding of stream 0 (R193 to R196) -/

/-- A word with one field replaced. -/
def setFw (w : Word64) (lo n v : Nat) : Word64 :=
  BitVec.ofNat 64 (w.toNat - fieldOf w.toNat lo n * 2 ^ lo + v % 2 ^ n * 2 ^ lo)

/-- FINE with its low 7 - m bits cleared (R194). -/
def fineKept (m fine : Nat) : Nat := if m < 7 then fine / 2 ^ (7 - m) * 2 ^ (7 - m) else fine

/-- The logarithmic TOT code (Table 08.2). -/
def totCode (t : Nat) : Nat :=
  if t < 64 then t
  else if t < 128 then 64 + (t - 64) / 2
  else if t < 256 then 96 + (t - 128) / 4
  else if t < 512 then 128 + (t - 256) / 8
  else if t < 1024 then 160 + (t - 512) / 16
  else if t < 2048 then 192 + (t - 1024) / 32
  else if t < 4095 then 224 + (t - 2048) / 64
  else 256

/-- The zigzag code of a signed number (R196). -/
def zigzag (d : Int) : Nat := if 0 ≤ d then (2 * d).toNat else (-2 * d - 1).toNat

/-- The losses of stream 0 on one hit item. -/
def lossHit (m : Nat) (totLog : Bool) (w : Word64) : Word64 :=
  let w := setFw w 27 7 (fineKept m (fw w 27 7))
  if totLog then setFw w 15 12 (totCode (fw w 15 12)) else w

/-- Difference coding of the times of hit items (R196); `prev` is the T of the item before. -/
def diffHits : Nat → List Word64 → List Word64
  | _, [] => []
  | prev, w :: t =>
    let x := fw w 34 16 * 128 + fw w 27 7
    setFw w 27 23 (zigzag (wrapDiff 23 x prev)) :: diffHits x t

/-- The pre-coding word (Table 08.1). -/
def precodeWord (m : Nat) (totLog : Bool) : Word64 := pack [(62, 2, 3), (58, 4, 1), (55, 3, m), (54, 1, b2n totLog)]

/-- Stream 0 content pre-coded; `diff` for KIND 0b01 and 0b10. -/
def precode0 (m : Nat) (totLog diff : Bool) (ws : List Word64) : List Word64 :=
  if ws = [] then []
  else
    let hits := ws.map (lossHit m totLog)
    let body := if diff then diffHits 0 hits else hits
    if m < 7 ∨ totLog then precodeWord m totLog :: body else body

/-! ### Pre-coding of stream 1 (R107, R108, R197) -/

/-- Requantise a sample by `k` bits (R107). -/
def requant (k s : Nat) : Nat := if s = 0xFFF then 2 ^ (12 - k) - 1 else (s + 2 ^ (k - 1)) / 2 ^ k

/-- The five sample fields of a word. -/
def samplesOf (w : Word64) : List Nat := (List.range 5).map (fun i => fw w (12 * i) 12)

/-- Sample words of samples, five to a word. -/
def sampleWords : Nat → List Nat → List Word64
  | 0, _ => []
  | n + 1, l =>
    pack ((60, 4, 0xA) :: ((l.take 5).zipIdx.map (fun x => (12 * x.2, 12, x.1)))) :: sampleWords n (l.drop 5)

/-- Difference coding of samples after the first (R197). -/
def diffSamples : Nat → List Nat → List Nat
  | _, [] => []
  | prev, s :: t => zigzag (wrapDiff 12 s prev) :: diffSamples s t

/-- A die record pre-coded. -/
def precodeRecord (kHg kLg : Nat) (diff : Bool) (h : Word64) (mid : List Word64) (e : Word64) : List Word64 :=
  let k := if fw h 51 1 = 0 then kHg else kLg
  let k := if 1 ≤ k ∧ k ≤ 4 then k else 0
  let n := fw h 14 9
  let all := mid.flatMap samplesOf
  let q := (all.take n).map (fun s => if k = 0 then s else requant k s)
  let h := if k = 0 then h else setFw h 8 3 k
  let e := if k = 0 then e else setFw e 0 16 (q.foldl (· + ·) 0)
  let coded := if diff then (match q with | [] => [] | s :: t => s :: diffSamples s t) else q
  h :: (sampleWords mid.length (coded ++ all.drop n) ++ [e])

/-- Stream 1 content pre-coded: `open_` is the record being read, its words in reverse. -/
def precode1 (kHg kLg : Nat) (diff : Bool) : List Word64 → List Word64 → List Word64
  | [], open_ => open_.reverse
  | w :: t, open_ =>
    if open_ = [] then
      if fw w 60 4 = 8 then precode1 kHg kLg diff t [w] else w :: precode1 kHg kLg diff t []
    else if fw w 60 4 = 0xB then
      let ws := open_.reverse
      precodeRecord kHg kLg diff (ws.headD 0) ws.tail w ++ precode1 kHg kLg diff t []
    else precode1 kHg kLg diff t (w :: open_)

/-- The words of content bytes. -/
def contentWords (bs : List Nat) : List Word64 := bytesWords (bs.length / 8) bs

/-- The content of a block after the losses, and with `diff` the difference coding, under the settings in force (R198). -/
def State.precode (s : State) (stream : Nat) (diff : Bool) (bs : List Nat) : List Nat :=
  if stream = 0 then
    wordBytes (precode0 (s.get .SKV_LOSS_FINE_M) (s.flag .SKV_LOSS_TOT_LOG) diff (contentWords bs))
  else if stream = 1 then
    wordBytes (precode1 (s.get .SKV_LOSS_REQ_K_HG) (s.get .SKV_LOSS_REQ_K_LG) diff (contentWords bs) [])
  else bs

/-! ### Engines (R191, R200, R201, R210) -/

/-- Engine `e` is in service. -/
def State.inService (s : State) (e : Nat) : Bool := bitOf (s.get .SKV_CTRL_ENG_EN) e && !bitOf (s.get .SKV_STAT_ENG_OUT) e

/-- The engines in service, counted from the rotation pointer. -/
def State.engines (s : State) : List Nat :=
  ((List.range 16).map (fun i => (s.skive.e0 + i) % 16)).filter s.inService

/-- MODE of a stream; 0b11 acts as 0b10. -/
def State.skvMode (s : State) (k : Nat) : Nat := min 2 (fieldOf (s.get .SKV_MODE_MODE) (2 * k) 2)

/-- Add to a 64-bit counter shown in two registers. -/
def State.inc64 (s : State) (lo hi : Fld) (n : Nat) : State :=
  let v := s.get lo + s.get hi * 2 ^ 32 + n
  (s.put lo v).put hi (v / 2 ^ 32)

/-! ### Leaving (R206 to R209, R214) -/

/-- A block leaves the Skive: its descriptors return, and it goes to the merge window (R137, R214). -/
def State.leaveSkive (s : State) (b : Block) : State :=
  let s := s.inc64 .SKV_OUT_LO_OUT_LO .SKV_OUT_HI_OUT_HI b.payload.length
  let s := if b.stream = 1 then s.releaseHeld b.slot else s
  s.placeOwn b

/-- Take `n` bytes of a block that enters at `t` through the stored path: the FRC at which they leave (R210). -/
def State.storedAt (s : State) (t n : Nat) : Nat :=
  let free := (s.skive.stored.map (·.2)).foldl max t
  free + 4 * ceilDiv n 64

/-- A block whose parts are all verified leaves compressed, stored whole, or stored after a failure. -/
def State.finishBlock (s : State) (k : SkBlock) : State :=
  let s : State := { s with skive := { s.skive with
    blocks := s.skive.blocks.filter (fun x => !(x.blk.slot == k.blk.slot && x.blk.stream == k.blk.stream)) } }
  let payload := (List.range k.parts).flatMap (fun i => ((k.out.find? (fun x => x.1 == i)).map (·.2)).getD [])
  if k.failed then
    let s := ((s.inc .SKV_VFAIL_VERIFY_FAIL).put .SKV_VFAIL_LAST_STREAM k.blk.stream).raise 452
    s.leaveSkive (if k.blk.vclass = 0 then { k.blk with vclass := 1 } else k.blk)
  else if k.blk.ulen ≤ payload.length then (s.inc .SKV_CNT0_STORED_WHOLE).leaveSkive k.blk
  else s.leaveSkive { k.blk with kind := k.kind, payload := payload }

/-! ### Entering (R189 to R201) -/

/-- The first word of part `p` of `n` in a block of `w` words. -/
def partStart (p n w : Nat) : Nat := p * w / n

/-- Give part `p` of a block that enters at `t` to an engine: when it starts and when its verifier finishes (R214). -/
def State.assign (s : State) (t : Nat) (b : Block) (bytes : List Nat) (dyn : Bool) (n p e : Nat) : State :=
  let w := bytes.length / 8
  let lo := partStart p n w
  let words := partStart (p + 1) n w - lo
  let start := max t (s.skive.freeAt.getD e 0)
  let free := start + 4 * (words + 48)
  let part : Part :=
    { engine := e, slot := b.slot, stream := b.stream, index := p, last := p + 1 = n, dynamic := dyn,
      bytes := (bytes.drop (8 * lo)).take (8 * words), start := start, done := free + 256,
      chain := s.get .SKV_CTRL_CHAIN, limit := s.get .SKV_CTRL_VFAIL_LIMIT, since := s.skive.returned.getD e 0, hist := false }
  { s with skive := { s.skive with parts := s.skive.parts ++ [part], freeAt := setAt s.skive.freeAt e free } }

/-- A block whose parts are with the engines; `e` has its last part, and the rotation goes on after it (R201). -/
def State.addBlock (s : State) (blk : SkBlock) (e : Nat) : State :=
  { s with skive := { s.skive with blocks := s.skive.blocks ++ [blk], e0 := (e + 1) % 16 } }

/-- The block at the front of the inbox enters at the C640 edge `t` (R189, R190). -/
def State.enterSkive (s : State) (b : Block) (t : Nat) : State :=
  if b.payload = [] then s.leaveSkive b
  else
    let s := s.inc64 .SKV_IN_LO_IN_LO .SKV_IN_HI_IN_HI b.payload.length
    let content := b.payload
    let plain := s.precode b.stream false content
    let b := { b with ulen := plain.length, payload := plain, ccrc := if b.vclass = 2 then crc32c content else 0 }
    let es := s.engines
    let mode := s.skvMode b.stream
    if mode = 0 ∨ es = [] then
      { s with skive := { s.skive with stored := s.skive.stored ++ [(b, s.storedAt t b.ulen)] } }
    else
      let coded := s.precode b.stream true content
      let w := plain.length / 8
      let n := min es.length (max 1 (ceilDiv w 512))
      let s := (List.range n).foldl (fun u p => u.assign t b coded (mode = 2) n p (es.getD p 0)) s
      let blk : SkBlock := { blk := b, kind := mode, parts := n, out := [], failed := false }
      s.addBlock blk (es.getD (n - 1) 0)

/-! ### Verification (R204, R207 to R210) -/

/-- The last verifications of stream `k` on engine `e`. -/
def State.skvStats (s : State) (e k : Nat) : List Stats := SMap.get (fun _ => []) s.skive.stats (16 * e + k)

/-- The symbol counts that a part uses which starts at `t` on an engine that last returned to service at `since` (R204, R210): those of
the last verification that had ended, of a part that began after the return. -/
def statsAt (l : List Stats) (t since : Nat) : Option (List Nat × List Nat) :=
  (l.find? (fun x => decide (x.at_ ≤ t) && decide (since ≤ x.start))).bind (·.counts)

/-- The symbol counts that a part uses. -/
def State.partStats (s : State) (p : Part) : Option (List Nat × List Nat) :=
  if p.dynamic then statsAt (s.skvStats p.engine p.stream) p.start p.since else none

/-- Engine `e` returns to service with no statistics: no part that it starts from now on uses those of one that began before (R210). -/
def State.engineReturns (s : State) (e : Nat) : State :=
  { s with skive := { s.skive with
    returned := setAt s.skive.returned e s.frc,
    parts := s.skive.parts.map (fun p => if p.engine = e ∧ s.frc ≤ p.start then { p with since := s.frc } else p) } }

/-- An engine's verification ended: count its consecutive failures, and retire it at the limit latched for the block (R190, R210). -/
def State.judgeEngine (s : State) (e lim : Nat) (bad : Bool) : State :=
  let n := if bad then s.skive.fails.getD e 0 + 1 else 0
  let s : State := { s with skive := { s.skive with fails := setAt s.skive.fails e n } }
  if lim ≠ 0 ∧ lim ≤ n ∧ !bitOf (s.get .SKV_STAT_ENG_OUT) e then
    (s.put .SKV_STAT_ENG_OUT (withBit (s.get .SKV_STAT_ENG_OUT) e true)).raise (456 + e)
  else s

/-- Change one byte of a list. -/
def flipByte (l : List Nat) (f : Option (Nat × Byte)) : List Nat :=
  match f with
  | some (i, m) => l.modify i (fun x => (x ^^^ m.toNat) % 256)
  | none => l

/-- Of an engine's verified parts, newest first, those that a part may still ask for: the ones verified after `t`, and the last one verified by
then (R204). -/
def keepStats (t : Nat) : List Stats → List Stats
  | [] => []
  | x :: r => if x.at_ ≤ t then [x] else x :: keepStats t r

/-- The earliest start of a part of a stream that engine `e` holds; now, when it holds none. -/
def State.firstStart (s : State) (e k : Nat) : Nat :=
  (s.skive.parts.filter (fun p => p.engine == e && p.stream == k)).foldl (fun t p => min t p.start) s.frc

/-- The verifier of engine `e` finishes its oldest part: `tokens` and `lens` are what the engine chose for it, `flip` an upset in
its output. -/
def State.verifyPart (s : State) (p : Part) (tokens lens : List (Nat × Nat)) (flip : Option (Nat × Byte)) : State :=
  let e := p.engine
  let enc := encodePart (s.partStats p) lens tokens p.bytes p.last
  let out := flipByte enc.1 flip
  let r := inflate true false p.bytes.length out
  let bad := decide (r.2.1 ≠ 0) || decide (r.1 ≠ p.bytes) || p.hist
  let s := if enc.2 then s.inc .SKV_CNT0_STORED_PART else s
  let rec_ : Stats := ⟨p.done, p.start, if bad then none else some (tokenCounts tokens)⟩
  let s : State := { s with skive := { s.skive with
    parts := s.skive.parts.erase p,
    stats := SMap.set (fun _ => []) s.skive.stats (16 * e + p.stream)
      (keepStats (({ s with skive := { s.skive with parts := s.skive.parts.erase p } } : State).firstStart e p.stream)
        (rec_ :: s.skvStats e p.stream)) } }
  let s := s.judgeEngine e p.limit bad
  let s := if bad then (s.put .SKV_VFAIL_LAST_ENG e).put .SKV_VFAIL_LAST_FAULT r.2.1 else s
  match s.skive.blocks.find? (fun x => x.blk.slot == p.slot && x.blk.stream == p.stream) with
  | none => s
  | some k =>
    let k := { k with out := k.out ++ [(p.index, out)], failed := k.failed || bad }
    if k.out.length = k.parts then s.finishBlock k
    else { s with skive := { s.skive with
      blocks := s.skive.blocks.map (fun x => if x.blk.slot == p.slot && x.blk.stream == p.stream then k else x) } }

/-! ### Registers -/

/-- A write of SKV_CTRL: engines whose ENG_EN bit rises return with no statistics (R210). -/
def State.writeSkvCtrl (s : State) (data : Word32) : State :=
  let old := s.get .SKV_CTRL_ENG_EN
  let s := ((s.take .SKV_CTRL_ENG_EN data).take .SKV_CTRL_VFAIL_LIMIT data).take .SKV_CTRL_CHAIN data
  (List.range 16).foldl (fun t e =>
    if bitOf (t.get .SKV_CTRL_ENG_EN) e && !bitOf old e then t.engineReturns e else t) s

/-- A write of SKV_STAT: a 1 in ENG_OUT returns a retired engine with no statistics (R210). -/
def State.writeSkvStat (s : State) (data : Word32) : State :=
  (List.range 16).foldl (fun t e =>
    if bitOf (Fld.of .SKV_STAT_ENG_OUT data) e && bitOf (s.get .SKV_STAT_ENG_OUT) e then
      let t := (t.put .SKV_STAT_ENG_OUT (withBit (t.get .SKV_STAT_ENG_OUT) e false)).engineReturns e
      { t with skive := { t.skive with fails := setAt t.skive.fails e 0 } }
    else t) s

/-! ### Inspection (R213) -/

/-- A write of SKV_INSP_CTRL. -/
def State.writeInsp (s : State) (data : Word32) : State :=
  let s := if Fld.on .SKV_INSP_CTRL_DONE data then s.putB .SKV_INSP_CTRL_DONE false else s
  if Fld.on .SKV_INSP_CTRL_GO data && !s.flag .SKV_INSP_CTRL_BUSY then s.putB .SKV_INSP_CTRL_BUSY true else s

/-- Bytes of the Tree from an offset; addresses wrap at the end of the Tree. -/
def State.treeBytesAt (s : State) (off n : Nat) : List Nat :=
  (List.range n).map (fun i => let x := (off + i) % 0x2000000; (s.block (x / 8)).byte (x % 8))

/-- The inspection run ends. -/
def State.inspDone (s : State) : State :=
  let input := s.treeBytesAt (8 * s.get .SKV_INSP_SRC_SRC) (s.get .SKV_INSP_INLEN_INLEN)
  let r := inflate false false (s.get .SKV_INSP_OUTMAX_OUTMAX) input
  let s := ((s.putB .SKV_INSP_CTRL_BUSY false).putB .SKV_INSP_CTRL_DONE true).put .SKV_INSP_CTRL_FAULT r.2.1
  let s := (s.put .SKV_INSP_RES_OUTLEN r.1.length).put .SKV_INSP_OCRC_OCRC (crc32c r.1)
  if r.2.1 = 0 then s else ((s.put .SKV_INSP_FOFF_FOFF r.2.2).inc .SKV_CNT1_INSP_FAULT).raise 454

/-! ### Commands -/

/-- BLOCK_ENTER_SKIVE (R189). -/
def execBlockEnterSkive (s : State) : Host.Outcome State Fault Refusal :=
  match s.skive.inbox with
  | (b, e) :: t => when' (s.working && decide (e ≤ s.frc)) s (fun s =>
      ({ s with skive := { s.skive with inbox := t } } : State).enterSkive b e)
  | [] => .next s

/-- PART_VERIFY_DONE (R207): `tokens` are the literals (0, byte) and matches (length, distance) that the engine's matcher found,
`lens` the code-length symbols, with their extra values, of a dynamic header, both as Table 08.4 and R204 allow them; `flip` a byte of the
engine's output that an upset changed, by exclusive or. -/
def execPartVerifyDone (e : Fin 16) (tokens lens : List (Nat × Nat)) (flip : Option (Nat × Byte)) (s : State) :
    Host.Outcome State Fault Refusal :=
  match s.skive.parts.find? (fun p => p.engine == e.val) with
  | some p => when' (s.working && decide (p.done ≤ s.frc) && tokensFit p.chain p.bytes tokens 0 false &&
      headerFits (s.partStats p) lens) s (fun s => s.verifyPart p tokens lens flip)
  | none => .next s

/-- STORED_PATH_LEAVE (R210). -/
def execStoredPathLeave (s : State) : Host.Outcome State Fault Refusal :=
  match s.skive.stored with
  | (b, t) :: r => when' (s.working && decide (t ≤ s.frc)) s (fun s =>
      ({ s with skive := { s.skive with stored := r } } : State).leaveSkive b)
  | [] => .next s

/-- Own blocks of slot `n` are still in the Skive. -/
def State.inSkive (s : State) (n : Nat) : Bool :=
  s.skive.inbox.any (fun b => b.1.slot == n) || s.skive.blocks.any (fun b => b.blk.slot == n) || s.skive.stored.any (fun b => b.1.slot == n)

/-- BACKLOG_CHECK (R215): 65,536 cu after stream 0 of the oldest such slot closed. -/
def execBacklogCheck (s : State) : Host.Outcome State Fault Refusal :=
  match s.skive.closed with
  | (n, t) :: r =>
    when' (s.working && decide (t + 65536 ≤ s.frc)) s (fun s =>
      let s : State := { s with skive := { s.skive with closed := r } }
      if s.inSkive n then (s.inc .SKV_CNT2_BACKLOG).raise 455 else s)
  | [] => .next s

/-- ENGINE_RETURN (R210): a write of SKV_STAT. -/
def execEngineReturn (data : Word32) (s : State) : Host.Outcome State Fault Refusal := access' s.alive s (fun s => s.writeSkvStat data)

/-- ENGINE_ENABLE_WRITE (R210): a write of SKV_CTRL. -/
def execEngineEnableWrite (data : Word32) (s : State) : Host.Outcome State Fault Refusal := access' s.alive s (fun s => s.writeSkvCtrl data)

/-- INSP_GO (R213): a write of SKV_INSP_CTRL. -/
def execInspGo (data : Word32) (s : State) : Host.Outcome State Fault Refusal := access' s.alive s (fun s => s.writeInsp data)

/-- INSP_DONE (R213). -/
def execInspDone (s : State) : Host.Outcome State Fault Refusal :=
  when' (s.alive && s.flag .SKV_INSP_CTRL_BUSY) s (fun s => s.inspDone)

end Sys2Proof.Machine
end

