-- ==== Sys2Proof/Machine/Pixel.lean ====
section
/-! DEFINITION. Pixel input stage and discriminators (02): anode level, thresholds and their loop, injections, overrange. -/

namespace Sys2Proof.Machine

/-! ### Channels -/

/-- Channel `g` of the module. -/
def State.chan (s : State) (g : Nat) : Chan := SMap.get chanDefault s.chans g

/-- Write channel `g`. -/
def State.setChan (s : State) (g : Nat) (c : Chan) : State := { s with chans := SMap.set chanDefault s.chans g c }

/-- The FRC of the die instant with coarse count `t`. -/
def State.frcOf (s : State) (f t : Nat) : Int := s.frc - wrapDiff 64 (s.dieCount f) t

/-- INJ_BUSY of die `f` as it stands (R55). -/
def State.injBusy (s : State) (f : Nat) : Bool :=
  s.flag .PIXD_INJ_INJ_BUSY f && (match (s.die f).injFall with | some t => decide (s.frc < t) | none => true)

/-- The Strop output of channel `g` is stale (R336), throughout an AMB interval too (R380). -/
def State.stropOff (s : State) (g : Nat) : Bool :=
  !s.flag .STP_CTRL_EN g || !s.joined (g / 256) || (s.die (g / 256)).amb.isSome

/-- Channel `g` has emitted a fresh level since its Strop was stale or suppressed last (R51, Table 01.4). -/
def State.stropFresh (s : State) (g : Nat) : Bool :=
  (s.chan g).strop.freshAt.any (fun t => decide ((s.die (g / 256)).freshFrom ≤ t))

/-- Stale or suppressed (R51, R336), until the first fresh level (Table 01.4). -/
def State.stropStale (s : State) (g : Nat) : Bool := s.stropOff g || s.flag .STP_LEVEL_SETTLING g || !s.stropFresh g

/-- The sun guard is asserted for die `f` (R50). -/
def State.dieSun (s : State) (f : Nat) : Bool := match s.dieMap f with | some b => s.guardOn b | none => false

/-- Raise event `e` of the die of channel `g`, naming the channel. -/
def State.raiseChan (s : State) (g e : Nat) : State := s.raiseDie (g / 256) e (some (g % 256))

/-! ### What the cells of the rings are marked with (R35, R56, R90) -/

/-- The cells written from this edge on carry a mark. -/
def openSpan (now : Nat) (m : CellMark) (l : List Span) : List Span := l ++ [⟨m, now, none⟩]

/-- The cells written from this edge on no longer carry a mark; what no ring can hold any more is forgotten. -/
def closeSpan (now : Nat) (m : CellMark) (l : List Span) : List Span :=
  (l.map (fun x => if x.mark = m ∧ x.until_ = none then { x with until_ := some now } else x)).filter
    (fun x => match x.until_ with | some e => decide (now < e + 2 ^ 17) | none => true)

/-- Mark the cells of channel `g` from now on, or end the mark. -/
def State.markCells (s : State) (g : Nat) (m : CellMark) (on_ : Bool) : State :=
  let c := s.chan g
  s.setChan g { c with spans := if on_ then openSpan s.frc m c.spans else closeSpan s.frc m c.spans }

/-- The cell written at FRC `t` carries a mark. -/
def Chan.marked (c : Chan) (m : CellMark) (t : Int) : Bool :=
  c.spans.any (fun x => decide (x.mark = m) && decide ((x.from_ : Int) ≤ t) &&
    (match x.until_ with | some e => decide (t < e) | none => true))

/-! ### Registers of the input stage (R61) -/

/-- A write of PIX_ANODE: a slew that runs goes on from ANODE_NOW (R37). -/
def State.writePixAnode (s : State) (g : Nat) (data : Word32) : State :=
  let c := s.chan g
  let s := if s.get .PIX_ANODE_ANODE g = s.get .PIX_ANODE_ANODE_NOW g then s.setChan g { c with anodeAt := s.frc } else s
  s.take .PIX_ANODE_ANODE data g

def State.writePixTdisc (s : State) (g : Nat) (data : Word32) : State :=
  ((s.take .PIX_TDISC_TRG_TRIM data g).take .PIX_TDISC_HYST data g).take .PIX_TDISC_TD_TRIM data g

/-- The accumulator after a request under the policy bounds (R46). -/
def State.accFor (s : State) (g : Nat) (ff req : Int) : Int :=
  let ceil : Int := s.get .PIX_TRGPOL_CEIL g
  let floor : Int := s.get .PIX_TRGPOL_FLOOR g
  if ceil < req then ceil - ff else if req < floor then floor - ff else req - ff

/-- The loop of channel `g` has been updated in the present C40 cycle. -/
def State.justUpdated (s : State) (g : Nat) : Bool := (s.chan g).updAt == some s.matrixEdge

/-- A write of PIX_TRGPOL (R49). New bounds clamp the request of a loop update of the same C40 cycle (R23, R51). -/
def State.writePixTrgpol (s : State) (g : Nat) (data : Word32) : State :=
  if Fld.PIX_TRGPOL_CEIL.of data < Fld.PIX_TRGPOL_FLOOR.of data then s.putB .PIX_TSTAT_WERR true g
  else
    let s := (s.take .PIX_TRGPOL_CEIL data g).take .PIX_TRGPOL_FLOOR data g
    let c := s.chan g
    if s.justUpdated g then s.setChan g { c with acc := s.accFor g c.ff c.req } else s

/-- MODE changes: what it was is kept for the C40 cycle (R51). -/
def State.modeChange (s : State) (g new : Nat) : State :=
  let c := s.chan g
  let old := s.get .PIX_TLOOP_MODE g
  if old = new ∨ c.modeAt.any (fun m => m.1 == s.matrixEdge) then s
  else s.setChan g { c with modeAt := some (s.matrixEdge, old) }

/-- A write of PIX_TLOOP; ACC_LOAD acts in hold mode, code 0b11 included (Table 02.12, R45). -/
def State.writePixTloop (s : State) (g : Nat) (data : Word32) : State :=
  let s := s.modeChange g (Fld.PIX_TLOOP_MODE.of data)
  let s := (((((s.take .PIX_TLOOP_BAND data g).take .PIX_TLOOP_STEP data g).take .PIX_TLOOP_FF_EN data g).take
    .PIX_TLOOP_MODE data g).take .PIX_TLOOP_FORCE data g)
  let m := Fld.PIX_TLOOP_MODE.of data
  if Fld.PIX_TLOOP_ACC_LOAD.on data && (m == 0 || m == 3) then
    let c := s.chan g
    s.setChan g { c with acc := Fld.PIX_TLOOP_FORCE.of data - c.ff }
  else s

def State.writePixTtarget (s : State) (g : Nat) (data : Word32) : State := s.take .PIX_TTARGET_TARGET data g

/-- A write of PIX_TSTAT: CLAMP_HIT and WERR clear by a 1. -/
def State.writePixTstat (s : State) (g : Nat) (data : Word32) : State :=
  let s := if Fld.PIX_TSTAT_CLAMP_HIT.on data then s.putB .PIX_TSTAT_CLAMP_HIT false g else s
  if Fld.PIX_TSTAT_WERR.on data then s.putB .PIX_TSTAT_WERR false g else s

def State.writePixInj (s : State) (g : Nat) (data : Word32) : State := s.take .PIX_INJ_INJ_Q data g

/-- A write of PIX_OVR: LONG clears by a 1. -/
def State.writePixOvr (s : State) (g : Nat) (data : Word32) : State :=
  if Fld.PIX_OVR_LONG.on data then s.putB .PIX_OVR_LONG false g else s

def State.writePixdTdbase (s : State) (f : Nat) (data : Word32) : State := s.take .PIXD_TDBASE_TD_BASE data f

def State.writePixdRcv (s : State) (f : Nat) (data : Word32) : State :=
  (s.take .PIXD_RCV_NB_LEN data f).take .PIXD_RCV_RCV_LEN data f

def State.writePixdLoop (s : State) (f : Nat) (data : Word32) : State := s.take .PIXD_LOOP_FF_COEF data f

/-- The injections of die `f` are over: INJ_BUSY falls at FRC `t` (R55). -/
def State.injEnd (s : State) (f t : Nat) : State := s.setDie f { s.die f with inj := none, injFall := some t }

/-- FRC at which the slot of die `f` that runs began. -/
def State.dieSlotAt (s : State) (f : Nat) : Int := (s.frc : Int) - s.dieOff f

/-- Arm an injection for the first slot that begins after FRC `t`. -/
def State.injArmAt (s : State) (f t : Nat) : State :=
  let s := s.putB .PIXD_INJ_INJ_BUSY true f
  s.setDie f { s.die f with inj := some ⟨t, s.get .PIXD_INJ_INJ_AT f, s.get .PIXD_INJ_INJ_GROUP f, false⟩, injFall := none }

/-- Arm an injection for the first slot that begins after this (R52). -/
def State.injArm (s : State) (f : Nat) : State := s.injArmAt f s.frc

/-- A write of PIXD_INJ (R52, R55). INJ_REP written 0 ends an injection at once that has fired in the slot of the write; one that has
not fired yet stays armed for its one firing (log entry 138). -/
def State.writePixdInj (s : State) (f : Nat) (data : Word32) : State :=
  let s := ((((s.take .PIXD_INJ_INJ_AT data f).take .PIXD_INJ_INJ_WIN data f).take .PIXD_INJ_INJ_GROUP data f).take
    .PIXD_INJ_INJ_REP data f)
  if Fld.PIXD_INJ_INJ_ARM.on data then s.injArm f
  else if Fld.PIXD_INJ_INJ_REP.on data then s
  else
    match (s.die f).inj with
    | some i => if i.fired && decide (s.dieSlotAt f ≤ i.since) then s.injEnd f s.frc else s
    | none => s

/-! ### Threshold (R45 to R51) -/

/-- The mode under which a loop update of this C40 cycle completes: the one before a change of MODE in the cycle (R51). -/
def State.loopMode (s : State) (g : Nat) : Nat :=
  match (s.chan g).modeAt with
  | some (e, old) => if e = s.matrixEdge then old else s.get .PIX_TLOOP_MODE g
  | none => s.get .PIX_TLOOP_MODE g

/-- The mode that rules the threshold in this C40 cycle: a change of MODE during a loop update acts from the next (R51). -/
def State.thrMode (s : State) (g : Nat) : Nat := if s.justUpdated g then s.loopMode g else s.get .PIX_TLOOP_MODE g

/-- The value that the policy bounds receive (Table 02.3). -/
def State.thrOffered (s : State) (g : Nat) : Int :=
  if s.thrMode g = 2 then s.get .PIX_TLOOP_FORCE g else (s.chan g).ff + (s.chan g).acc

/-- The code applied to the trigger discriminator (R47). -/
def State.thrApplied (s : State) (g : Nat) : Nat :=
  if s.dieSun (g / 256) then 0x3FF
  else
    let v := min (s.thrOffered g) (s.get .PIX_TRGPOL_CEIL g)
    (max v (s.get .PIX_TRGPOL_FLOOR g)).toNat

/-- What CLAMPED compares with the bounds (R48). -/
def State.thrAsked (s : State) (g : Nat) : Int :=
  if s.thrMode g = 2 then s.get .PIX_TLOOP_FORCE g else (s.chan g).req

/-- CLAMPED of one C40 cycle (R48). -/
def State.clampEval (s : State) (g : Nat) : State :=
  let x := s.thrAsked g
  let high := decide ((s.get .PIX_TRGPOL_CEIL g : Int) < x)
  let now := high || decide (x < s.get .PIX_TRGPOL_FLOOR g)
  let before := s.flag .PIX_TSTAT_CLAMPED g
  let s := s.putB .PIX_TSTAT_CLAMPED now g
  if now && !before then (s.putB .PIX_TSTAT_CLAMP_HIT true g).raiseChan g (if high then 13 else 12) else s

/-- THR_APPLIED of channel `g` changes: a scan of its injection group that runs is disturbed (R379). -/
def State.scanMoved (s : State) (g : Nat) : State :=
  let b := s.bur (g / 256)
  match b.shots with
  | some r =>
    if g % 4 = r.group ∧ r.stage ≠ 0 ∧ !r.moved.contains (g % 256) then
      s.setBur (g / 256) { b with shots := some { r with moved := (g % 256) :: r.moved } }
    else s
  | none => s

/-- The threshold decision of one C40 cycle (R47, R48, R50, R51). -/
def State.thresholdEval (s : State) (g : Nat) : State :=
  let stale := s.stropStale g
  let s := if s.thrApplied g = s.get .PIX_TSTAT_THR_APPLIED g then s else s.scanMoved g
  let s := ((s.putB .PIX_TSTAT_SUN (s.dieSun (g / 256)) g).putB .PIX_TSTAT_STALE stale g).put .PIX_TSTAT_THR_APPLIED (s.thrApplied g) g
  if stale then s else s.clampEval g

/-- THR_LOOP shows the request; outside its signed 11 bits the manual states no value (log entry 22). -/
def State.showLoop (s : State) (g : Nat) (req : Int) : State :=
  if -1024 ≤ req ∧ req ≤ 1023 then s.putS .PIX_TSTAT_THR_LOOP req g
  else let d := s.draw; d.2.put .PIX_TSTAT_THR_LOOP d.1 g

/-- One update of the loop at a new level (R46): follow mode only, not under the sun guard (R50), not on a stale level (R51). -/
def State.loopUpdate (s : State) (g level : Nat) : State :=
  if s.loopMode g ≠ 1 || s.dieSun (g / 256) || s.stropStale g then s
  else
    let c := s.chan g
    let target := s.get .PIX_TTARGET_TARGET g
    let band := s.get .PIX_TLOOP_BAND g
    let step : Int := max 1 (s.get .PIX_TLOOP_STEP g)
    let ff : Int := if s.flag .PIX_TLOOP_FF_EN g then (level * s.get .PIXD_LOOP_FF_COEF (g / 256) / 2 ^ 24 : Nat) else 0
    let req : Int :=
      if target + band < c.fires then ff + c.acc + step
      else if c.fires + band < target then ff + c.acc - step
      else ff + c.acc
    (s.setChan g { c with ff := ff, acc := s.accFor g ff req, req := req, fires := 0, updAt := some s.matrixEdge }).showLoop g req

/-! ### Discriminators (R39, R40); currents in steps of 0.125 µA (log entry 73) -/

/-- A threshold from its parts in steps; a sum below 0 is applied as 0 (R39). -/
def thresholdOf (base : Nat) (trim : Int) : Nat := (base + trim).toNat

/-- The threshold of the timing discriminator (Table 02.2). -/
def State.timingThr (s : State) (g : Nat) : Nat :=
  thresholdOf (32 * s.get .PIXD_TDBASE_TD_BASE (g / 256)) (4 * s.getS .PIX_TDISC_TD_TRIM g)

/-- The threshold of the trigger discriminator (Table 02.2). -/
def State.triggerThr (s : State) (g : Nat) : Nat :=
  thresholdOf (16 * s.get .PIX_TSTAT_THR_APPLIED g) (2 * s.getS .PIX_TDISC_TRG_TRIM g)

/-- The hysteresis of both discriminators: 0, 2, 4 or 8 µA (R40). -/
def State.hysteresis (s : State) (g : Nat) : Nat :=
  match s.get .PIX_TDISC_HYST g with
  | 0 => 0
  | 1 => 16
  | 2 => 32
  | _ => 64

/-- A discriminator at current `cur` that was in state `on_`: it fires above its threshold, releases below the threshold minus the
hysteresis, and keeps its state at either level and between them (R40). -/
def discNext (on_ : Bool) (cur thr hyst : Nat) : Bool :=
  if thr < cur then true else if cur + hyst < thr then false else on_

/-! ### Trigger primitives (R43, R112, R113) -/

/-- OR a mask into the primitive word of a bin that runs. -/
def primJoin (half mask : Nat) : List (Word64 × Nat) → Option (List (Word64 × Nat))
  | [] => none
  | x :: t =>
    if fw x.1 57 1 = half then some ((x.1 ||| BitVec.ofNat 64 mask, x.2) :: t)
    else (primJoin half mask t).map (x :: ·)

/-- A primitive of channel `g` in the present bin, which ends after its 8 cu (R112). -/
def State.primitive (s : State) (g : Nat) : State :=
  let f := g / 256
  let n := g / 64
  let half := g / 32 % 2
  let mask := 2 ^ (g % 32)
  let s := s.formPrims n
  let q := s.quad n
  let w := pack [(62, 2, 3), (58, 4, 1), (57, 1, half), (44, 13, s.dieOff f / 8), (0, 32, mask)]
  s.setQuad n { q with prims := (primJoin half mask q.prims).getD (q.prims ++ [(w, s.frc + 8 - s.dieOff f % 8)]) }

/-- The trigger discriminator of channel `g` fires. -/
def State.triggerFire (s : State) (g : Nat) : State :=
  let c := s.chan g
  let c := { c with lead := c.lead.map (fun l => { l with trg := true }),
                    fires := if s.stropStale g then c.fires else c.fires + 1 }
  let s := s.setChan g c
  if s.flag .PIX_CTRL_TRG_EN g && !s.flag .PIX_CTRL_MASK_TRG g && !s.dieSun (g / 256) then s.primitive g else s

/-! ### Injection (R52 to R55) -/

/-- Whether an injection of group `grp` reaches channel `g` (R53), whose injection switch EN powers (R35). -/
def State.injReaches (s : State) (g grp : Nat) : Bool :=
  s.flag .PIX_CTRL_EN g && s.flag .PIX_CTRL_INJ_EN g && g % 4 == grp && s.get .PIX_INJ_INJ_Q g != 0

/-- INJ_WIN in force (R54). -/
def State.injWin (s : State) (f : Nat) : Nat := min 64 (max 8 (s.get .PIXD_INJ_INJ_WIN f))

/-- The injection reaches channel `g` at FRC `i`: a hit captured in the window from `i` on carries CAL, one captured at this edge
included (R54). -/
def State.injectChan (s : State) (g i : Nat) : State :=
  let c := s.chan g
  let lead := c.lead.map (fun l => if i ≤ l.edge ∧ l.edge < i + s.injWin (g / 256) then { l with cal := true } else l)
  s.setChan g { c with inj := some i, lead := lead }

/-- The injection fires in the slot that runs: it forms a CAL trigger (Table 05.3) and, repeating, is armed for the next slot. -/
def State.injFire (s : State) (f : Nat) (i : Inj) : State :=
  let at_ := (s.dieSlotAt f + i.at_).toNat
  let s := (List.range 256).foldl (fun t c => if t.injReaches (256 * f + c) i.group then t.injectChan (256 * f + c) at_ else t) s
  let s := if s.flag .PIXD_INJ_INJ_REP f then s.setDie f { s.die f with inj := some { i with since := s.frc, fired := true } }
    else s.injEnd f (s.frc + 1)
  s.calTrig .STR_CALT_CAL_INJ (s.dieCount f - s.dieOff f + i.at_)

/-- The armed injection of die `f` is due: its slot began after the arming, and INJ_AT has come (R52). -/
def State.injDue (s : State) (f : Nat) (i : Inj) : Bool :=
  decide ((i.since : Int) < s.dieSlotAt f) && decide (i.at_ ≤ s.dieOff f)

/-! ### Overrange (R57, R58, R519) -/

/-- The leading edge of channel `g` that was counted at this edge leaves the histogram again: its hit carries RCV (R371). -/
def State.histBack (s : State) (g : Nat) : State :=
  let n := g / 64
  let q := s.quad n
  match q.histNew with
  | some (e, c, m) =>
    if e ≠ s.frc ∨ c ≠ g % 64 then s
    else
      let s := s.setQuad n { q with histN := q.histN - 1, histNew := none }
      let s := if 128 ≤ m then s.put .BURD_HSHORT_COUNT (s.get .BURD_HSHORT_COUNT n - 1) n
        else s.put .BURD_HIST_COUNT (s.get .BURD_HIST_COUNT (128 * n + m) - 1) (128 * n + m)
      s.put .BURD_HSEL_DONE (withBit (s.get .BURD_HSEL_DONE (g / 256)) (n % 4) false) (g / 256)
  | none => s

/-- A hit of channel `g` captured at this edge carries RCV, one that has ended at this edge too (R519). -/
def State.tagRcv (s : State) (g : Nat) : State :=
  let c := s.chan g
  let s := s.setChan g { c with lead := c.lead.map (fun l => if l.edge = s.frc then { l with rcv := true } else l) }
  let q := s.quad (g / 64)
  let s := s.setQuad (g / 64) { q with stage := q.stage.map (fun e =>
    if e.edge = s.frc ∧ e.chan = some (g % 256) then { e with word := e.word.map (fun w => w ||| pack [(18, 1, 1)]) } else e) }
  s.histBack g

/-- The neighbours of channel `g` on its die: the one that sees it on its left, and the one that sees it on its right. -/
def rightOf (g : Nat) : Option Nat := if g % 256 < 255 then some (g + 1) else none
def leftOf (g : Nat) : Option Nat := if 0 < g % 256 then some (g - 1) else none

/-- Set the window that a neighbour opens on channel `g`, on the side named; `none` cancels it. -/
def State.setNbWindow (s : State) (g : Nat) (left : Bool) (w : Option (Nat × Nat)) : State :=
  let c := s.chan g
  s.setChan g (if left then { c with nbL := w } else { c with nbR := w })

/-- Do something to both neighbours of channel `g`; the Bool says that `g` lies on the neighbour's left. -/
def State.neighbours (s : State) (g : Nat) (k : State → Nat → Bool → State) : State :=
  let s := match rightOf g with | some h => k s h true | none => s
  match leftOf g with | some h => k s h false | none => s

/-- The high-gain comparator of channel `g` becomes active or releases: its ring writes the saturation code (R56), and no window
opens. -/
def State.highOver (s : State) (g : Nat) (on_ : Bool) : State := (s.putB .PIX_OVR_OVR_HG on_ g).markCells g .highOver on_

/-- Channel `g` enters OVER (Table 02.4). -/
def State.ovrEnter (s : State) (g : Nat) : State :=
  let s := s.markCells g .lowOver true
  let rec_ := s.get .PIX_OVR_STATE g == 2
  let s := if rec_ then s.neighbours g (fun t h l => t.setNbWindow h l none) else s
  let s := s.setChan g { s.chan g with own := none, overAt := s.frc, overLong := false }
  let s := ((s.put .PIX_OVR_STATE 1 g).putB .PIX_OVR_OVR_LG true g).inc .PIX_OVR_OVR_COUNT g
  (s.tagRcv g).raiseChan g 14

/-- A window that begins now with `w` cu, joined to one that still runs. -/
def State.window (s : State) (w : Nat) (old : Option (Nat × Nat)) : Option (Nat × Nat) :=
  match old with
  | some (o, e) => if s.frc < e then some (o, max e (s.frc + w)) else some (s.frc, s.frc + w)
  | none => some (s.frc, s.frc + w)

/-- The comparator of channel `g` releases: RECOVER, and the windows open (R519). -/
def State.ovrRelease (s : State) (g : Nat) : State :=
  let f := g / 256
  let s := s.markCells g .lowOver false
  let s := (s.put .PIX_OVR_STATE 2 g).putB .PIX_OVR_OVR_LG false g
  let s := s.setChan g { s.chan g with own := some (s.frc, s.frc + s.get .PIXD_RCV_RCV_LEN f) }
  let s := if s.get .PIXD_RCV_RCV_LEN f = 0 then s else s.tagRcv g
  let nb := s.get .PIXD_RCV_NB_LEN f
  if s.flag .PIX_CTRL_NB_RCV g then
    s.neighbours g (fun t h l =>
      let t := t.setNbWindow h l (t.window nb (if l then (t.chan h).nbL else (t.chan h).nbR))
      if nb = 0 then t else t.tagRcv h)
  else s

/-- The channel is powered up: its credits are full (R73); or down: its discriminators and its comparators release, and the cells that it
writes from then on hold the empty input (R35, R91). -/
def State.chanPower (s : State) (g : Nat) (on_ : Bool) : State :=
  if on_ then (s.markCells g .empty false).put .AWL_STAT_CREDIT 128 g
  else
    let s := if s.get .PIX_OVR_STATE g = 1 then s.ovrRelease g else s
    let s := if s.flag .PIX_OVR_OVR_HG g then s.highOver g false else s
    let s := s.markCells g .empty true
    s.setChan g { s.chan g with trgOn := false }

/-- A write of PIX_CTRL. -/
def State.writePixCtrl (s : State) (g : Nat) (data : Word32) : State :=
  let s := if Fld.PIX_CTRL_EN.on data == s.flag .PIX_CTRL_EN g then s else s.chanPower g (Fld.PIX_CTRL_EN.on data)
  ((((((s.take .PIX_CTRL_EN data g).take .PIX_CTRL_TRG_EN data g).take .PIX_CTRL_MASK_HIT data g).take
    .PIX_CTRL_MASK_TRG data g).take .PIX_CTRL_NB_RCV data g).take .PIX_CTRL_INJ_EN data g)

/-- A hit of channel `g` captured at this edge lies in overrange recovery (R58, R519). -/
def State.inRecovery (s : State) (g : Nat) : Bool :=
  let c := s.chan g
  let inside (w : Option (Nat × Nat)) : Bool := match w with | some (o, e) => decide (o ≤ s.frc) && decide (s.frc < e) | none => false
  s.get .PIX_OVR_STATE g == 1 || inside c.own || inside c.nbL || inside c.nbR

/-! ### Commands -/

/-- ANODE_SLEW_STEP (R37): one code toward the target, 256 cu after the last step or the write that began the slew. -/
def execAnodeSlewStep (f : DieNo) (c : ChanNo) (s : State) : Host.Outcome State Fault Refusal :=
  let g := gchan f c
  when' (s.working && s.diePowered f && decide ((s.chan g).anodeAt + 256 ≤ s.frc)) s (fun s =>
    let now := s.get .PIX_ANODE_ANODE_NOW g
    let goal := s.get .PIX_ANODE_ANODE g
    if now = goal then s
    else (s.put .PIX_ANODE_ANODE_NOW (if now < goal then now + 1 else now - 1) g).setChan g { s.chan g with anodeAt := s.frc })

/-- TRIGGER_DISC_FIRE (R40, R43): the high-gain current is `cur`; the discriminator of a disabled channel is powered down (R35). -/
def execTriggerDiscFire (f : DieNo) (c : ChanNo) (s : State) (cur : Nat := 0) : Host.Outcome State Fault Refusal :=
  let g := gchan f c
  when' (s.working && s.diePowered f && s.flag .PIX_CTRL_EN g) s (fun s =>
    let was := (s.chan g).trgOn
    let on_ := discNext was cur (s.triggerThr g) (s.hysteresis g)
    let s := s.setChan g { s.chan g with trgOn := on_ }
    if on_ && !was then s.triggerFire g else s)

/-- THRESHOLD_EVAL (R47), once per C40 cycle of 64 cu. -/
def execThresholdEval (f : DieNo) (c : ChanNo) (s : State) : Host.Outcome State Fault Refusal :=
  when' (s.working && s.diePowered f && s.frc % 64 == 0) s (fun s => s.thresholdEval (gchan f c))

/-- PIX_TRGPOL_WRITE (R49). -/
def execPixTrgpolWrite (f : DieNo) (c : ChanNo) (data : Word32) (s : State) : Host.Outcome State Fault Refusal :=
  access' (s.working && s.diePowered f) s (fun s => s.writePixTrgpol (gchan f c) data)

/-- ACC_LOAD (R46): a write of PIX_TLOOP. -/
def execAccLoad (f : DieNo) (c : ChanNo) (data : Word32) (s : State) : Host.Outcome State Fault Refusal :=
  access' (s.working && s.diePowered f) s (fun s => s.writePixTloop (gchan f c) data)

/-- INJ_ARM (R52): a write of PIXD_INJ. -/
def execInjArm (f : DieNo) (data : Word32) (s : State) : Host.Outcome State Fault Refusal :=
  access' (s.working && s.diePowered f) s (fun s => s.writePixdInj f data)

/-- INJ_REP_CLEAR (R55): a write of PIXD_INJ. -/
def execInjRepClear (f : DieNo) (data : Word32) (s : State) : Host.Outcome State Fault Refusal :=
  access' (s.working && s.diePowered f) s (fun s => s.writePixdInj f data)

/-- OVR_ENTER (R56, R57): the comparator of the high-gain path (`high`) or of the low-gain path is seen active; those of a disabled
channel are powered down (R35). -/
def execOvrEnter (f : DieNo) (c : ChanNo) (s : State) (high : Bool := false) : Host.Outcome State Fault Refusal :=
  let g := gchan f c
  if high then
    when' (s.working && s.diePowered f && s.flag .PIX_CTRL_EN g && !s.flag .PIX_OVR_OVR_HG g) s (fun s => s.highOver g true)
  else
    when' (s.working && s.diePowered f && s.flag .PIX_CTRL_EN g && s.get .PIX_OVR_STATE g != 1) s (fun s => s.ovrEnter g)

/-- OVR_RELEASE (R56, R519): the comparator of the high-gain or of the low-gain path is seen released. -/
def execOvrRelease (f : DieNo) (c : ChanNo) (s : State) (high : Bool := false) : Host.Outcome State Fault Refusal :=
  let g := gchan f c
  if high then when' (s.working && s.diePowered f && s.flag .PIX_OVR_OVR_HG g) s (fun s => s.highOver g false)
  else when' (s.working && s.diePowered f && s.get .PIX_OVR_STATE g == 1) s (fun s => s.ovrRelease g)

/-- OVR_LONG (R57): once per entry to OVER. -/
def execOvrLong (f : DieNo) (c : ChanNo) (s : State) : Host.Outcome State Fault Refusal :=
  let g := gchan f c
  when' (s.working && s.diePowered f && s.get .PIX_OVR_STATE g == 1 && !(s.chan g).overLong &&
      decide ((s.chan g).overAt + 4095 < s.frc)) s (fun s =>
    ((s.setChan g { s.chan g with overLong := true }).putB .PIX_OVR_LONG true g).raiseChan g 15)

/-- RECOVERY_WINDOW_END (R519). -/
def execRecoveryWindowEnd (f : DieNo) (c : ChanNo) (s : State) : Host.Outcome State Fault Refusal :=
  let g := gchan f c
  match (s.chan g).own with
  | some (_, e) => when' (s.working && s.get .PIX_OVR_STATE g == 2 && decide (e ≤ s.frc)) s (fun s =>
      (s.setChan g { s.chan g with own := none }).put .PIX_OVR_STATE 0 g)
  | none => .next s

/-- NEIGHBOUR_WINDOW_END (R519): the window that channel c - 1 (`left`) or c + 1 opened on channel c. -/
def execNeighbourWindowEnd (f : DieNo) (c : ChanNo) (left : Bool) (s : State) : Host.Outcome State Fault Refusal :=
  let g := gchan f c
  match (if left then (s.chan g).nbL else (s.chan g).nbR) with
  | some (_, e) => when' (s.working && decide (e ≤ s.frc)) s (fun s => s.setNbWindow g left none)
  | none => .next s

end Sys2Proof.Machine
end

