-- ==== Sys2Proof/Machine/Awl.lean ====
section
/-! DEFINITION. Awl hit timing (03): captures, credits, channel states, the completion stage, interval mode, epochs. -/

namespace Sys2Proof.Machine

/-! ### Stamps (R65, R66, R70, R75) -/

/-- Tap `k` of the delay line has seen the edge. The taps of stages 4 j to 4 j + 2 are numbers 5 j to 5 j + 2, those of dual stage
4 j + 3 are 5 j + 3 (short element) and 5 j + 4 (long element) (log entry 139). -/
def tapRead (sel taps stage : Nat) : Bool :=
  bitOf taps (stage / 4 * 5 + stage % 4 + (if stage % 4 = 3 ∧ bitOf sel (stage / 4) then 1 else 0))

/-- m: how many of the 128 taps that a selection reads show that the edge has passed (R62, R65). -/
def tapCount (sel taps : Nat) : Nat := ((List.range 128).filter (tapRead sel taps)).length

/-- m of channel `g` under the selection in force (R62). -/
def State.tapsOf (s : State) (g : Nat) (taps : BitVec 160) : Nat := tapCount (s.get .AWL_TAPSEL_TAPSEL g) taps.toNat

/-- Raw time of an edge on the die's count, in fu: `m` taps show the edge has passed (R65). -/
def rawFine (count m : Nat) : Int := ((count : Int) - 1) * 128 + (127 - (min m 127 : Nat))

/-- A coarse stamp (R75). -/
def rawCoarse (count : Nat) : Int := ((count : Int) - 1) * 128

/-- The correction C (R66). -/
def State.correction (s : State) (g : Nat) : Int :=
  clampI (-32768) 32767 (s.getS .AWLD_PHASE_PHASE_NOW (g / 256) + s.getS .AWL_OFFS_OFFS_NOW g)

/-- FRC `i` is the injection instant of a window that holds this edge (R54). -/
def State.injWindow (s : State) (g : Nat) (i : Int) : Bool := decide (i ≤ s.frc) && decide ((s.frc : Int) < i + s.injWin (g / 256))

/-- A leading edge captured now lies in an injection window (R54): that of an injection which has fired, or of one that is due at or
before this edge and fires only behind this command. -/
def State.inInjection (s : State) (g : Nat) : Bool :=
  (s.chan g).inj.any (fun i => s.injWindow g i) ||
    (s.die (g / 256)).inj.any (fun i => s.injDue (g / 256) i && s.injReaches g i.group &&
      s.injWindow g (s.dieSlotAt (g / 256) + i.at_))

/-- The hit word (Table 03.5). -/
def hitWord (c : Nat) (l : Lead) (tot : Nat) : Word64 :=
  let t := l.raw + l.corr
  pack [(62, 2, 1), (54, 8, c), (38, 16, unsigned 16 (t / 128)), (31, 7, unsigned 7 t), (19, 12, min tot 4095),
    (18, 1, b2n l.rcv), (17, 1, b2n l.cal), (16, 1, b2n l.pile), (12, 4, l.epoch), (11, 1, b2n l.trg)]

/-! ### Completion stage (R77 to R80) -/

/-- Entries in use, those of markers included. -/
def Quad.stageDepth (q : Quad) : Nat := (q.stage.filter (fun e => e.taken)).length

/-- Hit entries in use. -/
def Quad.stageHits (q : Quad) : Nat := (q.stage.filter (fun e => e.taken && e.chan.isSome)).length

/-- An entry goes behind another: later edge, or the same edge and a higher channel, a marker after every hit (R77, R78). -/
def Entry.after (a b : Entry) : Bool :=
  decide (b.edge < a.edge) || (a.edge == b.edge &&
    (match a.chan, b.chan with
     | none, _ => true
     | some _, none => false
     | some x, some y => decide (y ≤ x)))

/-- List an entry in its place. -/
def stageInsert (e : Entry) : List Entry → List Entry
  | [] => [e]
  | x :: t => if e.after x then x :: stageInsert e t else e :: x :: t

/-- Change the entries that a test names. -/
def State.modStage (s : State) (n : Nat) (p : Entry → Bool) (k : Entry → Entry) : State :=
  let q := s.quad n
  s.setQuad n { q with stage := q.stage.map (fun e => if p e then k e else e) }

/-- Discarded entries at the head are skipped (R79). -/
def skipDropped (l : List Entry) : List Entry := l.dropWhile (fun e => e.taken && e.drop)

/-- The head of stage `n` settles: discarded entries are skipped, and CS_DEPTH follows. -/
def State.settleStage (s : State) (n : Nat) : State :=
  let s := s.setQuad n { s.quad n with stage := skipDropped (s.quad n).stage }
  s.put .AWLD_CSTAT_CS_DEPTH (s.quad n).stageDepth n

/-- The entry of the hit of channel `g` captured at `edge`. -/
def isEntry (g edge : Nat) (e : Entry) : Bool := e.chan == some (g % 256) && e.edge == edge

/-- The open hit of channel `g` has its entry in the completion list: it is not masked. -/
def State.listed (s : State) (g : Nat) (l : Lead) : Bool := (s.quad (g / 64)).stage.any (fun e => isEntry g l.edge e && e.word.isNone)

/-- A hit with CAL 1, PILE 0 and RCV 0 of an INJ run (R377, R379): its raw time less 128 I counts for the timing offset, and it is the
response to the injection of the slot, of the trigger discriminator when it carries TRG (log entry 163). Its time with OFFS is kept for
the ring record of the same injection (log entry 201). -/
def State.calHit (s : State) (g : Nat) (l : Lead) : State :=
  let b := s.bur (g / 256)
  match b.shots, (s.chan g).inj with
  | some r, some i =>
    let c := g % 256
    if g % 4 ≠ r.group || !l.cal || l.pile || l.rcv || !s.listed g l then s
    else if r.stage = 0 then
      let h := SMap.get (fun _ => (0, 0)) r.hits c
      let ahead : Int := (s.dieCount (g / 256) : Int) - s.frc
      s.setBur (g / 256) { b with shots := some { r with
        hits := SMap.set (fun _ => (0, 0)) r.hits c (h.1 + 1, h.2 + (l.raw - 128 * (ahead + i))),
        aim := SMap.set (fun _ => none) r.aim c (some (l.raw - 128 * ahead + s.getS .AWL_OFFS_OFFS_NOW g)) } }
    else if (3 ≤ r.stage && !l.trg) || r.seen.contains c then s
    else
      let k := min 15 (r.index / r.thr)
      let n := SMap.get (fun _ => []) r.counts c
      let n := if n = [] then List.replicate 16 0 else n
      s.setBur (g / 256) { b with shots := some { r with
        seen := c :: r.seen, counts := SMap.set (fun _ => []) r.counts c (setAt n k (n.getD k 0 + 1)) } }
  | _, _ => s

/-- The hit of channel `g` is complete: its entry completes 16 cu after this capture (Table 03.4). -/
def State.complete (s : State) (g tot : Nat) : State :=
  match (s.chan g).lead with
  | some l => (s.calHit g l).modStage (g / 64) (fun e => isEntry g l.edge e && e.word.isNone) (fun e =>
      { e with word := some (hitWord (g % 256) l tot), due := s.frc + 16 })
  | none => s

/-- The head entry (R79). -/
def Quad.head (q : Quad) : Option Entry := (skipDropped q.stage).head?

/-- The head entry is complete (R79, R82). -/
def State.headComplete (s : State) (n : Nat) : Option Entry :=
  match (s.quad n).head with
  | some e => if e.taken && e.word.isSome && decide (e.due ≤ s.frc) && !e.hold then some e else none
  | none => none

/-- The push port is free at this C320 edge (R104): FRC divisible by 8 (log entry 142). -/
def State.portFree (s : State) (n : Nat) : Bool := decide ((s.quad n).port ≤ s.frc) && s.frc % 8 == 0

/-! ### Interval mode (R82) -/

/-- The even channel of the pair of channel `g`. -/
def pairOf (g : Nat) : Nat := g / 2 * 2

/-- Channel `g` belongs to a pair in interval mode. -/
def State.ivlOn (s : State) (g : Nat) : Bool := s.flag .AWL_CTRL_IVL_EN (pairOf g)

/-- The timeout: a value below 8 is read as 8. -/
def State.ivlTimeout (s : State) (f : Nat) : Nat := max 8 (s.get .AWLD_IVL_TIMEOUT f)

/-- A start takes its entry: a waiting start is discarded, and this one waits with its timer (Table 03.3A). Of a start and a stop captured by
one edge the start comes first, and a start at the edge at which the timer is 0 restarts it (log entry 192). -/
def State.ivlStart (s : State) (g : Nat) (x : Entry) : State :=
  let s := match (s.chan g).ivl with
    | some (e, _, _) => (s.modStage (g / 64) (isEntry g e) (fun y => { y with drop := true, hold := false })).inc .AWL_IVLSTAT2_RESTARTS g
    | none => s
  (s.setChan g { s.chan g with ivl := some (x.edge, x.raw, x.limit.getD 0) }).modStage (g / 64) (isEntry g x.edge)
    (fun y => { y with hold := true })

/-- A stop takes its entry: it matches the waiting start, or it is an orphan (Table 03.3A). -/
def State.ivlStop (s : State) (g : Nat) (x : Entry) : State :=
  let p := pairOf g
  let orphan := (s.modStage (g / 64) (isEntry g x.edge) (fun y => { y with drop := true })).inc .AWL_IVLSTAT2_ORPHANS p
  match (s.chan p).ivl with
  | some (e, r, t) =>
    if r ≤ x.raw ∧ x.edge ≤ t then
      ((s.setChan p { s.chan p with ivl := none }).modStage (g / 64) (isEntry p e) (fun y => { y with hold := false })).inc
        .AWL_IVLSTAT_PAIRS p
    else orphan
  | none => orphan

/-- A hit of channel `g` has taken its entry, so it takes part in its pair (R82; log entry 24). -/
def State.ivlEntry (s : State) (g : Nat) (x : Entry) : State :=
  if x.limit.isNone then s else if g = pairOf g then s.ivlStart g x else s.ivlStop g x

/-- A hit of the pair of start channel `g` was captured by FRC `t` and has not taken its entry yet. -/
def State.ivlComing (s : State) (g t : Nat) : Bool :=
  (s.quad (g / 64)).stage.any (fun e => !e.taken && e.limit.isSome && decide (e.edge ≤ t) &&
    e.chan.any (fun c => c / 2 == g % 256 / 2))

/-! ### Captures (R64 to R76) -/

/-- The channel takes no completion entries and spends no credits (R76). -/
def State.hitMasked (s : State) (g : Nat) : Bool := !s.flag .PIX_CTRL_EN g || s.flag .PIX_CTRL_MASK_HIT g

/-- One credit, at most 128 (R73). -/
def State.creditAdd (s : State) (g : Nat) : State :=
  (s.put .AWL_STAT_CREDIT (min 128 (s.get .AWL_STAT_CREDIT g + 1)) g).setChan g { s.chan g with creditAt := some s.frc }

/-- A credit falls due at this edge and has not been added. -/
def State.creditDue (s : State) (g : Nat) : Bool := s.dieCount (g / 256) % 512 == 0 && (s.chan g).creditAt != some s.frc

/-- The hit that begins now is listed for its entry, which falls due 16 cu later (R77). IVL_EN and TIMEOUT are taken here (log
entry 191). -/
def State.listHit (s : State) (g : Nat) (raw : Int) : State :=
  let e : Entry :=
    { edge := s.frc, birth := s.dieOff (g / 256), chan := some (g % 256), taken := false, word := none, due := 0, hold := false,
      drop := false, raw := s.frc * 128 + raw % 128,
      limit := if s.ivlOn g then some (s.frc + s.ivlTimeout (g / 256)) else none }
  let q := s.quad (g / 64)
  s.setQuad (g / 64) { q with stage := stageInsert e q.stage }

/-- N of a histogram (R371). -/
def State.histSize (s : State) : Nat := 2 ^ min 20 (max 12 (s.get .BUR_CD_CD_LOG2))

/-- An edge stamped finely with `m` taps passed, of a hit without RCV and CAL, is counted when the histogram of the quadrant serves
the channel (R371). -/
def State.histCount (s : State) (g m : Nat) : State :=
  let n := g / 64
  let q := s.quad n
  if fieldOf (s.get .BURD_HSEL_CH (g / 256)) (6 * (n % 4)) 6 ≠ g % 64 || bitOf (s.get .BURD_HSEL_DONE (g / 256)) (n % 4) then s
  else
    let s := s.setQuad n { q with histN := q.histN + 1 }
    let s := if 128 ≤ m then s.inc .BURD_HSHORT_COUNT n else s.inc .BURD_HIST_COUNT (128 * n + m)
    if s.histSize ≤ q.histN + 1 then
      s.put .BURD_HSEL_DONE (withBit (s.get .BURD_HSEL_DONE (g / 256)) (n % 4) true) (g / 256)
    else s

/-- As `histCount`, of a leading edge: what makes it the edge of a hit with RCV at the same ROOT edge takes it back (`State.histBack`). -/
def State.histLead (s : State) (g m : Nat) : State :=
  let n := g / 64
  let t := s.histCount g m
  if (t.quad n).histN = (s.quad n).histN then t else t.setQuad n { t.quad n with histNew := some (s.frc, g % 64, m) }

/-- A leading edge opens a hit with this raw time, under the correction and the epoch of this moment (log entry 193); `st` is HIGH or
PILE_HIGH. EN and MASK_HIT are tested here, and a hit that they
mask takes no part in interval pairing (log entries 140, 141). TRG begins with the trigger discriminator's state (R42). -/
def State.openHit (s : State) (g : Nat) (raw : Int) (st : AwlSt) : State :=
  let l : Lead :=
    { edge := s.frc, raw := raw, corr := s.correction g, epoch := s.get .AWLD_CTRL_EPOCH (g / 256), rcv := s.inRecovery g,
      cal := s.inInjection g, pile := decide (st = .pileHigh), trg := (s.chan g).trgOn }
  let masked := s.hitMasked g
  let s := s.setChan g { s.chan g with awl := st, lead := some l }
  if masked then s else s.listHit g raw

/-- A leading edge is captured with `m` taps passed (R74). -/
def State.leadCapture (s : State) (g m : Nat) : State :=
  let s := if s.creditDue g then s.creditAdd g else s
  let c := s.chan g
  let n := s.dieCount (g / 256)
  if c.awl = .dead ∧ s.frc < c.trail + 10 then
    (s.inc .AWL_STAT_PILE_COUNT g).openHit g (rawCoarse n) .pileHigh
  else if 2 ≤ s.get .AWL_STAT_CREDIT g then
    let s := if s.hitMasked g then s else s.put .AWL_STAT_CREDIT (s.get .AWL_STAT_CREDIT g - 2) g
    let s := if s.inRecovery g || s.inInjection g then s else s.histLead g m
    s.openHit g (rawFine n m) .high
  else
    let q := s.quad (g / 64)
    let s := s.setQuad (g / 64) { q with bLost := satAdd 8 q.bLost 1 }
    (s.inc .AWL_STAT_LOST_BURST g).setChan g { c with awl := .lost, lead := none }

/-- Time over threshold of the open hit when its trailing edge is captured now with `m` taps passed (R70, R72, R74). -/
def State.totOf (s : State) (m : Nat) (l : Lead) : Nat :=
  if l.edge = s.frc then 0
  else if l.pile then s.frc - l.edge
  else (((s.frc : Int) - l.edge) * 128 + (127 - (min m 127 : Nat)) - l.raw % 128) / 128 |>.toNat

/-- A trailing edge is captured (R74). -/
def State.trailCapture (s : State) (g m : Nat) : State :=
  let c := s.chan g
  let s := match c.awl, c.lead with
    | .high, some l =>
      let s := if l.rcv || l.cal || l.edge == s.frc then s else s.histCount g m
      s.complete g (s.totOf m l)
    | .pileHigh, some l => s.complete g (s.totOf m l)
    | _, _ => s
  let c := s.chan g
  if c.awl = .lost then s.setChan g { c with awl := .armed }
  else s.setChan g { c with awl := .dead, lead := none, trail := s.frc }

/-! ### Registers (R87) -/

def State.writeAwlCtrl (s : State) (g : Nat) (data : Word32) : State := s.take .AWL_CTRL_IVL_EN data g
def State.writeAwlTapselNext (s : State) (g : Nat) (data : Word32) : State := s.take .AWL_TAPSEL_NEXT_TAPSEL_NEXT data g
def State.writeAwlOffs (s : State) (g : Nat) (data : Word32) : State := s.take .AWL_OFFS_OFFS_NEXT data g

/-- A write of AWLD_CTRL: COMMIT sets PENDING (R67). -/
def State.writeAwldCtrl (s : State) (f : Nat) (data : Word32) : State :=
  if Fld.AWLD_CTRL_COMMIT.on data then s.putB .AWLD_CTRL_PENDING true f else s

def State.writeAwldBias (s : State) (f : Nat) (data : Word32) : State := s.take .AWLD_BIAS_BIAS_NEXT data f
def State.writeAwldRamp (s : State) (f : Nat) (data : Word32) : State := s.take .AWLD_RAMP_RAMP_SLOTS data f
def State.writeAwldPhase (s : State) (f : Nat) (data : Word32) : State := s.take .AWLD_PHASE_PHASE_NEXT data f
def State.writeAwldIvl (s : State) (f : Nat) (data : Word32) : State := s.take .AWLD_IVL_TIMEOUT data f

/-! ### Epochs and ramps (R67 to R69) -/

/-- A ramped value in slot `j` of an epoch (R68). -/
def rampAt (old new : Int) (j r : Nat) : Int := if r ≤ j then new else old + truncDiv ((new - old) * j) r

/-- The ramped values of die `f` in slot `j` of its epoch. -/
def State.rampPut (s : State) (f : Nat) : State :=
  let r := (s.die f).ramp
  let s := (s.putS .AWLD_PHASE_PHASE_NOW (rampAt r.phase0 r.phase1 r.j r.r) f).putS .RNGD_APER_APER_NOW (rampAt r.aper0 r.aper1 r.j r.r) f
  let s := (List.range 256).foldl (fun t c =>
    let x := t.chan (256 * f + c)
    if x.offOld = x.offNew then t else t.putS .AWL_OFFS_OFFS_NOW (rampAt x.offOld x.offNew r.j r.r) (256 * f + c)) s
  let busy := s.getS .AWLD_PHASE_PHASE_NOW f != r.phase1 || s.getS .RNGD_APER_APER_NOW f != r.aper1 ||
    (List.range 256).any (fun c => s.getS .AWL_OFFS_OFFS_NOW (256 * f + c) != (s.chan (256 * f + c)).offNew)
  s.putB .AWLD_CTRL_RAMPING busy f

/-- The commit is applied at a slot strobe (R67). -/
def State.epochApply (s : State) (f : Nat) : State :=
  let s := (s.inc .AWLD_CTRL_EPOCH f).put .AWLD_BIAS_BIAS_NOW (s.get .AWLD_BIAS_BIAS_NEXT f) f
  let s := (List.range 256).foldl (fun t c =>
    let g := 256 * f + c
    let t := t.put .AWL_TAPSEL_TAPSEL (t.get .AWL_TAPSEL_NEXT_TAPSEL_NEXT g) g
    let x := t.chan g
    t.setChan g { x with offOld := t.getS .AWL_OFFS_OFFS_NOW g, offNew := t.getS .AWL_OFFS_OFFS_NEXT g }) s
  let r : Ramp :=
    { r := max 1 (s.get .AWLD_RAMP_RAMP_SLOTS f), j := 1, phase0 := s.getS .AWLD_PHASE_PHASE_NOW f,
      phase1 := s.getS .AWLD_PHASE_PHASE_NEXT f, aper0 := s.getS .RNGD_APER_APER_NOW f, aper1 := s.getS .RNGD_APER_APER_NEXT f }
  let s := (s.setDie f { s.die f with ramp := r }).rampPut f
  (s.putB .AWLD_CTRL_PENDING false f).raiseDie f 7

/-- What the Awl of die `f` does at a slot strobe: a commit that waits, or the next step of a ramp (R67, R68). Answers whether a
commit was applied. -/
def State.awlStrobe (s : State) (f : Nat) : State × Bool :=
  if s.flag .AWLD_CTRL_PENDING f then (s.epochApply f, true)
  else if s.flag .AWLD_CTRL_RAMPING f then
    let d := s.die f
    ((s.setDie f { d with ramp := { d.ramp with j := d.ramp.j + 1 } }).rampPut f, false)
  else (s, false)

/-! ### Commands -/

/-- LEAD_CAPTURE (R40, R62, R74): the high-gain current has risen to `cur`, above the timing threshold, and this ROOT edge latches
the 160 taps. A captured edge of the states that hold a leading edge already is no leading edge. -/
def execLeadCapture (f : DieNo) (c : ChanNo) (cur : Nat) (taps : BitVec 160) (s : State) : Host.Outcome State Fault Refusal :=
  let g := gchan f c
  when' (s.working && s.diePowered f && ((s.chan g).awl == .armed || (s.chan g).awl == .dead) &&
      discNext false cur (s.timingThr g) (s.hysteresis g)) s (fun s => s.leadCapture g (s.tapsOf g taps))

/-- TRAIL_CAPTURE (R40, R62, R74): the current has fallen to `cur`, below the threshold minus the hysteresis, or the discriminator
is powered down (R35). -/
def execTrailCapture (f : DieNo) (c : ChanNo) (cur : Nat) (s : State) (taps : BitVec 160 := 0) : Host.Outcome State Fault Refusal :=
  let g := gchan f c
  when' (s.working && s.diePowered f && (s.chan g).awl != .armed && (s.chan g).awl != .dead &&
      !(s.flag .PIX_CTRL_EN g && discNext true cur (s.timingThr g) (s.hysteresis g))) s (fun s => s.trailCapture g (s.tapsOf g taps))

/-- TOT_SATURATE (R71). -/
def execTotSaturate (f : DieNo) (c : ChanNo) (s : State) : Host.Outcome State Fault Refusal :=
  let g := gchan f c
  match (s.chan g).lead with
  | some l => when' (s.working && s.diePowered f && ((s.chan g).awl == .high || (s.chan g).awl == .pileHigh) &&
      decide (l.edge + 4095 ≤ s.frc)) s (fun s =>
        let s := s.complete g 4095
        s.setChan g { s.chan g with awl := .sat })
  | none => .next s

/-- DEAD_TIME_END (R74). -/
def execDeadTimeEnd (f : DieNo) (c : ChanNo) (s : State) : Host.Outcome State Fault Refusal :=
  let g := gchan f c
  when' (s.working && s.diePowered f && (s.chan g).awl == .dead && decide ((s.chan g).trail + 10 ≤ s.frc)) s (fun s =>
    s.setChan g { s.chan g with awl := .armed })

/-- CREDIT_ADD (R73). -/
def execCreditAdd (f : DieNo) (c : ChanNo) (s : State) : Host.Outcome State Fault Refusal :=
  when' (s.working && s.diePowered f && s.creditDue (gchan f c)) s (fun s => s.creditAdd (gchan f c))

/-- INTERVAL_TIMEOUT (R82): the timer has reached 0, and no hit captured before that is still to take its entry. -/
def execIntervalTimeout (f : DieNo) (c : ChanNo) (s : State) : Host.Outcome State Fault Refusal :=
  let g := gchan f c
  match (s.chan g).ivl with
  | some (e, _, t) => when' (s.working && s.diePowered f && decide (t ≤ s.frc) && !s.ivlComing g t) s (fun s =>
      let s := s.setChan g { s.chan g with ivl := none }
      ((s.modStage (g / 64) (isEntry g e) (fun x => { x with drop := true, hold := false })).inc .AWL_IVLSTAT_TIMEOUTS g).settleStage (g / 64))
  | none => .next s

/-- The first entry of the stage that has not been taken. -/
def Quad.nextEntry (q : Quad) : Option Entry := q.stage.find? (fun e => !e.taken)

/-- COMPLETION_ENTRY (R80): the next entry in order is the channel's, 16 cu after the capture. -/
def execCompletionEntry (f : DieNo) (c : ChanNo) (s : State) : Host.Outcome State Fault Refusal :=
  let g := gchan f c
  let n := g / 64
  match (s.quad n).nextEntry with
  | some x => when' (s.working && s.diePowered f && isEntry g x.edge x && decide (x.edge + 16 ≤ s.frc)) s (fun s =>
      if (s.quad n).stageHits < 255 then
        ((s.modStage n (fun y => isEntry g x.edge y && !y.taken) (fun y => { y with taken := true })).ivlEntry g x).settleStage n
      else
        let q := s.quad n
        let s := s.setQuad n { q with stage := q.stage.filter (fun y => !(isEntry g x.edge y && !y.taken)), csLost := satAdd 8 q.csLost 1 }
        (s.inc .AWLD_CSTAT_CS_FULL n).raiseDie f (3 + n % 4))
  | none => .next s

/-- MARKER_ENTRY (R77): the marker takes its reserved entry 16 cu after the strobe, with the losses of the stage (R294). -/
def execMarkerEntry (n : LaneNo) (s : State) : Host.Outcome State Fault Refusal :=
  match (s.quad n).nextEntry with
  | some x => when' (s.working && s.diePowered (n.val / 4) && x.chan.isNone && decide (x.edge + 16 ≤ s.frc)) s (fun s =>
      let q := s.quad n
      let stage := q.stage.map (fun y => if y.chan.isNone && !y.taken && y.edge == x.edge then
        { y with taken := true, due := s.frc, word := y.word.map (fun w => w ||| pack [(16, 8, q.csLost)]) } else y)
      (s.setQuad n { q with stage := stage, csLost := 0 }).settleStage n)
  | none => .next s

/-- ENTRY_TO_QUEUE (R79, R104): a marker takes no push cycle; a hit waits for a record that has waited long enough. -/
def execEntryToQueue (n : LaneNo) (s : State) : Host.Outcome State Fault Refusal :=
  match s.headComplete n with
  | some x =>
    let due := x.chan.isNone || (s.portFree n && !((s.quad n).recs.head?.any (fun r => r.waited)))
    when' (s.working && s.diePowered (n.val / 4) && due) s (fun s =>
      let q := s.quad n
      let w := x.word.getD 0
      let q : Quad := { q with stage := (skipDropped q.stage).tail }
      let q := if x.chan.isNone then q.pushMark w s.frc
        else { q.push s.frc w x.birth with port := s.frc + 8 }
      (s.setQuad n q).settleStage n)
  | none => .next s

/-- AWL_COMMIT (R67): a write of AWLD_CTRL. -/
def execAwlCommit (f : DieNo) (data : Word32) (s : State) : Host.Outcome State Fault Refusal :=
  access' (s.working && s.diePowered f) s (fun s => s.writeAwldCtrl f data)

end Sys2Proof.Machine
end

