-- ==== Sys2Proof/Machine/Ring.lean ====
section
/-! DEFINITION. Analog ring and waveform records (04): restarts, freezes, conversion, records. -/

namespace Sys2Proof.Machine

/-! ### Banks and restarts (R91, R105) -/

/-- The bank holds a region at this edge. -/
def Bank.busy (b : Bank) (now : Nat) : Bool := match b.phase with | .pushed t => decide (now < t) | _ => true

/-- Bank `b` of channel `g` is busy. -/
def State.bankBusy (s : State) (g b : Nat) : Bool := match (s.chan g).banks.getD b none with | some x => x.busy s.frc | none => false

/-- The lowest free bank of channel `g`. -/
def State.freeBank (s : State) (g : Nat) : Option Nat := (List.range 4).find? (fun b => !s.bankBusy g b)

/-- What RNG_STAT.BUSY shows. -/
def State.busyMask (s : State) (g : Nat) : Nat := maskOf ((List.range 4).filter (fun b => s.bankBusy g b))

/-- Write bank `b`. -/
def State.setBank (s : State) (g b : Nat) (x : Option Bank) : State :=
  let c := s.chan g
  s.setChan g { c with banks := setAt c.banks b x }

/-- R0 in force at FRC `t`: a restart takes effect at its own R0 (R91), for a freeze applied there too (log entry 188). -/
def Chan.r0At (c : Chan) (t : Int) : Option Nat :=
  match c.restart with
  | some (r, _) => if (r : Int) ≤ t then some r else c.ring0
  | none => c.ring0

/-- A restart whose R0 has come takes effect: RESTART_AT shows it, and FULL falls (R91). -/
def State.ringSettle (s : State) (g : Nat) : State :=
  let c := s.chan g
  match c.restart with
  | some (r, off) =>
    if r ≤ s.frc then
      ((s.setChan g { c with ring0 := some r, restart := none }).putB .RNG_STAT_FULL false g).put .RNG_STAT_RESTART_AT off g
    else s
  | none => s

/-- The die's coarse count is FRC plus `base` from this edge on (R64, R263): the stretch before is kept for the cells written in it, as many
stretches as TSETs at the 66 cu of a return-lane block can begin in two laps. A restart still to come records the new offset. -/
def State.rebase (s : State) (f base : Nat) : State :=
  let d := s.die f
  if d.base = base then s
  else
    let s := s.setDie f { d with base := base, since := s.frc, laps := (⟨d.since, s.frc, d.base⟩ :: d.laps).take 32 }
    (List.range 256).foldl (fun t c =>
      let x := t.chan (256 * f + c)
      match x.restart with
      | some (r, _) => if t.frc ≤ r then t.setChan (256 * f + c) { x with restart := some (r, (r + base) % 65536) } else t
      | none => t) s

/-- The rings of channel `g` restart at the next ROOT edge (R91). -/
def State.ringRestart (s : State) (g : Nat) : State :=
  let s := s.ringSettle g
  s.setChan g { s.chan g with restart := some (s.frc + 1, (s.dieOff (g / 256) + 1) % 65536) }

/-- The rings of every channel of die `f` restart. -/
def State.restartAll (s : State) (f : Nat) : State := (List.range 256).foldl (fun t c => t.ringRestart (256 * f + c)) s

def State.writeRngCtrl (s : State) (g : Nat) (data : Word32) : State :=
  if Fld.RNG_CTRL_RESTART.on data then s.ringRestart g else s

def State.writeRngdCtrl (s : State) (f : Nat) (data : Word32) : State :=
  let s := s.take .RNGD_CTRL_GAIN_MODE data f
  if Fld.RNGD_CTRL_RESTART_ALL.on data then s.restartAll f else s

def State.writeRngdAper (s : State) (f : Nat) (data : Word32) : State := s.take .RNGD_APER_APER_NEXT data f
def State.writeRngdPush (s : State) (f : Nat) (data : Word32) : State := s.take .RNGD_PUSH_REC_WAIT data f

/-! ### Freeze commands (R92 to R95, R262) -/

/-- A freeze word is discarded (R262). -/
def State.badWord (s : State) (f : Nat) : State := (s.inc .SHL_CNT_RET_BADWORD f).raiseDie f 2

/-- A FRZ0 that waits is not followed by its FRZ1: it is discarded (R262). -/
def State.dropFrz0 (s : State) (f : Nat) : State :=
  match (s.die f).frz0 with
  | some _ => (s.setDie f { s.die f with frz0 := none }).badWord f
  | none => s

/-- Refuse a freeze of channel `g` (R95): 0 BUSY, 1 LATE, 2 NOT_READY, 3 RANGE. -/
def State.freezeRefuse (s : State) (g tag reason : Nat) : State :=
  let s := s.inc .RNG_CNT_REFUSED g
  let s := if reason = 0 then (s.inc .RNGD_STAT_REF_BUSY (g / 256)).raiseChan g 9 else (s.inc .RNGD_STAT_REF_OTHER (g / 256)).raiseChan g 10
  s.csPush (g / 64) (pack [(62, 2, 3), (58, 4, 2), (50, 8, g % 256), (48, 2, reason), (38, 10, tag)])

/-- The channels that a freeze command names (Table 05.5). -/
def freezeChannels (f : Nat) (w0 : Word64) : List Nat := groupChannels f (fw w0 44 16)

/-- The die decodes the pair: RANGE is tested at once, otherwise the command is held to F, or to this edge when F has passed
(R94, R95); an F exactly 2^15 cu away counts as passed (log entry 189). -/
def State.freezeDecode (s : State) (f : Nat) (w0 w1 : Word64) : State :=
  let a := fw w0 28 16
  let pre := fw w1 52 8
  let tag := fw w0 18 10
  let stop := (a + fw w1 34 10) % 65536
  let toF := wrapDiff 16 stop (s.dieOff f)
  let x : Freeze :=
    { at_ := if toF < 0 then s.dieOff f else stop, start := (a + 65536 - pre) % 65536, tag := tag, pre := pre, win := fw w1 44 8 + 1 }
  (freezeChannels f w0).foldl (fun t g =>
    if 2048 < toF then t.freezeRefuse g tag 3
    else
      let c := t.chan g
      t.setChan g { c with freezes := c.freezes ++ [x] }) s

/-- How long ago a slot offset lay, in cu, read under R7. -/
def State.sinceOff (s : State) (f off : Nat) : Int := wrapDiff 16 (s.dieOff f) off

/-- The freeze with the earliest applied instant as seen from slot offset `now`, the first decoded among equals. -/
def firstFreeze (now : Nat) : List Freeze → Option Freeze
  | [] => none
  | x :: t =>
    match firstFreeze now t with
    | some y => if wrapDiff 16 now x.at_ < wrapDiff 16 now y.at_ then some y else some x
    | none => some x

/-! ### Cells (R89 to R93) -/

/-- The stretches of die `f` up to this edge, newest first. -/
def State.segs (s : State) (f : Nat) : List Lap := ⟨(s.die f).since, s.frc + 1, (s.die f).base⟩ :: (s.die f).laps

/-- The slot offset at FRC `t`. -/
def offAt (l : List Lap) (t : Int) : Nat :=
  match l.find? (fun x => decide ((x.from_ : Int) ≤ t)) with
  | some x => ((t + x.base) % 65536).toNat
  | none => 0

/-- The FRC at which the counter came to slot offset `off`, or was set past it: `e` is the first FRC behind the stretches (R92, R94). -/
def passedAt (off : Nat) : Nat → List Lap → Int
  | e, [] => e
  | e, x :: t =>
    let w := wrapDiff 16 ((x.until_ - 1 + x.base) % 65536) off
    if w < 0 then e
    else if (x.from_ : Int) ≤ (x.until_ : Int) - 1 - w then (x.until_ : Int) - 1 - w
    else passedAt off x.from_ t

/-- The last FRC of a stretch, not after `t`, at which cell `i` was written (R89). -/
def Lap.wrote (x : Lap) (t : Int) (i : Nat) : Option Int :=
  let e := min t ((x.until_ : Int) - 1)
  let r := e - (e + x.base - i) % 1024
  if (x.from_ : Int) ≤ r then some r else none

/-- The FRC at which cell `i` of both rings was written last, as seen at FRC `t` (R89); -1 for a cell that has not been written. -/
def cellAt (l : List Lap) (t : Int) (i : Nat) : Int := (l.findSome? (fun x => x.wrote t i)).getD (-1)

/-- The mask, by sample index, of the cells of a region that carry a mark (R90); `time` says when each was written. -/
def Chan.markMask (c : Chan) (m : CellMark) (time : Nat → Int) (win : Nat) : Nat :=
  maskOf ((List.range win).filter (fun j => c.marked m (time j)))

/-- The cells of a region, before the first valid one, that were written before R0 (R91, R95). -/
def preCells (r0 : Option Nat) (time : Nat → Int) (win : Nat) : Nat :=
  match r0 with
  | some r => ((List.range win).takeWhile (fun j => decide (time j < r))).length
  | none => win

/-- Apply a freeze at its applied instant (R93, R95): sample j is the cell with the index of slot offset S + j, as it stands then (R89,
R92). -/
def State.freezeApply (s : State) (g : Nat) (x : Freeze) : State :=
  let c := s.chan g
  let l := s.segs (g / 256)
  let at_ := passedAt x.at_ s.frc l
  let time (j : Nat) : Int := cellAt l at_ ((x.start + j) % 1024)
  let s := s.setChan g { c with freezes := c.freezes.erase x }
  match s.freeBank g with
  | none => s.freezeRefuse g x.tag 0
  | some b =>
    if 1024 < wrapDiff 16 (offAt l at_) x.start + 16 then s.freezeRefuse g x.tag 1
    else
      let first := preCells (c.r0At at_) time x.win
      if x.win ≤ first then s.freezeRefuse g x.tag 2
      else
        let bank : Bank := { tag := x.tag, pre := x.pre, win := x.win, first := first,
                             epoch := s.get .AWLD_CTRL_EPOCH (g / 256), at_ := at_.toNat, cell0 := time first,
                             satH := c.markMask .highOver time x.win, satL := c.markMask .lowOver time x.win,
                             idle := c.markMask .empty time x.win, phase := .transfer }
        s.setBank g b (some bank)

/-- What cell `i` of a ring holds beside its analog sample: the FRC at which it was written last, whether it is valid (R91), and the
state of the path's comparator at that moment (R90). -/
structure Cell where
  at_   : Int
  valid : Bool
  ovr  : Bool
  deriving DecidableEq, Repr

/-- Cell `i` of the high-gain ring, or of the low-gain ring, of channel `g` at this edge (R89). -/
def State.cell (s : State) (g : Nat) (low : Bool) (i : Fin 1024) : Cell :=
  let t := cellAt (s.segs (g / 256)) s.frc i
  { at_ := t, valid := ((s.chan g).r0At s.frc).any (fun r => decide ((r : Int) ≤ t)),
    ovr := (s.chan g).marked (if low then .lowOver else .highOver) t }

/-! ### Records (R97 to R102) -/

/-- A code that was not latched by count 0xFE0 is 0xFFF (R97, R98). -/
def ringCode (x : Nat) : Nat := if x ≤ 0xFE0 then x else 0xFFF

/-- The length of a conversion in cu (R97). -/
def convTime (codes : List Nat) : Nat :=
  if codes.any (fun x => x == 0xFFF) then 4081 else 16 + codes.foldl max 0 + 1

/-- Sample words, five samples in each (Table 04.5, R102). -/
def ringWords : Nat → List Nat → List Word64
  | 0, _ => []
  | n + 1, l => pack [(62, 2, 2), (60, 2, 2), (48, 12, l.getD 4 0), (36, 12, l.getD 3 0), (24, 12, l.getD 2 0),
      (12, 12, l.getD 1 0), (0, 12, l.getD 0 0)] :: ringWords n (l.drop 5)

/-- A record of bank `b` (Tables 04.4 to 04.6): gain 0 high, 1 low. -/
def recordOf (c b : Nat) (x : Bank) (gain : Nat) (autoLg rampErr : Bool) (codes : List Nat) : List Word64 :=
  let ovr := codes.any (fun v => v == 0xFFF)
  let n := ceilDiv codes.length 5
  pack [(62, 2, 2), (52, 8, c), (51, 1, gain), (49, 2, b), (39, 10, x.tag), (31, 8, x.pre), (23, 8, x.first),
      (14, 9, codes.length), (13, 1, b2n ovr), (12, 1, b2n (decide (0 < x.first))), (11, 1, b2n autoLg), (4, 4, x.epoch),
      (3, 1, b2n rampErr)] ::
    ringWords n codes ++
    [pack [(62, 2, 2), (60, 2, 3), (52, 8, c), (51, 1, gain), (49, 2, b), (39, 10, x.tag), (33, 6, n), (0, 16, codes.sum)]]

/-- The records of a region under GAIN_MODE (Table 04.3). -/
def recordsOf (mode c b : Nat) (x : Bank) (rampErr : Bool) (hg lg : List Nat) : List Word64 :=
  let h := recordOf c b x 0 false rampErr hg
  match mode with
  | 0 => if hg.any (fun v => v == 0xFFF) then h ++ recordOf c b x 1 true rampErr lg else h
  | 1 => h
  | 2 => recordOf c b x 1 false rampErr lg
  | _ => h ++ recordOf c b x 1 false rampErr lg

/-- A record waits in the order of the ends of conversion, ties by channel (R104). -/
def recInsert (r : Rec) : List Rec → List Rec
  | [] => [r]
  | x :: t => if x.at_ < r.at_ ∨ (x.at_ = r.at_ ∧ x.chan ≤ r.chan) then x :: recInsert r t else r :: x :: t

/-- The codes of a bank under the comparator states of its cells: a cell written while the comparator was active converts to 0xFFF
(R90). -/
def overCodes (mask : Nat) (codes : List Nat) : List Nat :=
  codes.zipIdx.map (fun x => if bitOf mask x.2 then 0xFFF else ringCode x.1)

/-- Every cell written while the channel was disabled has the code of an empty input (R35, Table 04.1). -/
def emptyOk (mask : Nat) (codes : List Nat) : Bool :=
  codes.zipIdx.all (fun x => !bitOf mask x.2 || (decide (0x20 ≤ x.1) && decide (x.1 ≤ 0x60)))

/-- A ring record of an injection of the offsets of an INJ run: where the hit of that injection lies in it (R377, log entry 201). -/
def State.aperRecord (s : State) (g : Nat) (x : Bank) : State :=
  let b := s.bur (g / 256)
  match b.shots with
  | some r =>
    match SMap.get (fun _ => none) r.aim (g % 256) with
    | some h =>
      let d := h - 128 * x.cell0
      if 0 ≤ d ∧ d < 128 * (x.win - x.first : Nat) then
        s.setBur (g / 256) { b with shots := some { r with
          aper := r.aper ++ [(d, 128 * (x.win - x.first))], aim := SMap.set (fun _ => none) r.aim (g % 256) none } }
      else s
    | none => s
  | none => s

/-- The conversion of bank `b` ends with these codes and this reference code (R97, R99, R100); GAIN_MODE is read here (log entry
143). -/
def State.conversionEnd (s : State) (g b : Nat) (x : Bank) (hg lg : List Nat) (ref : Nat) : State :=
  let f := g / 256
  let err := decide (ref < 0x7C0) || decide (0x840 < ref)
  let s := s.put .RNGD_RAMP_RAMP_REF ref f
  let s := if err then (s.inc .RNGD_RAMP_RAMP_ERRS f).raiseChan g 11 else s
  let s := s.setBank g b (some { x with phase := .converted })
  let r : Rec := { chan := g % 256, bank := b, at_ := s.frc, waited := false,
                   words := recordsOf (s.get .RNGD_CTRL_GAIN_MODE f) (g % 256) b x err hg lg }
  let q := s.quad (g / 64)
  (s.setQuad (g / 64) { q with recs := recInsert r q.recs }).aperRecord g x

/-- REC_WAIT in cu (R104). -/
def State.recWait (s : State) (f : Nat) : Nat := 8 * max 1 (s.get .RNGD_PUSH_REC_WAIT f)

/-- The words of the records of a region as they go through the push port from FRC `t`: one per 8 cu; a record header's birth stamp is
the die's counter at its own push (R104, R297), and an end word says whether its record carries PRE_SHORT and OVR (R106). -/
def landings (t count : Nat) (h : Word64) : Nat → List Word64 → List Landing
  | _, [] => []
  | k, w :: ws =>
    let h := if beginsItem w then w else h
    ⟨t + 8 * k, w, (count + 8 * k) % 65536, fw h 12 1 == 1, fw h 13 1 == 1⟩ :: landings t count h (k + 1) ws

/-- A record is pushed word by word through its end word, and the bank is free 8 cu after the push of its last word began
(R104, R105). -/
def State.recordPush (s : State) (n : Nat) (r : Rec) : State :=
  let q := s.quad n
  let g := 256 * (n / 4) + r.chan
  let stop := s.frc + 8 * r.words.length
  let s := s.setQuad n { q with recs := q.recs.tail, port := stop,
                                inq := q.inq ++ landings s.frc (s.dieCount (n / 4)) 0 0 r.words }
  match (s.chan g).banks.getD r.bank none with
  | some x => s.setBank g r.bank (some { x with phase := .pushed stop })
  | none => s

/-- The cut end word of a record: its end word with NWORDS = 0 (R301). -/
def cutEnd (e : Word64) : Word64 := BitVec.ofNat 64 (e.toNat - fieldOf e.toNat 33 6 * 2 ^ 33)

/-- What still goes in when a push is cut: nothing, or a cut end word in the place of the next word where a record has begun
(R105, R301). -/
def cutLanding : List Landing → List Landing
  | [] => []
  | l :: t =>
    if beginsItem l.w then []
    else match (l :: t).find? (fun x => isEnd x.w) with
      | some e => [{ l with w := cutEnd e.w, short := e.short, ovr := e.ovr }]
      | none => []

/-- The push port of quadrant `n` stops in the middle of a record (R105, R301). -/
def State.cutPush (s : State) (n : Nat) : State :=
  let q := s.quad n
  let gone := q.inq.filter (fun l => decide (s.frc < l.at_))
  let stay := q.inq.filter (fun l => decide (l.at_ ≤ s.frc))
  if gone = [] then s.setQuad n { q with recs := [] }
  else s.setQuad n { q with inq := stay ++ cutLanding gone, recs := [], port := (gone.headD ⟨s.frc, 0, 0, false, false⟩).at_ + 8 }

/-- Every bank of die `f` is cleared without conversion results, and a record that is being pushed is cut (R105); a freeze still held to its
instant goes with them (log entry 190). -/
def State.ringClear (s : State) (f : Nat) : State :=
  let s := (List.range 4).foldl (fun t q => t.cutPush (4 * f + q)) s
  (List.range 256).foldl (fun t c =>
    let g := 256 * f + c
    let x := t.chan g
    if x.banks = [none, none, none, none] && x.freezes = [] then t
    else t.setChan g { x with banks := [none, none, none, none], freezes := [] }) s

/-! ### Commands -/

/-- RNG_RESTART (R91): a write of RNG_CTRL. -/
def execRngRestart (f : DieNo) (c : ChanNo) (data : Word32) (s : State) : Host.Outcome State Fault Refusal :=
  access' (s.working && s.diePowered f) s (fun s => s.writeRngCtrl (gchan f c) data)

/-- RESTART_ALL (R91): a write of RNGD_CTRL. -/
def execRestartAll (f : DieNo) (data : Word32) (s : State) : Host.Outcome State Fault Refusal :=
  access' (s.working && s.diePowered f) s (fun s => s.writeRngdCtrl f data)

/-- RING_FULL (R91). -/
def execRingFull (f : DieNo) (c : ChanNo) (s : State) : Host.Outcome State Fault Refusal :=
  let g := gchan f c
  match (s.chan g).r0At s.frc with
  | some r => when' (s.working && s.diePowered f && decide (r + 1024 ≤ s.frc)) s (fun s => (s.ringSettle g).putB .RNG_STAT_FULL true g)
  | none => .next s

/-- FRZ0 (R262): a FRZ0 that still waits is discarded. -/
def execFrz0 (f : DieNo) (w : Word64) (s : State) : Host.Outcome State Fault Refusal :=
  when' (s.working && s.diePowered f && fw w 60 4 == 4 && s.retDue f (· == w)) s (fun s =>
    let s := (s.retTaken f (· == w)).dropFrz0 f
    s.setDie f { s.die f with frz0 := some (w, s.frc) })

/-- FREEZE_DECODE (R95, R262): the FRZ1 is paired with a FRZ0 of the block just before it, which was complete 32 cu earlier; one of
an older block would have been complete at least 98 cu earlier. -/
def execFreezeDecode (f : DieNo) (w : Word64) (s : State) : Host.Outcome State Fault Refusal :=
  when' (s.working && s.diePowered f && fw w 60 4 == 5 && s.retDue f (· == w)) s (fun s =>
    let s := s.retTaken f (· == w)
    match (s.die f).frz0 with
    | some (w0, t) =>
      if s.frc < t + 98 then (s.setDie f { s.die f with frz0 := none }).freezeDecode f w0 w
      else (s.dropFrz0 f).badWord f
    | none => s.badWord f)

/-- FREEZE_APPLY (R93, R95): the freeze of the channel whose applied instant has come. -/
def execFreezeApply (f : DieNo) (c : ChanNo) (s : State) : Host.Outcome State Fault Refusal :=
  let g := gchan f c
  match firstFreeze (s.dieOff f) (s.chan g).freezes with
  | some x => when' (s.working && s.diePowered f && decide (0 ≤ s.sinceOff f x.at_)) s (fun s => s.freezeApply g x)
  | none => .next s

/-- TRANSFER_END (R96). -/
def execTransferEnd (f : DieNo) (c : ChanNo) (b : Fin 4) (s : State) : Host.Outcome State Fault Refusal :=
  let g := gchan f c
  match (s.chan g).banks.getD b none with
  | some x => when' (s.working && s.diePowered f && x.phase == .transfer && decide (x.at_ + 16 ≤ s.frc)) s (fun s =>
      s.setBank g b (some { x with phase := .convert }))
  | none => .next s

/-- CONVERSION_END (R97): `hg` and `lg` are the counts at which the cells of the bank latched, by sample index, cells that are not
coded included; `ref` is that of the reference cell. No bank of the hardware has another number of cells, or another code than that
of an empty input in a cell of a disabled channel. -/
def execConversionEnd (f : DieNo) (c : ChanNo) (b : Fin 4) (hg lg : List Nat) (ref : Nat) (s : State) :
    Host.Outcome State Fault Refusal :=
  let g := gchan f c
  match (s.chan g).banks.getD b none with
  | some x =>
    if hg.length = x.win ∧ lg.length = x.win ∧ emptyOk x.idle hg ∧ emptyOk x.idle lg then
      when' (s.working && s.diePowered f && x.phase == .convert && decide (x.at_ + 16 + convTime ((ref :: hg ++ lg).map ringCode) ≤ s.frc)) s
        (fun s => s.conversionEnd g b x ((overCodes x.satH hg).drop x.first) ((overCodes x.satL lg).drop x.first) (ringCode ref))
    else .fault .illFormed
  | none => .next s

/-- RECORD_PUSH (R104): a record starts only when the head entry is not complete, or when it has waited. -/
def execRecordPush (n : LaneNo) (s : State) : Host.Outcome State Fault Refusal :=
  match (s.quad n).recs with
  | r :: _ =>
    let turn := (s.headComplete n).isNone || r.waited || decide (r.at_ + s.recWait (n / 4) ≤ s.frc)
    when' (s.working && s.diePowered (n.val / 4) && s.portFree n && turn) s (fun s => s.recordPush n r)
  | [] => .next s

/-- REC_WAIT_EXPIRE (R104). -/
def execRecWaitExpire (n : LaneNo) (s : State) : Host.Outcome State Fault Refusal :=
  match (s.quad n).recs with
  | r :: t => when' (s.working && s.diePowered (n.val / 4) && decide (r.at_ + s.recWait (n / 4) ≤ s.frc)) s (fun s =>
      s.setQuad n { s.quad n with recs := { r with waited := true } :: t })
  | [] => .next s

end Sys2Proof.Machine
end

