-- ==== Sys2Proof/Machine/Strop.lean ====
section
/-! DEFINITION. Strop ambient monitor and filter chain (13). -/

namespace Sys2Proof.Machine

/-- A FIR grid step in cu (R333). -/
def firStep : Nat := 256000

/-- Write the chain of channel `g`. -/
def State.setStrop (s : State) (g : Nat) (p : Strop) : State := s.setChan g { s.chan g with strop := p }

/-! ### Requests and resets (R334) -/

/-- Request a synchronising reset of channel `g`; a waiting request is merged. -/
def State.stropRequest (s : State) (g : Nat) : State :=
  let p := (s.chan g).strop
  if p.req.isSome then s else s.setStrop g { p with req := some s.frc }

/-- Request a synchronising reset of every channel of die `f`. -/
def State.stropRequestAll (s : State) (f : Nat) : State := (List.range 256).foldl (fun t c => t.stropRequest (256 * f + c)) s

/-- A write of STP_CTRL: it writes PRESET, whatever the value, so it requests a reset (R334, Table 13.7; log entry 20). EN written 0
makes the output stale until the first level after. -/
def State.writeStpCtrl (s : State) (g : Nat) (data : Word32) : State :=
  let s := ((((s.take .STP_CTRL_DCB_SHIFT data g).take .STP_CTRL_DCB_FREEZE data g).take .STP_CTRL_FLK_LOG2 data g).take
    .STP_CTRL_PRESET data g).take .STP_CTRL_EN data g
  let s := if Fld.STP_CTRL_EN.on data then s else s.setStrop g { (s.chan g).strop with freshAt := none }
  s.stropRequest g

def State.writeStpOffs (s : State) (g : Nat) (data : Word32) : State := s.take .STP_OFFS_OFFS data g

/-- A write of STPD_CTRL. -/
def State.writeStpdCtrl (s : State) (f : Nat) (data : Word32) : State :=
  let s := (s.take .STPD_CTRL_FRZ_INJ data f).take .STPD_CTRL_FADE_LEN data f
  if Fld.STPD_CTRL_SYNC_ALL.on data then s.stropRequestAll f else s

/-- r0 of channel `g` is now: the first FIR grid instant at least 256 cu after the request; a request made before the die's first
TSET waits for it (R334). -/
def State.resetDue (s : State) (g : Nat) : Bool :=
  match (s.chan g).strop.req with
  | some t => s.flag .SHL_STAT_TSET_DONE (g / 256) && s.dieCount (g / 256) % firStep == 0 && decide (t + 256 ≤ s.frc)
  | none => false

/-- The synchronising reset of channel `g` (R334). -/
def State.stropReset (s : State) (g : Nat) : State :=
  let p : Strop := { Strop.zero with r0 := some (s.dieCount (g / 256)), preset := s.get .STP_CTRL_PRESET g }
  ((s.setStrop g p).putB .STP_LEVEL_SETTLING true g).inc .STP_CNT_RESETS g

/-! ### CIC1 and FIR (R330, R331) -/

/-- One modulator bit through the integrators, modulo 2^21. -/
def cicBit (x : Nat × Nat × Nat) (b : Bool) : Nat × Nat × Nat :=
  let a := (x.1 + b2n b) % 2 ^ 21
  let c := (x.2.1 + a) % 2 ^ 21
  (a, c, (x.2.2 + c) % 2 ^ 21)

/-- The 100 bits of a CIC1 output; bit 0 is the oldest. -/
def cicBits (bits : BitVec 100) (x : Nat × Nat × Nat) : Nat × Nat × Nat :=
  (List.range 100).foldl (fun y i => cicBit y (bitOf bits.toNat i)) x

/-- The combs: the output and the new delays, modulo 2^21. -/
def combStep (i : Nat) (d : Nat × Nat × Nat) : Nat × (Nat × Nat × Nat) :=
  let a := (i + 2 ^ 21 - d.1) % 2 ^ 21
  let b := (a + 2 ^ 21 - d.2.1) % 2 ^ 21
  let c := (b + 2 ^ 21 - d.2.2) % 2 ^ 21
  (c, (i, a, b))

/-- A CIC1 output of channel `g` from the modulator bits since the last one. -/
def State.cicOutput (s : State) (g : Nat) (bits : BitVec 100) : State :=
  let p := (s.chan g).strop
  let x := cicBits bits p.ints
  let o := combStep x.2.2 p.combs
  s.setStrop g { p with ints := x, combs := o.2, line := (o.1 :: p.line).take 32, cicAt := some (s.dieCount (g / 256)) }

/-- The FIR of one bank over a line (R331), before the offset. -/
def State.firSum (s : State) (f : Nat) (bankB : Bool) (line : List Nat) : Int :=
  let h (n : Nat) : Int := if bankB then s.getS .STPD_COEF_B_H (32 * f + n) else s.getS .STPD_COEF_A_H (32 * f + n)
  ((line.zipIdx.foldl (fun a x => a + h x.2 * x.1) (0 : Int)) + 65536) / 131072

/-- The level of one bank (R331). -/
def State.firLevel (s : State) (g : Nat) (bankB : Bool) (line : List Nat) : Nat :=
  (clampI 0 0xFFFFFF (s.firSum (g / 256) bankB line - s.getS .STP_OFFS_OFFS g)).toNat

/-- The level of channel `g`, cross-faded while a fade runs with output `k` of `l` (R340). -/
def State.fadedLevel (s : State) (g k l : Nat) (line : List Nat) : Nat :=
  let b := s.flag .STPD_BANK_BANK (g / 256)
  let yt := s.firLevel g b line
  if s.flag .STPD_BANK_FADING (g / 256) then ((l - k) * s.firLevel g (!b) line + k * yt + l / 2) / l else yt

/-- CIC2: a level enters the integrators, modulo 2^44 (R332). -/
def cic2In (x : Nat × Nat) (level : Nat) : Nat × Nat :=
  let a := (x.1 + level) % 2 ^ 44
  (a, (x.2 + a) % 2 ^ 44)

/-- Decimation of CIC2 under a preset. -/
def cic2R (preset : Nat) : Nat := 10 ^ preset

/-- The period of a preset in cu (Table 13.2). -/
def presetPeriod (preset : Nat) : Nat := firStep * cic2R preset

/-- The FIR and CIC2 of channel `g` at a FIR instant `now` (die coarse count). -/
def State.chanFir (s : State) (g k l now : Nat) : State :=
  let p := (s.chan g).strop
  let level := s.fadedLevel g k l p.line
  let ovl := p.line.any (fun c => decide (990000 ≤ c))
  let x := cic2In p.ints2 level
  let r := cic2R p.preset
  let p : Strop := { p with fir := level, firOvl := ovl, ovlAt := if ovl then some now else p.ovlAt, ints2 := x }
  let p : Strop :=
    if now % presetPeriod p.preset = 0 then
      let a := (x.2 + 2 ^ 44 - p.combs2.1) % 2 ^ 44
      let b := (a + 2 ^ 44 - p.combs2.2) % 2 ^ 44
      { p with combs2 := (x.2, a), out2 := (b + r * r / 2) / (r * r) }
    else p
  let p : Strop := if (s.die (g / 256)).amb.any (fun a => decide (a < 64)) then { p with ambSum := p.ambSum + level } else p
  s.setStrop g p

/-- The FIR index since r0 at `now`, none before the first reset. -/
def State.firIndex (s : State) (g now : Nat) : Option Nat :=
  (s.chan g).strop.r0.map (fun r => (now + 2 ^ 64 - r) % 2 ^ 64 / firStep)

/-- The channel contributes to the die summary: neither stale nor suppressed at the FIR stage (R344, R335). -/
def State.contributes (s : State) (g now : Nat) : Bool :=
  !s.stropOff g && (match s.firIndex g now with | some j => decide (4 ≤ j) | none => false)

/-- The die summary (R344, Table 13.5). -/
def State.dieSummary (s : State) (f now : Nat) : State :=
  let chans := (List.range 256).filter (fun c => s.contributes (256 * f + c) now)
  let mx := chans.foldl (fun m c => max m (s.chan (256 * f + c)).strop.fir) 0
  let ovl := chans.any (fun c => (s.chan (256 * f + c)).strop.firOvl)
  let s := ((s.put .STPD_MAX_MAX mx f).put .STPD_SUMM_NVALID chans.length f).putB .STPD_SUMM_OVL ovl f
  s.csPush (4 * f) (pack [(62, 2, 3), (58, 4, 6), (49, 9, chans.length), (48, 1, b2n ovl), (43, 1, now / 65536 % 2),
    (24, 16, now % 65536), (0, 24, mx)])

/-- A fade begins toward bank `b` (R340, R341). -/
def State.fadeStart (s : State) (f : Nat) (b : Nat) : State :=
  let s := (((s.put .STPD_BANK_BANK b f).putB .STPD_BANK_FADING true f).putB .STPD_BANK_PEND false f).put .STPD_FADE_FADE_POS 0 f
  s.setDie f { s.die f with fadeLen := max 1 (s.get .STPD_CTRL_FADE_LEN f) }

/-- The fade after its output `k` of `l` (Table 13.3). -/
def State.fadeStep (s : State) (f k l now : Nat) : State :=
  if !s.flag .STPD_BANK_FADING f then s
  else if k < l then (s.put .STPD_FADE_FADE_POS k f).setDie f { s.die f with fadeAt := some now }
  else if s.flag .STPD_BANK_PEND f && s.get .STPD_BANK_PEND_BANK f != s.get .STPD_BANK_BANK f then
    s.fadeStart f (s.get .STPD_BANK_PEND_BANK f)
  else ((s.putB .STPD_BANK_FADING false f).putB .STPD_BANK_PEND false f).put .STPD_FADE_FADE_POS k f

/-- A FIR instant of die `f` (R331, R340, R344). -/
def State.firOutput (s : State) (f : Nat) : State :=
  let now := s.dieCount f
  let k := s.get .STPD_FADE_FADE_POS f + 1
  let l := (s.die f).fadeLen
  let s := (List.range 256).foldl (fun t c =>
    if (t.chan (256 * f + c)).strop.r0.isSome then t.chanFir (256 * f + c) k l now else t) s
  let d := s.die f
  let s := s.setDie f { d with firAt := some now, amb := d.amb.map (· + 1) }
  (s.fadeStep f k l now).dieSummary f now

/-! ### Levels (R332 to R338) -/

/-- The output of channel `g` at a grid instant of its preset is valid (R335). -/
def State.levelValid (s : State) (g now : Nat) : Bool :=
  let p := (s.chan g).strop
  match s.firIndex g now with
  | some j => if p.preset = 0 then decide (4 ≤ j) else decide (4 + 2 * cic2R p.preset ≤ j + 2)
  | none => false

/-- An instant lies in the window of the output at `now`: the last FIR output, or the last 2R − 1 of them. -/
def inWindow (preset now : Nat) (t : Option Nat) : Bool :=
  match t with
  | some t => decide (wrapDiff 64 now t ≤ (if preset = 0 then 0 else (2 * cic2R preset - 2) * firStep : Nat))
  | none => false

/-- The mean is frozen (R338). -/
def State.meanFrozen (s : State) (g : Nat) : Bool :=
  s.flag .STP_CTRL_DCB_FREEZE g || (s.flag .STPD_CTRL_FRZ_INJ (g / 256) && s.injBusy (g / 256))

/-- An ambient word (Table 13.4). -/
def ambientWord (kind c preset : Nat) (ovl bit44 : Bool) (bank now value : Nat) : Word64 :=
  pack [(62, 2, 3), (58, 4, kind), (50, 8, c), (46, 2, preset), (45, 1, b2n ovl), (44, 1, b2n bit44), (43, 1, now / 65536 % 2),
    (40, 3, bank), (24, 16, now % 65536), (0, 24, value)]

/-- DC block and flicker at an emitted level (R337, R338). -/
def State.flicker (s : State) (g level now : Nat) (ovl : Bool) : State :=
  let p := (s.chan g).strop
  let frozen := s.meanFrozen g
  let sh := max 1 (s.get .STP_CTRL_DCB_SHIFT g)
  let lg := s.get .STP_CTRL_FLK_LOG2 g
  let m : Int := if p.levelAt.isNone then (level : Int) * 65536 else p.mean
  let dev := ((level : Int) - m / 65536).natAbs
  let m : Int := if frozen then m else m + ((level : Int) * 65536 - m) / 2 ^ sh
  let p : Strop := { p with mean := m, dev := p.dev + dev, n := p.n + 1, levelAt := some now, flkOvl := p.flkOvl || ovl,
                            flkFrz := p.flkFrz || frozen }
  if p.n = 2 ^ lg then
    let v := min (p.dev / 2 ^ lg) 0xFFFFFF
    let s := (s.setStrop g { p with dev := 0, n := 0, flkOvl := false, flkFrz := false }).put .STP_FLK_FLICKER v g
    s.csPush (g / 64) (ambientWord 5 (g % 256) p.preset p.flkOvl p.flkFrz lg now v)
  else s.setStrop g p

/-- Channel `g` emits a level (R333, R342, R345), which the threshold loop takes (R46). -/
def State.levelEmit (s : State) (g : Nat) : State :=
  let f := g / 256
  let now := s.dieCount f
  let p := (s.chan g).strop
  let level := if p.preset = 0 then p.fir else p.out2 % 2 ^ 24
  let ovl := inWindow p.preset now p.ovlAt
  let fade := inWindow p.preset now (s.die f).fadeAt
  let was := s.flag .STP_LEVEL_OVL g
  let s := ((s.putB .STP_LEVEL_SETTLING false g).putB .STP_LEVEL_OVL ovl g).put .STP_LEVEL_LEVEL level g
  let s := s.csPush (g / 64) (ambientWord 4 (g % 256) p.preset ovl fade (4 * s.get .STPD_BANK_BANK f) now level)
  let s := if ovl then s.inc .STP_CNT_OVL_COUNT g else s
  let s := if ovl && !was then s.raiseChan g 16 else s
  let s := s.flicker g level now ovl
  (if s.stropOff g || p.req.isSome then s else s.setStrop g { (s.chan g).strop with freshAt := some s.frc }).loopUpdate g level

/-! ### Banks (R339, R341) -/

/-- A coefficient write (R339). -/
def State.writeCoef (s : State) (f : Nat) (bankB : Bool) (n : Nat) (data : Word32) : State :=
  if s.flag .STPD_BANK_FADING f || s.flag .STPD_BANK_PEND f || s.flag .STPD_BANK_BANK f == bankB then
    s.putB .STPD_BANK_WERR true f
  else if bankB then s.take .STPD_COEF_B_H data (32 * f + n) else s.take .STPD_COEF_A_H data (32 * f + n)

/-- A bank request (Table 13.3). -/
def State.bankRequest (s : State) (f b : Nat) : State :=
  if s.flag .STPD_BANK_FADING f then
    let again := s.flag .STPD_BANK_PEND f
    let s := (s.putB .STPD_BANK_PEND true f).put .STPD_BANK_PEND_BANK b f
    if again then (s.inc .STPD_FADE_REPLACED f).raiseDie f 17 else s
  else if b = s.get .STPD_BANK_BANK f then s
  else s.fadeStart f b

/-- A write of STPD_BANK: WERR clears by a 1, REQ requests REQ_BANK. -/
def State.writeStpdBank (s : State) (f : Nat) (data : Word32) : State :=
  let s := if Fld.STPD_BANK_WERR.on data then s.putB .STPD_BANK_WERR false f else s
  if Fld.STPD_BANK_REQ.on data then s.bankRequest f (Fld.STPD_BANK_REQ_BANK.of data) else s

/-! ### Transport (R342, R343) -/

/-- The ambient collector (R343, R149, R150): a stream 2 item in the slot of reception, unless the suppression rule removes it. -/
def State.ambientCollect (s : State) (n : Nat) (w : Word64) : State :=
  let g := 256 * (n / 4) + fw w 50 8
  let level := fw w 58 4 == 4
  let prev := fw w 43 1 != s.nowSlot % 2
  let it := pack [(60, 4, if level then 1 else 2), (48, 12, g), (44, 4, fw w 44 4), (43, 1, b2n prev), (0, 43, fw w 0 43)]
  if !level then s.item 2 [it]
  else
    let v := fw w 0 24
    let delta := s.get .SP_AMB_AMB_DELTA
    let due := match SMap.get (fun _ => none) s.packer.levels g with
      | none => true
      | some (old, at_) => delta == 0 || decide (delta < ((v : Int) - old).natAbs) ||
          decide (max 1 (s.get .SP_AMB_AMB_REFRESH) ≤ s.girth.begun - at_)
    if due then
      let s := s.item 2 [it]
      -- in a slot for which no blocks are formed the item is discarded, and no level has been sent (R520)
      if s.isUnformed s.nowSlot then s else
      { s with packer := { s.packer with levels := SMap.set (fun _ => none) s.packer.levels g (some (v, s.girth.begun)) } }
    else s.inc .SP_CNT3_ZS_AMB

/-- No word but an ambient word may be sent on lane `n` (R342). -/
def State.onlyAmbient (s : State) (n : Nat) : Bool := !(s.quad n).cs.any (csMay (s.dieLocked (n / 4)))

/-! ### Commands -/

/-- CIC1_OUTPUT (R330): the 100 modulator bits up to this instant, bit 0 the oldest. An output at r0 belongs to the chain before the
reset. -/
def execCic1Output (f : DieNo) (c : ChanNo) (bits : BitVec 100) (s : State) : Host.Outcome State Fault Refusal :=
  let g := gchan f c
  let now := s.dieCount f
  when' (s.working && s.diePowered f && now % 25600 == 0 && (s.chan g).strop.r0 != some now && (s.chan g).strop.cicAt != some now) s
    (fun s => s.cicOutput g bits)

/-- LEVEL_EMIT (R333). -/
def execLevelEmit (f : DieNo) (c : ChanNo) (s : State) : Host.Outcome State Fault Refusal :=
  let g := gchan f c
  let now := s.dieCount f
  let p := (s.chan g).strop
  when' (s.working && s.diePowered f && s.flag .STP_CTRL_EN g && now % presetPeriod p.preset == 0 && s.levelValid g now &&
    (s.die f).firAt == some now && p.levelAt != some now) s (fun s => s.levelEmit g)

/-- STP_SYNC (R334): a write of STP_CTRL. -/
def execStpSync (f : DieNo) (c : ChanNo) (data : Word32) (s : State) : Host.Outcome State Fault Refusal :=
  access' (s.working && s.diePowered f) s (fun s => s.writeStpCtrl (gchan f c) data)

/-- STP_PRESET_WRITE (R334): a write of STP_CTRL. -/
def execStpPresetWrite (f : DieNo) (c : ChanNo) (data : Word32) (s : State) : Host.Outcome State Fault Refusal :=
  access' (s.working && s.diePowered f) s (fun s => s.writeStpCtrl (gchan f c) data)

/-- STP_ENABLE (R334): a write of STP_CTRL. -/
def execStpEnable (f : DieNo) (c : ChanNo) (data : Word32) (s : State) : Host.Outcome State Fault Refusal :=
  access' (s.working && s.diePowered f) s (fun s => s.writeStpCtrl (gchan f c) data)

/-- SYNC_ALL (R334): a write of STPD_CTRL. -/
def execSyncAll (f : DieNo) (data : Word32) (s : State) : Host.Outcome State Fault Refusal :=
  access' (s.working && s.diePowered f) s (fun s => s.writeStpdCtrl f data)

/-- STROP_RESET_APPLY (R334). -/
def execStropResetApply (f : DieNo) (c : ChanNo) (s : State) : Host.Outcome State Fault Refusal :=
  when' (s.working && s.diePowered f && s.resetDue (gchan f c)) s (fun s => s.stropReset (gchan f c))

/-- COEF_WRITE (R339). -/
def execCoefWrite (f : DieNo) (bankB : Bool) (n : Fin 32) (data : Word32) (s : State) : Host.Outcome State Fault Refusal :=
  access' (s.working && s.diePowered f) s (fun s => s.writeCoef f bankB n data)

/-- BANK_REQUEST (R341): a write of STPD_BANK. -/
def execBankRequest (f : DieNo) (data : Word32) (s : State) : Host.Outcome State Fault Refusal :=
  access' (s.working && s.diePowered f) s (fun s => s.writeStpdBank f data)

/-- AMBIENT_WORD_SEND (R342): no other control and status word waits, and at most one ambient word in any 8 blocks of 16.5 cu. -/
def execAmbientWordSend (n : LaneNo) (s : State) : Host.Outcome State Fault Refusal :=
  let q := (s.formPrims n).quad n
  match q.cs.find? (fun w => csRank w == 4) with
  | some w =>
    when' (s.working && s.laneReady n && !bitOf (s.die (n.val / 4)).alignDue (n % 4) && (s.formPrims n).onlyAmbient n &&
      s.ambientSpaced n) s (fun s => (s.setQuad n { q with cs := q.cs.erase w, ambAt := some s.frc }).laneSend n false w)
  | none => .next s

/-- AMBIENT_COLLECT (R343): a level or flicker word from a lane. -/
def execAmbientCollect (n : LaneNo) (w : Word64) (s : State) : Host.Outcome State Fault Refusal :=
  when' (s.working && (fw w 58 6 == 0x34 || fw w 58 6 == 0x35)) s (fun s => s.ambientCollect n w)

end Sys2Proof.Machine
end

