-- ==== Sys2Proof/Machine/Link.lean ====
section
/-! DEFINITION. The Shathen links beyond their lanes (10): what a die sends as control and status words, its ALIGN block and the
latency the Saddle forms, TSET; and what a die keeps when its rail is switched (18 R451, R452). -/

namespace Sys2Proof.Machine

/-! ### Die state -/

/-- A register word of die `f` or of one of its channels. -/
def dieKey (f k : Nat) : Bool :=
  match Reg.all[k % 512]? with
  | some r =>
    match r.place.space with
    | .die => k / 512 / r.place.count == f
    | .chan => k / 512 / 256 == f
    | _ => false
  | none => false

/-- Every register of die `f` and its channels reads its reset value, and nothing is in its channels and quadrants (R452). -/
def State.dieClear (s : State) (f : Nat) : State :=
  { s with regs := s.regs.filter (fun x => !dieKey f x.1), chans := s.chans.filter (fun x => x.1 / 256 != f),
           quads := s.quads.filter (fun x => x.1 / 4 != f),
           harness := { s.harness with retIn := SMap.set (fun _ => []) s.harness.retIn f [] } }

/-- The ring, the injections and the contexts when die `f` leaves JOINED (R55, R105, R126, R301). -/
def State.dieLeave (s : State) (f : Nat) : State :=
  let s := s.ringClear f
  let s := if (s.die f).inj.isSome then s.injEnd f s.frc else s
  s.ctxDieLeft f

/-! ### TSET (R263, R334) -/

/-- The die takes its counter and its slot number; the first TSET since INIT began requests a synchronising reset of every
channel. -/
def State.tset (s : State) (f : Nat) (w : Word64) : State :=
  let count := fw w 12 32 * 65536 + fw w 44 16 + 90
  let s := s.rebase f ((count + 2 ^ 64 - s.frc % 2 ^ 64) % 2 ^ 64)
  let s := if s.flag .SHL_STAT_TSET_DONE f then s else s.stropRequestAll f
  s.putB .SHL_STAT_TSET_DONE true f

/-! ### ALIGN and latency (R259, R260) -/

/-- The ALIGN block of a die (Table 10.3A): HOFF in half-cu. -/
def shathenAlign (slot hoff : Nat) : Word64 := ctlBlock 0x22 (slot % 256 * 2 ^ 40 + hoff % 2 ^ 17 * 2 ^ 23)

/-- CHK of a control block holds (R250). -/
def chkOk (w : Word64) : Bool := fw w 48 8 == crc8 (bytesBE 6 (fw w 0 48))

/-- The latency in quarter-cu of an ALIGN block stamped at `stamp` quarter-cu on the slot-offset scale (R260). -/
def latencyOf (w : Word64) (stamp : Nat) : Int := wrapDiff 18 stamp (2 * fw w 23 17)

/-- Put a latency into HAR_SHLAT; one that its ten bits cannot hold shows a value the manual does not state (log entry 23). -/
def State.putLatency (s : State) (n : Nat) (lat : Int) : State :=
  if 0 ≤ lat ∧ lat < 1024 then s.putS .HAR_SHLAT_LAT lat n
  else let d := s.draw; d.2.put .HAR_SHLAT_LAT d.1 n

/-- The Saddle forms the latency of lane `n` (R260). -/
def State.shathenAlignReceive (s : State) (n : Nat) (w : Word64) (stamp : Nat) : State :=
  let lat := latencyOf w stamp
  let s : State := { s with harness := { s.harness with unmeasured := withBit s.harness.unmeasured n false } }
  if !s.joined (n / 4) then s.putLatency n lat
  else if 4 < (lat - s.get .HAR_SHLAT_LAT n).natAbs ∨ lat < 64 ∨ 160 < lat then
    ((s.slotDieGone (n / 4)).raise 397 n).putLatency n lat
  else s

/-! ### Commands -/

/-- CS_WORD_SEND (R259): the first waiting word that is no ambient word; only a primitive word goes before the ALIGN block of the
slot. -/
def execCsWordSend (n : LaneNo) (s : State) : Host.Outcome State Fault Refusal :=
  let p := s.formPrims n
  let q := p.quad n
  match q.cs.find? (csMay (s.dieLocked (n.val / 4))) with
  | some w => when' (s.working && s.laneReady n && (csRank w == 0 || !bitOf (s.die (n.val / 4)).alignDue (n % 4))) s
      (fun _ => (p.setQuad n { q with cs := q.cs.erase w }).laneSend n false w)
  | none => .next s

/-- SHATHEN_ALIGN_SEND (R259): once per slot, with no primitive word waiting; `half` says that the block begins half a cu later, as one
does that follows a block which ends there. -/
def execShathenAlignSend (n : LaneNo) (half : Bool) (s : State) : Host.Outcome State Fault Refusal :=
  let f := n.val / 4
  let d := s.die f
  when' (s.working && s.laneReady n && decide ((s.quad n).laneAt ≤ 2 * s.frc + b2n half) && bitOf d.alignDue (n % 4) &&
    ((s.formPrims n).quad n).cs.all (fun w => csRank w != 0)) s (fun s =>
    (s.setDie f { d with alignDue := withBit d.alignDue (n % 4) false }).laneSend n true
      (shathenAlign (s.dieCount f / 65536) (2 * s.dieOff f + b2n half)))

/-- SHATHEN_ALIGN_RECEIVE (R260, R249, R250): an undefined CTYPE counts in BAD_HDR, a failed CHK raises event 409. -/
def execShathenAlignReceive (n : LaneNo) (w : Word64) (stamp : Nat) (s : State) : Host.Outcome State Fault Refusal :=
  when' (s.working && s.get .HAR_RXL_STAT_STATE n == 2) s (fun s =>
    if fw w 56 8 ≠ 0x22 then s.inc .HAR_RXL_CNT_BAD_HDR n
    else if !chkOk w then (s.inc .HAR_CNT4_ITEM_CRC).raise 409 n
    else s.shathenAlignReceive n w stamp)

/-- The first lane of die `f` that has left LOCKED since the last declaration (log entry 56). -/
def State.lostLane (s : State) (f : Nat) : Option Nat := s.harness.lostLanes.find? (fun n => n / 4 == f)

/-- SHATHEN_LINK_LOST (R254): a lane of the link has left LOCKED or its clock lane is absent; the die is absent from the slot from the
moment it did so (R32). -/
def execShathenLinkLost (f : DieNo) (s : State) : Host.Outcome State Fault Refusal :=
  match s.lostLane f with
  | some n =>
    when' s.working s (fun s =>
      (({ s with harness := { s.harness with lostLanes := s.harness.lostLanes.filter (fun k => k / 4 != f.val) } } :
        State).slotDieGone f).raise 396 n)
  | none => .next s

/-- TSET (R263). -/
def execTset (f : DieNo) (w : Word64) (s : State) : Host.Outcome State Fault Refusal :=
  when' (s.working && s.diePowered f && fw w 60 4 == 3 && s.retDue f (· == w)) s (fun s => ((s.retTaken f (· == w)).dropFrz0 f).tset f w)

/-- RETURN_OP_UNDEFINED (R261): the Saddle sends none, so the word is a block on its way that has been hit, sync header aside (log entry
207). -/
def execReturnOpUndefined (f : DieNo) (w : Word64) (s : State) : Host.Outcome State Fault Refusal :=
  when' (s.working && s.diePowered f && (fw w 60 4 == 0 || decide (5 < fw w 60 4)) && s.retDue f (fun _ => true)) s (fun s =>
    ((s.retTaken f (fun _ => true)).dropFrz0 f).badWord f)

end Sys2Proof.Machine
end

