-- ==== Sys2Proof/Machine/Burnish.lean ====
section
/-! DEFINITION. Burnish calibration (15): requests and runs, code density, phase, injection runs, commits. -/

namespace Sys2Proof.Machine

/-! ### Rounding of results -/

/-- Write a signed field; a value that it cannot hold is one the manual does not state (log entry 22). -/
def State.putOpen (s : State) (fld : Fld) (v : Int) (i : Nat) : State :=
  if -(2 ^ (fld.w - 1) : Int) ≤ v ∧ v < 2 ^ (fld.w - 1) then s.putS fld v i
  else let d := s.draw; d.2.put fld d.1 i

/-- `a / b` to the nearest; which way a half goes is not stated (log entry 25). -/
def State.nearest (s : State) (a : Int) (b : Nat) : Int × State :=
  if b = 0 then let d := s.draw; (d.1, d.2)
  else if (2 * a) % (2 * b : Nat) = b then
    let d := s.draw
    (a / b + (d.1 % 2 : Nat), d.2)
  else (roundDiv a b, s)

/-- `a / b` in whole units, to one side or the other where it is not whole: the manual does not state the rounding (log
entry 25). -/
def State.whole (s : State) (a : Int) (b : Nat) : Int × State :=
  if b = 0 then let d := s.draw; (d.1, d.2)
  else if a % b = 0 then (a / b, s)
  else
    let d := s.draw
    (a / b + (d.1 % 2 : Nat), d.2)

/-! ### Requests (R367 to R370) -/

/-- Request classes for die `f`; a request that is held already is merged (R370). -/
def State.calRequest (s : State) (f classes : Nat) : State :=
  let b := s.bur f
  s.setBur f { b with req := b.req ||| (classes % 8) }

/-- Request the classes for every die of a mask (R368). -/
def State.calRequests (s : State) (dies classes : Nat) : State := (bitsList 16 dies).foldl (fun t f => t.calRequest f classes) s

/-- The temperature at the start of the last run of a class (R368). -/
def tLast (cls : Nat) : Fld := if cls = 0 then .BURD_TLAST0_T_CD else if cls = 1 then .BURD_TLAST0_T_PH else .BURD_TLAST1_T_INJ

/-- STEP of a class in 1/16 °C. -/
def State.tStep (s : State) (cls : Nat) : Nat :=
  4 * max 1 (s.get (if cls = 0 then .BUR_STEP_CD_STEP else if cls = 1 then .BUR_STEP_PH_STEP else .BUR_STEP_INJ_STEP))

/-- A temperature reading of die `f` (R367, R368, Table 19.3). -/
def State.tempUpdate (s : State) (f temp : Nat) : State :=
  let hot := s.getS .EVD_TEMPHI_TEMPHI f
  let rises := decide (s.getS .BURD_TEMP_TEMP f ≤ hot) && decide (hot < signed 16 temp)
  let s := (s.put .BURD_TEMP_TEMP temp f).putB .BURD_TEMP_STALE false f
  let s := s.setBur f { s.bur f with tempAt := s.girth.begun }
  let s := if rises then s.raiseDie f 22 else s
  (List.range 3).foldl (fun t c =>
    if (t.tStep c : Int) ≤ (signed 16 temp - t.getS (tLast c) f).natAbs then t.calRequest f (2 ^ c) else t) s

/-- A write of BUR_RUN (R368). -/
def State.writeBurRun (s : State) (data : Word32) : State := s.calRequests (Fld.BUR_RUN_DIES.of data) (Fld.BUR_RUN_CLASS.of data)

/-- CAL with its status (Table 18.8). -/
def State.calPrim (s : State) (arg : Nat) : State × Nat := (s.calRequests (fieldOf arg 0 16) (fieldOf arg 16 3), stOk)

/-- The die can run: JOINED, or INIT with DIE_INIT completed and its lanes LOCKED (R369). -/
def State.calDie (s : State) (f : Nat) : Bool :=
  s.joined f || (decide ((s.die f).pwr = .init) && (s.die f).initDone && s.dieLocked f)

/-- Runs of a class go on: its enable bit is 1 (R369); a run that has started waits meanwhile (log entry 200). -/
def State.calOn (s : State) (cls : Nat) : Bool := bitOf (s.get .BUR_CTRL_EN) cls

/-- A class can start on die `f`, concurrency aside (R369, R370). -/
def State.calReady (s : State) (f cls : Nat) : Bool :=
  let b := s.bur f
  bitOf b.req cls && !bitOf b.run cls && s.calOn cls && s.calDie f &&
    (cls != 2 || s.flag .BUR_CTRL_INJ_OK || decide ((s.die f).pwr = .init))

/-- Concurrency of INJ: the lowest waiting die, and fewer than CONC running (R369). -/
def State.injTurn (s : State) (f : Nat) : Bool :=
  let conc := if s.get .BUR_CTRL_CONC = 0 then 16 else s.get .BUR_CTRL_CONC
  decide (((List.range 16).filter (fun x => bitOf (s.bur x).run 2)).length < conc) &&
    (List.range f).all (fun x => !s.calReady x 2)

/-- An INJ run ends in the slot that runs: the slot is not dark (R395). -/
def State.injEnded (s : State) (b : Bool) : State :=
  if b then { s with rosette := { s.rosette with injAt := s.girth.begun + 1 } } else s

/-- A run ends with results (R370). -/
def State.runEnds (s : State) (f cls : Nat) : State :=
  let b := s.bur f
  let s := s.injEnded (cls == 2)
  (s.setBur f { b with run := withBit b.run cls false, res := withBit b.res cls true }).inc .BUR_CNT0_RUNS

/-- What the channels of die `f` have summed in an AMB interval is 0 (R380). -/
def State.ambClear (s : State) (f : Nat) : State :=
  (List.range 256).foldl (fun t c =>
    let x := t.chan (256 * f + c)
    if x.strop.ambSum = 0 then t else t.setChan (256 * f + c) { x with strop := { x.strop with ambSum := 0 } }) s

/-- Die `f` leaves JOINED: its runs are abandoned without a write (R370). -/
def State.calAbort (s : State) (f : Nat) : State :=
  let b := s.bur f
  let s := (s.setBur f { b with run := 0, shots := none }).injEnded (bitOf b.run 2)
  let s := (s.setDie f { s.die f with amb := none }).ambClear f
  (bitsList 3 b.run).foldl (fun t _ => (t.inc .BUR_CNT1_ABORTS).raise 541) s

/-! ### Code density (R371 to R375) -/

/-- The widths of a histogram, times N: 128 n_s. -/
def widths (h : List Nat) : List Int := (h.take 128).map (fun n => (128 * n : Nat))

/-- The choice of R373 over stages `s` on, in units of 1/N fu: the error so far, the selection in force, the new selection and the
widths under it. -/
def chooseTaps (n : Int) (old : Nat) : List Int → Nat → Int → Nat → Nat × List Int
  | [], _, _, new => (new, [])
  | w :: t, s, e, new =>
    if s % 4 = 3 then
      let j := s / 4
      let ws := if bitOf old j then w - n / 4 else w
      let wl := ws + n / 4
      let long := decide ((e + wl - n).natAbs < (e + ws - n).natAbs)
      let w' := if long then wl else ws
      let r := chooseTaps n old t (s + 1) (e + w' - n) (if long then new + 2 ^ j else new)
      (r.1, w' :: r.2)
    else
      let r := chooseTaps n old t (s + 1) (e + w - n) new
      (r.1, w :: r.2)

/-- Largest magnitude. -/
def maxAbs (l : List Int) : Nat := l.foldl (fun m x => max m x.natAbs) 0

/-- Distances of the boundaries 1 to 128 from k fu (R84), in 1/N fu. -/
def boundaries (n : Int) : List Int → Int → List Int
  | [], _ => []
  | w :: t, e => (e + w - n) :: boundaries n t (e + w - n)

/-- DNL and INL of widths in 1/128 fu (R84), saturating at 0xFF (log entry 194). -/
def State.qualOf (s : State) (n : Nat) (ws : List Int) : (Nat × Nat) × State :=
  let d := s.whole (128 * maxAbs (ws.map (fun w => w - n))) n
  let es := boundaries n ws 0
  let mean := es.foldl (· + ·) 0
  let i := d.2.whole (maxAbs (es.map (fun e => 128 * e - mean))) n
  ((min 255 d.1.toNat, min 255 i.1.toNat), i.2)

/-- Choose the selection of channel `g` from its histogram (R373, R375); with a new bias the selection in force stays. -/
def State.cdChannel (s : State) (g : Nat) (h : List Nat) (keep : Bool) : State :=
  let f := g / 256
  let n : Nat := h.foldl (· + ·) 0
  let old := s.get .AWL_TAPSEL_TAPSEL g
  let now := widths h
  let c := chooseTaps n old now 0 0 0
  let qNew := s.qualOf n c.2
  let inForce := s.get .AWL_QUAL_DNL_MAX g
  let take := !keep && (decide (qNew.1.1 ≤ inForce) || inForce == 0xFF)
  let q := if take then qNew else s.qualOf n now
  let s := q.2
  let s := if take then
      let b := s.bur f
      s.setBur f { b with taps := SMap.set (fun _ => none) b.taps (g % 256) (some c.1) }
    else if keep then s else (s.inc .BUR_CNT1_REJECTS).raise 540
  let s := (s.put .AWL_QUAL_DNL_MAX q.1.1 g).put .AWL_QUAL_INL_MAX q.1.2 g
  if 38 < q.1.1 then s.raiseDie f 8 (some (g % 256)) else s

/-- DNL_WORST and INL_WORST are the largest AWL_QUAL fields. -/
def State.showQual (s : State) : State :=
  let worst (x : Fld) : Nat := (List.range 4096).foldl (fun m g => max m (s.get x g)) 0
  (s.put .BUR_QUAL_DNL_WORST (worst .AWL_QUAL_DNL_MAX)).put .BUR_QUAL_INL_WORST (worst .AWL_QUAL_INL_MAX)

/-- The CD run of die `f` ends: bias, then the selections (R374, R375). -/
def State.cdEnd (s : State) (f : Nat) : State :=
  let b := s.bur f
  let total := (b.cdHist.map (fun x => x.2.foldl (· + ·) 0)).foldl (· + ·) 0
  let n128 := (b.cdHist.map (fun x => x.2.getD 128 0)).foldl (· + ·) 0
  let n127 := (b.cdHist.map (fun x => x.2.getD 127 0)).foldl (· + ·) 0
  let now := s.get .AWLD_BIAS_BIAS_NOW f
  let next :=
    if total < 512 * n128 then now - ceilDiv (512 * n128) total
    else if 256 * n127 < total then min 0x3FF (now + 1)
    else now
  let s := s.setBur f { b with bias := if next = now then none else some next, taps := [] }
  let s := b.cdHist.foldl (fun t x => t.cdChannel (256 * f + x.1) x.2 (next != now)) s
  let s := s.setBur f { s.bur f with cdHist := [] }
  s.showQual.runEnds f 0

/-- The next enabled channel of quadrant `n` from `c` on. -/
def State.nextEnabled (s : State) (n c : Nat) : Option Nat :=
  ((List.range 64).filter (fun x => decide (c ≤ x))).find? (fun x => s.flag .PIX_CTRL_EN (64 * n + x))

/-- The histogram of quadrant `n` is cleared. -/
def State.histClear (s : State) (n : Nat) : State :=
  let s := (List.range 128).foldl (fun t k => t.put .BURD_HIST_COUNT 0 (128 * n + k)) s
  let s := (s.put .BURD_HSHORT_COUNT 0 n).put .BURD_HSEL_DONE (withBit (s.get .BURD_HSEL_DONE (n / 4)) (n % 4) false) (n / 4)
  s.setQuad n { s.quad n with histN := 0, histNew := none }

/-- Name the first enabled channel from `c` on for quadrant `n`, or find the quadrant served (R371). -/
def State.histNext (s : State) (n c : Nat) : State :=
  let f := n / 4
  let q := n % 4
  let s := s.histClear n
  let b := s.bur f
  match s.nextEnabled n c with
  | some x =>
    let w := s.get .BURD_HSEL_CH f
    let s := s.put .BURD_HSEL_CH (w - fieldOf w (6 * q) 6 * 2 ^ (6 * q) + x * 2 ^ (6 * q)) f
    s.setBur f { b with cdFrom := setAt b.cdFrom q s.girth.begun }
  | none => s.setBur f { b with cdDone := withBit b.cdDone q true }

/-- The CD run ends once every quadrant is served. -/
def State.cdMaybeEnd (s : State) (f : Nat) : State := if (s.bur f).cdDone = 15 then s.cdEnd f else s

/-- A CD run starts. -/
def State.cdStart (s : State) (f : Nat) : State :=
  let s := s.setBur f { s.bur f with cdDone := 0, cdHist := [] }
  ((List.range 4).foldl (fun t q => t.histNext (4 * f + q) 0) s).cdMaybeEnd f

/-- The channel that the histogram of quadrant `n` serves, in the quadrant. -/
def State.histChan (s : State) (n : Nat) : Nat := fieldOf (s.get .BURD_HSEL_CH (n / 4)) (6 * (n % 4)) 6

/-- A CD run of the die waits for quadrant `n`. -/
def State.cdWaits (s : State) (n : Nat) : Bool := s.calOn 0 && bitOf (s.bur (n / 4)).run 0 && !bitOf (s.bur (n / 4)).cdDone (n % 4)

/-- A write of BURD_HSEL: DONE bits clear by a 1, with the counters of the quadrant. -/
def State.writeHsel (s : State) (f : Nat) (data : Word32) : State :=
  let s := s.take .BURD_HSEL_CH data f
  (bitsList 4 (Fld.BURD_HSEL_DONE.of data)).foldl (fun t q => t.histClear (4 * f + q)) s

/-! ### Phase (R376) -/

/-- A PH result: PHASE_NEXT and APER_NEXT of −round(mean φ). -/
def State.phResult (s : State) (f : Nat) (phi : Int) : State :=
  let b := s.bur f
  s.setBur f { b with phase := some (-phi, -phi + s.getS .BURD_APEROFS_APEROFS f), res := withBit b.res 1 true }

/-- A PH run calls for one adaptation step on each internal lane of its die (R366, R376). -/
def State.oweAdapt (s : State) (f : Nat) : State :=
  { s with harness := { s.harness with eqOwed := s.harness.eqOwed ||| (15 * 2 ^ (4 * f)) } }

/-- One PH measurement of a JOINED die: `out` is r_d − t_s, `back` is s_a − t_d, in fu. The mean of 2^PH_AVG measurements goes
to BURD_PHMEAS and ends a running PH run, or calls for a commit when it exceeds PH_TOL. -/
def State.phMeasure (s : State) (f : Nat) (out back : Int) : State :=
  let b := s.bur f
  if bitOf b.run 1 && !s.calOn 1 then s else
  let sum := b.phiSum + (out - back - s.getS .BURD_ASYM_ASYM f)
  let n := b.phiN + 1
  let size := 2 ^ s.get .BUR_PH_PH_AVG
  if n < size then s.setBur f { b with phiSum := sum, phiN := n }
  else
    let m := s.nearest sum (2 * n)
    let s := (m.2.setBur f { b with phiSum := 0, phiN := 0 }).putOpen .BURD_PHMEAS_PHI m.1 f
    if bitOf b.run 1 then ((s.phResult f m.1).oweAdapt f).runEnds f 1
    else if s.get .BUR_PH_PH_TOL < (-m.1 - s.getS .AWLD_PHASE_PHASE_NOW f).natAbs then s.phResult f m.1
    else s

/-! ### Injection runs (R377 to R380) -/

/-- OFFS_N and THR_N; 0 acts as 1. -/
def State.offsN (s : State) : Nat := max 1 (s.get .BUR_INJ_OFFS_N)
def State.thrN (s : State) : Nat := max 1 (s.get .BUR_INJ_THR_N)

/-- Q_t of a discriminator of channel `g`, 0 timing, 1 trigger, in µA times QPK: the threshold that the trim is to bring about, which is the
base of Table 02.2 (R379, log entry 166). -/
def State.programmed (s : State) (g disc : Nat) : Nat :=
  (if disc = 0 then 4 * s.get .PIXD_TDBASE_TD_BASE (g / 256) else 2 * s.get .PIX_TSTAT_THR_APPLIED g) * s.get .BURD_QPK_QPK (g / 256)

/-- Injections of a stage of an INJ run (R377, R379). -/
def InjRun.size (r : InjRun) : Nat := if r.stage = 0 then r.offs else 16 * r.thr

/-- The discriminator of a scan: 0 timing, 1 trigger. -/
def InjRun.disc (r : InjRun) : Nat := (r.stage - 1) / 2

/-- The channels of the injection group, in the die (R53). -/
def InjRun.chans (r : InjRun) : List Nat := (List.range 64).map (fun x => 4 * x + r.group)

/-- Program INJ_Q of channel `g` for charge `k` of a scan: Q_t (8 + k) / 16, in 1/16 fC, in codes of 10 fC (R379, log entry 25). -/
def State.scanCharge (s : State) (g disc k : Nat) : State :=
  let q := s.whole (s.programmed g disc * (8 + k)) (16 * 160)
  if q.1 < 1024 then q.2.put .PIX_INJ_INJ_Q q.1.toNat g else let d := q.2.draw; d.2.put .PIX_INJ_INJ_Q d.1 g

/-- The charges of the next injection of the run. -/
def State.injCharges (s : State) (f : Nat) (r : InjRun) : State :=
  r.chans.foldl (fun t c =>
    if r.stage = 0 then t.put .PIX_INJ_INJ_Q (t.get .BUR_INJ_CAL_Q) (256 * f + c)
    else t.scanCharge (256 * f + c) r.disc (r.index / r.thr)) s

/-- Program and arm the next injection of the run for the first slot that begins after FRC `t`: one per slot (R377, R379). -/
def State.injProgram (s : State) (f t : Nat) (r : InjRun) : State :=
  let s := (s.setBur f { s.bur f with shots := some r }).injCharges f r
  ((s.put .PIXD_INJ_INJ_GROUP r.group f).putB .PIXD_INJ_INJ_REP false f).injArmAt f t

/-- An INJ run starts with the timing offsets of group 0. -/
def State.injStart (s : State) (f : Nat) : State :=
  (s.setBur f { s.bur f with fired := 0 }).injProgram f s.frc
    { group := 0, stage := 0, again := false, index := 0, shot := false, offs := s.offsN, thr := s.thrN, moved := [], hits := [],
      counts := [], seen := [], aim := [], aper := [] }

/-- The armed injection of a running INJ run has fired. -/
def State.injFired (s : State) (f : Nat) : State :=
  let b := s.bur f
  match b.shots with
  | some r => s.setBur f { b with fired := b.fired + 1, shots := some { r with shot := true, seen := [] } }
  | none => s

/-- All injections of the INJ run have fired. -/
def State.injDone (s : State) (f : Nat) : Bool := s.calOn 2 && bitOf (s.bur f).run 2 && (s.bur f).shots.any (fun r => r.group == 4)

/-- Q50 of a scan in units of Q_t / 16: interpolated between the two charges that bracket the half, none where no two do. -/
def halfPoint (n : Nat) (qt : Int) : List Nat → Nat → Option (Int × Nat)
  | a :: b :: t, k =>
    if 2 * a < n ∧ n ≤ 2 * b then some (qt * (8 + k) * (2 * (b - a)) + qt * (n - 2 * a), 2 * (b - a))
    else halfPoint n qt (b :: t) (k + 1)
  | _, _ => none

/-- Q50 − Q_t over 16 units and a divisor; free where the counts do not bracket the half (log entry 26). -/
def State.scanError (s : State) (n : Nat) (qt : Int) (counts : List Nat) : (Int × Nat) × State :=
  match halfPoint n qt counts 0 with
  | some (a, b) => ((a - 16 * qt * b, b), s)
  | none => let d := s.draw; ((d.1, 1), d.2)

/-- Trim steps of a discriminator in 1 µA, and residual codes (Tables 02.2, 15.4). -/
def trimSteps (disc : Nat) : Nat := if disc = 0 then 2 else 4

/-- A scan of channel `g` ends (R379): the trim scan moves the trim, the residual scan gives CAL_CHQ the residual; a channel whose
THR_APPLIED has changed in the repeat too is FAIL. -/
def State.injScanEnd (s : State) (g : Nat) (r : InjRun) : State :=
  if r.moved.contains (g % 256) then (s.putB .CAL_CHQ_FAIL true g).inc .BUR_CNT2_THR_FAIL
  else
    let qpk := s.get .BURD_QPK_QPK (g / 256)
    let e := s.scanError r.thr (s.programmed g r.disc) (SMap.get (fun _ => []) r.counts (g % 256))
    if r.stage % 2 = 1 then
      let fld : Fld := if r.disc = 0 then .PIX_TDISC_TD_TRIM else .PIX_TDISC_TRG_TRIM
      let m := e.2.nearest (-e.1.1 * trimSteps r.disc) (16 * qpk * e.1.2)
      m.2.putOpen fld (m.2.getS fld g + m.1) g
    else
      let v := e.2.whole e.1.1 (qpk * e.1.2)
      v.2.putOpen (if r.disc = 0 then .CAL_CHQ_TD_RES else .CAL_CHQ_TRG_RES) v.1 g

/-- The stage after `r`; group 4 says that all injections have fired. -/
def InjRun.next (r : InjRun) : InjRun :=
  let r := { r with index := 0, shot := false, again := false, moved := [], counts := [] }
  if r.stage = 4 then { r with group := r.group + 1, stage := 0 } else { r with stage := r.stage + 1 }

/-- A strobe of an INJ run whose injection has fired in the slot that ends: the next injection of the stage; or the scan is repeated
once when THR_APPLIED of a channel has changed; or the stage ends (R379). -/
def State.injStrobe (s : State) (f : Nat) : State :=
  match (s.bur f).shots with
  | some r =>
    if !r.shot || !s.calOn 2 then s
    else if r.index + 1 < r.size then s.injProgram f (s.frc - 1) { r with index := r.index + 1, shot := false }
    else if r.moved ≠ [] ∧ !r.again then
      s.injProgram f (s.frc - 1) { r with index := 0, shot := false, again := true, moved := [], counts := [] }
    else
      let s := if r.stage = 0 then s else r.chans.foldl (fun t c => t.injScanEnd (256 * f + c) r) s
      let r := r.next
      if r.group = 4 then s.setBur f { s.bur f with shots := some r } else s.injProgram f (s.frc - 1) r
  | none => s

/-- The timing offset of channel `g` (R377). -/
def State.injOffset (s : State) (g : Nat) (r : InjRun) : State :=
  let h := SMap.get (fun _ => (0, 0)) r.hits (g % 256)
  if 2 * h.1 < r.offs then s.putB .CAL_CHQ_FAIL true g
  else
    let o := s.nearest ((s.get .BURD_INJREF_INJREF (g / 256) : Int) * h.1 - h.2) h.1
    o.2.putOpen .CAL_OFFS_OFFS_CAL o.1 g

/-- The AMB offset of channel `g` and its synchronising reset (R380). -/
def State.ambOffset (s : State) (g : Nat) : State :=
  let v := s.whole (s.chan g).strop.ambSum 64
  (v.2.putOpen .STP_OFFS_OFFS (v.2.getS .STP_OFFS_OFFS g + v.1) g).stropRequest g

/-- THR_WORST is the largest residual magnitude. -/
def State.showThr (s : State) : State :=
  let m := (List.range 4096).foldl (fun m g => max m (max (s.getS .CAL_CHQ_TD_RES g).natAbs (s.getS .CAL_CHQ_TRG_RES g).natAbs)) 0
  s.put .BUR_QUAL_THR_WORST (min 255 m)

/-- The ring records of an INJ run in which the injected pulse was found: by how much the hit lies behind the pulse, `pos` fu behind the
first cell (R377). -/
def aperShifts (recs : List (Int × Nat)) (found : List Bool) (pos : List Nat) : List Int :=
  ((recs.zip (found.zip pos)).filter (fun x => x.2.1)).map (fun x => x.1.1 - x.2.2)

/-- The pulse positions belong to the records: one for each, and inside it. -/
def aperFits (recs : List (Int × Nat)) (found : List Bool) (pos : List Nat) : Bool :=
  found.length == recs.length && pos.length == recs.length && (recs.zip pos).all (fun x => decide (x.2 < x.1.2))

/-- APEROFS: the mean time of the hit behind the injected pulse in the ring records of the same injection (R377, log entry 201). -/
def State.aperOffset (s : State) (f : Nat) (shifts : List Int) : State :=
  if shifts = [] then s
  else
    let m := s.nearest (shifts.foldl (· + ·) 0) shifts.length
    m.2.putOpen .BURD_APEROFS_APEROFS m.1 f

/-- The INJ run of die `f` ends (R377, R380); `shifts` are those of its ring records. -/
def State.injRunEnd (s : State) (f : Nat) (shifts : List Int) : State :=
  let s := match (s.bur f).shots with
    | some r => (List.range 256).foldl (fun (t : State) c => t.injOffset (256 * f + c) r) s
    | none => s
  let s := s.aperOffset f shifts
  let s := (List.range 256).foldl (fun t c => if (t.chan (256 * f + c)).strop.r0.isSome then t.ambOffset (256 * f + c) else t) s
  let s := s.setBur f { s.bur f with shots := none }
  (s.setDie f { s.die f with amb := none, freshFrom := s.frc + 1 }).showThr.runEnds f 2

/-! ### Starts -/

/-- A run of a class starts on die `f` (R368, R369). -/
def State.calStart (s : State) (f cls : Nat) : State :=
  let b := s.bur f
  let s := s.setBur f { b with req := withBit b.req cls false, run := withBit b.run cls true, last := setAt b.last cls (s.girth.begun + 1) }
  let s := s.put (tLast cls) (s.get .BURD_TEMP_TEMP f) f
  match cls with
  | 0 => s.cdStart f
  | 1 => s.setBur f { s.bur f with phiSum := 0, phiN := 0 }
  | _ => s.injStart f

/-- Start what can start on die `f`. -/
def State.calStarts (s : State) (f : Nat) : State :=
  (List.range 3).foldl (fun t c => if t.calReady f c && (c != 2 || t.injTurn f) then t.calStart f c else t) s

/-! ### Commits (R378, R381, R382) -/

/-- OFFS_NEXT of channel `g` at a commit (R378). -/
def State.offsNext (s : State) (g : Nat) : State :=
  let f := g / 256
  let v := s.nearest (s.getS .BUR_TCO_TCO * (s.getS .BURD_TEMP_TEMP f - s.getS .BURD_TLAST1_T_INJ f)) 256
  v.2.putOpen .AWL_OFFS_OFFS_NEXT (v.2.getS .CAL_OFFS_OFFS_CAL g + v.1) g

/-- The Burnish commits die `f` (R381): LOCK, the NEXT fields that have a result, and COMMIT last, each write a block of 66 cu of the
return lane. -/
def State.calCommit (s : State) (f : Nat) : State :=
  let b := s.bur f
  let s := s.put .BUR_STAT_LOCK (withBit (s.get .BUR_STAT_LOCK) f true)
  let s := (List.range 256).foldl (fun t c => t.offsNext (256 * f + c)) s
  let s := match b.phase with
    | some (p, a) => (s.putOpen .AWLD_PHASE_PHASE_NEXT p f).putOpen .RNGD_APER_APER_NEXT a f
    | none => s
  let s := match b.bias with | some v => s.put .AWLD_BIAS_BIAS_NEXT v f | none => s
  let s := b.taps.foldl (fun t x => match x.2 with | some v => t.put .AWL_TAPSEL_NEXT_TAPSEL_NEXT v (256 * f + x.1) | none => t) s
  let writes := 256 + (if b.phase.isSome then 2 else 0) + b2n b.bias.isSome + (b.taps.filter (fun x => x.2.isSome)).length + 1
  s.setBur f { b with res := 0, phase := none, bias := none, taps := [], classes := b.res, temp := s.get .BURD_TEMP_TEMP f,
                      commitAt := some (s.frc + 66 * writes) }

/-- The calibration record (Table 15.2), formed when the commit has been applied in the slot that begins. -/
def State.calRecord (s : State) (f : Nat) : State :=
  let b := s.bur f
  let r := (s.die f).ramp
  let chan (c : Nat) : Word64 :=
    let x := s.chan (256 * f + c)
    pack [(48, 16, unsigned 16 x.offOld), (32, 16, unsigned 16 x.offNew), (0, 32, s.get .AWL_TAPSEL_TAPSEL (256 * f + c))]
  let slot := s.nowSlot
  let s := s.item 6 ([pack [(60, 4, 4), (48, 12, 259)],
    pack [(60, 4, f), (56, 4, s.get .AWLD_CTRL_EPOCH f), (53, 3, b.classes), (45, 8, s.get .AWLD_RAMP_RAMP_SLOTS f)],
    pack [(32, 32, slot), (16, 16, if b.classes = 0 then s.get .BURD_TEMP_TEMP f else b.temp), (0, 10, s.get .AWLD_BIAS_BIAS_NEXT f)],
    pack [(48, 16, unsigned 16 r.phase0), (32, 16, unsigned 16 r.phase1), (16, 16, unsigned 16 r.aper0), (0, 16, unsigned 16 r.aper1)]] ++
    (List.range 256).map chan)
  let s := s.put .BUR_STAT_LOCK (withBit (s.get .BUR_STAT_LOCK) f false)
  s.setBur f { s.bur f with epoch0 := slot, classes := 0 }

/-! ### Commands -/

/-- TEMP_UPDATE (R367). -/
def execTempUpdate (f : DieNo) (temp : BitVec 16) (s : State) : Host.Outcome State Fault Refusal :=
  when' (s.working && s.diePowered f) s (fun s => s.tempUpdate f temp.toNat)

/-- TEMP_STALE (R367, Table 19.2): the rise of STALE raises die event 23. -/
def execTempStale (f : DieNo) (s : State) : Host.Outcome State Fault Refusal :=
  when' (s.working && decide ((s.bur f).tempAt + 1024 ≤ s.girth.begun)) s (fun s =>
    if s.flag .BURD_TEMP_STALE f then s else (s.putB .BURD_TEMP_STALE true f).raiseDie f 23)

/-- CAL_MAXINT_EXPIRE (R368): a die that has had no run of the class has no such run to count from (log entry 165). -/
def execCalMaxintExpire (f : DieNo) (cls : Fin 3) (s : State) : Host.Outcome State Fault Refusal :=
  let m := s.get .BUR_CTRL_MAXINT
  let last := (s.bur f).last.getD cls 0
  when' (s.working && m != 0 && last != 0 && decide (last + m * 4096 ≤ s.girth.begun + 1)) s (fun s => s.calRequest f (2 ^ cls.val))

/-- CAL_RUN_REQUEST (R368): a write of BUR_RUN. -/
def execCalRunRequest (data : Word32) (s : State) : Host.Outcome State Fault Refusal := access' s.alive s (fun s => s.writeBurRun data)

/-- CAL_RUN_START (R369). -/
def execCalRunStart (f : DieNo) (s : State) : Host.Outcome State Fault Refusal := when' s.working s (fun s => s.calStarts f)

/-- HISTOGRAM_DONE (R371). -/
def execHistogramDone (n : LaneNo) (s : State) : Host.Outcome State Fault Refusal :=
  when' (s.working && s.cdWaits n && bitOf (s.get .BURD_HSEL_DONE (n / 4)) (n % 4)) s (fun s =>
    let f := n.val / 4
    let b := s.bur f
    let c := s.histChan n
    let h := (List.range 128).map (fun k => s.get .BURD_HIST_COUNT (128 * n + k)) ++ [s.get .BURD_HSHORT_COUNT n]
    let s := s.setBur f { b with cdHist := SMap.set (fun _ => []) b.cdHist (64 * (n % 4) + c) h }
    (s.histNext n (c + 1)).cdMaybeEnd f)

/-- HISTOGRAM_TIMEOUT (R371). -/
def execHistogramTimeout (n : LaneNo) (s : State) : Host.Outcome State Fault Refusal :=
  let due := decide ((s.bur (n / 4)).cdFrom.getD (n % 4) 0 + s.get .BUR_CD_CD_TIMEOUT ≤ s.girth.begun)
  when' (s.working && s.cdWaits n && due && !bitOf (s.get .BURD_HSEL_DONE (n / 4)) (n % 4)) s (fun s =>
    ((s.inc .BUR_CNT2_STARVED).histNext n (s.histChan n + 1)).cdMaybeEnd (n / 4))

/-- INJ_FIRE (R53, R379). -/
def execInjFire (f : DieNo) (s : State) : Host.Outcome State Fault Refusal :=
  match (s.die f).inj with
  | some i => when' (s.working && s.diePowered f && s.injDue f i) s
      (fun s => (s.injFire f i).injFired f)
  | none => .next s

/-- FIR_OUTPUT (R331, R380): an AMB interval begins with the first FIR output after the last injection of an INJ run. -/
def execFirOutput (f : DieNo) (s : State) : Host.Outcome State Fault Refusal :=
  when' (s.working && s.diePowered f && s.dieCount f % firStep == 0 && (s.die f).firAt != some (s.dieCount f)) s (fun s =>
    let s := s.firOutput f
    if s.injDone f && (s.die f).amb.isNone then (s.ambClear f).setDie f { s.die f with amb := some 0 } else s)

/-- The ring records of the INJ run of die `f` that hold the hit of their injection. -/
def State.aperRecs (s : State) (f : Nat) : List (Int × Nat) :=
  match (s.bur f).shots with
  | some r => r.aper
  | none => []

/-- INJ_RUN_END (R377): for each of these records, in order, whether the Burnish finds the injected pulse in its codes, and how many fu
behind the first cell (log entry 201). -/
def execInjRunEnd (f : DieNo) (found : List Bool) (pos : List Nat) (s : State) : Host.Outcome State Fault Refusal :=
  if s.injDone f && (s.die f).amb.any (fun a => decide (64 ≤ a)) && !aperFits (s.aperRecs f) found pos then .fault .illFormed
  else when' (s.working && s.injDone f && (s.die f).amb.any (fun a => decide (64 ≤ a))) s
    (fun s => s.injRunEnd f (aperShifts (s.aperRecs f) found pos))

/-- CAL_COMMIT (R381). -/
def execCalCommit (f : DieNo) (s : State) : Host.Outcome State Fault Refusal :=
  let b := s.bur f
  when' (s.working && s.diePowered f && b.res != 0 && !s.flag .AWLD_CTRL_PENDING f &&
    !bitOf (s.get .BUR_STAT_LOCK) f && decide (b.epoch0 + (s.die f).ramp.r ≤ s.nowSlot + 1)) s (fun s => s.calCommit f)

end Sys2Proof.Machine
end

