-- ==== Sys2Proof/Machine/Rosette.lean ====
section
/-! DEFINITION. Rosette calibration light driver (16): sinks, dimmed DC, pulse trains, colour compensation, proofs, lamp failure. -/

namespace Sys2Proof.Machine

/-- Colour of sink `k` (R385). -/
def colourOf (k : Nat) : Nat := k / 8

/-- φ_k (R388). -/
def phiOf (k : Nat) : Nat := k * 65536 / 24

/-- The settings in force of sink `k`. -/
def State.sink (s : State) (k : Nat) : SinkSet := s.rosette.sets.getD k ⟨0, 0⟩

/-- The current of sink `k` while on, in nA times 255 × 1,023: that of R385, or 1.5 mA of a proof pulse (R395). -/
def State.sinkCurrent (s : State) (k kind : Nat) : Nat :=
  if kind = 3 then 1500000 * (255 * 1023) else 150000000 * s.rosette.global * s.get .RSE_CHST_CUR_EFF k

/-- All sinks are off under R387. -/
def State.rseOff (s : State) : Bool := !s.flag .RSE_CTRL_EN || !s.working || s.flag .PRS_STATE_BROWNOUT ||
  s.flag .RSE_STAT_BROWN

/-- Sink `k` may not be on: the Rosette is off, or its colour is switched off (R396). -/
def State.sinkOff (s : State) (k : Nat) : Bool := s.rseOff || bitOf s.rosette.off (colourOf k)

/-- Sink `k` goes on now for `w` cu. -/
def State.sinkOn (s : State) (k w kind : Nat) : State :=
  { s with rosette := { s.rosette with lit := SMap.set (fun _ => none) s.rosette.lit k (some ⟨s.frc, s.frc + w, false, kind⟩) } }

/-- Sink `k` goes off. -/
def State.sinkCut (s : State) (k : Nat) : State :=
  { s with rosette := { s.rosette with lit := SMap.set (fun _ => none) s.rosette.lit k none } }

/-- Every sink that may not be on goes off. -/
def State.sinksCut (s : State) : State :=
  { s with rosette := { s.rosette with lit := s.rosette.lit.filter (fun x => !s.sinkOff x.1) } }

/-- BROWNOUT switches the sinks off (R387, R397). -/
def State.rosetteBrown (s : State) : State :=
  let cut := (s.putB .RSE_STAT_BROWN true).sinksCut
  if s.flag .RSE_CTRL_EN && !s.flag .RSE_STAT_BROWN then cut.raise 514 else cut

/-! ### Trains (R389 to R391) -/

/-- The train that rules slot `n`: of those armed, each from its first qualifying slot on, the one armed last. -/
def State.trainOf (s : State) (n : Nat) : Option Train :=
  s.rosette.next.foldl (fun t x => if x.from_ ≤ n then some x else t) s.rosette.train

/-- A pulse of the train falls in slot `n`. -/
def Train.uses (t : Train) (n : Nat) : Bool := decide (t.from_ ≤ n) && n % t.period == 0 && t.left != some 0

/-- ARMED follows the trains. -/
def State.showArmed (s : State) : State := s.putB .RSE_STAT_ARMED (s.rosette.train.isSome || !s.rosette.next.isEmpty)

/-- A train is armed: one that is to run or waits goes on up to its first qualifying slot (R390). -/
def State.armTrain (s : State) (t : Train) : State :=
  if s.rosette.train.isNone && s.rosette.next.isEmpty then { s with rosette := { s.rosette with train := some t } }
  else { s with rosette := { s.rosette with next := s.rosette.next ++ [t] } }

/-- A write of RSE_PULSE: ARM latches a train (R389, R390). -/
def State.writeRsePulse (s : State) (data : Word32) : State :=
  let s := ((s.take .RSE_PULSE_POFF data).take .RSE_PULSE_COLOURS data).take .RSE_PULSE_WIDTH data
  if Fld.RSE_PULSE_ARM.on data then
    let period := max 1 (s.get .RSE_PPER_PERIOD)
    let count := s.get .RSE_PPER_COUNT
    let t : Train := { poff := s.get .RSE_PULSE_POFF, colours := s.get .RSE_PULSE_COLOURS,
                       width := min 2560 (max 11 (s.get .RSE_PULSE_WIDTH)), period := period,
                       left := if count = 0 then none else some count, from_ := (s.nowSlot / period + 1) * period }
    (s.armTrain t).showArmed
  else s

/-- The train ends (R390). -/
def State.trainStop (s : State) : State := ({ s with rosette := { s.rosette with train := none, next := [] } } : State).showArmed

/-- A light mark (Table 16.1) with its on edge at coarse count `p`. -/
def lightMark (width level colours : Nat) (proof suppr : Bool) (no p : Nat) : List Word64 :=
  [pack [(60, 4, 2), (47, 13, width), (39, 8, level), (36, 3, colours), (35, 1, b2n proof), (34, 1, b2n suppr), (0, 32, no)],
   pack [(60, 4, 2), (59, 1, 1), (23, 32, p / 65536), (7, 16, p % 65536)]]

/-- A pulse of train `t` in the running slot (R391). One that names no colour fires, with no sink (log entry 167). -/
def State.pulseFire (s : State) (t : Train) : State :=
  let n := s.nowSlot
  let p := n * 65536 + t.poff
  let colours := (List.range 3).filter (fun c => bitOf t.colours c)
  let suppr := s.rseOff || (colours != [] && colours.all (fun c => bitOf s.rosette.off c))
  let left := t.left.map (· - 1)
  let s : State := { s with rosette := { s.rosette with
    train := if left = some 0 then none else some { t with left := left },
    next := s.rosette.next.filter (fun x => decide (n < x.from_)), fired := some s.girth.begun } }
  let s := s.showArmed.item 7 (lightMark t.width s.rosette.global t.colours false suppr (s.get .RSE_PULSENO_PULSENO) p)
  let s := (s.inc .RSE_PULSENO_PULSENO).inc .RSE_CNT0_PULSES
  let s :=
    if suppr then (s.inc .RSE_CNT2_SUPPRESSED).raise 513
    else (List.range 24).foldl (fun u k =>
      if bitOf t.colours (colourOf k) && (u.sink k).mode == 2 && !u.sinkOff k then u.sinkOn k t.width 2 else u) s
  s.calTrig .STR_CALT_CAL_LIGHT p

/-! ### Colour compensation (R392, R393) -/

/-- Point `i` of colour `c`. -/
def State.compX (s : State) (c i : Nat) : Int := s.getS .RSE_COMP_X (8 * c + i)
def State.compF (s : State) (c i : Nat) : Nat := s.get .RSE_COMP_F (8 * c + i)

/-- F_c for the value `v` (R392). Where the points do not rise, which the manual forbids, the interpolation has no value (log
entry 27). -/
def State.factor (s : State) (c : Nat) (v : Int) : Nat × State :=
  if v ≤ s.compX c 0 then (s.compF c 0, s)
  else if s.compX c 7 ≤ v then (s.compF c 7, s)
  else
    let i := ((List.range 7).filter (fun i => decide (s.compX c i ≤ v))).getLastD 0
    let dx := s.compX c (i + 1) - s.compX c i
    if dx ≤ 0 then s.draw
    else
      let f := (s.compF c i : Int) + roundDiv ((v - s.compX c i) * ((s.compF c (i + 1) : Int) - s.compF c i)) dx.toNat
      (f.toNat, s)

/-- A valid lamp-board sample (R362, R392, R393). -/
def State.lampSample (s : State) (code : Int) (range : Nat) : State :=
  let v := code * (4 ^ (3 - range) : Nat) / 4
  let s : State := { s with rosette := { s.rosette with sampleAt := s.girth.begun } }
  let s := (s.putS .RSE_TEMPV_V v).putB .RSE_STAT_TEMP_STALE false
  if s.flag .RSE_CTRL_COMP_EN then
    (List.range 3).foldl (fun t c => let f := t.factor c v; f.2.put .RSE_FAC_FAC f.1 c) s
  else s

/-- CUR_EFF before the clamp (R392). -/
def State.curEff (s : State) (k : Nat) : Nat := (roundDiv (s.get .RSE_CH_CUR k * s.get .RSE_FAC_FAC (colourOf k) : Nat) 2048).toNat

/-- A sink that is on at a strobe goes on only under the setting of the slot that begins (R387), but a pulse that passes the strobe stays on to its
end under a mode that is not off (R391). In dimmed DC it is on up to the end of its on-time modulo 2^16, also when it was off before (R388). -/
def State.sinkStrobe (s : State) (k : Nat) : State :=
  let m := (s.sink k).mode
  let stop := s.frc + (phiOf k + (s.sink k).duty * 16 - 65536)
  let keep (l : Lit) (e : Nat) : State :=
    { s with rosette := { s.rosette with lit := SMap.set (fun _ => none) s.rosette.lit k (some { l with end_ := e }) } }
  match SMap.get (fun _ => none) s.rosette.lit k with
  | some l =>
    if s.sinkOff k || m == 0 || m == 3 then s.sinkCut k
    else if l.kind = 3 then s
    else if m = 1 then
      let e := if l.kind = 1 then stop else max l.end_ stop
      if e = s.frc then s.sinkCut k else keep l e
    else if l.kind = m then s
    else s.sinkCut k
  | none => if m = 1 ∧ s.frc < stop ∧ !s.sinkOff k then s.sinkOn k (stop - s.frc) 1 else s

/-- The length of a proof interval (R395). -/
def State.proofInt (s : State) : Nat := max 32 (s.get .RSE_PROOF_PROOF_INT)

/-- Sink `k` is due in slot `n` of the interval that began at `n0` (R395). An on-time of dimmed DC of 768 cu is a diagnosis of its own in
every slot (R394). -/
def State.proofDue (s : State) (n0 n k : Nat) : Bool :=
  decide (n0 + k ≤ n) && (s.sink k).mode != 0 && (s.sink k).mode != 3 && ((s.sink k).mode == 2 || decide ((s.sink k).duty < 48)) &&
    decide (SMap.get (fun _ => 0) s.rosette.diag k ≤ n0 + k)

/-- The strobe that ends slot `n` ends the proof interval that the slot is in: what was due under the settings of that interval (R395). -/
def State.proofStrobe (s : State) (n : Nat) : State :=
  let n0 := n / s.proofInt * s.proofInt
  if s.working && s.flag .RSE_CTRL_PROOF_EN && decide (n / s.proofInt < s.nowSlot / s.proofInt) then
    { s with rosette := { s.rosette with intEnd := some ((List.range 24).any (fun k => s.proofDue n0 (n0 + s.proofInt - 1) k)) } }
  else s

/-- What the Rosette takes at the strobe that ends slot `n` (R387, R392, R396): the settings, the factors, the colours that are restored,
the sinks after a dip (R479). Event 515
is raised when the clamp of a sink begins (log entry 28). -/
def State.rosetteStrobe (s : State) (n : Nat) : State :=
  let s := s.proofStrobe n
  let s := if s.flag .PRS_STATE_BROWNOUT then s else s.putB .RSE_STAT_BROWN false
  let sets := (List.range 24).map (fun k => (⟨s.get .RSE_CH_MODE k, s.get .RSE_CH_DUTY k⟩ : SinkSet))
  let clamped := maskOf ((List.range 24).filter (fun k => decide (1023 < s.curEff k)))
  let fresh := (List.range 24).any (fun k => bitOf clamped k && !bitOf s.rosette.clamped k)
  let off := if s.flag .RSE_STAT_FUNC_OFF then 7 else s.get .RSE_STAT_COL_OFF
  let s := (List.range 24).foldl (fun t k => t.put .RSE_CHST_CUR_EFF (min 1023 (t.curEff k)) k) s
  let r : Rosette := { s.rosette with sets := sets, global := s.get .RSE_CTRL_GLOBAL, clamped := clamped, off := off }
  let s := (List.range 24).foldl (fun t k => t.sinkStrobe k) ({ s with rosette := r } : State)
  if fresh then s.raise 515 else s

/-! ### Registers (R398) -/

/-- A write of RSE_CTRL. -/
def State.writeRseCtrl (s : State) (data : Word32) : State :=
  let s := ((((s.take .RSE_CTRL_GLOBAL data).take .RSE_CTRL_COMP_EN data).take .RSE_CTRL_PROOF_EN data).take
    .RSE_CTRL_FAIL_ACT data).take .RSE_CTRL_EN data
  let s := if s.flag .RSE_CTRL_COMP_EN then s else (List.range 3).foldl (fun t c => t.put .RSE_FAC_FAC 0x800 c) s
  (if Fld.RSE_CTRL_STOP.on data then s.trainStop else s).sinksCut

/-- A write of RSE_STAT: FUNC_OFF and COL_OFF clear by a 1; the sinks are restored at the next strobe (R396). -/
def State.writeRseStat (s : State) (data : Word32) : State :=
  let s := if Fld.RSE_STAT_FUNC_OFF.on data then s.putB .RSE_STAT_FUNC_OFF false else s
  let w := Fld.RSE_STAT_COL_OFF.of data
  s.put .RSE_STAT_COL_OFF (maskOf ((List.range 3).filter (fun c => bitOf (s.get .RSE_STAT_COL_OFF) c && !bitOf w c)))

/-! ### Diagnosis and failure (R394, R396) -/

/-- The action on a declared fault of sink `k`; the sinks go off at the next edge, within the 128 cu of R396. -/
def State.lampFail (s : State) (k : Nat) : State :=
  let s :=
    if s.flag .RSE_CTRL_FAIL_ACT then s.put .RSE_STAT_COL_OFF (withBit (s.get .RSE_STAT_COL_OFF) (colourOf k) true)
    else s.putB .RSE_STAT_FUNC_OFF true
  let off := if s.flag .RSE_CTRL_FAIL_ACT then withBit s.rosette.off (colourOf k) true else 7
  ({ s with rosette := { s.rosette with off := off, cut := true } } : State).raise 510

/-- The sinks that a fault has switched off go off. -/
def State.cutNow (s : State) : State :=
  if s.rosette.cut then ({ s with rosette := { s.rosette with cut := false } } : State).sinksCut else s

/-- A diagnosis of sink `k`: its current in nA, and its land voltage in mV. -/
def State.diagnose (s : State) (k : Nat) (l : Lit) (na mv : Nat) : State :=
  let low := decide (2 * na * (255 * 1023) < s.sinkCurrent k l.kind)
  let r := s.rosette
  let r : Rosette := { r with lit := SMap.set (fun _ => none) r.lit k (some { l with diag := true }),
                              diag := SMap.set (fun _ => 0) r.diag k (s.nowSlot + 1) }
  let s : State := { s with rosette := r }
  let short := decide (50 * s.get .RSE_DIAG_SHORT_V < mv)
  let s := if low then ((s.putB .RSE_CHST_OPEN true k).inc .RSE_CNT1_OPENS).raise 508 else s
  let s := if short then ((s.putB .RSE_CHST_SHORT true k).inc .RSE_CNT1_SHORTS).raise 509 else s
  if low || short then s.lampFail k else s

/-! ### Proof pulses (R395) -/

/-- Slot `n` is dark. -/
def State.darkSlot (s : State) (n : Nat) : Bool :=
  !((s.trainOf n).any (fun t => t.uses n)) && s.rosette.fired != some s.girth.begun && s.rosette.injAt != s.girth.begun + 1 &&
    (List.range 16).all (fun f => !bitOf (s.bur f).run 2) && !s.flag .PRS_STATE_BROWNOUT

/-- The lowest due sink of the running slot; one that is switched off receives no proof pulse (R396). -/
def State.proofSink (s : State) : Option Nat :=
  let n := s.nowSlot
  (List.range 24).find? (fun k => s.proofDue (n / s.proofInt * s.proofInt) n k && !s.sinkOff k)

/-- T has reached offset `o` of the slot that runs: after a backward step T may lie before the slot (R518). -/
def State.slotReached (s : State) (o : Nat) : Bool := decide (s.nowSlot * 65536 + o ≤ s.nowCu)

/-- Offset of the proof pulse of sink `k`. -/
def State.proofOff (s : State) (k : Nat) : Nat :=
  if (s.sink k).mode = 2 then s.get .RSE_PROOF_PROOF_OFF else (phiOf k + (s.sink k).duty * 16 + 256) % 65536

/-- A proof pulse of sink `k`. Its mark's pulse number is not stated: a proof takes none (log entry 29). -/
def State.proofPulse (s : State) (k : Nat) : State :=
  let p := s.nowSlot * 65536 + s.proofOff k
  let d := s.draw
  let s := (d.2.item 7 (lightMark 5120 k (2 ^ colourOf k) true false d.1 p)).inc .RSE_CNT0_PROOFS
  let s : State := { s with rosette := { s.rosette with proofAt := some s.girth.begun } }
  s.sinkOn k 5120 3

/-! ### Commands -/

/-- PULSE_ARM (R389): a write of RSE_PULSE. -/
def execPulseArm (data : Word32) (s : State) : Host.Outcome State Fault Refusal := access' s.alive s (fun s => s.writeRsePulse data)

/-- PULSE_FIRE (R391); a train that runs while the Rosette is off takes its numbers and marks all the same. -/
def execPulseFire (s : State) : Host.Outcome State Fault Refusal :=
  match s.trainOf s.nowSlot with
  | some t => when' (s.alive && t.uses s.nowSlot && s.rosette.fired != some s.girth.begun && s.slotReached t.poff) s
      (fun s => s.pulseFire t)
  | none => .next s

/-- PULSE_STOP (R390): a write of RSE_CTRL. -/
def execPulseStop (data : Word32) (s : State) : Host.Outcome State Fault Refusal := access' s.alive s (fun s => s.writeRseCtrl data)

/-- LD_DIAGNOSIS (R394): 768 cu into an on-time of at least 768 cu; the current of the sink in nA and its land voltage in mV. -/
def execLdDiagnosis (k : Fin 24) (na mv : Nat) (s : State) : Host.Outcome State Fault Refusal :=
  match SMap.get (fun _ => none) s.rosette.lit k with
  | some l => when' (s.working && !l.diag && decide (l.on_ + 768 ≤ l.end_) && decide (l.on_ + 768 ≤ s.frc)) s
      (fun s => s.diagnose k l na mv)
  | none => .next s

/-- LAMP_TEMP_TIMEOUT (R393). -/
def execLampTempTimeout (s : State) : Host.Outcome State Fault Refusal :=
  when' (s.working && !s.flag .RSE_STAT_TEMP_STALE && decide (s.rosette.sampleAt + max 1 (s.get .RSE_TEMPTO_TEMP_TO) ≤ s.girth.begun)) s
    (fun s => (s.putB .RSE_STAT_TEMP_STALE true).raise 511)

/-- PROOF_PULSE (R395). -/
def execProofPulse (s : State) : Host.Outcome State Fault Refusal :=
  match s.proofSink with
  | some k => when' (s.working && s.flag .RSE_CTRL_PROOF_EN && s.darkSlot s.nowSlot && s.rosette.proofAt != some s.girth.begun &&
      s.slotReached (s.proofOff k)) s (fun s => s.proofPulse k)
  | none => .next s

/-- PROOF_INTERVAL_END (R395): late when a sink was still due at the end, whether it was switched off or not (log entry 211). -/
def execProofIntervalEnd (s : State) : Host.Outcome State Fault Refusal :=
  match s.rosette.intEnd with
  | some late => when' s.working s (fun s =>
      let s : State := { s with rosette := { s.rosette with intEnd := none } }
      if late then (s.inc .RSE_CNT2_PROOF_LATE).raise 512 else s)
  | none => .next s

/-- LAMP_RESTORE (R396): a write of RSE_STAT. -/
def execLampRestore (data : Word32) (s : State) : Host.Outcome State Fault Refusal := access' s.alive s (fun s => s.writeRseStat data)

/-- DIMMED_DC_ON (R388): on from φ_k to the end of the on-time, modulo 2^16, in the slot that runs. -/
def execDimmedDcOn (k : Fin 24) (s : State) : Host.Outcome State Fault Refusal :=
  let x := s.sink k
  let since := (s.nowOff + 65536 - phiOf k) % 65536
  when' (s.working && x.mode == 1 && !s.sinkOff k && decide (since < x.duty * 16) &&
    (SMap.get (fun _ => none) s.rosette.lit k).isNone) s (fun s => s.sinkOn k (x.duty * 16 - since) 1)

/-- ON_TIME_END (R389). -/
def execOnTimeEnd (k : Fin 24) (s : State) : Host.Outcome State Fault Refusal :=
  match SMap.get (fun _ => none) s.rosette.lit k with
  | some l => when' (s.working && decide (l.end_ ≤ s.frc)) s (fun s =>
      { s with rosette := { s.rosette with lit := SMap.set (fun _ => none) s.rosette.lit k none } })
  | none => .next s

end Sys2Proof.Machine
end

