-- ==== Sys2Proof/Machine/Tack.lean ====
section
/-! DEFINITION. Tack housekeeping conversion (14): scans, visits, tests, urgent requests, samples. -/

namespace Sys2Proof.Machine

/-- One C40 cycle in cu. -/
def c40 : Nat := 64

/-! ### Channels and visits (R348, R350) -/

/-- Input `n` heads a pair (R348). -/
def State.hkPair (s : State) (n : Nat) : Bool := n % 2 == 0 && decide (n ≤ 28) && s.flag .HK_CHCFG_DIFF n

/-- The channel that converts input `n`: the even input of a pair. -/
def State.hkChannel (s : State) (n : Nat) : Nat := if n % 2 = 1 && s.hkPair (n - 1) then n - 1 else n

/-- The channels of a scan in ascending order, HK31 apart (R358). -/
def State.hkList (s : State) : List Nat :=
  (List.range 31).filter (fun n => bitOf (s.get .HK_MASK_MASK) n && s.hkChannel n == n)

/-- Converter A is 0, B is 1. -/
def cv (cb : Bool) : Nat := if cb then 1 else 0

/-- The visit of a converter. -/
def State.visit (s : State) (cb : Bool) : Option Visit := s.tack.visits.getD (cv cb) none

/-- Write the visit of a converter. -/
def State.setVisit (s : State) (cb : Bool) (v : Option Visit) : State :=
  { s with tack := { s.tack with visits := setAt s.tack.visits (cv cb) v } }

/-- Cycles of BREAK and DISCHARGE. -/
def State.hkOpen (s : State) : Nat := 1 + max 2 (s.get .HK_TIMING_DISCH)

/-- A visit of channel `ch` that begins with BREAK now. -/
def State.newVisit (s : State) (kind ch : Nat) : Visit :=
  { kind := kind, ch := ch, phase := .make, due := s.frc + s.hkOpen * c40, cfg := 0, win := 0, at_ := 0, code := none,
    cmw := false, comp := false, suspect := false, owt := false, plaus := false, waited := false }

/-- EX output and current of a visit, in 10 µA; 0 drives nothing. -/
def Visit.exSrc (v : Visit) : Nat := Fld.HK_CHCFG_EXSRC.of v.cfg
def Visit.exCur (v : Visit) : Nat := min 200 (Fld.HK_CHCFG_EXCUR.of v.cfg)

/-- The excitation of a visit is on (R350): from MAKE until the visit ends. -/
def Visit.excited (v : Visit) : Bool := (v.phase == .sample || v.phase == .test) && v.exCur != 0

/-- The cycles of SETTLE. -/
def settleCycles (cfg : Word32) : Nat := 4 * max 1 (Fld.HK_CHCFG_SETTLE.of cfg)

/-- A visit is tested for an open wire (R356). -/
def tested (cfg : Word32) : Bool := Fld.HK_CHCFG_OW_PULL.of cfg == 1 || Fld.HK_CHCFG_OW_PULL.of cfg == 2

/-- Cycles of OWTEST and CHECK. -/
def State.testCycles (s : State) : Nat := max 16 (s.get .HK_TIMING_OW_TIME) + 20

/-- Raise one of the events 496 to 498 at most once per scan (R363). -/
def State.tellOnce (s : State) (id : Nat) : State :=
  let b := id - 496
  if bitOf s.tack.told b then s else ({ s with tack := { s.tack with told := withBit s.tack.told b true } } : State).raise id

/-! ### Scans (R358, R359) -/

/-- A scan begins. -/
def State.scanBegin (s : State) : State :=
  let s := (s.inc .HK_STAT_SCANNO).putB .HK_STAT_SCANNING true
  { s with tack := { s.tack with queue := s.hkList, plaus31 := bitOf (s.get .HK_MASK_MASK) 31, step := false, compared := false,
                                 waiting := false, told := 0 } }

/-- The strobe of a slot whose number is a multiple of PERIOD calls for a scan (R358). -/
def State.tackStrobe (s : State) : State :=
  let due := s.working && s.get .HK_CTRL_PERIOD != 0 && s.nowSlot % s.get .HK_CTRL_PERIOD == 0
  { s with tack := { s.tack with scanDue := due } }

/-- A strobe calls for a scan. -/
def State.scanCall (s : State) : State :=
  let s : State := { s with tack := { s.tack with scanDue := false } }
  if s.flag .HK_STAT_SCANNING then
    (({ s with tack := { s.tack with waiting := true } } : State).inc .HK_CNT2_SCAN_LATE).raise 500
  else s.scanBegin

/-- The running scan ends, and one that waits begins. -/
def State.scanEnd (s : State) : State :=
  let s := ((s.inc .HK_CNT4_SCANS).putB .HK_STAT_SCANNING false).raise 506
  if s.tack.waiting then s.scanBegin else s

/-- The visit of the urgent request that converter A serves. -/
def State.urgentVisit (s : State) : Option Visit := (s.visit false).filter (fun v => v.kind == 2)

/-- A step gives converter A a visit. A visit that A cannot start, since it serves an urgent request, counts as interrupted in BREAK
(log entry 160). -/
def State.startA (s : State) (v : Visit) : State :=
  if s.urgentVisit.isSome then { s with tack := { s.tack with saved := some v } } else s.setVisit false (some v)

/-- The next step of the scan: two channels, the plausibility step, or the end. -/
def State.stepStart (s : State) : State :=
  match s.tack.queue with
  | a :: t =>
    let s := s.startA (s.newVisit 1 a)
    let s := match t with | b :: _ => s.setVisit true (some (s.newVisit 1 b)) | [] => s
    { s with tack := { s.tack with queue := t.drop 1, step := true } }
  | [] =>
    if s.tack.plaus31 then
      let s := (s.startA (s.newVisit 3 31)).setVisit true (some (s.newVisit 3 31))
      { s with tack := { s.tack with plaus31 := false, step := true, compared := false } }
    else s.scanEnd

/-- No scan visit is on a converter or suspended. -/
def State.scanIdle (s : State) : Bool :=
  ((s.visit false).isNone || s.urgentVisit.isSome) && (s.visit true).isNone && s.tack.saved.isNone

/-! ### Phases -/

/-- The other converter drives the EX output of a configuration at another current (R353). -/
def State.exBusy (s : State) (cb : Bool) (cfg : Word32) : Bool :=
  let cur := min 200 (Fld.HK_CHCFG_EXCUR.of cfg)
  match s.visit (!cb) with
  | some v => cur != 0 && v.excited && v.exSrc == Fld.HK_CHCFG_EXSRC.of cfg && v.exCur != cur
  | none => false

/-- The MAKE edge (R351): the channel's configuration is taken, unless the visit is a resumed test. -/
def State.makeVisit (s : State) (cb : Bool) (v : Visit) : State :=
  let cfg := if v.code.isSome then v.cfg else s.reg .HK_CHCFG v.ch
  let win := if v.code.isSome then v.win else s.reg .HK_CHWIN v.ch
  if s.exBusy cb cfg then
    let s := s.setVisit cb (some { v with phase := .wait, waited := true })
    if v.waited then s else (s.inc .HK_CNT3_EX_WAIT).raise 504
  else
    let settled := s.frc + (1 + settleCycles cfg) * c40
    if v.code.isSome then
      s.setVisit cb (some { v with phase := .test, due := settled + s.testCycles * c40, settleAt := s.frc + c40 })
    else s.setVisit cb (some { v with phase := .sample, due := settled, cfg := cfg, win := win, settleAt := s.frc + c40 })

/-- A land at `x` µV lies outside the window of a visit (R355). -/
def Visit.outside (v : Visit) (x : Int) : Bool :=
  decide (x < (Fld.HK_CHWIN_CM_LO.of v.win : Int) * 12500 - 200000) || decide ((Fld.HK_CHWIN_CM_HI.of v.win : Int) * 12500 - 200000 < x)

/-- The visit converts a pair (R348), by the configuration it took. -/
def Visit.pair (v : Visit) : Bool := v.ch % 2 == 0 && decide (v.ch ≤ 28) && Fld.HK_CHCFG_DIFF.on v.cfg

/-- A land used by the visit lies outside its window (R355). -/
def Visit.cmwAt (v : Visit) (hi lo : Int) : Bool := v.outside hi || (v.pair && v.outside lo)

/-- The EX output of the visit, at `x` µV, is outside its compliance of 0 V to 2.9 V (R355, Table 14.1). -/
def Visit.compAt (v : Visit) (x : Int) : Bool := v.exCur != 0 && (decide (x < 0) || decide (2900000 < x))

/-- The conversion of a visit ends (R349, R355). -/
def State.convertEnd (s : State) (cb : Bool) (v : Visit) (code : Int) (cmw comp : Bool) : State :=
  let ovr := code == 32767 || code == -32768
  let owt := tested v.cfg
  let v : Visit := { v with at_ := v.due, code := some code, cmw := cmw, comp := comp, owt := owt,
                            phase := if owt then .test else .done, due := s.frc + (if owt then s.testCycles * c40 else 0) }
  let s := s.setVisit cb (some v)
  let s := if cmw then (s.inc .HK_CNT0_CMW).tellOnce 497 else s
  let s := if ovr && Fld.HK_CHCFG_RANGE.of v.cfg == 0 then s.tellOnce 498 else s
  if comp then s.raise 503 else s

/-- The test of a visit fails (R356): `check` is the 12-bit check result. -/
def testFails (v : Visit) (check : Int) : Bool :=
  let up := Fld.HK_CHCFG_OW_PULL.of v.cfg == 1
  let moved := if up then check * 16 - v.code.getD 0 else v.code.getD 0 - check * 16
  let gain : Int := (4 ^ Fld.HK_CHCFG_RANGE.of v.cfg : Nat)
  decide ((Fld.HK_CHWIN_OW_DELTA.of v.win : Int) * 100 * gain < moved * 625) || (if up then check == 2047 else check == -2048)

/-- The check conversion ends: the test passes or fails, and OPEN may change (R356, R357). -/
def State.checkEnd (s : State) (cb : Bool) (v : Visit) (check : Int) : State :=
  let fails := testFails v check
  let t := SMap.get (fun _ => (0, 0)) s.tack.tests v.ch
  let t : Nat × Nat := if fails then (min 2 (t.1 + 1), 0) else (0, min 2 (t.2 + 1))
  let s : State := { s with tack := { s.tack with tests := SMap.set (fun _ => (0, 0)) s.tack.tests v.ch t } }
  let s := s.setVisit cb (some { v with suspect := fails, phase := .done, due := s.frc })
  let s := if fails then (s.inc .HK_CNT0_SUSPECT).tellOnce 496 else s
  let open_ := bitOf (s.get .HK_OPEN_OPEN) v.ch
  if t.1 = 2 ∧ open_ = false then (s.put .HK_OPEN_OPEN (withBit (s.get .HK_OPEN_OPEN) v.ch true)).raise 494
  else if t.2 = 2 ∧ open_ = true then (s.put .HK_OPEN_OPEN (withBit (s.get .HK_OPEN_OPEN) v.ch false)).raise 495
  else s

/-- A sample carries OVR (R349). -/
def Visit.ovr (v : Visit) : Bool := v.code == some 32767 || v.code == some (-32768)

/-- The range that autorange gives to the next visit (R354): while AUTO, as the visit took it and as the register holds it (`auto`), is 1. -/
def Visit.nextRange (v : Visit) (auto : Bool) : Nat :=
  let r := Fld.HK_CHCFG_RANGE.of v.cfg
  let c := (v.code.getD 0).natAbs
  if !auto || !Fld.HK_CHCFG_AUTO.on v.cfg || v.suspect || v.cmw then r
  else if (v.ovr || decide (30720 ≤ c)) && decide (0 < r) then r - 1
  else if decide (c < 6144) && decide (r < Fld.HK_CHCFG_RMAX.of v.cfg) then r + 1
  else r

/-- The comparison of the plausibility step (R359). -/
def State.compare (s : State) : State :=
  match s.visit false, s.visit true with
  | some a, some b =>
    let s : State := { s with tack := { s.tack with compared := true } }
    if a.ovr || a.cmw || b.ovr || b.cmw then s.inc .HK_CNT1_PLAUS_SKIP
    else if s.get .HK_PLAUS_PLAUS_TOL < (a.code.getD 0 - b.code.getD 0).natAbs then
      (((s.setVisit false (some { a with plaus := true })).setVisit true (some { b with plaus := true })).inc .HK_CNT1_PLAUS_FAIL).raise 499
    else s
  | _, _ => s

/-- A sample is complete (R361, R362): its item, the channel's result, autorange, the lamp. -/
def State.sampleDone (s : State) (cb : Bool) (v : Visit) : State :=
  let r := Fld.HK_CHCFG_RANGE.of v.cfg
  let code := v.code.getD 0
  let next := if v.kind = 3 && cb then r else v.nextRange (s.flag .HK_CHCFG_AUTO v.ch)
  let open_ := bitOf (s.get .HK_OPEN_OPEN) v.ch
  let it := pack [(60, 4, v.kind), (55, 5, v.ch), (54, 1, b2n cb), (52, 2, r), (51, 1, b2n v.ovr), (50, 1, b2n v.suspect),
    (49, 1, b2n open_), (48, 1, b2n v.owt), (47, 1, b2n v.cmw), (46, 1, b2n v.comp), (45, 1, b2n v.plaus), (44, 1, b2n (next != r)),
    (32, 12, (s.frc - v.at_) / c40), (16, 16, s.nowOff), (0, 16, unsigned 16 code)]
  let s := (s.setVisit cb none).item 3 [it]
  let s := ((((((s.put .HK_CHRES_RANGE r v.ch).putB .HK_CHRES_OVR v.ovr v.ch).putB .HK_CHRES_SUSPECT v.suspect v.ch).putB
    .HK_CHRES_CMW v.cmw v.ch).putB .HK_CHRES_COMP v.comp v.ch).putB .HK_CHRES_OWT v.owt v.ch).putS .HK_CHRES_CODE code v.ch
  let s := if next = r then s else s.put .HK_CHCFG_RANGE next v.ch
  if s.flag .HK_LAMP_LAMP_EN && s.get .HK_LAMP_LAMP_CH == v.ch && !(v.ovr || v.suspect || open_ || v.cmw || v.comp) then
    s.lampSample code r
  else s

/-- The scan visit that requests suspended goes on when none waits (R360): from BREAK, or with its test. A plausibility sample
that is complete and waits for B's has no phase left to run (log entry 161). -/
def State.resume (s : State) : State :=
  match s.tack.saved, s.tack.urgent with
  | some v, [] =>
    let s : State := { s with tack := { s.tack with saved := none } }
    s.setVisit false (some (if v.phase == .done then v else { v with phase := .make, due := s.frc + s.hkOpen * c40 }))
  | _, _ => s

/-- The visit of a converter ends. -/
def State.visitEnd (s : State) (cb : Bool) (v : Visit) : State :=
  let s := if v.kind = 3 && !s.tack.compared then s.compare else s
  let v := (s.visit cb).getD v
  let s := s.sampleDone cb v
  if v.kind = 2 then ((s.inc .HK_CNT4_URG_DONE).putB .HK_STAT_URG_BUSY false |>.raise 505).resume else s

/-! ### Urgent requests (R360) -/

/-- URG_PEND follows the queue. -/
def State.showUrg (s : State) : State := s.put .HK_STAT_URG_PEND s.tack.urgent.length

/-- A write of HK_URG. -/
def State.writeHkUrg (s : State) (data : Word32) : State :=
  if !Fld.HK_URG_GO.on data then s
  else if s.tack.urgent.length < 4 then
    ({ s with tack := { s.tack with urgent := s.tack.urgent ++ [Fld.HK_URG_CH.of data] } } : State).showUrg
  else (s.inc .HK_CNT2_URG_REFUSED).raise 501

/-- Converter A starts the next urgent visit; its scan visit is suspended. -/
def State.urgentStart (s : State) (ch : Nat) (t : List Nat) : State :=
  let saved := match s.visit false with | some v => some v | none => s.tack.saved
  let s : State := { s with tack := { s.tack with urgent := t, saved := saved } }
  ((s.setVisit false (some (s.newVisit 2 (s.hkChannel ch)))).showUrg).putB .HK_STAT_URG_BUSY true

/-! ### Registers (R352, R364, R365) -/

/-- The excitation of channel `n` was written: a visit of it in SETTLE, CONVERT, OWTEST or CHECK settles again (R352). -/
def State.excRestart (s : State) (cb : Bool) (n : Nat) : State :=
  match s.visit cb with
  | some v =>
    if v.ch = n && (v.phase == .sample || v.phase == .test) && decide (v.settleAt ≤ s.frc) then
      let w := (withField (withField v.cfg Fld.HK_CHCFG_EXSRC.lo Fld.HK_CHCFG_EXSRC.w (s.get .HK_CHCFG_EXSRC n))
        Fld.HK_CHCFG_EXCUR.lo Fld.HK_CHCFG_EXCUR.w (s.get .HK_CHCFG_EXCUR n))
      let due := (s.frc / c40 + 1) * c40 + settleCycles w * c40
      ((s.setVisit cb (some { v with cfg := w, phase := .sample, due := due, code := none })).inc .HK_CNT3_EXC_RESTART).raise 502
    else s
  | none => s

/-- A write of HK_CHCFGn: stored as written; event 507 when it acts otherwise (R364). Every write of the register writes EXSRC and
EXCUR (R352, log entry 162). -/
def State.writeHkChcfg (s : State) (n : Nat) (data : Word32) : State :=
  let s := (((((((s.take .HK_CHCFG_DIFF data n).take .HK_CHCFG_AUTO data n).take .HK_CHCFG_RANGE data n).take .HK_CHCFG_RMAX data n).take
    .HK_CHCFG_OW_PULL data n).take .HK_CHCFG_EXSRC data n).take .HK_CHCFG_EXCUR data n).take .HK_CHCFG_SETTLE data n
  let s := (s.excRestart false n).excRestart true n
  let odd := (Fld.HK_CHCFG_DIFF.on data && (n % 2 == 1 || n == 30)) || Fld.HK_CHCFG_OW_PULL.of data == 3 ||
    decide (200 < Fld.HK_CHCFG_EXCUR.of data)
  if odd then s.raise 507 else s

/-! ### Commands -/

/-- An edge of C40. -/
def State.onC40 (s : State) : Bool := s.frc % c40 == 0

/-- SCAN_START (R358): once for each strobe that calls for a scan. -/
def execScanStart (s : State) : Host.Outcome State Fault Refusal := when' (s.working && s.tack.scanDue) s (fun s => s.scanCall)

/-- SCAN_STEP_START (R358). -/
def execScanStepStart (s : State) : Host.Outcome State Fault Refusal :=
  when' (s.working && s.flag .HK_STAT_SCANNING && !s.tack.step && s.onC40 && s.scanIdle) s
    (fun s => s.stepStart)

/-- VISIT_MAKE (R351). -/
def execVisitMake (cb : Bool) (s : State) : Host.Outcome State Fault Refusal :=
  match s.visit cb with
  | some v => when' (s.working && v.phase == .make && decide (v.due ≤ s.frc)) s (fun s => s.makeVisit cb v)
  | none => .next s

/-- EX_RELEASE_WAIT (R353). -/
def execExReleaseWait (cb : Bool) (s : State) : Host.Outcome State Fault Refusal :=
  match s.visit cb with
  | some v => when' (s.working && v.phase == .wait && s.onC40) s (fun s => s.makeVisit cb v)
  | none => .next s

/-- HK_CONVERT_END (R349, R355): the code, and at the sampling instant the voltages of the input's land, of the pair's second land and
of the EX output, in µV. -/
def execHkConvertEnd (cb : Bool) (code : BitVec 16) (hi lo : Int) (s : State) (ex : Int := 0) : Host.Outcome State Fault Refusal :=
  match s.visit cb with
  | some v => when' (s.working && v.phase == .sample && decide (v.due + 80 * c40 ≤ s.frc)) s
      (fun s => s.convertEnd cb v code.toInt (v.cmwAt hi lo) (v.compAt ex))
  | none => .next s

/-- HK_CHECK_END (R356). -/
def execHkCheckEnd (cb : Bool) (code : BitVec 12) (s : State) : Host.Outcome State Fault Refusal :=
  match s.visit cb with
  | some v => when' (s.working && v.phase == .test && decide (v.due ≤ s.frc)) s (fun s => s.checkEnd cb v code.toInt)
  | none => .next s

/-- The other converter of the plausibility step has its sample too. -/
def State.plausReady (s : State) (cb : Bool) (v : Visit) : Bool :=
  v.kind != 3 || s.tack.compared || ((s.visit (!cb)).any (fun w => w.kind == 3 && w.phase == .done) && !cb)

/-- The visit's sample is complete by FRC `t`. -/
def Visit.endsBy (v : Visit) (t : Nat) : Bool :=
  match v.phase with
  | .sample => !tested v.cfg && decide (v.due + 80 * c40 ≤ t)
  | .test => decide (v.due ≤ t)
  | .done => decide (v.due ≤ t)
  | _ => false

/-- The item of the visit goes next: none of the other converter was complete before it, or for B at the same edge, but for one of the
plausibility step that waits for its comparison (R361). -/
def State.itemTurn (s : State) (cb : Bool) (v : Visit) : Bool :=
  match s.visit (!cb) with
  | some w => (w.kind == 3 && !s.tack.compared) || !(if cb then w.endsBy v.due else decide (0 < v.due) && w.endsBy (v.due - 1))
  | none => true

/-- VISIT_END (R361). The two samples of the plausibility step are complete together, A's item first. -/
def execVisitEnd (cb : Bool) (s : State) : Host.Outcome State Fault Refusal :=
  match s.visit cb with
  | some v => when' (s.working && v.phase == .done && s.plausReady cb v && s.itemTurn cb v) s (fun s => s.visitEnd cb v)
  | none => .next s

/-- SCAN_STEP_END (R358): both visits of the step have ended. -/
def execScanStepEnd (s : State) : Host.Outcome State Fault Refusal :=
  when' (s.working && s.tack.step && s.scanIdle) s (fun s =>
    let s : State := { s with tack := { s.tack with step := false } }
    if s.tack.queue = [] && !s.tack.plaus31 then s.scanEnd else s)

/-- EXC_WRITE (R352): a write of HK_CHCFGn that writes EXSRC and EXCUR. -/
def execExcWrite (n : Fin 32) (data : Word32) (s : State) : Host.Outcome State Fault Refusal :=
  access' s.alive s (fun s => s.writeHkChcfg n data)

/-- HK_CHCFG_WRITE (R364). -/
def execHkChcfgWrite (n : Fin 32) (data : Word32) (s : State) : Host.Outcome State Fault Refusal :=
  access' s.alive s (fun s => s.writeHkChcfg n data)

/-- URGENT_REQUEST (R360): a write of HK_URG. -/
def execUrgentRequest (data : Word32) (s : State) : Host.Outcome State Fault Refusal := access' s.alive s (fun s => s.writeHkUrg data)

/-- A visit is in CONVERT. -/
def Visit.converting (v : Visit) (now : Nat) : Bool := v.phase == .sample && decide (v.due ≤ now)

/-- URGENT_VISIT_START (R360): at a C40 edge at which A is not in CONVERT, no request being served. -/
def execUrgentVisitStart (s : State) : Host.Outcome State Fault Refusal :=
  match s.tack.urgent with
  | ch :: t =>
    let free := match s.visit false with
      | some v => v.kind != 2 && !v.converting s.frc && (v.phase != .done || v.kind == 3)
      | none => true
    when' (s.working && s.onC40 && free) s (fun s => s.urgentStart ch t)
  | [] => .next s

end Sys2Proof.Machine
end

