-- ==== Sys2Proof/Machine/Access.lean ====
section
/-! DEFINITION. The register fabric (18 R444) and the register index (21): the address map, what a read shows and does, the
access kinds of a write, snapshot pairs, the accesses of TMI and JTAG, and die accesses over the return lane. -/

namespace Sys2Proof.Machine

/-! ### The address map (R487, R490, R491) -/

/-- The register of a space at an offset, and its element. -/
def Reg.find (sp : Space) (off : Nat) : Option (Reg × Nat) :=
  Reg.all.findSome? (fun r =>
    let p := r.place
    if p.space = sp ∧ p.base ≤ off ∧ (off - p.base) % p.stride = 0 ∧ (off - p.base) / p.stride < p.count then
      some (r, (off - p.base) / p.stride)
    else none)

/-- The register of die `f` at an offset in its window, and its element (R490, R491). -/
def dieTarget (f off : Nat) : Option (Reg × Nat) :=
  if off % 4 ≠ 0 then none
  else if off < 0x10000 then (Reg.find .die off).map (fun x => (x.1, f * x.1.place.count + x.2))
  else if off < 0x20000 then (Reg.find .chan (off % 0x100)).map (fun x => (x.1, 256 * f + (off - 0x10000) / 0x100))
  else none

/-- What an address names (Table 21.1). -/
inductive Target where
  | reg (r : Reg) (i : Nat)
  | die (f : Nat) (r : Reg) (i off : Nat)
  | tree (x : Nat)
  | none
  deriving DecidableEq, Repr

/-- The address map: a misaligned or unlisted address names nothing (R488). -/
def target (addr : Nat) : Target :=
  if addr % 4 ≠ 0 then .none
  else if addr < 0x01000000 then
    match Reg.find .saddle addr with
    | some x => .reg x.1 x.2
    | none => .none
  else if addr < 0x02000000 then
    let f := (addr - 0x01000000) / 0x100000
    match dieTarget f (addr % 0x100000) with
    | some x => .die f x.1 x.2 (addr % 0x100000)
    | none => .none
  else if 0x40000000 ≤ addr ∧ addr < 0x42000000 then .tree (addr - 0x40000000)
  else .none

/-! ### What a read shows -/

/-- The module state code (Table 01.8, Table 01.9). -/
def modeCode : Mode → Nat
  | .unpowered => 1
  | .reset => 1
  | .fill => 1
  | .boot => 2
  | .start => 3
  | .run => 4
  | .halt => 5

/-- The highest severity among pending unmasked sources (Table 19.10). -/
def State.sevMax (s : State) : Nat :=
  (List.range 544).foldl (fun m i => if s.pendBit i && !s.flag .EVM_CFG_MASK i then max m (s.get .EVM_CFG_SEV i) else m) 0

/-- A flash operation waits for BROWNOUT to end (R429). -/
def State.flashDeferred (s : State) : Bool := s.flag .PRS_STATE_BROWNOUT && (s.latigo.ops.drop (b2n s.latigo.issued)).length != 0

/-- STP_LEVEL.STALE (R336). -/
def State.levelStale (s : State) (g : Nat) : Bool := s.stropOff g || !s.flag .STP_CTRL_EN g || !s.joined (g / 256)

/-- The fields that a read computes from state kept elsewhere. -/
def State.shown (s : State) (r : Reg) (i : Nat) : List (Fld × Nat) :=
  match r with
  | .PRS_STATE =>
    [(.PRS_STATE_DIE_JOINED, maskOf ((List.range 16).filter (fun f => s.joined f))), (.PRS_STATE_STATE, modeCode s.mode),
     (.PRS_STATE_HOLDOVER, b2n s.inHold),
     (.PRS_STATE_MASTER, b2n (s.flag .ID_MODULE_MSTR || s.flag .ID_MODULE_IMG_MASTER))]
  | .PRS_DIERAIL => [(.PRS_DIERAIL_ON, maskOf ((List.range 16).filter (fun f => s.diePowered f)))]
  | .GIR_NOW_LO => [(.GIR_NOW_LO_NOW_LO, s.nowCu)]
  | .GIR_NOW_HI => [(.GIR_NOW_HI_NOW_HI, s.nowCu / 2 ^ 32)]
  | .GIR_NOW_FINE => [(.GIR_NOW_FINE_FINE, 0)]
  | .GIR_FRC_LO => [(.GIR_FRC_LO_FRC_LO, s.frc)]
  | .GIR_FRC_HI => [(.GIR_FRC_HI_FRC_HI, s.frc / 2 ^ 32)]
  | .PIXD_INJ => [(.PIXD_INJ_INJ_BUSY, b2n (s.injBusy i))]
  | .RNG_STAT =>
    let t := s.ringSettle i
    [(.RNG_STAT_BUSY, s.busyMask i), (.RNG_STAT_FULL, t.get .RNG_STAT_FULL i), (.RNG_STAT_RESTART_AT, t.get .RNG_STAT_RESTART_AT i)]
  | .STP_LEVEL => [(.STP_LEVEL_STALE, b2n (s.levelStale i))]
  | .ING_STAT => [(.ING_STAT_DEPTH, (s.ing i).depth)]
  | .TRE_SPARE_STAT =>
    [(.TRE_SPARE_STAT_FUSED, s.fused (s.get .TRE_SPARE_SEL_MACRO)), (.TRE_SPARE_STAT_SOFT, s.soft (s.get .TRE_SPARE_SEL_MACRO))]
  | .STR_MAPDATA => [(⟨.STR_MAPDATA, 0, 16⟩, s.mapCell)]
  | .SKV_STAT => [(.SKV_STAT_ENG_BUSY, maskOf ((s.skive.parts.filter (fun p => decide (s.frc + 256 < p.done))).map (·.engine)))]
  | .LAT_STAT => [(.LAT_STAT_QDEPTH, s.latigo.queue.length), (.LAT_STAT_FLASH_DEFER, b2n s.flashDeferred)]
  | .LAT_STAGE => [(.LAT_STAGE_BUF_KIB, ceilDiv s.latigo.bufWords 128)]
  | .EVM_STAT => [(.EVM_STAT_SEV_MAX, s.sevMax), (.EVM_STAT_LOG_USED, s.matrix.log.length)]
  | _ => []

/-- The bits of the WO fields, which a read returns as 0 (R488). -/
def Reg.hidden (r : Reg) : Nat := (r.fields.filter (fun f => f.acc == .wo)).foldl (fun a f => a + (2 ^ f.w - 1) * 2 ^ f.lo) 0

/-- The word that a read of a register shows. -/
def State.view (s : State) (r : Reg) (i : Nat) : Nat :=
  let w := (s.shown r i).foldl (fun w x => withField w x.1.lo x.1.w x.2) (s.reg r i)
  w.toNat - (w.toNat &&& r.hidden)

/-! ### Snapshot pairs (R10, R241, R494) -/

/-- The high word of a low word (Table 21.6). -/
def srHigh : Reg → Option Reg
  | .STI_EMIT_LO => some .STI_EMIT_HI
  | .SKV_IN_LO => some .SKV_IN_HI
  | .SKV_OUT_LO => some .SKV_OUT_HI
  | .GIR_XTAL_LO => some .GIR_XTAL_HI
  | .GIR_NOW_LO => some .GIR_NOW_HI
  | .GIR_FRC_LO => some .GIR_FRC_HI
  | _ => none

/-- The low word of a high part; GIR_NOW_FINE is a high part of GIR_NOW (R241). -/
def srLow : Reg → Option Reg
  | .STI_EMIT_HI => some .STI_EMIT_LO
  | .SKV_IN_HI => some .SKV_IN_LO
  | .SKV_OUT_HI => some .SKV_OUT_LO
  | .GIR_XTAL_HI => some .GIR_XTAL_LO
  | .GIR_NOW_HI => some .GIR_NOW_LO
  | .GIR_NOW_FINE => some .GIR_NOW_LO
  | .GIR_FRC_HI => some .GIR_FRC_LO
  | _ => none

/-- The place of a requester, in the order of R444: that of its shadow. -/
def whoIdx : Requester → Nat
  | .latigo => 0
  | .tmi => 1
  | .jtag => 2

/-- Leave one shadow, that of `who`. -/
def State.keepShadow (s : State) (who : Requester) (x : Shadow) : State :=
  { s with fabric := { s.fabric with shadows := setAt [none, none, none] (whoIdx who) (some x) } }

/-! ### Reads -/

/-- The RC fields of a register clear (R8). -/
def State.clearRc (s : State) (r : Reg) (i : Nat) : State :=
  (r.fields.filter (fun f => f.acc == .rc)).foldl (fun t f => t.setReg r i (withField (t.reg r i) f.lo f.w 0)) s

/-- What a read does beside showing the word: an RC field clears (R8), STR_MAPDATA moves its address on (R114); what the queues owe by
this instant is brought in first. -/
def State.readWord (s : State) (r : Reg) (i : Nat) : State × Nat :=
  match r with
  | .STR_MAPDATA => s.readMapData
  | .HQD_STAT => let t := s.hqStat i; (t, t.view r i)
  | .RNG_CNT | .RNG_CNT2 => let t := s.land (i / 64); (t, t.view r i)
  | .ING_STAT => let t := s.ingSettle i; (t, t.view r i)
  | _ => (s.clearRc r i, s.view r i)

/-- A requester reads a register: the data, and TEAR (R10, R241). -/
def State.readReg (s : State) (who : Requester) (r : Reg) (i : Nat) : State × Nat × Bool :=
  match srHigh r, srLow r with
  | some h, _ => (s.keepShadow who ⟨r.ctorIdx, s.view h i, s.nowFu % 128⟩, s.view r i, false)
  | none, some lo =>
    match s.fabric.shadows.getD (whoIdx who) none with
    | some x =>
      if x.pair = lo.ctorIdx then
        if lo = .GIR_NOW_LO then (s.keepShadow who x, if r = .GIR_NOW_FINE then x.fine else x.high, false)
        else (s.clearShadows, x.high, false)
      else (s.clearShadows, s.view r i, true)
    | none => (s.clearShadows, s.view r i, true)
  | none, none =>
    let x := s.clearShadows.readWord r i
    (x.1, x.2, false)

/-! ### Writes (R8, R488, R493) -/

/-- The section whose lock holds the RWL fields of a register (Table 21.5). -/
def lockOf (r : Reg) : Nat := if r = .EVM_CFG then 7 else 2

/-- A write reaches some field of the register. -/
def Reg.writable (r : Reg) (locked : Bool) : Bool :=
  r.fields.any (fun f => f.acc == .rw || f.acc == .w1c || f.acc == .wo || (f.acc == .rwl && !locked))

/-- The register word after a plain write. -/
def plainWrite (w data : Word32) (locked : Bool) (fs : List FieldRow) : Word32 :=
  fs.foldl (fun w f =>
    match f.acc with
    | .rw => withField w f.lo f.w (fieldOf data.toNat f.lo f.w)
    | .rwl => if locked then w else withField w f.lo f.w (fieldOf data.toNat f.lo f.w)
    | .w1c =>
      let old := fieldOf w.toNat f.lo f.w
      withField w f.lo f.w (old - (old &&& fieldOf data.toNat f.lo f.w))
    | _ => w) w

/-- A write by the access kinds alone. -/
def State.writePlain (s : State) (r : Reg) (i : Nat) (data : Word32) : State :=
  s.setReg r i (plainWrite (s.reg r i) data (s.locked (lockOf r)) r.fields)

/-- A write of EVM_PEND `i`: a source raised at the same C40 edge stays pending (19, corner case at R460). -/
def State.writeEvmPend (s : State) (i : Nat) (data : Word32) : State :=
  let keep := maskOf ((List.range 32).filter (fun b => s.justRaised (32 * i + b)))
  (s.writePlain .EVM_PEND i (data &&& ~~~(BitVec.ofNat 32 keep))).driveEventN

/-- The sources that may feed the Bridle (Table 19.5). -/
def bridleSource (i : Nat) : Bool :=
  if i < 384 then [14, 15, 20, 21, 22].contains (i % 24) else [394, 396, 494, 497, 499, 534, 536, 539].contains i

/-- A write of EVM_CFGi (R462): BRIDLE stays 0 outside Table 19.5. -/
def State.writeEvmCfg (s : State) (i : Nat) (data : Word32) : State :=
  let s := s.writePlain .EVM_CFG i data
  (if bridleSource i then s else s.putB .EVM_CFG_BRIDLE false i).driveEventN

/-- A write of SP_CTRL: EMPTY_EN bits 0 and 7 stay 1 (Table 06.10). -/
def State.writeSpCtrl (s : State) (data : Word32) : State :=
  let s := s.writePlain .SP_CTRL 0 data
  s.put .SP_CTRL_EMPTY_EN (withBit (withBit (s.get .SP_CTRL_EMPTY_EN) 0 true) 7 true)

/-- A write of LAT_RUN (Table 18.13). -/
def State.writeLatRun (s : State) (data : Word32) : State :=
  if Fld.on .LAT_RUN_GO data then (s.requestProgram (Fld.LAT_RUN_PROG.of data)).1 else s

/-- A register write with all that it brings about. -/
def State.writeReg (s : State) (r : Reg) (i : Nat) (data : Word32) : State :=
  match r with
  | .PIX_CTRL => s.writePixCtrl i data
  | .PIX_ANODE => s.writePixAnode i data
  | .PIX_TDISC => s.writePixTdisc i data
  | .PIX_TRGPOL => s.writePixTrgpol i data
  | .PIX_TLOOP => s.writePixTloop i data
  | .PIX_TTARGET => s.writePixTtarget i data
  | .PIX_TSTAT => s.writePixTstat i data
  | .PIX_INJ => s.writePixInj i data
  | .PIX_OVR => s.writePixOvr i data
  | .PIXD_TDBASE => s.writePixdTdbase i data
  | .PIXD_RCV => s.writePixdRcv i data
  | .PIXD_LOOP => s.writePixdLoop i data
  | .PIXD_INJ => s.writePixdInj i data
  | .AWL_CTRL => s.writeAwlCtrl i data
  | .AWL_TAPSEL_NEXT => s.writeAwlTapselNext i data
  | .AWL_OFFS => s.writeAwlOffs i data
  | .AWLD_CTRL => s.writeAwldCtrl i data
  | .AWLD_BIAS => s.writeAwldBias i data
  | .AWLD_RAMP => s.writeAwldRamp i data
  | .AWLD_PHASE => s.writeAwldPhase i data
  | .AWLD_IVL => s.writeAwldIvl i data
  | .RNG_CTRL => s.writeRngCtrl i data
  | .RNGD_CTRL => s.writeRngdCtrl i data
  | .RNGD_APER => s.writeRngdAper i data
  | .RNGD_PUSH => s.writeRngdPush i data
  | .STP_CTRL => s.writeStpCtrl i data
  | .STP_OFFS => s.writeStpOffs i data
  | .STPD_CTRL => s.writeStpdCtrl i data
  | .STPD_BANK => s.writeStpdBank i data
  | .SHL_CTRL => s.writeShlCtrl i data
  | .STPD_COEF_A => s.writeCoef (i / 32) false (i % 32) data
  | .STPD_COEF_B => s.writeCoef (i / 32) true (i % 32) data
  | .BURD_HSEL => s.writeHsel i data
  | .STR_CTRL => s.writeStrCtrl data
  | .STR_AUTO => s.writeStrAuto data
  | .STR_CLASS => s.writeClass i data
  | .STR_MAPDATA => s.writeMapData data
  | .STI_CTRL => s.writeStiCtrl data
  | .SKV_CTRL => s.writeSkvCtrl data
  | .SKV_STAT => s.writeSkvStat data
  | .SKV_INSP_CTRL => s.writeInsp data
  | .GIR_CTRL => s.writeGirCtrl data
  | .HAR_CTRL => s.writeHarCtrl data
  | .HAR_RXL_CTRL => s.writeRxlCtrl i data
  | .HAR_TXL_CTRL => s.writeTxlCtrl i data
  | .TRE_REPAIR => s.writeTreRepair data
  | .HK_URG => s.writeHkUrg data
  | .HK_CHCFG => s.writeHkChcfg i data
  | .BUR_RUN => s.writeBurRun data
  | .RSE_CTRL => s.writeRseCtrl data
  | .RSE_PULSE => s.writeRsePulse data
  | .RSE_STAT => s.writeRseStat data
  | .LAT_RUN => s.writeLatRun data
  | .SP_CTRL => s.writeSpCtrl data
  | .EVM_CFG => s.writeEvmCfg i data
  | .EVM_CTRL => (s.writePlain .EVM_CTRL i data).driveEventN
  | .EVM_PEND => s.writeEvmPend i data
  | r => s.writePlain r i data

/-! ### The end of an access (Table 18.9, R441) -/

/-- The Latigo goes on to the next instruction. -/
def State.seqNext (s : State) : State := { s with latigo := { s.latigo with pos := s.latigo.pos + 1, wait := .none } }

/-- The sequencer's flag T. -/
def State.putT (s : State) (b : Bool) : State := { s with latigo := { s.latigo with flagT := b } }

/-- A stream 5 item (Table 18.9). -/
def State.reply (s : State) (kind tag : Nat) (tear : Bool) (status data addr : Nat) : State :=
  s.item 5 [pack [(60, 4, kind), (52, 8, tag), (51, 1, b2n tear), (48, 3, status), (0, 32, data)],
    pack [(32, 32, addr), (0, 16, s.nowOff)]]

/-- A POLL has read: a match, TMO passed, or another round (Table 18.7). -/
def State.pollRead (s : State) (rv rm until_ data : Nat) : State :=
  if data &&& s.get .LAT_W_W rm = s.get .LAT_W_W rv then (s.putT false).seqNext
  else if until_ ≤ s.frc then (s.putT true).seqNext
  else { s with latigo := { s.latigo with wait := .poll until_ } }

/-- The write part of an RMW (Table 18.7). -/
def modified (data old new : Nat) : Nat := (data &&& (2 ^ 32 - 1 - new)) ||| (old &&& new)

/-- The entry of the program that runs. -/
def State.program (s : State) : Prog := s.latigo.progs.getD (s.get .LAT_STAT_PROG) ⟨0, 0, 0⟩

/-- The program that runs has exceeded its budget: it is aborted at the next instruction boundary (R442). -/
def State.overBudget (s : State) : Bool := s.program.budget != 0 && decide (s.program.budget < s.latigo.elapsed)

/-- An access has completed; the write part of an RMW follows as an access of its own. The result of a read in flight when
an abort is decided is discarded (R442). -/
def State.finish (s : State) (cont : AccessCont) (wr : Bool) (addr data : Nat) (tear : Bool) (status : Nat) : State :=
  match cont with
  | .tmi rtag => s.reply (if wr then 2 else 1) rtag tear status data addr
  | .jtag => { s with fabric := { s.fabric with jtag := (status, tear, data) } }
  | .write => s.seqNext
  | .read rv => (if s.overBudget then s else s.put .LAT_W_W data rv).seqNext
  | .modify _ _ => s.seqNext
  | .poll rv rm until_ => s.pollRead rv rm until_ data
  | .drop => s

/-! ### Accesses -/

/-- The writes that BUR_STAT.LOCK holds back (R381). -/
def burHeld : List Reg := [.AWL_TAPSEL_NEXT, .AWL_OFFS, .AWLD_BIAS, .AWLD_PHASE, .RNGD_APER, .AWLD_CTRL]

/-- The return-lane word of a die access (Table 10.3). -/
def dieWord (wr : Bool) (off rtag data : Nat) : Word64 :=
  pack [(60, 4, if wr then 1 else 2), (40, 20, off), (32, 8, rtag), (0, 32, if wr then data else 0)]

/-- The RTAG that an access carries on the return lane (log entry 33). -/
def laneTag : AccessCont → Nat
  | .tmi t => t
  | _ => 0

/-- Send a die access and wait for its answer (R264, R490). -/
def State.sendAccess (s : State) (cont : AccessCont) (wr : Bool) (f off data : Nat) : State :=
  ({ s with fabric := { s.fabric with
      access := some { die := f, addr := 0x01000000 + f * 0x100000 + off, wr := wr, rtag := laneTag cont, since := s.frc, cont := cont } } }
    : State).retPut f (.word (dieWord wr off (laneTag cont) data))

/-- Four bytes of a Tree block as a word; byte 0 of the block is the most significant. -/
def treeWord (s : State) (x : Nat) : Nat := fieldOf (s.block (x / 8)).data (if x % 8 = 0 then 32 else 0) 32

/-- A read through the Tree debug window (R492): data and status. -/
def State.debugRead (s : State) (x : Nat) : State × Nat × Nat :=
  let bad := match (s.readBlock (x / 8)).2 with
    | .good => false
    | _ => true
  let s1 := (s.treeMark 5).treeRead (x / 8) .other
  if bad then (s1, treeWord s x, stFault) else (s1, treeWord s1 x, stOk)

/-- A write through the Tree debug window: a byte write of four bytes; the stale-parity map refuses it (R492). -/
def State.debugWrite (s : State) (x data : Nat) : State × Nat :=
  if mapStart ≤ x / 8 then (s, stLocked)
  else if x % 8 = 0 then ((s.treeMark 5).treeBytes (x / 8) 0x0F (data * 2 ^ 32), stOk)
  else ((s.treeMark 5).treeBytes (x / 8) 0xF0 data, stOk)

/-- The fabric serves an access (R444, R488, R490). -/
def State.serve (s : State) (q : Request) : State :=
  match target q.addr with
  | .none => s.clearShadows.finish q.cont q.wr q.addr 0 false stUnmapped
  | .tree x =>
    if q.who = .latigo then s.clearShadows.finish q.cont q.wr q.addr 0 false stUnmapped
    else if q.wr then
      let d := s.clearShadows.debugWrite x q.data
      d.1.finish q.cont true q.addr 0 false d.2
    else
      let d := s.clearShadows.debugRead x
      d.1.finish q.cont false q.addr d.2.1 false d.2.2
  | .reg r i =>
    if q.wr then
      if r.writable (s.locked (lockOf r)) then
        (s.clearShadows.writeReg r i (BitVec.ofNat 32 q.data)).finish q.cont true q.addr 0 false stOk
      else s.clearShadows.finish q.cont true q.addr 0 false stLocked
    else
      let d := s.readReg q.who r i
      match q.cont with
      | .modify rv rm =>
        -- the write part of an RMW is the next access of the same instruction
        let v := modified d.2.1 (d.1.get .LAT_W_W rv) (d.1.get .LAT_W_W rm)
        (if r.writable (d.1.locked (lockOf r)) then d.1.clearShadows.writeReg r i (BitVec.ofNat 32 v) else d.1.clearShadows).seqNext
      | _ => d.1.finish q.cont false q.addr d.2.1 d.2.2 stOk
  | .die f r _ off =>
    let s := s.clearShadows
    if q.wr && !r.writable true then s.finish q.cont true q.addr 0 false stLocked
    else if q.wr && burHeld.contains r && bitOf (s.get .BUR_STAT_LOCK) f then
      (s.putB .BUR_STAT_WERR true).finish q.cont true q.addr 0 false stLocked
    else if !s.diePowered f then s.finish q.cont q.wr q.addr 0 false stTimeout
    else s.sendAccess q.cont q.wr f off q.data

/-- The access is one through the debug window that waits: for the copy of its row (R323), or for the next C640 edge because an access of a
later rank has been served at this one (R314, R492). -/
def State.treeWaits (s : State) (q : Request) : Bool :=
  match target q.addr with
  | .tree x => s.copying (x / 8) || !s.inOrder 5
  | _ => false

/-- An access of the requester comes in the order of R444: none of a later requester has been served at this C160 edge (log entry 103). -/
def State.turn (s : State) (who : Requester) : Bool := !(s.fabric.edge.1 == s.c160 && decide (whoIdx who < s.fabric.edge.2))

/-- Serve an access at this C160 edge. -/
def State.serveNow (s : State) (q : Request) : State :=
  ({ s with fabric := { s.fabric with edge := (s.c160, whoIdx q.who) } } : State).serve q

/-- Serve what waits until an access is in flight again or waits for the Tree; `n` bounds the round. -/
def State.serveWaiting : Nat → State → State
  | 0, s => s
  | n + 1, s =>
    if s.fabric.access.isSome then s
    else
      match s.fabric.waiting with
      | [] => s
      | q :: t => if s.treeWaits q then s else State.serveWaiting n (({ s with fabric := { s.fabric with waiting := t } } : State).serveNow q)

/-- An access is in flight, or waits for the Tree. -/
def State.fabricBusy (s : State) : Bool := s.fabric.access.isSome || s.fabric.waiting != []

/-- Put an access behind those that wait; of two that arrived at one C160 edge the order of R444 holds. -/
def waitPlace (q : Request) : List Request → List Request
  | [] => [q]
  | x :: t => if x.at_ = q.at_ ∧ whoIdx q.who < whoIdx x.who then q :: x :: t else x :: waitPlace q t

/-- An access arrives: it waits while another is in flight (R444). -/
def State.request (s : State) (q : Request) : State :=
  let q : Request := { q with at_ := s.c160 }
  if s.fabricBusy || s.treeWaits q then { s with fabric := { s.fabric with waiting := waitPlace q s.fabric.waiting } } else s.serveNow q

/-- The access in flight ends (R264): the write part of an RMW follows, and what waits is served. -/
def State.endAccess (s : State) (a : DieAccess) (data status : Nat) : State :=
  let s : State := { s with fabric := { s.fabric with access := none } }
  let s := match a.cont with
    | .modify rv rm =>
      s.serve { who := .latigo, cont := .write, wr := true, addr := a.addr,
                data := modified data (s.get .LAT_W_W rv) (s.get .LAT_W_W rm) }
    | c => s.finish c a.wr a.addr data false status
  s.serveWaiting s.fabric.waiting.length

/-! ### The die's end (R264, R490) -/

/-- The answer word (Table 10.3B). -/
def answerWord (rtag : Nat) (err wr : Bool) (data : Nat) : Word64 :=
  pack [(62, 2, 3), (58, 4, 3), (50, 8, rtag), (49, 1, b2n err), (48, 1, b2n wr), (0, 32, data)]

/-- The die acts on a REG_WR: the write and its answer on data lane 0. -/
def State.dieWrite (s : State) (f : Nat) (w : Word64) : State :=
  match dieTarget f (fw w 40 20) with
  | some x => (s.writeReg x.1 x.2 (BitVec.ofNat 32 (fw w 0 32))).csPush (4 * f) (answerWord (fw w 32 8) false true 0)
  | none => s.csPush (4 * f) (answerWord (fw w 32 8) true true 0)

/-- The die acts on a REG_RD. -/
def State.dieRead (s : State) (f : Nat) (w : Word64) : State :=
  match dieTarget f (fw w 40 20) with
  | some x =>
    let d := s.readWord x.1 x.2
    d.1.csPush (4 * f) (answerWord (fw w 32 8) false false d.2)
  | none => s.csPush (4 * f) (answerWord (fw w 32 8) true false 0)

/-! ### Commands -/

/-- JTAG is served outside UNPOWERED, RESET and FILL (Table 20.4). -/
def State.jtagServed (s : State) : Bool := s.tdoServes

/-- An access of the requester that arrives now is served, at once or behind those that wait (R444). -/
def State.arrives (s : State) (who : Requester) : Bool := s.fabricBusy || s.turn who

/-- A requester reaches the register fabric (R444). -/
def State.served (s : State) (who : Requester) : Bool :=
  s.arrives who &&
  match who with
  | .latigo => s.working && !s.fabricBusy
  | .tmi => s.tmiActs
  | .jtag => s.jtagServed

/-- What is done with the answer of an access that is commanded by itself: a stream 5 item with `tag` as RTAG, the JTAG result,
or, for the Latigo, nothing here. -/
def contOf (who : Requester) (tag : Nat) : AccessCont :=
  match who with
  | .latigo => .drop
  | .tmi => .tmi tag
  | .jtag => .jtag

/-- An access of a requester, commanded by itself. -/
def State.accessBy (s : State) (who : Requester) (tag : Nat) (wr : Bool) (addr data : Nat) : State :=
  s.request { who := who, cont := contOf who tag, wr := wr, addr := addr, data := data }

/-- A read by a requester, commanded by itself; the Latigo's data goes to the working register that `tag` names. -/
def State.readBy (s : State) (who : Requester) (tag addr : Nat) : State :=
  match who, target addr with
  | .latigo, .reg r i =>
    let d := s.readReg .latigo r i
    d.1.put .LAT_W_W d.2.1 (tag % 8)
  | _, _ => s.accessBy who tag false addr 0

/-- The register that an address names satisfies a test. -/
def addrIs (addr : Nat) (p : Reg → Bool) : Bool :=
  match target addr with
  | .reg r _ => p r
  | _ => false

/-- SR_LOW_READ (R10). -/
def execSrLowRead (who : Requester) (tag : Byte) (addr : Word32) (s : State) : Host.Outcome State Fault Refusal :=
  when' (s.served who && addrIs addr.toNat (fun r => (srHigh r).isSome)) s (fun s => s.readBy who tag.toNat addr.toNat)

/-- SR_HIGH_READ (R10). -/
def execSrHighRead (who : Requester) (tag : Byte) (addr : Word32) (s : State) : Host.Outcome State Fault Refusal :=
  when' (s.served who && addrIs addr.toNat (fun r => (srLow r).isSome)) s (fun s => s.readBy who tag.toNat addr.toNat)

/-- RC_READ (R8). -/
def execRcRead (who : Requester) (tag : Byte) (addr : Word32) (s : State) : Host.Outcome State Fault Refusal :=
  when' (s.served who && addrIs addr.toNat (fun r => r.fields.any (fun f => f.acc == .rc))) s (fun s =>
    s.readBy who tag.toNat addr.toNat)

/-- REGISTER_WRITE (R488). -/
def execRegisterWrite (who : Requester) (tag : Byte) (addr data : Word32) (s : State) : Host.Outcome State Fault Refusal :=
  when' (s.served who) s (fun s => s.accessBy who tag.toNat true addr.toNat data.toNat)

/-- DEBUG_WINDOW_WRITE (R492): a write to the Tree debug window by TMI or JTAG. -/
def execDebugWindowWrite (who : Requester) (tag : Byte) (addr data : Word32) (s : State) : Host.Outcome State Fault Refusal :=
  when' (s.served who && decide (who ≠ .latigo) && decide (0x40000000 ≤ addr.toNat) && decide (addr.toNat < 0x42000000)) s
    (fun s => s.accessBy who tag.toNat true addr.toNat data.toNat)

/-- TMI_REG_WR (R444). -/
def execTmiRegWr (tgt : BitVec 12) (rtag : Byte) (addr data : Word32) (s : State) : Host.Outcome State Fault Refusal :=
  let s := s.tmoHeard (tmiMessage (pack [(56, 8, 0x75), (44, 12, tgt.toNat), (36, 8, rtag.toNat)]) [addr ++ data])
  when' (s.tmiActs && s.addressed tgt && s.arrives .tmi) s (fun s => s.accessBy .tmi rtag.toNat true addr.toNat data.toNat)

/-- TMI_REG_RD (R444). -/
def execTmiRegRd (tgt : BitVec 12) (rtag : Byte) (addr : Word32) (s : State) : Host.Outcome State Fault Refusal :=
  let s := s.tmoHeard (tmiMessage (pack [(56, 8, 0x76), (44, 12, tgt.toNat), (36, 8, rtag.toNat)]) [addr ++ 0#32])
  when' (s.tmiActs && s.addressed tgt && s.arrives .tmi) s (fun s => s.accessBy .tmi rtag.toNat false addr.toNat 0)

/-- DIE_REG_WR (R264): the die acts on a REG_WR of its return lane. -/
def execDieRegWr (f : DieNo) (w : Word64) (s : State) : Host.Outcome State Fault Refusal :=
  when' (s.working && s.diePowered f && fw w 60 4 == 1 && s.retDue f (· == w)) s (fun s =>
    ((s.retTaken f (· == w)).dropFrz0 f).dieWrite f w)

/-- DIE_REG_RD (R264). -/
def execDieRegRd (f : DieNo) (w : Word64) (s : State) : Host.Outcome State Fault Refusal :=
  when' (s.working && s.diePowered f && fw w 60 4 == 2 && s.retDue f (· == w)) s (fun s =>
    ((s.retTaken f (· == w)).dropFrz0 f).dieRead f w)

/-- The first write of DIE_INIT without an answer is for die `f`, and left before the access in flight to that die, if there is one. -/
def State.initTurn (s : State) (f : Nat) : Bool :=
  match s.latigo.initRun with
  | some r =>
    match r.sent with
    | t :: _ => r.die == f && (match s.fabric.access with
      | some a => a.die != f || decide (t < a.since)
      | none => true)
    | [] => false
  | none => false

/-- The first write of DIE_INIT without an answer has one, or has failed (R264, R452). -/
def State.initAnswered (s : State) (failed : Bool) : State :=
  { s with latigo := { s.latigo with
      initRun := s.latigo.initRun.map (fun r => { r with sent := r.sent.drop 1, failed := r.failed || failed }) } }

/-- REG_ANSWER (R264): the answer of the access in flight, or of a write of DIE_INIT, arrives on data lane 0 of its die. -/
def execRegAnswer (f : DieNo) (w : Word64) (s : State) : Host.Outcome State Fault Refusal :=
  if s.initTurn f then
    when' (s.working && fw w 58 6 == 0x33 && fw w 50 8 == 0 && fw w 48 1 == 1) s (fun s => s.initAnswered false)
  else
  match s.fabric.access with
  | some a =>
    when' (s.working && a.die == f.val && fw w 58 6 == 0x33 && fw w 50 8 == a.rtag && fw w 48 1 == b2n a.wr) s (fun s =>
      s.endAccess a (if fw w 49 1 = 1 then 0 else fw w 0 32) (if fw w 49 1 = 1 then stUnmapped else stOk))
  | none => .next s

/-- The first write of DIE_INIT without an answer, with the FRC at which it left. -/
def State.initOldest (s : State) : Option (Nat × Nat) := s.latigo.initRun.bind (fun r => r.sent.head?.map (fun t => (r.die, t)))

/-- REG_TIMEOUT (R264): event 431 names the return lane of the die (R284). -/
def execRegTimeout (s : State) : Host.Outcome State Fault Refusal :=
  let ends (x : Nat) : Bool := s.working && decide (x + 4096 ≤ s.frc)
  match s.fabric.access, s.initOldest with
  | some a, some (f, t) =>
    when' (ends a.since || ends t) s (fun s =>
      if ends a.since then ((s.inc .HAR_CNT6_REG_TIMEOUT).raise 431 (128 + a.die)).endAccess a 0 stTimeout
      else ((s.inc .HAR_CNT6_REG_TIMEOUT).raise 431 (128 + f)).initAnswered true)
  | some a, none => when' (ends a.since) s (fun s => ((s.inc .HAR_CNT6_REG_TIMEOUT).raise 431 (128 + a.die)).endAccess a 0 stTimeout)
  | none, some (f, t) => when' (ends t) s (fun s => ((s.inc .HAR_CNT6_REG_TIMEOUT).raise 431 (128 + f)).initAnswered true)
  | none, none => .next s

/-- REPAIR_COPY_DONE (R323): 128 cu after the copy began, in its place in the order of R314; the accesses that waited for it are served. -/
def execRepairCopyDone (s : State) : Host.Outcome State Fault Refusal :=
  match s.tree.copy with
  | some (m, r, t) => when' (s.alive && s.inOrder 6 && decide (t + 128 ≤ s.frc)) s (fun s =>
      let s := s.repairDone m r
      s.serveWaiting s.fabric.waiting.length)
  | none => .next s

end Sys2Proof.Machine
end

