-- ==== Sys2Proof/Machine/Image.lean ====
section
/-! DEFINITION. Flash devices and images (18 R427 to R436): usable devices, headers, directories, sections, what validity asks,
and the taking of each section. The byte layouts of sections that the manual names by content alone are those of log entry 40. -/

namespace Sys2Proof.Machine

/-! ### Flash (R427, R428) -/

/-- A byte of a device; erased flash reads 0xFF (log entry 8). -/
def Flash.byte (d : Flash) (a : Nat) : Nat := SMap.get (fun _ => 0xFF) d.bytes a

/-- The device passes the tests of R427. -/
def Flash.usable (d : Flash) : Bool :=
  d.sfdp && d.revB && d.fast144 && d.erase4k && d.addr4 && decide (128 ≤ d.mbit) && decide (d.mbit ≤ 2048)

/-- The boot ROM resets the device with 0x66 and 0x99 and reads its parameter table with 0x5A; from the table of a device that passes, the
module takes what it needs to use it (R427). -/
def Flash.probe (d : Flash) : Flash :=
  { d with probed := d.probed ++ [0x66, 0x99, 0x5A],
           par := if d.usable then some [d.readOp, d.dummy, d.addrWay, d.eraseOp, d.page] else none }

/-- The module uses the device: it has taken the facts of its table (R427). -/
def Flash.used (d : Flash) : Bool := d.par.isSome

/-- Erase the 4 KiB sector `n`. -/
def Flash.erase (d : Flash) (n : Nat) : Flash := { d with bytes := d.bytes.filter (fun x => x.1 / 4096 != n) }

/-- Program bytes: flash bits only fall. -/
def Flash.program (d : Flash) (a : Nat) (bs : List Nat) : Flash :=
  { d with bytes := bs.zipIdx.foldl (fun m x =>
      SMap.set (fun _ => 0xFF) m (a + x.2) (SMap.get (fun _ => 0xFF) m (a + x.2) &&& (x.1 % 256))) d.bytes }

/-- Device 0 is CFGA, 1 CFGB. -/
def State.flashDev (s : State) (dev : Nat) : Flash := s.flash.getD dev Flash.reset

/-- Change a device. -/
def State.editFlash (s : State) (dev : Nat) (f : Flash → Flash) : State := { s with flash := s.flash.modify dev f }

/-- `n` bytes from offset `a`. -/
def readBytes (rd : Nat → Nat) (a n : Nat) : List Nat := (List.range n).map (fun k => rd (a + k))

/-- A field of `n` bytes, most significant first. -/
def readBE (rd : Nat → Nat) (a n : Nat) : Nat := beNat (readBytes rd a n)

/-! ### Header and directory (R430, R431) -/

structure Header where
  nsect : Nat
  seq   : Nat
  len   : Nat
  id    : Nat
  deriving DecidableEq, Repr

structure Section where
  type  : Nat
  index : Nat
  off   : Nat
  clen  : Nat
  ulen  : Nat
  crc   : Nat
  deriving DecidableEq, Repr

/-- The header, when it checks: MAGIC, FMT, HCRC, and the ranges of Table 18.1. -/
def headerOf (rd : Nat → Nat) : Option Header :=
  let h : Header := { nsect := readBE rd 6 1, seq := readBE rd 8 4, len := readBE rd 12 4, id := readBE rd 16 8 }
  if readBE rd 0 4 = 0x544B5134 ∧ readBE rd 4 2 = 1 ∧ 1 ≤ h.nsect ∧ h.nsect ≤ 64 ∧ h.len ≤ 6291456 ∧
      readBE rd 0x3C 4 = crc32c (readBytes rd 0 0x3C) then some h
  else none

/-- The directory entry at `a` (Table 18.2). -/
def sectionAt (rd : Nat → Nat) (a : Nat) : Section :=
  { type := readBE rd a 1, index := readBE rd (a + 1) 1, off := readBE rd (a + 4) 4, clen := readBE rd (a + 8) 4,
    ulen := readBE rd (a + 12) 4, crc := readBE rd (a + 16) 4 }

/-- The directory. -/
def sectionsOf (rd : Nat → Nat) (h : Header) : List Section := (List.range h.nsect).map (fun k => sectionAt rd (0x40 + 24 * k))

/-- Two sections do not overlap. -/
def Section.apart (a b : Section) : Bool := decide (a.off + a.clen ≤ b.off) || decide (b.off + b.clen ≤ a.off)

/-- No section of a list overlaps another. -/
def allApart : List Section → Bool
  | [] => true
  | a :: t => t.all (fun b => a.apart b) && allApart t

/-- How many sections of a type the directory holds. -/
def typeCount (l : List Section) (t : Nat) : Nat := (l.filter (fun x => x.type == t)).length

/-- How many templates of an index the directory holds. -/
def templCount (l : List Section) (f : Nat) : Nat := (l.filter (fun x => x.type == 3 && x.index == f)).length

/-- What R431 to R433 ask of header and directory. -/
def directoryOk (rd : Nat → Nat) (h : Header) : Bool :=
  let l := sectionsOf rd h
  readBE rd 0x38 4 == crc32c (readBytes rd 0x40 (24 * h.nsect)) &&
  l.all (fun x => within 1 8 x.type && decide (0x40 + 24 * h.nsect ≤ x.off) && decide (x.off + x.clen ≤ h.len)) &&
  allApart l &&
  [1, 2, 4, 7].all (fun t => typeCount l t == 1) &&
  [5, 6, 8].all (fun t => decide (typeCount l t ≤ 1)) &&
  (l.filter (fun x => x.type == 3)).all (fun x => decide (x.index ≤ 16)) &&
  (List.range 17).all (fun f => decide (templCount l f ≤ 1)) &&
  (templCount l 16 == 1 || (List.range 16).all (fun f => templCount l f == 1))

/-! ### Sections (R431 to R433, R212) -/

/-- Inflate a section: its content, or the code of Table 08.5 (0 when only ULEN or UCRC fails). -/
def inflateSection (rd : Nat → Nat) (x : Section) : List Nat ⊕ Nat :=
  let r := inflate false true x.ulen (readBytes rd x.off x.clen)
  if r.2.1 ≠ 0 then .inr r.2.1
  else if r.1.length = x.ulen ∧ crc32c r.1 = x.crc then .inl r.1
  else .inr 0

/-- A fault of the service decompressor (R212). -/
def State.inflateFault (s : State) (code : Nat) : State :=
  if code = 0 then s else (s.inc .SKV_CNT1_INFLATE_FAULT).raise 453

/-- The words of a content, `n` bytes each. -/
def chunks (n : Nat) : Nat → List Nat → List (List Nat)
  | 0, _ => []
  | k + 1, bs => bs.take n :: chunks n k (bs.drop n)

/-- The whole pieces of `n` bytes of a content, as numbers. -/
def pieces (n : Nat) (bs : List Nat) : List Nat := (chunks n (bs.length / n) bs).map beNat

/-- Pairs of 4-byte words. -/
def wordPairs (bs : List Nat) : List (Nat × Nat) := (pieces 8 bs).map (fun x => (x / 2 ^ 32, x % 2 ^ 32))

/-- An address of the Saddle pages, the Bridle page excluded (R432, R433). -/
def blockAddr (a : Nat) : Bool :=
  decide (a < 0x6000) || (decide (0x8000 ≤ a) && decide (a < 0x10000)) || (decide (0x11000 ≤ a) && decide (a < 0x12000))

/-- The content of a section does not make the image invalid (R433). -/
def contentOk (x : Section) (bs : List Nat) : Bool :=
  x.type != 2 || (wordPairs bs).all (fun p => blockAddr p.1)

/-- Write (address, value) pairs in order; a pair that no write can reach changes nothing. -/
def State.writePairs (s : State) (ps : List (Nat × Nat)) : State :=
  ps.foldl (fun t p =>
    match target p.1 with
    | .reg r i => if blockAddr p.1 && r.writable (t.locked (lockOf r)) then t.writeReg r i (BitVec.ofNat 32 p.2) else t
    | _ => t) s

/-- A program table and its instructions. -/
def progsOf (bs : List Nat) : List Prog × List Word64 :=
  ((pieces 8 (bs.take 256)).map (fun x => ⟨x / 2 ^ 48, x / 2 ^ 32 % 2 ^ 16, x % 2 ^ 32⟩),
   ((pieces 8 (bs.drop 256)).take 4096).map (BitVec.ofNat 64))

/-- Take the trigger map and STR_NBR. -/
def State.takePattern (s : State) (bs : List Nat) : State :=
  let m := ((pieces 2 (bs.take 8192)).zipIdx).foldl (fun m x =>
    SMap.set (fun _ => 0) m x.2 (fieldOf x.1 15 1 * 2 ^ 15 + fieldOf x.1 0 12)) s.stirrup.map
  let s : State := { s with stirrup := { s.stirrup with map := m } }
  match pieces 4 (bs.drop 8192) with
  | w :: _ => s.writePlain .STR_NBR 0 (BitVec.ofNat 32 w)
  | [] => s

/-- Take SKV_CTRL, SKV_MODE and SKV_LOSS. -/
def State.takeCompr (s : State) (bs : List Nat) : State :=
  let w (k : Nat) : Word32 := BitVec.ofNat 32 ((pieces 4 bs).getD k 0)
  ((s.writeSkvCtrl (w 0)).writePlain .SKV_MODE 0 (w 1)).writePlain .SKV_LOSS 0 (w 2)

/-- The words of a SAFETY section (R426); a content that is not 44 bytes long is no section of eleven words. -/
def safetyWords (bs : List Nat) : List Nat := if bs.length = 44 then pieces 4 bs else []

/-- The entries of a REPAIR section: macro and row, 512 at most. -/
def repairsOf (bs : List Nat) : List (Nat × Nat) := ((pieces 4 bs).take 512).map (fun x => (x / 2 ^ 16 % 128, x % 2048))

/-- Put a template into the store, which lies in the Tree (R435): a pair in each block, its offset in the high half. A template whose INDEX names
neither a die nor the default is taken by no die, and the store has no place for it (Table 18.3, log entry 208). -/
def State.putTemplate (s : State) (index : Nat) (bs : List Nat) : State :=
  if 16 < index then s
  else
    let ps := (wordPairs bs).take 8192
    let s := ps.zipIdx.foldl (fun t x => t.treeStore 5 (templBlock index x.2) (x.1.1 * 2 ^ 32 + x.1.2)) s
    { s with latigo := { s.latigo with templ := (s.latigo.templ.filter (fun x => x.1 != index)) ++ [(index, ps.length)] } }

/-- The IDENT section: module ID override and master bit (R185); without the override the straps give the ID. -/
def State.takeIdent (s : State) (bs : List Nat) : State :=
  let w := beNat (bs.take 4)
  let s := (s.putB .ID_MODULE_IMG_MASTER (bitOf w 30)).putB .ID_MODULE_ID_OVR (bitOf w 31)
  s.put .ID_MODULE_MODULE (if bitOf w 31 then fieldOf w 0 12 else s.get .ID_MODULE_STRAP)

/-- A section as the boot ROM takes it (R435, Table 18.3). -/
def State.bootTake (s : State) (x : Section) (bs : List Nat) : State :=
  match x.type with
  | 1 => s.takeIdent bs
  | 2 => s.writePairs (wordPairs bs)
  | 3 => s.putTemplate x.index bs
  | 4 => { s with latigo := { s.latigo with progs := (progsOf bs).1, code := (progsOf bs).2 } }
  | 5 => s.takePattern bs
  | 6 => s.takeCompr bs
  | 7 => s.bootSection (safetyWords bs)
  | 8 => { s with latigo := { s.latigo with repair := repairsOf bs } }
  | _ => s

/-! ### Reading an image (R434, R435) -/

/-- Insert a section by its offset: a sequential read meets the sections in that order. -/
def insertSection (x : Section) : List Section → List Section
  | [] => [x]
  | y :: t => if x.off ≤ y.off then x :: y :: t else y :: insertSection x t

/-- The sections in the order in which a sequential read meets them. -/
def readOrder (l : List Section) : List Section := l.foldr insertSection []

/-- Inflate sections in order and take each that checks, up to the first that does not; answers whether all do. -/
def State.readSections (rd : Nat → Nat) : List Section → State → State × Bool
  | [], s => (s, true)
  | x :: t, s =>
    match inflateSection rd x with
    | .inr code => (s.inflateFault code, false)
    | .inl bs => if contentOk x bs then State.readSections rd t (s.bootTake x bs) else (s, false)

/-- Read one image. -/
def State.readImage (s : State) (dev : Nat) (h : Header) (both : Bool) : State × Booted :=
  let rd := (s.flashDev dev).byte
  let d := if directoryOk rd h then State.readSections rd (readOrder (sectionsOf rd h)) s else (s, false)
  (d.1, { valid := d.2, dev := dev, both := both, id := h.id, seq := h.seq, len := h.len,
          meas := sha256 (readBytes rd 0 h.len) })

/-- The candidate that a device holds (R434). -/
def State.candidate (s : State) (dev : Nat) : Option Header :=
  if (s.flashDev dev).used then headerOf (s.flashDev dev).byte else none

/-- The candidates in the order in which the ROM tries them (R434). CFGA is first when the IMAGE_SEQ are equal, and when they differ by
exactly 2^31, which R7 leaves unordered; no fault is counted (log entry 170). -/
def State.candidates (s : State) : List (Nat × Header) :=
  match s.candidate 0, s.candidate 1 with
  | some a, some b => if laterThan 32 b.seq a.seq then [(1, b), (0, a)] else [(0, a), (1, b)]
  | some a, none => [(0, a)]
  | none, some b => [(1, b)]
  | none, none => []

/-- The boot ROM probes both devices, then selects and reads an image (R427, R434, R435): while it writes, no section lock is set. -/
def State.bootRead (s : State) : State :=
  let s := (s.editFlash 0 Flash.probe).editFlash 1 Flash.probe
  let s := (s.put .LAT_LOCK_LOCK 0).putB .LAT_STAT_FALLBACK false
  let found (t : State) (b : Booted) : State := { t with latigo := { t.latigo with booted := some b } }
  match s.candidates with
  | [] => found s { valid := false, dev := 0, both := false, id := 0, seq := 0, len := 0, meas := List.replicate 8 0 }
  | (d, h) :: t =>
    let r := s.readImage d h false
    if r.2.valid then found r.1 r.2
    else
      match t with
      | [] => found r.1 r.2
      | (d', h') :: _ =>
        let r' := (r.1.putB .LAT_STAT_FALLBACK true).readImage d' h' true
        found r'.1 r'.2

/-- The identity registers at the end of BOOT (R436), from which live reloads count (Table 21.7). -/
def State.showImage (s : State) (b : Booted) : State :=
  let s := (s.put .ID_IMAGE_LO_IMAGE_ID_LO b.id).put .ID_IMAGE_HI_IMAGE_ID_HI (b.id / 2 ^ 32)
  let s := (s.put .ID_IMAGE_SEQ_IMAGE_SEQ b.seq).put .ID_IMAGE_LEN_IMAGE_LEN b.len
  let s := ((s.putB .ID_BOOT_FALLBACK b.both).put .ID_BOOT_SRC b.dev).put .PRS_STATE_IMAGE_SRC b.dev
  let s := s.put .ID_BOOT_NRELOAD 0
  (s.putDigest .ID_IMGMEAS_IMGMEAS b.meas).putDigest .ID_LIVEMEAS_LIVEMEAS b.meas

/-! ### The retained log (R438, Table 18.6) -/

/-- The first byte of the retained-log area: the last 64 KiB of the device. -/
def Flash.logBase (d : Flash) : Nat := d.mbit * 131072 - 65536

/-- The pages of the log that hold something. -/
def Flash.logPages (d : Flash) : List Nat :=
  (List.range 256).filter (fun p => d.bytes.any (fun x => x.1 / 256 == d.logBase / 256 + p))

/-- A record that checks: RSEQ, DEG_USED, starts. -/
def Flash.record (d : Flash) (p : Nat) : Option (Nat × Nat × Nat) :=
  let a := d.logBase + 256 * p
  if readBE d.byte (a + 252) 4 = crc32c (readBytes d.byte a 252) then
    some (readBE d.byte a 4, readBE d.byte (a + 4) 4, readBE d.byte (a + 8) 4)
  else none

/-- The later of two records by RSEQ (R7). Of two whose RSEQ differ by exactly 2^31, which R7 leaves unordered, the one met first stays, and
no fault is counted (log entry 171). -/
def laterRecord (a b : Option (Nat × Nat × Nat)) : Option (Nat × Nat × Nat) :=
  match a, b with
  | some x, some y => if laterThan 32 y.1 x.1 then b else a
  | none, y => y
  | x, none => x

/-- The latest valid record of a device. -/
def Flash.latest (d : Flash) : Option (Nat × Nat × Nat) := d.logPages.foldl (fun m p => laterRecord m (d.record p)) none

/-- The page after the latest record. -/
def Flash.nextPage (d : Flash) : Nat :=
  match d.logPages.find? (fun p => (d.record p).isSome && d.record p == d.latest) with
  | some p => (p + 1) % 256
  | none => 0

/-- A page of the log of device `dev` is free: it holds nothing, or the erase of its sector is under way. -/
def State.pageFree (s : State) (dev p : Nat) : Bool :=
  !(s.flashDev dev).logPages.contains p || s.latigo.ops.contains (.eraseLog dev ((s.flashDev dev).logBase / 4096 + p / 16))

/-- The next free page of the log of device `dev` from page `p` on, round-robin; `p` itself where none is free (R438). -/
def State.freePage (s : State) (dev p : Nat) : Nat :=
  (((List.range 256).map (fun k => (p + k) % 256)).find? (fun q => s.pageFree dev q)).getD p

/-- The latest valid record of a device that the module uses. -/
def State.latestOf (s : State) (dev : Nat) : Option (Nat × Nat × Nat) :=
  if (s.flashDev dev).used then (s.flashDev dev).latest else none

/-- The bytes of a record. -/
def recordBytes (rseq deg starts cause : Nat) : List Nat :=
  let b := bytesBE 4 rseq ++ bytesBE 4 deg ++ bytesBE 4 starts ++ [cause % 256] ++ List.replicate 239 0
  b ++ bytesBE 4 (crc32c b)

/-- Start the operation at the head, unless BROWNOUT defers it (R429). -/
def State.flashIssue (s : State) : State :=
  if s.flag .PRS_STATE_BROWNOUT || s.latigo.ops.isEmpty then s
  else { s with latigo := { s.latigo with issued := true } }

/-- Queue operations. -/
def State.flashQueue (s : State) (ops : List FlashOp) : State :=
  ({ s with latigo := { s.latigo with ops := s.latigo.ops ++ ops } } : State).flashIssue

/-! ### START entry (R438) -/

/-- Start a program: it runs from its first instruction (R442). -/
def State.startProgram (s : State) (n : Nat) : State :=
  (({ s with latigo := { s.latigo with pos := 0, wait := .none, elapsed := 0 } } : State).put .LAT_STAT_PROG n).putB
    .LAT_STAT_ACTIVE true

/-- A soft repair of the Latigo's list in START: made at once, its start and its end, or behind a copy that runs (log entry 159). -/
def State.repairNow (s : State) (m r : Nat) : State :=
  if s.tree.copy.isSome then { s with tree := { s.tree with todo := s.tree.todo ++ [(m, r)] } }
  else
    let t := s.repairStart m r
    if t.tree.copy.isSome then t.repairDone m r else t

/-- A soft repair of a reload, through TRE_REPAIR (Table 18.3): it begins, or waits for the copy that runs (log entry 159). -/
def State.repairLive (s : State) (m r : Nat) : State :=
  if s.tree.copy.isSome then { s with tree := { s.tree with todo := s.tree.todo ++ [(m, r)] } } else s.repairStart m r

/-- The Latigo enters START: repairs, retained log, reset cause and fallback events, program 0. -/
def State.enterStart (s : State) : State :=
  let s : State := { s with mode := .start }
  let s := s.latigo.repair.foldl (fun t x => t.repairNow x.1 x.2) s
  let last := laterRecord (s.latestOf 0) (s.latestOf 1)
  let deg := match last with
    | some x => x.2.1 + 60
    | none => 0
  let starts := match last with
    | some x => x.2.2 + 1
    | none => 1
  let rseq := match last with
    | some x => x.1
    | none => 0
  let s := (s.degUse deg).put .LAT_RETAIN_RSEQ rseq
  let s : State := { s with latigo := { s.latigo with
    starts := starts % 2 ^ 32, logPage := [(s.flashDev 0).nextPage, (s.flashDev 1).nextPage], degSaved := deg, savedAt := s.frc } }
  let s := s.raise 538 (s.get .PRS_CAUSE_CAUSE)
  let s := if s.flag .LAT_STAT_FALLBACK then s.raise 528 else s
  (s.startProgram 0).driveEventN

/-! ### Commands -/

/-- BOOT_IMAGE_READ (R435). -/
def execBootImageRead (s : State) : Host.Outcome State Fault Refusal :=
  when' (decide (s.mode = .boot) && s.latigo.booted.isNone) s (fun s => s.bootRead)

/-- BOOT_COMPLETE (R434, R436): the identity registers, the section locks, and START or HALT. -/
def execBootComplete (s : State) : Host.Outcome State Fault Refusal :=
  match s.latigo.booted with
  | some b =>
    when' (decide (s.mode = .boot)) s (fun s =>
      let s := (s.showImage b).put .LAT_LOCK_LOCK 0xFF
      let s : State := { s with latigo := { s.latigo with booted := none } }
      if b.valid then s.enterStart else { s with mode := .halt })
  | none => .next s

/-- FLASH_PROGRAM_DONE (R445): the program operation at the head completes. -/
def execFlashProgramDone (s : State) : Host.Outcome State Fault Refusal :=
  let pop (t : State) : State := ({ t with latigo := { t.latigo with ops := t.latigo.ops.drop 1, issued := false } } : State).flashIssue
  match s.latigo.ops.head? with
  | some (.progStage dev off bs) =>
    when' (s.alive && s.latigo.issued) s (fun s =>
      let s := s.editFlash dev (fun d => d.program off bs)
      pop { s with latigo := { s.latigo with bufWords := s.latigo.bufWords - bs.length / 8 } })
  | some (.progHeader dev bs) => when' (s.alive && s.latigo.issued) s (fun s => pop (s.editFlash dev (fun d => d.program 0 bs)))
  | some (.progLog dev off bs) => when' (s.alive && s.latigo.issued) s (fun s => pop (s.editFlash dev (fun d => d.program off bs)))
  | _ => .next s

/-- ERASE_DONE (R445): the erase at the head completes; the last erase of a staging opens it. -/
def execEraseDone (s : State) : Host.Outcome State Fault Refusal :=
  let pop (t : State) : State := ({ t with latigo := { t.latigo with ops := t.latigo.ops.drop 1, issued := false } } : State).flashIssue
  match s.latigo.ops.head? with
  | some (.eraseStage dev sector lastOne) =>
    when' (s.alive && s.latigo.issued) s (fun s =>
      let s := s.editFlash dev (fun d => d.erase sector)
      pop (if lastOne && s.get .LAT_STAT_STAGE_STATE == 1 then (s.put .LAT_STAT_STAGE_STATE 2).put .LAT_STAGEPOS_NEXT 0x1000 else s))
  | some (.eraseHeader dev) => when' (s.alive && s.latigo.issued) s (fun s => pop (s.editFlash dev (fun d => d.erase 0)))
  | some (.eraseLog dev sector) => when' (s.alive && s.latigo.issued) s (fun s => pop (s.editFlash dev (fun d => d.erase sector)))
  | _ => .next s

/-- A retained record is due (R438). -/
def State.recordDue (s : State) : Bool :=
  s.latigo.saveDue ||
  (s.get .BRD_DEG_DEG_USED != s.latigo.degSaved && decide (s.latigo.savedAt + 60000000 * usCu ≤ s.frc)) ||
  decide (s.latigo.savedAt + 3600000000 * usCu ≤ s.frc)

/-- The operations that write a record into page `page` of a device, where page `due` was next: the page, and where the writes enter a sector
the erase of the next one. -/
def State.logOps (s : State) (dev due page : Nat) (bs : List Nat) : List FlashOp :=
  let base := (s.flashDev dev).logBase
  if !(s.flashDev dev).used then []
  else
    .progLog dev (base + 256 * page) bs ::
      (if due % 16 = 0 ∨ page / 16 ≠ due / 16 then [.eraseLog dev (base / 4096 + (page / 16 + 1) % 16)] else [])

/-- RETAINED_LOG_WRITE (R438). -/
def execRetainedLogWrite (s : State) : Host.Outcome State Fault Refusal :=
  when' (s.working && s.recordDue) s (fun s =>
    let deg := s.get .BRD_DEG_DEG_USED
    let rseq := s.get .LAT_RETAIN_RSEQ + 1
    let bs := recordBytes rseq deg s.latigo.starts (s.get .BRD_TRIP_CAUSE)
    let d0 := s.latigo.logPage.getD 0 0
    let d1 := s.latigo.logPage.getD 1 0
    let p0 := s.freePage 0 d0
    let p1 := s.freePage 1 d1
    let ops := s.logOps 0 d0 p0 bs ++ s.logOps 1 d1 p1 bs
    let s : State := { s with latigo := { s.latigo with
      logPage := [(p0 + 1) % 256, (p1 + 1) % 256], degSaved := deg, savedAt := s.frc, saveDue := false } }
    (s.put .LAT_RETAIN_RSEQ rseq).flashQueue ops)

end Sys2Proof.Machine
end

