-- ==== Sys2Proof/Machine/Power.lean ====
section
/-! DEFINITION. The power and reset supervisor (20): VIN levels and dips, rails, the case, reset entry and release, the switched
die rails; and the data-path parity fault (19 R471). -/

namespace Sys2Proof.Machine

/-! ### Reset (R480 to R482) -/

/-- Enter RESET with a cause: every register and all state at its reset value, the die rails off; flash, fuses, BRD_DEG, the
recorded outputs, the waiting commands and what the supervisor knows of the rails and of the case stay (log entry 209), and PRS_CAUSE is
renewed. -/
def State.enterReset (s : State) (cause : Nat) : State :=
  let t : State := { State.reset with
    frc := s.frc, flash := s.flash.map (fun d => { d with par := none }), line := s.line, wire := s.wire, freeCtr := s.freeCtr,
    pending := s.pending,
    supervisor := { Supervisor.reset with
      fuses := s.supervisor.fuses, tempHold := s.supervisor.tempHold, hotMs := s.supervisor.hotMs, caseArm := s.supervisor.caseArm,
      caseAt := s.supervisor.caseAt, railOut := s.supervisor.railOut } }
  let t := (t.put .PRS_CAUSE_CAUSE cause).put .PRS_CAUSE_CAUSE_MAP (2 ^ cause)
  (t.put .BRD_DEG_DEG_USED (s.get .BRD_DEG_DEG_USED)).put .PRS_RAIL_IN_WIN (s.get .PRS_RAIL_IN_WIN)

/-- The supervisor's time, which runs on in RESET, where the FRC does not count (R476, log entry 209). -/
def State.supTime (s : State) : Nat := s.frc + s.supervisor.clock

/-- A cause of Table 20.3 arises: it leads to RESET, and in RESET it is noted in CAUSE_MAP; of those of the supervisor cycle that led to RESET the
lowest code is the first cause (R480, log entry 172). -/
def State.resetCause (s : State) (cause : Nat) : State :=
  if s.mode = .reset then
    let s := s.put .PRS_CAUSE_CAUSE_MAP (withBit (s.get .PRS_CAUSE_CAUSE_MAP) cause true)
    if s.supervisor.clock = 0 then s.put .PRS_CAUSE_CAUSE (min cause (s.get .PRS_CAUSE_CAUSE)) else s
  else s.enterReset cause

/-- The module leaves RESET (R482): the straps are latched, the ROOT PLL has locked and the FRC starts
from 0 (R219), FILL begins. -/
def State.release (s : State) (mid : Nat) (mstr : Bool) : State :=
  let s : State := { s with mode := .fill, frc := 0, supervisor := { s.supervisor with clock := 0, caseAt := none } }
  let s := ((s.put .ID_MODULE_STRAP mid).put .ID_MODULE_MODULE mid).putB .ID_MODULE_MSTR mstr
  s.putB .GIR_STAT_PLL_LOCK true

/-! ### Dies (R451, R452, R485) -/

/-- What the Burnish shows of a die whose registers are back at their reset values: no LOCK, and the worst AWL_QUAL fields. -/
def State.burClear (s : State) (f : Nat) : State := (s.put .BUR_STAT_LOCK (withBit (s.get .BUR_STAT_LOCK) f false)).showQual

/-- DIE_INIT of a die that loses its rail sends nothing more and fails (R452). -/
def State.initCut (s : State) (f : Nat) : State :=
  { s with latigo := { s.latigo with
      initRun := s.latigo.initRun.map (fun r => if r.die = f then { r with next := r.size, failed := true } else r) } }

/-- The rail of die `f` goes off: it is OFF and absent from the slot (R32), and nothing in it is kept. -/
def State.dieDown (s : State) (f : Nat) : State :=
  let s := if s.joined f then ((s.slotDieLeft f).dieLeave f).calAbort f else s.calAbort f
  let s := (s.dieClear f).initCut f
  let s : State := { s with supervisor := { s.supervisor with limitAt := SMap.set (fun _ => none) s.supervisor.limitAt f none } }
  ((s.setDie f Die.off).setBur f BurDie.idle).burClear f

/-- The rail of die `f` goes on: INIT, every die register at its reset value, the latency of its lanes to be measured again (R22), and the runs
that INIT requests (R368, R452). -/
def State.dieUp (s : State) (f : Nat) : State :=
  let s := s.dieClear f
  let s := ((s.setDie f { Die.off with pwr := .init, since := s.frc }).setBur f BurDie.idle).burClear f
  let s := if s.clockOk (82 + f) then s.putB .SHL_STAT_CLK_OK true f else s
  let none_ := [0, 1, 2, 3].foldl (fun m q => withBit m (4 * f + q) true) s.harness.unmeasured
  ({ s with harness := { s.harness with unmeasured := none_ } } : State).calRequest f 6

/-! ### The case (R483) -/

/-- 1 °C in the units of PRS_TEMP. -/
def degree : Int := 16

/-- A reading of the case sensor. -/
def State.caseRead (s : State) (temp vin : Nat) : State :=
  let s := (s.put .PRS_TEMP_CASE temp).put .PRS_VIN_VIN vin
  let t := s.getS .PRS_TEMP_CASE
  let hi := s.getS .PRS_TEMP_CASE_HI
  let hot := if 105 * degree < t then s.supervisor.hotMs + 1 else 0
  let hold := s.supervisor.tempHold && decide (95 * degree ≤ t)
  let s : State := { s with supervisor := { s.supervisor with hotMs := hot, tempHold := hold } }
  if hi < t ∧ s.supervisor.caseArm then
    ({ s with supervisor := { s.supervisor with caseArm := false } } : State).raise 539
  else if t ≤ hi - 2 * degree then { s with supervisor := { s.supervisor with caseArm := true } }
  else s

/-! ### Dips (R477 to R479) -/

/-- A dip begins. -/
def State.dipBegin (s : State) : State :=
  let slots := s.packer.slots.map (fun o => if o.ended.isNone then { o with brown := true } else o)
  let s : State := { s with supervisor := { s.supervisor with dipFall := s.frc, dipRise := none },
                            packer := { s.packer with slots := slots } }
  ((s.putB .PRS_STATE_BROWNOUT true).raise 534).rosetteBrown

/-- The end of a dip whose last rise was recognised at FRC `rise`. -/
def State.dipEnd (s : State) (rise : Nat) : State :=
  let us := min (2 ^ 32 - 1) ((rise - s.supervisor.dipFall) / usCu)
  let s : State := { s with supervisor := { s.supervisor with dipRise := none } }
  let s := ((s.putB .PRS_STATE_BROWNOUT false).put .PRS_DIP_LAST_DIP us).inc .PRS_CNT_DIPS
  (s.raise 535 us).flashIssue

/-! ### Commands -/

/-- The supervisor brings up Saddle rail `r` of VIO, VAUX, VSER, VCORE, which reaches its window; it starts only when the one before, VSTBY
before VIO, is in its window (R475). -/
def State.railUp (s : State) (r : Nat) : State :=
  if bitOf (s.get .PRS_RAIL_IN_WIN) r then s.put .PRS_RAIL_IN_WIN (withBit (s.get .PRS_RAIL_IN_WIN) (r + 1) true) else s

/-- POWER_ON (R29, R475, Table 20.2): VIN, in 10 mV, at the supervisor operating level of 12 V or above it. VSTBY is up, the supervisor starts
afresh (log entry 209), and it brings the Saddle rails up in their order. -/
def execPowerOn (s : State) (vin : Nat := 0) : Host.Outcome State Fault Refusal :=
  when' (decide (s.mode = .unpowered) && decide (1200 ≤ vin)) s (fun s =>
    let s : State := { s.enterReset 1 with supervisor := { Supervisor.reset with fuses := s.supervisor.fuses } }
    [0, 1, 2, 3].foldl State.railUp (s.put .PRS_RAIL_IN_WIN 1))

/-- VIN_SUPERVISOR_LOSS (R29): VIN below 12 V in RESET. -/
def execVinSupervisorLoss (s : State) (vin : Nat := 0) : Host.Outcome State Fault Refusal :=
  when' (decide (s.mode = .reset) && decide (vin < 1200)) s (fun s => { s with mode := .unpowered })

/-- RESET_RELEASE (R482): `vin` in 10 mV, the level of RST_N, the Saddle rails, which the supervisor too must have in their windows, the lock of
the ROOT PLL, the straps. -/
def execResetRelease (vin : Nat) (rstN railsOk pllLock : Bool) (mid : BitVec 12) (mstr : Bool) (s : State) :
    Host.Outcome State Fault Refusal :=
  when' (decide (s.mode = .reset) && decide (3550 ≤ vin) && rstN && railsOk && pllLock && !s.supervisor.tempHold &&
      decide (s.get .PRS_RAIL_IN_WIN = 31)) s (fun s =>
    s.release mid.toNat mstr)

/-- FILL_COMPLETE (R312): the Tree and the hit queues hold zeros with valid parity; BOOT begins. -/
def execFillComplete (s : State) : Host.Outcome State Fault Refusal :=
  when' (decide (s.mode = .fill)) s (fun s =>
    ({ s with mode := .boot, tree := { s.tree with blocks := [] }, quads := [] } : State).tmoUpdate)

/-- VIN_WARN_FALL (R477 to R479, Table 20.2): a level of VIN below 34.0 V, or during a dip below 35.0 V, is recognised. -/
def execVinWarnFall (vin : Nat) (s : State) : Host.Outcome State Fault Refusal :=
  when' s.alive s (fun s =>
    if s.flag .PRS_STATE_BROWNOUT then
      if vin < 3500 then { s with supervisor := { s.supervisor with dipRise := none } } else s
    else if vin < 3400 then s.dipBegin else s)

/-- VIN_WARN_RELEASE (R479): a rise above 35.0 V during a dip starts the resume timer. -/
def execVinWarnRelease (s : State) (vin : Nat := 0) : Host.Outcome State Fault Refusal :=
  when' (s.alive && s.flag .PRS_STATE_BROWNOUT && s.supervisor.dipRise.isNone && decide (3500 < vin)) s (fun s =>
    { s with supervisor := { s.supervisor with dipRise := some s.frc } })

/-- BROWNOUT_RESUME (R479). -/
def execBrownoutResume (s : State) : Host.Outcome State Fault Refusal :=
  match s.supervisor.dipRise with
  | some t => when' (s.alive && s.flag .PRS_STATE_BROWNOUT && decide (t + 1000 * usCu ≤ s.frc)) s (fun s => s.dipEnd t)
  | none => .next s

/-- VIN_RESET_FALL (R480): below 31.0 V. -/
def execVinResetFall (s : State) (vin : Nat := 0) : Host.Outcome State Fault Refusal :=
  when' (decide (s.mode ≠ .unpowered) && decide (vin < 3100)) s (fun s => s.resetCause 2)

/-- Saddle rail `r` (VIO, VAUX, VSER, VCORE) at `v`, in 10 µV, is in its window: nominal 1.8, 2.5, 0.90, 0.80 V, ± 5, 5, 3, 3 %
(Table 20.1). -/
def railIn (r v : Nat) : Bool :=
  match r with
  | 0 => within 171000 189000 v
  | 1 => within 237500 262500 v
  | 2 => within 87300 92700 v
  | _ => within 77600 82400 v

/-- RAIL_FAULT (R476): the voltage of a Saddle rail, in 10 µV, that has held for more than 10 µs; outside its window it is a fault. In RESET, where
the supervisor brings the rails up, a rail reaches its window only after the one before (R475). -/
def execRailFault (r : Fin 4) (v : Nat) (s : State) : Host.Outcome State Fault Refusal :=
  when' (decide (s.mode ≠ .unpowered)) s (fun s =>
    let was := bitOf (s.get .PRS_RAIL_IN_WIN) (r + 1)
    let now := railIn r v && (s.alive || was || bitOf (s.get .PRS_RAIL_IN_WIN) r)
    let s := s.put .PRS_RAIL_IN_WIN (withBit (s.get .PRS_RAIL_IN_WIN) (r + 1) now)
    let s : State := { s with supervisor := { s.supervisor with
      railOut := setAt s.supervisor.railOut r (if now then none else some ((s.supervisor.railOut.getD r none).getD s.supTime)) } }
    if was && !now then (s.put .PRS_RAIL_FAULT (withBit (s.get .PRS_RAIL_FAULT) (r + 1) true)).raise 536 else s)

/-- RAIL_RESET (R476): 100 µs outside the window, 90 µs after the fault was recognised; in RESET the cause is noted (R480). -/
def execRailReset (r : Fin 4) (s : State) : Host.Outcome State Fault Refusal :=
  let late := (s.supervisor.railOut.getD r none).any (fun t => decide (t + 90 * usCu ≤ s.supTime))
  when' (decide (s.mode ≠ .unpowered) && late) s (fun s => s.resetCause 3)

/-- RST_N_LOW (R481). -/
def execRstNLow (s : State) : Host.Outcome State Fault Refusal :=
  when' (decide (s.mode ≠ .unpowered)) s (fun s => s.resetCause 5)

/-- CASE_TEMP_READ (R483, R486): every 1 ms, with VIN in 10 mV. -/
def execCaseTempRead (temp vin : BitVec 16) (s : State) : Host.Outcome State Fault Refusal :=
  when' (decide (s.mode ≠ .unpowered) && s.supervisor.caseAt.all (fun t => decide (t + 1000 * usCu ≤ s.supTime))) s (fun s =>
    ({ s with supervisor := { s.supervisor with caseAt := some s.supTime } } : State).caseRead temp.toNat vin.toNat)

/-- CASE_OVERTEMP_RESET (R483): above 105 °C for 100 ms. -/
def execCaseOvertempReset (s : State) : Host.Outcome State Fault Refusal :=
  when' (decide (s.mode ≠ .unpowered) && decide (100 ≤ s.supervisor.hotMs)) s (fun s =>
    ({ s with supervisor := { s.supervisor with tempHold := true } } : State).resetCause 4)

/-- DIE_RAIL_LIMIT (R485): the currents of VSA_f and VSD_f, in mA; the switch limits at 0.8 A and 1.2 A, and die event 21 is raised when
it begins to. -/
def execDieRailLimit (f : DieNo) (s : State) (vsa vsd : Nat := 0) : Host.Outcome State Fault Refusal :=
  when' (s.alive && s.diePowered f) s (fun s =>
    let was := SMap.get (fun _ => none) s.supervisor.limitAt f
    let now := decide (800 ≤ vsa) || decide (1200 ≤ vsd)
    let s : State := { s with supervisor := { s.supervisor with
      limitAt := SMap.set (fun _ => none) s.supervisor.limitAt f (if now then some (was.getD s.frc) else none) } }
    if now && was.isNone then s.raiseDie f 21 else s)

/-- DIE_RAIL_TRIP (R485): the switch has limited for 1 ms. -/
def execDieRailTrip (f : DieNo) (s : State) : Host.Outcome State Fault Refusal :=
  let late := (SMap.get (fun _ => none) s.supervisor.limitAt f).any (fun t => decide (t + 1000 * usCu ≤ s.frc))
  when' (s.alive && s.diePowered f && late) s (fun s =>
    ((s.dieDown f).put .PRS_DIERAIL_TRIP (withBit (s.get .PRS_DIERAIL_TRIP) f true)).inc .PRS_CNT_DIE_TRIPS)

/-- DIE_RAIL_UV (R485): VSA_f and VSD_f, in mV, one of them below 95 % of 1.8 V and 0.90 V, while INIT or JOINED. -/
def execDieRailUv (f : DieNo) (s : State) (vsa vsd : Nat := 0) : Host.Outcome State Fault Refusal :=
  when' (s.alive && (decide (vsa < 1710) || decide (vsd < 855))) s (fun s => s.raiseDie f 20)

/-- DIE_PLL_LOCK (R266, R91): the ROOT PLL of a die locks to the C320 forwarded to it; in INIT all its rings restart. -/
def execDiePllLock (f : DieNo) (s : State) : Host.Outcome State Fault Refusal :=
  when' (s.working && s.diePowered f && !(s.die f).pll && bitOf s.harness.clocks (20 + f)) s (fun s =>
    let s := s.setDie f { s.die f with pll := true }
    if (s.die f).pwr = .init then s.restartAll f else s)

/-- DATAPATH_PARITY_FAULT (R471): a word that stream `k` of a slot carries fails its parity in the block of the given code; the
slot block is sent with POISON. -/
def execDatapathParityFault (code : Fin 13) (k : Fin 8) (slot : BitVec 48) (s : State) : Host.Outcome State Fault Refusal :=
  when' s.working s (fun s =>
    let s := s.poisonSlot slot.toNat k
    (s.inc .EVM_CNTG_DP_PARITY).raise 542 code)

end Sys2Proof.Machine
end

