-- ==== Sys2Proof/Machine/Latigo.lean ====
section
/-! DEFINITION. The Latigo (18): primitives and commands, staging, reload, dies, and the sequencer. -/

namespace Sys2Proof.Machine

/-! ### Measurement and reload (R437, R449, R450) -/

/-- MEAS_REPORT (Table 18.4). -/
def State.measReport (s : State) (nonce : Nat) : State × Nat :=
  let head := pack [(60, 4, 3), (55, 1, s.get .ID_BOOT_SRC), (54, 1, s.get .ID_BOOT_FALLBACK), (16, 32, nonce),
    (0, 16, s.get .ID_BOOT_NRELOAD)]
  let id := pack [(32, 32, s.get .ID_IMAGE_HI_IMAGE_ID_HI), (0, 32, s.get .ID_IMAGE_LO_IMAGE_ID_LO)]
  let seq := pack [(32, 32, s.get .ID_IMAGE_SEQ_IMAGE_SEQ), (0, 32, s.get .ID_IMAGE_LEN_IMAGE_LEN)]
  ((s.item 6 ([head, id, seq] ++ digestWords (s.digest .ID_IMGMEAS_IMGMEAS) ++ digestWords (s.digest .ID_ROMHASH_ROMHASH) ++
    digestWords (s.digest .ID_LIVEMEAS_LIVEMEAS))).inc .LAT_CNT3_MEAS_REPORTS, stOk)

/-- The PROGS stores that wait replace the store between two programs, in the order of their reloads (R442, Table 18.3). -/
def State.swapStore (s : State) : State :=
  if s.flag .LAT_STAT_ACTIVE then s
  else
    s.latigo.nextStore.foldl (fun t x =>
      ({ t with latigo := { t.latigo with progs := x.progs, code := x.code } } : State).reloadDone 4 x.index x.dev x.seq x.hash)
      { s with latigo := { s.latigo with nextStore := [] } }

/-- Put a lock bit of LAT_LOCK. -/
def State.putLock (s : State) (t : Nat) (b : Bool) : State :=
  s.put .LAT_LOCK_LOCK (withBit (s.get .LAT_LOCK_LOCK * 2) t b / 2)

/-- Take a reloaded section live (Table 18.3); PROGS and SAFETY wait. -/
def State.liveTake (s : State) (x : Section) (bs : List Nat) : State :=
  match x.type with
  | 2 => ((s.putLock 2 false).writePairs (wordPairs bs)).putLock 2 true
  | 3 => s.putTemplate x.index bs
  | 5 => ({ s with stirrup := { s.stirrup with imgHold := true } } : State).takePattern bs
  | 6 => s.takeCompr bs
  | 8 =>
    let fresh := (repairsOf bs).filter (fun e => !s.latigo.repair.contains e)
    let s : State := { s with latigo := { s.latigo with repair := s.latigo.repair ++ fresh } }
    fresh.foldl (fun t e => t.repairLive e.1 e.2) s
  | _ => s

/-- A safety section is held pending until a valid key press, at which its reload is applied (R419, R450). -/
def State.holdSection (s : State) (x : PendingSection) : State :=
  (({ s with bridle := { s.bridle with pending := some x } } : State).putB .BRD_STAT_SECT_PEND true).raise 525

/-- A section that faults in a reload (R449). -/
def State.reloadFault (s : State) (code : Nat) : State := ((s.inflateFault code).inc .LAT_CNT3_RELOAD_FAULTS).raise 533

/-- Apply a section that has checked (R449, R450). -/
def State.reloadApply (s : State) (x : Section) (bs : List Nat) (dev seq : Nat) (hash : List Nat) : State :=
  if x.type = 4 then
    ({ s with latigo := { s.latigo with
        nextStore := s.latigo.nextStore ++ [⟨(progsOf bs).1, (progsOf bs).2, hash, x.index, dev, seq⟩] } } : State).swapStore
  else if x.type = 7 then s.holdSection { words := safetyWords bs, hash := hash, index := x.index, dev := dev, seq := seq }
  else (s.liveTake x bs).reloadDone x.type x.index dev seq hash

/-- A reload is refused (R449): event 525 for a safety section (R419). -/
def State.reloadRefused (s : State) (type : Nat) : State × Nat := (if type = 7 then s.raise 525 else s, stRefused)

/-- RELOAD with its status (R449). -/
def State.reload (s : State) (arg : Nat) : State × Nat :=
  let type := fieldOf arg 8 8
  let index := fieldOf arg 0 8
  let src := s.get .PRS_STATE_IMAGE_SRC
  let dev := if bitOf arg 16 then 1 - src else src
  let rd := (s.flashDev dev).byte
  match s.candidate dev with
  | none => s.reloadRefused type
  | some h =>
    match (sectionsOf rd h).find? (fun x => x.type == type && x.index == index) with
    | none => s.reloadRefused type
    | some x =>
      if 262144 < x.ulen ∨ type = 1 ∨ (type = 7 ∧ s.get .BRD_STAT_STATE ≠ 3) then s.reloadRefused type
      else
        match inflateSection rd x with
        | .inr code => (s.reloadFault code, stFault)
        | .inl bs => (s.reloadApply x bs dev h.seq (sha256 (readBytes rd x.off x.clen)), stOk)

/-! ### Staging (R445 to R447) -/

/-- The device that STAGE_OPEN stages into. -/
def State.stageDev (s : State) (arg : Nat) : Nat :=
  if s.mode = .halt then fieldOf arg 16 1 else 1 - s.get .PRS_STATE_IMAGE_SRC

/-- The erase operations of STAGE_OPEN: sector 0 first. -/
def eraseOps (dev n : Nat) : List FlashOp := (List.range n).map (fun k => .eraseStage dev k (k + 1 == n))

/-- STAGE_OPEN with its status; of a device that the module does not use it is refused (R427, log entry 210). -/
def State.stageOpen (s : State) (arg : Nat) : State × Nat :=
  let n := fieldOf arg 0 16
  if ([1, 2, 3] : List Nat).contains (s.get .LAT_STAT_STAGE_STATE) ∨ n = 0 ∨ 1536 < n ∨
      !(s.flashDev (s.stageDev arg)).used then (s, stRefused)
  else
    let dev := s.stageDev arg
    let s : State := { s with latigo := { s.latigo with header := [], bufWords := 0 } }
    let s := ((s.put .LAT_STAT_STAGE_STATE 1).put .LAT_STAT_STAGE_DEV dev).put .LAT_STAGE_SECTORS n
    ((s.put .LAT_STAGEPOS_NEXT 0).flashQueue (eraseOps dev n), stOk)

/-- Bytes into the header buffer. -/
def State.headerPut (s : State) (off : Nat) (bs : List Nat) : State :=
  { s with latigo := { s.latigo with
      header := bs.zipIdx.foldl (fun m x => SMap.set (fun _ => 0xFF) m (off + x.2) x.1) s.latigo.header } }

/-- The data words of a STAGE message with its status (R446, Table 18.10). -/
def State.stage (s : State) (off : Nat) (ws : List Word64) : State × Nat :=
  let n := 8 * ws.length
  if s.get .LAT_STAT_STAGE_STATE = 2 ∧ off + n ≤ 0x1000 then (s.headerPut off (wordBytes ws), stOk)
  else if s.get .LAT_STAT_STAGE_STATE = 2 ∧ s.get .LAT_STAGEPOS_NEXT ≤ off ∧ off + n ≤ s.get .LAT_STAGE_SECTORS * 4096 ∧
      s.latigo.bufWords + ws.length ≤ 8192 then
    let s : State := { s with latigo := { s.latigo with bufWords := s.latigo.bufWords + ws.length } }
    ((s.put .LAT_STAGEPOS_NEXT (off + n)).flashQueue [.progStage (s.get .LAT_STAT_STAGE_DEV) off (wordBytes ws)], stOk)
  else ((s.inc .LAT_CNT2_STAGE_REFUSED).raise 432, stRefused)

/-- STAGE_CLOSE with its status. -/
def State.stageClose (s : State) : State × Nat :=
  if s.get .LAT_STAT_STAGE_STATE = 2 then (s.put .LAT_STAT_STAGE_STATE 3, stOk) else (s, stRefused)

/-- An operation of staging. -/
def FlashOp.staging : FlashOp → Bool
  | .eraseStage _ _ _ => true
  | .progStage _ _ _ => true
  | .progHeader _ _ => true
  | _ => false

/-- An operation of a staging that is aborted completes when it has been issued, and means nothing to a later staging. -/
def FlashOp.orphan : FlashOp → FlashOp
  | .eraseStage dev sector _ => .eraseStage dev sector false
  | .progStage dev off bs => .progLog dev off bs
  | o => o

/-- The device that STAGE_ABORT concerns: the one staged; where none has been since reset, the one that would be (log entry 113). -/
def State.abortDev (s : State) : Nat := if s.get .LAT_STAGE_SECTORS = 0 then s.stageDev 0 else s.get .LAT_STAT_STAGE_DEV

/-- STAGE_ABORT with its status: operations not yet issued are dropped, and sector 0 is erased (Table 18.10). -/
def State.stageAbort (s : State) : State × Nat :=
  let k := b2n s.latigo.issued
  let ops := (s.latigo.ops.take k).map FlashOp.orphan ++ (s.latigo.ops.drop k).filter (fun o => !o.staging)
  let s : State := { s with latigo := { s.latigo with ops := ops, bufWords := 0 } }
  let s := s.put .LAT_STAT_STAGE_STATE 0
  (if (s.flashDev s.abortDev).used then s.flashQueue [.eraseHeader s.abortDev] else s, stOk)

/-- A program operation of staging still waits. -/
def State.stageBusy (s : State) : Bool :=
  s.latigo.ops.any (fun o => match o with | .progStage _ _ _ => true | _ => false)

/-- A byte of the staged image: the header buffer below 0x1000, the device above. -/
def State.stagedByte (s : State) (a : Nat) : Nat :=
  if a < 0x1000 then SMap.get (fun _ => 0xFF) s.latigo.header a else (s.flashDev (s.get .LAT_STAT_STAGE_DEV)).byte a

/-- Whether every section inflates and checks; a decompressor fault is counted (R212, R433). -/
def State.verifySections (rd : Nat → Nat) : List Section → State → State × Bool
  | [], s => (s, true)
  | x :: t, s =>
    match inflateSection rd x with
    | .inr code => (s.inflateFault code, false)
    | .inl bs => if contentOk x bs then State.verifySections rd t s else (s, false)

/-- The Staged item (Table 18.5). -/
def State.stagedItem (s : State) (ok : Bool) (seq len : Nat) (digest : List Nat) : State :=
  s.item 6 ([pack [(60, 4, 6), (59, 1, b2n ok), (58, 1, s.get .LAT_STAT_STAGE_DEV)], pack [(32, 32, seq), (0, 32, len)]] ++
    digestWords digest)

/-- The verification of a staged image (R447). -/
def State.stageVerify (s : State) : State :=
  let rd := s.stagedByte
  let seq := readBE rd 8 4
  let len := readBE rd 12 4
  let digest := sha256 (readBytes rd 0 len)
  let d := match headerOf rd with
    | some h => if directoryOk rd h then State.verifySections rd (readOrder (sectionsOf rd h)) s else (s, false)
    | none => (s, false)
  if d.2 then
    ((d.1.put .LAT_STAT_STAGE_STATE 4).stagedItem true seq len digest).flashQueue
      [.progHeader (s.get .LAT_STAT_STAGE_DEV) (readBytes rd 0 0x1000)]
  else ((d.1.put .LAT_STAT_STAGE_STATE 5).stagedItem false seq len digest).raise 533

/-! ### RESTART (R448) -/

/-- The identity registers that read 0 until the end of BOOT (R495). -/
def State.hideImage (s : State) : State :=
  let s := (s.put .ID_IMAGE_LO_IMAGE_ID_LO 0).put .ID_IMAGE_HI_IMAGE_ID_HI 0
  let s := (s.put .ID_IMAGE_SEQ_IMAGE_SEQ 0).put .ID_IMAGE_LEN_IMAGE_LEN 0
  let s := ((s.putB .ID_BOOT_FALLBACK false).put .ID_BOOT_SRC 0).put .ID_BOOT_NRELOAD 0
  s.putDigest .ID_IMGMEAS_IMGMEAS (List.replicate 8 0)

/-- RESTART with its status: in HALT image selection runs again, in START and RUN the module enters RESET. -/
def State.restart (s : State) : State × Nat :=
  let st := s.get .LAT_STAT_STAGE_STATE
  if st = 1 ∨ st = 3 ∨ s.flashDeferred then (s, stRefused)
  else if s.mode = .halt then (({ s with mode := .boot, latigo := { s.latigo with booted := none } } : State).hideImage, stOk)
  else (s.enterReset 6, stOk)

/-! ### Dies (R451 to R453) -/

/-- DIE_OUT with its status. -/
def State.dieOut (s : State) (f : Nat) : State × Nat :=
  let high := match s.dieMap f with
    | some b => decide (s.get .BRD_LIM7_STBY < s.get .BRD_SET_SENT b)
    | none => false
  if high then (s, stRefused)
  else if s.joined f then (s.setDie f { s.die f with outPend := true }, stOk)
  else (s, stOk)

/-- DIE_PWR on: event 537 at the change. -/
def State.diePwrOn (s : State) (f : Nat) : State × Nat :=
  if !s.working then (s, stRefused) else if s.diePowered f then (s, stOk) else ((s.dieUp f).raise 537, stOk)

/-- DIE_PWR off. -/
def State.diePwrOff (s : State) (f : Nat) : State × Nat :=
  if s.joined f then (s, stRefused) else if s.diePowered f then ((s.dieDown f).raise 537, stOk) else (s, stOk)

/-- The template that die `f` takes: its own, else the default (R432). -/
def State.templateOf (s : State) (f : Nat) : Nat := if s.latigo.templ.any (fun x => x.1 == f) then f else 16

/-- The return lane of a die is enabled. -/
def State.retEnable (s : State) (f : Nat) : State :=
  if s.get .SHL_STAT_RET_STATE f = 0 && s.flag .SHL_STAT_CLK_OK f then s.put .SHL_STAT_RET_STATE 1 f else s

/-- DIE_INIT begins (R452): lanes, TSET, and behind it the template, which the return lane sends one write after another. -/
def State.dieInit (s : State) (p : PrimReq) (f : Nat) : State :=
  let s := (List.range 4).foldl (fun t q => t.laneEnable (4 * f + q)) s
  let s := (s.retEnable f).retPut f .tset
  { s with latigo := { s.latigo with
      initRun := some { req := p, die := f, templ := s.templateOf f, size := s.templSize (s.templateOf f), next := 0, sent := [],
                        failed := false } } }

/-- DIE_JOIN with its status (R453). -/
def State.dieJoin (s : State) (f : Nat) : State × Nat :=
  let lat := (List.range 4).all (fun q => within 64 160 (s.get .HAR_SHLAT_LAT (4 * f + q)))
  if (s.die f).pwr = .init && (s.die f).initDone && s.flag .SHL_STAT_CLK_OK f && s.flag .SHL_STAT_TSET_DONE f && s.dieLocked f &&
      s.measured f && lat then (s.setDie f { s.die f with joinPend := true }, stOk)
  else (s, stRefused)

/-- The receive lanes of a LANE_RETRAIN group; the UP ports have none. -/
def groupLanes (g : Nat) : List Nat :=
  if g < 16 then (List.range 4).map (fun q => 4 * g + q)
  else if g = 16 then (List.range 8).map (fun q => 64 + q)
  else if g = 17 then (List.range 8).map (fun q => 72 + q)
  else if g = 20 then [80]
  else if g = 21 then [81]
  else []

/-- LANE_RETRAIN with its status: LANE_EN 0 and then 1 on every lane; an UP cascade port goes down (Table 07.3). -/
def State.laneRetrain (s : State) (g : Nat) : State × Nat :=
  if g < 16 ∧ s.joined g then (s, stRefused)
  else
    let s := (groupLanes g).foldl (fun t n => t.laneDisable n) s
    let s := if g < 16 then (if s.get .SHL_STAT_RET_STATE g = 2 then s.retLost g 0 else s.put .SHL_STAT_RET_STATE 0 g) else s
    let s := if g = 16 then s.portDown false false else if g = 17 then s.portDown true false else s
    let s := (groupLanes g).foldl (fun t n => t.laneEnable n) s
    (if g < 16 then s.retEnable g else s, stOk)

/-- RUN_PROG with its status. -/
def State.runProg (s : State) (n : Nat) : State × Nat :=
  let r := s.requestProgram n
  (r.1, if r.2 then stOk else stRefused)

/-! ### The primitives (R443, Table 18.8) -/

/-- A primitive that ends at once, with its status code; an undefined code is refused. -/
def State.runPrimitive (s : State) (code arg : Nat) : State × Nat :=
  match code with
  | 0x01 => s.runProg (fieldOf arg 0 5)
  | 0x02 => s.measReport (fieldOf arg 0 32)
  | 0x03 => s.stageOpen arg
  | 0x04 => s.stageClose
  | 0x05 => s.stageAbort
  | 0x06 => s.reload arg
  | 0x07 => s.restart
  | 0x08 => s.dieOut (fieldOf arg 0 4)
  | 0x09 => if bitOf arg 4 then s.diePwrOn (fieldOf arg 0 4) else s.diePwrOff (fieldOf arg 0 4)
  | 0x0B => s.dieJoin (fieldOf arg 0 4)
  | 0x0C => s.calPrim arg
  | 0x0D => (s.forceTrig, stOk)
  | 0x0E => s.biasOn
  | 0x0F => s.biasDown
  | 0x10 => s.biasOffNow
  | 0x11 => s.biasSet arg
  | 0x12 => s.laneRetrain (fieldOf arg 0 6)
  | _ => (s, stRefused)

/-- A primitive has ended (R441, R444): its stream 5 item, or its status code in W7, and T set when that is not 0, with which the sequencer goes
on; a RESTART that enters RESET leaves neither. -/
def State.primEnd (s : State) (p : PrimReq) (status : Nat) : State :=
  if s.mode = .reset then s
  else if p.tmi then s.reply 3 p.code false status 0 (p.arg % 2 ^ 32)
  else if s.latigo.wait = .prim then ((s.put .LAT_W_W status 7).putT (status != 0)).seqNext
  else s

/-- DIE_INIT: it begins for a die in INIT, else it is refused (Table 18.8). -/
def State.initStart (s : State) (p : PrimReq) : State :=
  if (s.die (fieldOf p.arg 0 4)).pwr = .init then s.dieInit p (fieldOf p.arg 0 4) else s.primEnd p stRefused

/-- Serve a primitive: DIE_INIT begins, another one ends at once. -/
def State.primRun (s : State) (p : PrimReq) : State :=
  if p.code = 0x0A then s.initStart p
  else
    let r := s.runPrimitive p.code p.arg
    r.1.primEnd p r.2

/-- A primitive waits until DIE_INIT has ended (R443). -/
def State.primWait (s : State) (p : PrimReq) : State := { s with latigo := { s.latigo with prims := s.latigo.prims ++ [p] } }

/-- A primitive is started (R443): BIAS_OFF_NOW goes to the Bridle at once, every other one waits while DIE_INIT is under way. -/
def State.primStart (s : State) (p : PrimReq) : State :=
  if p.code = 0x10 ∨ s.latigo.initRun.isNone then s.primRun p else s.primWait p

/-- Serve the primitives that wait, up to a further DIE_INIT; `n` bounds the round. -/
def State.runPrims : Nat → State → State
  | 0, s => s
  | n + 1, s =>
    match s.latigo.initRun, s.latigo.prims with
    | none, p :: t => State.runPrims n (({ s with latigo := { s.latigo with prims := t } } : State).primRun p)
    | _, _ => s

/-- DIE_INIT ends when the last write has been answered; it has completed unless a write failed (R452, log entry 41). What waited is served. -/
def State.initEnd (s : State) : State :=
  match s.latigo.initRun with
  | some r =>
    if r.next < r.size ∨ r.sent ≠ [] then s
    else
      let s : State := { s with latigo := { s.latigo with initRun := none } }
      let s := if r.failed then s else s.setDie r.die { s.die r.die with initDone := true }
      let s := s.primEnd r.req (if r.failed then stTimeout else stOk)
      State.runPrims s.latigo.prims.length s
  | none => s

/-- A CMD of TMI (R443, R444). -/
def State.command (s : State) (tgt : BitVec 12) (op : Nat) (arg : BitVec 36) (due : Bool) (f : State → State) :
    Host.Outcome State Fault Refusal :=
  let s := s.tmoHeard (tmiMessage (pack [(56, 8, 0x74), (44, 12, tgt.toNat), (36, 8, op), (0, 36, arg.toNat)]) [])
  when' (s.tmiActs && s.addressed tgt && due) s f

/-- A CMD whose OP is the code of a primitive: it runs that primitive with ARG, or waits while DIE_INIT is under way (R443). -/
def State.cmdStart (s : State) (tgt : BitVec 12) (op : Nat) (arg : BitVec 36) (due : Bool) (f : State → State) :
    Host.Outcome State Fault Refusal :=
  s.command tgt op arg due (fun s => if op = 0x10 ∨ s.latigo.initRun.isNone then f s else s.primWait ⟨op, arg.toNat, true⟩)

/-- As `cmdStart`, of a primitive that ends at once with a status code. -/
def State.cmdPrim (s : State) (tgt : BitVec 12) (op : Nat) (arg : BitVec 36) (due : Bool) (f : State → State × Nat) :
    Host.Outcome State Fault Refusal :=
  s.cmdStart tgt op arg due (fun s => (f s).1.primEnd ⟨op, arg.toNat, true⟩ (f s).2)

/-! ### The sequencer (R440 to R442) -/

/-- The program that runs is over: event 529 when program 0 is over before RUN (R439), and a store that waits is taken. -/
def State.endProgram (s : State) : State :=
  let s : State := { s with latigo := { s.latigo with wait := .none } }
  let s := s.putB .LAT_STAT_ACTIVE false
  let s := if s.mode = .start ∧ s.get .LAT_STAT_PROG = 0 then s.raise 529 else s
  s.swapStore

/-- A program is aborted (R442, Table 18.13). -/
def State.abort (s : State) (cause : Nat) : State :=
  let s := ((s.put .LAT_ABORT_PROG (s.get .LAT_STAT_PROG)).put .LAT_ABORT_CAUSE cause).put .LAT_ABORT_POS s.latigo.pos
  ((s.inc .LAT_CNT0_PROG_ABORTS).raise 530).endProgram

/-- The instruction at the position, when it lies inside the program. -/
def State.fetch (s : State) : Option Word64 :=
  if s.latigo.pos < s.program.len then some (s.latigo.code.getD (s.program.first + s.latigo.pos) 0) else none

/-- An OP of Table 18.7. -/
def opDefined (op : Nat) : Bool := within 1 0x0D op || op == 0x0F

/-- The sequencer is at an instruction boundary: a program is active and waits for nothing, and the C160 cycle of the instruction before has
passed (R441). -/
def State.boundary (s : State) : Bool :=
  s.working && s.flag .LAT_STAT_ACTIVE && s.latigo.wait == .none && decide (s.latigo.seqAt ≤ s.frc)

/-- The sequencer can run an instruction: one of a program that has exceeded its budget runs no more (R442). -/
def State.seqReady (s : State) : Bool := s.boundary && !s.overBudget

/-- It can run one that accesses a register: the access comes in the order of R444. -/
def State.accReady (s : State) : Bool := s.seqReady && s.arrives .latigo

/-- Run the instruction at the position when it is the one commanded; an uncorrectable store row, a position outside the program
or an undefined OP aborts it (R442). -/
def State.instr (s : State) (op : Nat) (upset : Bool) (f : State → Word64 → State) : State :=
  if upset then s.abort 4
  else
    match s.fetch with
    | none => s.abort 3
    | some w =>
      if fw w 58 6 = op then f { s with latigo := { s.latigo with seqAt := s.frc + 16 } } w
      else if opDefined (fw w 58 6) then s else s.abort 2

/-- A working register. -/
def State.w (s : State) (i : Nat) : Nat := s.get .LAT_W_W i

/-- The byte address in WADDR. -/
def waddr (w : Word64) : Nat := 4 * fw w 35 23

/-- A register access of the sequencer: it completes before the next instruction begins (R441). -/
def State.seqAccess (s : State) (cont : AccessCont) (wr : Bool) (addr data : Nat) : State :=
  ({ s with latigo := { s.latigo with wait := .access } } : State).request
    { who := .latigo, cont := cont, wr := wr, addr := addr, data := data }

/-- The result of ALU (Table 18.7). -/
def aluResult (fn a b imm : Nat) : Nat :=
  match fn with
  | 0 => a + b
  | 1 => a + 2 ^ 32 - b
  | 2 => a &&& b
  | 3 => a ||| b
  | 4 => a ^^^ b
  | 5 => a * 2 ^ (b % 32)
  | 6 => a / 2 ^ (b % 32)
  | _ => a + unsigned 32 (signed 16 imm)

/-- Whether BR branches (Table 18.7). -/
def branchTaken (cond a b : Nat) (t : Bool) : Bool :=
  match cond with
  | 0 => a == b
  | 1 => a != b
  | 2 => decide (a < b)
  | _ => t

/-- Jump within the program; a target outside its length aborts it (R442). -/
def State.jump (s : State) (to_ : Nat) : State :=
  if to_ < s.program.len then { s with latigo := { s.latigo with pos := to_ } } else s.abort 3

/-- PRIM: the sequencer waits until the primitive has ended (R441, R443). -/
def State.seqPrim (s : State) (w : Word64) : State :=
  let arg := if fw w 49 1 = 1 then s.w (fw w 46 3) else fw w 0 36
  ({ s with latigo := { s.latigo with wait := .prim } } : State).primStart { code := fw w 50 8, arg := arg, tmi := false }

/-- The program that starts next: in START only program 0 (R442). -/
def State.nextProgram (s : State) : Option Nat :=
  if s.mode = .start then s.latigo.queue.find? (fun n => n == 0) else s.latigo.queue.head?

/-! ### Commands -/

/-- CMD_UNKNOWN (R443). -/
def execCmdUnknown (tgt : BitVec 12) (op : Byte) (arg : BitVec 36) (s : State) : Host.Outcome State Fault Refusal :=
  s.command tgt op.toNat arg (!within 1 0x12 op.toNat) (fun s =>
    (s.raise 433).reply 3 op.toNat false stRefused 0 (arg.toNat % 2 ^ 32))

/-- CAL (R368). -/
def execCal (tgt : BitVec 12) (arg : BitVec 36) (s : State) : Host.Outcome State Fault Refusal :=
  s.cmdPrim tgt 0x0C arg true (fun s => s.calPrim arg.toNat)

/-- BIAS_ON (R405). -/
def execBiasOn (tgt : BitVec 12) (arg : BitVec 36) (s : State) : Host.Outcome State Fault Refusal :=
  s.cmdPrim tgt 0x0E arg true (fun s => s.biasOn)

/-- BIAS_DOWN (R404). -/
def execBiasDown (tgt : BitVec 12) (arg : BitVec 36) (s : State) : Host.Outcome State Fault Refusal :=
  s.cmdPrim tgt 0x0F arg true (fun s => s.biasDown)

/-- BIAS_OFF_NOW (R404). -/
def execBiasOffNow (tgt : BitVec 12) (arg : BitVec 36) (s : State) : Host.Outcome State Fault Refusal :=
  s.cmdPrim tgt 0x10 arg true (fun s => s.biasOffNow)

/-- BIAS_SET (R407). -/
def execBiasSet (tgt : BitVec 12) (arg : BitVec 36) (s : State) : Host.Outcome State Fault Refusal :=
  s.cmdPrim tgt 0x11 arg true (fun s => s.biasSet arg.toNat)

/-- RUN_PROG (R443). -/
def execRunProg (tgt : BitVec 12) (arg : BitVec 36) (s : State) : Host.Outcome State Fault Refusal :=
  s.cmdPrim tgt 0x01 arg true (fun s => s.runProg (fieldOf arg.toNat 0 5))

/-- MEAS_REPORT (R437). -/
def execMeasReport (tgt : BitVec 12) (arg : BitVec 36) (s : State) : Host.Outcome State Fault Refusal :=
  s.cmdPrim tgt 0x02 arg true (fun s => s.measReport (fieldOf arg.toNat 0 32))

/-- STAGE_OPEN (R445). -/
def execStageOpen (tgt : BitVec 12) (arg : BitVec 36) (s : State) : Host.Outcome State Fault Refusal :=
  s.cmdPrim tgt 0x03 arg true (fun s => s.stageOpen arg.toNat)

/-- STAGE (R446): a message with 1 to 32 data words; with another number its block count is wrong (R280). -/
def execStage (tgt : BitVec 12) (rtag : Byte) (off : Word32) (ws : List Word64) (s : State) : Host.Outcome State Fault Refusal :=
  let s := s.tmoHeard (tmiMessage
    (pack [(56, 8, 0x77), (44, 12, tgt.toNat), (36, 8, rtag.toNat), (30, 6, ws.length)]) (BitVec.ofNat 64 off.toNat :: ws))
  if 1 ≤ ws.length ∧ ws.length ≤ 32 then
    when' (s.tmiActs && s.addressed tgt) s (fun s =>
      let r := s.stage off.toNat ws
      r.1.reply 4 rtag.toNat false r.2 0 off.toNat)
  else when' s.tmiActs s (fun s => (s.inc .HAR_CNT5_TMI_BAD).raise 423 (80 + b2n (s.flag .HAR_STAT_TMO_SRC)))

/-- STAGE_CLOSE (R445). -/
def execStageClose (tgt : BitVec 12) (arg : BitVec 36) (s : State) : Host.Outcome State Fault Refusal :=
  s.cmdPrim tgt 0x04 arg true (fun s => s.stageClose)

/-- STAGE_VERIFY_DONE (R447): the pending programs are complete and the staged bytes have been read back. -/
def execStageVerifyDone (s : State) : Host.Outcome State Fault Refusal :=
  when' (s.alive && s.get .LAT_STAT_STAGE_STATE == 3 && !s.stageBusy) s (fun s => s.stageVerify)

/-- STAGE_ABORT (R445). -/
def execStageAbort (tgt : BitVec 12) (arg : BitVec 36) (s : State) : Host.Outcome State Fault Refusal :=
  s.cmdPrim tgt 0x05 arg true (fun s => s.stageAbort)

/-- RELOAD (R449). -/
def execReload (tgt : BitVec 12) (arg : BitVec 36) (s : State) : Host.Outcome State Fault Refusal :=
  s.cmdPrim tgt 0x06 arg true (fun s => s.reload arg.toNat)

/-- RESTART (R448). -/
def execRestart (tgt : BitVec 12) (arg : BitVec 36) (s : State) : Host.Outcome State Fault Refusal :=
  s.cmdPrim tgt 0x07 arg true (fun s => s.restart)

/-- DIE_OUT (R451). -/
def execDieOut (tgt : BitVec 12) (arg : BitVec 36) (s : State) : Host.Outcome State Fault Refusal :=
  s.cmdPrim tgt 0x08 arg true (fun s => s.dieOut (fieldOf arg.toNat 0 4))

/-- DIE_PWR_ON (R452): the primitive DIE_PWR with bit 4 of ARG set. -/
def execDiePwrOn (tgt : BitVec 12) (arg : BitVec 36) (s : State) : Host.Outcome State Fault Refusal :=
  s.cmdPrim tgt 0x09 arg (bitOf arg.toNat 4) (fun s => s.diePwrOn (fieldOf arg.toNat 0 4))

/-- DIE_PWR_OFF (R485): the primitive DIE_PWR with bit 4 of ARG clear. -/
def execDiePwrOff (tgt : BitVec 12) (arg : BitVec 36) (s : State) : Host.Outcome State Fault Refusal :=
  s.cmdPrim tgt 0x09 arg (!bitOf arg.toNat 4) (fun s => s.diePwrOff (fieldOf arg.toNat 0 4))

/-- DIE_INIT (R452). -/
def execDieInit (tgt : BitVec 12) (arg : BitVec 36) (s : State) : Host.Outcome State Fault Refusal :=
  s.cmdStart tgt 0x0A arg true (fun s => s.initStart ⟨0x0A, arg.toNat, true⟩)

/-- DIE_JOIN (R453). -/
def execDieJoin (tgt : BitVec 12) (arg : BitVec 36) (s : State) : Host.Outcome State Fault Refusal :=
  s.cmdPrim tgt 0x0B arg true (fun s => s.dieJoin (fieldOf arg.toNat 0 4))

/-- FORCE (R443). -/
def execForce (tgt : BitVec 12) (arg : BitVec 36) (s : State) : Host.Outcome State Fault Refusal :=
  s.cmdPrim tgt 0x0D arg true (fun s => (s.forceTrig, stOk))

/-- LANE_RETRAIN (R443). -/
def execLaneRetrain (tgt : BitVec 12) (arg : BitVec 36) (s : State) : Host.Outcome State Fault Refusal :=
  s.cmdPrim tgt 0x12 arg true (fun s => s.laneRetrain (fieldOf arg.toNat 0 6))

/-- PROGRAM_REQUEST (R442): a write of LAT_RUN. -/
def execProgramRequest (data : Word32) (s : State) : Host.Outcome State Fault Refusal := access' s.alive s (fun s => s.writeLatRun data)

/-- PROGRAM_START (R442): the next request; an uncorrectable row of the program table aborts it. -/
def execProgramStart (upset : Bool) (s : State) : Host.Outcome State Fault Refusal :=
  match s.nextProgram with
  | some n =>
    when' (s.working && !s.flag .LAT_STAT_ACTIVE) s (fun s =>
      let s : State := { s with latigo := { s.latigo with queue := s.latigo.queue.erase n } }
      if upset then (s.startProgram n).abort 4 else s.startProgram n)
  | none => .next s

/-- PROGRAM_BUDGET_EXPIRE (R442): at the next instruction boundary. -/
def execProgramBudgetExpire (s : State) : Host.Outcome State Fault Refusal :=
  when' (s.boundary && s.overBudget) s (fun s => s.abort 1)

/-- WRI (Table 18.7). -/
def execWri (upset : Bool) (s : State) : Host.Outcome State Fault Refusal :=
  when' s.accReady s (fun s => s.instr 0x01 upset (fun s w => s.seqAccess .write true (waddr w) (fw w 0 32)))

/-- WRR (Table 18.7). -/
def execWrr (upset : Bool) (s : State) : Host.Outcome State Fault Refusal :=
  when' s.accReady s (fun s => s.instr 0x02 upset (fun s w => s.seqAccess .write true (waddr w) (s.w (fw w 32 3))))

/-- RD (Table 18.7). -/
def execRd (upset : Bool) (s : State) : Host.Outcome State Fault Refusal :=
  when' s.accReady s (fun s => s.instr 0x03 upset (fun s w => s.seqAccess (.read (fw w 32 3)) false (waddr w) 0))

/-- RMW (Table 18.7). -/
def execRmw (upset : Bool) (s : State) : Host.Outcome State Fault Refusal :=
  when' s.accReady s (fun s => s.instr 0x04 upset (fun s w => s.seqAccess (.modify (fw w 32 3) (fw w 29 3)) false (waddr w) 0))

/-- LDI (Table 18.7). -/
def execLdi (upset : Bool) (s : State) : Host.Outcome State Fault Refusal :=
  when' s.seqReady s (fun s => s.instr 0x05 upset (fun s w => (s.put .LAT_W_W (fw w 0 32) (fw w 32 3)).seqNext))

/-- ALU (Table 18.7). -/
def execAlu (upset : Bool) (s : State) : Host.Outcome State Fault Refusal :=
  when' s.seqReady s (fun s => s.instr 0x06 upset (fun s w =>
    (s.put .LAT_W_W (aluResult (fw w 23 3) (s.w (fw w 29 3)) (s.w (fw w 26 3)) (fw w 0 16)) (fw w 32 3)).seqNext))

/-- POLL (Table 18.7): its first read, or a further one. -/
def execPoll (upset : Bool) (s : State) : Host.Outcome State Fault Refusal :=
  let until_ := match s.latigo.wait with
    | .poll u => some u
    | _ => none
  let s' : State := { s with latigo := { s.latigo with wait := if until_.isSome then .none else s.latigo.wait } }
  when' (s'.boundary && s'.arrives .latigo && (until_.isSome || !s.overBudget)) s (fun _ => s'.instr 0x07 upset (fun s w =>
    s.seqAccess (.poll (fw w 32 3) (fw w 29 3) (until_.getD (s.frc + fw w 13 16 * 16384))) false (waddr w) 0))

/-- POLL_TIMEOUT (Table 18.7): TMO has passed without a match. -/
def execPollTimeout (s : State) : Host.Outcome State Fault Refusal :=
  match s.latigo.wait with
  | .poll u => when' (s.working && s.flag .LAT_STAT_ACTIVE && decide (u ≤ s.frc)) s (fun s => (s.putT true).seqNext)
  | _ => .next s

/-- WAITS (Table 18.7). -/
def execWaits (upset : Bool) (s : State) : Host.Outcome State Fault Refusal :=
  when' s.seqReady s (fun s => s.instr 0x08 upset (fun s w =>
    { s with latigo := { s.latigo with wait := .strobes (fw w 0 32) } }))

/-- WAITC (Table 18.7). -/
def execWaitc (upset : Bool) (s : State) : Host.Outcome State Fault Refusal :=
  when' s.seqReady s (fun s => s.instr 0x09 upset (fun s w =>
    { s with latigo := { s.latigo with wait := .cycles (s.frc + 16 * fw w 0 32) } }))

/-- The wait of WAITS or WAITC is over. -/
def State.waitOver (s : State) : Bool :=
  match s.latigo.wait with
  | .strobes n => n == 0
  | .cycles u => decide (u ≤ s.frc)
  | _ => false

/-- WAIT_DONE (Table 18.7). -/
def execWaitDone (s : State) : Host.Outcome State Fault Refusal :=
  when' (s.working && s.flag .LAT_STAT_ACTIVE && s.waitOver) s (fun s => s.seqNext)

/-- JMP (Table 18.7). -/
def execJmp (upset : Bool) (s : State) : Host.Outcome State Fault Refusal :=
  when' s.seqReady s (fun s => s.instr 0x0A upset (fun s w => s.jump (fw w 0 12)))

/-- BR (Table 18.7). -/
def execBr (upset : Bool) (s : State) : Host.Outcome State Fault Refusal :=
  when' s.seqReady s (fun s => s.instr 0x0B upset (fun s w =>
    if branchTaken (fw w 27 2) (s.w (fw w 32 3)) (s.w (fw w 29 3)) s.latigo.flagT then s.jump (fw w 0 12) else s.seqNext))

/-- PRIM (Table 18.7). -/
def execPrim (upset : Bool) (s : State) : Host.Outcome State Fault Refusal :=
  when' s.seqReady s (fun s => s.instr 0x0C upset (fun s w => s.seqPrim w))

/-- EVT (Table 18.7). -/
def execEvt (upset : Bool) (s : State) : Host.Outcome State Fault Refusal :=
  when' s.seqReady s (fun s => s.instr 0x0D upset (fun s w => (s.raise 531 (fw w 0 8)).seqNext))

/-- END (Table 18.7). -/
def execEnd (upset : Bool) (s : State) : Host.Outcome State Fault Refusal :=
  when' s.seqReady s (fun s => s.instr 0x0F upset (fun s _ => (s.inc .LAT_CNT0_PROGS_RUN).endProgram))

end Sys2Proof.Machine
end

