-- ==== Sys2Proof/Machine/Strobe.lean ====
section
/-! DEFINITION. The slot strobe (01 R21, 09 R224): what every block does when one slot ends and the next begins. -/

namespace Sys2Proof.Machine

/-! ### The slot that ends -/

/-- The two words of a log entry (Table 19.6). -/
def LogEntry.words (e : LogEntry) : List Word64 :=
  [pack [(60, 4, 1), (50, 10, e.id), (47, 3, e.sev), (46, 1, b2n e.replay), (39, 7, e.again), (23, 16, e.toff)],
   pack [(32, 32, e.tslot), (0, 32, e.data)]]

/-- The block with the most corrections, the lowest code among equals. -/
def mostVotes (votes : List Nat) : Nat :=
  (List.range 13).foldl (fun b k => if votes.getD b 0 < votes.getD k 0 then k else b) 0

/-- The corrections of each block in the slot that ends, by code of Table 19.8 (R469): EVM_VOTE, and source 542 above
VOTE_LIMIT. -/
def State.strobeVotes (s : State) (votes : List Nat) : State :=
  let v := (List.range 13).map (fun k => votes.getD k 0)
  let sum := v.foldl (· + ·) 0
  let lim := s.get .EVM_CTRL_VOTE_LIMIT
  let s : State := { s with matrix := { s.matrix with votes := (s.matrix.votes.zip v).map (fun x => x.1 + x.2) } }
  let s := s.inc .EVM_VOTE_VOTE_CORR 0 sum
  if lim != 0 && decide (lim < sum) then s.raise 542 (2 ^ 31 + mostVotes v) else s

/-- The PH measurements of the slot that ends (R376); a die in INIT whose PH run has started is measured too (log entry 53). -/
def State.strobePhases (s : State) (phases : List (Option (Int × Int))) : State :=
  (List.range 16).foldl (fun t f =>
    match phases.getD f none with
    | some (out, back) =>
      if t.joined f || (t.diePowered f && bitOf (t.bur f).run 1) then t.phMeasure f out back else t
    | none => t) s

/-- The slot that ends: an older slot whose stream 0 is still open closes first (R155); a slot that awaits no marker closes at once (log
entry 57); then streams 1 to 7 close, with the log entries of the slot (R159, R464): what closes at one edge enters the Skive in
ascending stream order (R189). `n` is its number. -/
def State.strobeClose (s : State) (n : Nat) : State :=
  match s.packer.slots.find? (fun o => o.ended.isNone) with
  | none => ({ s with packer := { s.packer with items := [] } } : State).releaseHeld n
  | some o =>
    let log := s.matrix.log
    let s : State := if o.formed then { s with matrix := { s.matrix with log := [] } } else s
    let s := match s.nextClose with
      | some p => s.closeSlot p.slot
      | none => s
    let s := s.editSlot o.slot (fun x => { x with ended := some s.frc })
    let s := match s.nextClose with
      | some p => if p.allMarkers then s.closeSlot p.slot else s
      | none => s
    s.closeServices o (log.flatMap LogEntry.words)

/-! ### Dies -/

/-- Dies accepted by DIE_JOIN become JOINED (R453). A die that leaves INIT so keeps its injections (R55, log entry 173). -/
def State.strobeJoin (s : State) (f : Nat) : State :=
  let d := s.die f
  if d.joinPend && decide (d.pwr = .init) then
    let s := s.setDie f { d with pwr := .joined, joinPend := false, freshFrom := s.frc }
    let lanes := [4 * f, 4 * f + 1, 4 * f + 2, 4 * f + 3]
    { s with packer := { s.packer with
        laneSlot := lanes.foldl (fun m n => SMap.set (fun _ => 0) m n 0) s.packer.laneSlot,
        levels := s.packer.levels.filter (fun x => x.1 / 256 != f) } }
  else s

/-- The slot-offset counter of a die that has had its TSET is 0 at this strobe, and its slot number is that of the slot that begins
(R64, R21; log entry 54). -/
def State.strobeTimer (s : State) (m f : Nat) : State :=
  if s.diePowered f && s.flag .SHL_STAT_TSET_DONE f then
    s.rebase f ((m * 65536 + 2 ^ 64 - s.frc % 2 ^ 64) % 2 ^ 64)
  else s

/-- The slot marker of quadrant `n` at this strobe (Table 06.3). The completion stage adds CSLOST, the hit-queue reader QLOST. -/
def State.markerWord (s : State) (n : Nat) (join : Bool) : Word64 :=
  pack [(60, 2, n % 4), (44, 16, s.dieCount (n / 4) / 65536), (40, 4, s.get .AWLD_CTRL_EPOCH (n / 4)),
    (8, 8, (s.quad n).bLost), (7, 1, b2n join)]

/-- The slot timer of a joined die inserts a marker into each quadrant (R21, R77). -/
def State.strobeMarker (s : State) (join : Bool) (n : Nat) : State :=
  let q := s.quad n
  let e : Entry := { edge := s.frc, birth := 0, chan := none, taken := false, word := some (s.markerWord n join), due := s.frc, hold := false,
                     drop := false, raw := 0, limit := none }
  s.setQuad n { q with stage := stageInsert e q.stage, bLost := 0 }

/-- Die `f` inserts its four markers when it is JOINED. -/
def State.strobeMarkers (s : State) (join : Bool) (f : Nat) : State :=
  if s.joined f then [4 * f, 4 * f + 1, 4 * f + 2, 4 * f + 3].foldl (fun t n => t.strobeMarker join n) s else s

/-- A die that DIE_OUT has named leaves JOINED behind its markers (R451): it enters INIT, which requests its PH and INJ runs (R368, R370). -/
def State.strobeLeave (s : State) (f : Nat) : State :=
  let d := s.die f
  if d.outPend && decide (d.pwr = .joined) then
    (((s.setDie f { d with pwr := .init, outPend := false }).dieLeave f).calAbort f).calRequest f 6
  else s

/-- The slot of a powered die on its own side: a commit or a ramp step (R67, R68), its calibration record (R382), and the ALIGN
block it owes on each lane (R259). -/
def State.strobeDie (s : State) (f : Nat) : State :=
  if s.diePowered f then
    let p := s.awlStrobe f
    let s := (if p.2 then p.1.calRecord f else p.1).injStrobe f
    s.setDie f { s.die f with alignDue := 15 }
  else s

/-- What die `f` does at a strobe that begins slot `m`. -/
def State.strobeDieAll (s : State) (m f : Nat) : State :=
  let join := (s.die f).joinPend
  let s := s.strobeTimer m f
  (((s.strobeDie f).strobeJoin f).strobeMarkers join f).strobeLeave f

/-! ### The slot that begins -/

/-- A late block goes behind those that arrived before it (R178). -/
def lateInsert (x : Nat × Bool × List Word64) : List (Nat × Bool × List Word64) → List (Nat × Bool × List Word64)
  | [] => [x]
  | y :: t => if y.1 < x.1 then y :: lateInsert x t else x :: y :: t

/-- Groups of skipped slots: what the CI ports have sent for them lies before E, and is late (R518, R179). -/
def State.skipGroups (s : State) (n m : Nat) : State :=
  let gs := s.stitch.groups.filter (fun g => decide (n < g.slot) && decide (g.slot < m))
  if gs = [] then s
  else
    let late := gs.flatMap (fun g => g.cia.map (fun x => (x.1, false, reflag true false x.2)) ++ g.cib.map (fun x => (x.1, true, reflag true false x.2)))
    let s : State := { s with stitch := { s.stitch with
      groups := s.stitch.groups.filter (fun g => !(decide (n < g.slot) && decide (g.slot < m))),
      late := late.foldl (fun l x => lateInsert x l) s.stitch.late } }
    late.foldl (fun t _ => (t.inc .STI_CNT0_LATE_FWD).raise 440) s

/-- Slot `m` begins without blocks: what the CI ports have sent for it is discarded (R520). -/
def State.unform (s : State) (m : Nat) : State :=
  let gs := s.stitch.groups.filter (fun g => g.slot == m)
  let n := (gs.map (fun g => bytesOf ((g.cia ++ g.cib).map (·.2)))).foldl (· + ·) 0
  let un := match s.stitch.unformed with
    | (a, b) :: t => if b + 1 = m then (a, m) :: t else (m, m) :: (a, b) :: t
    | [] => [(m, m)]
  let s : State := { s with stitch := { s.stitch with groups := s.stitch.groups.filter (fun g => g.slot != m), unformed := un } }
  if n = 0 then s else s.giveBack m n

/-- Open stream 0 of slot `m`, and its group when blocks are formed for it (R520, R32). A joined die whose link has been lost is absent until
the latency of its lanes has been measured again (R22). -/
def State.openSlot (s : State) (m : Nat) : State :=
  let formed := s.flag .HAR_CTRL_UPA_EN || s.flag .HAR_CTRL_UPB_EN
  let old := match s.packer.slots.getLast? with
    | some o => o.epochs
    | none => s.packer.reported
  let o : OpenSlot :=
    { slot := m, formed := formed, ended := none, dies := maskOf ((List.range 16).filter (fun f => s.joined f)),
      gone := maskOf ((List.range 16).filter (fun f => s.joined f && !(s.dieLocked f && s.measured f))),
      hits := [], markers := [], closed := none, fb := false, brown := s.flag .PRS_STATE_BROWNOUT, poison := 0, lostIn := [],
      epochs := s.packer.reported, epochs0 := old }
  let s : State := { s with packer := { s.packer with slots := s.packer.slots ++ [o] } }
  let s := if formed then s.editGroup m (fun g => { g with formed := true, wait := List.range 8 }) else s.unform m
  s.showEmit

/-- Border cells of a cascade port return once its lanes are LOCKED again (R119). -/
def State.strobeBorders (s : State) : State :=
  [false, true].foldl (fun t cib =>
    if t.portLocked cib then t.put .STR_STAT_NBR_LOST (withBit (t.get .STR_STAT_NBR_LOST) (b2n cib) false) else t) s

/-- Counts per slot, and the strobes that the Latigo counts (R274, R441, R442). -/
def State.strobeCounts (s : State) : State :=
  let l := s.latigo
  let wait := match l.wait with
    | .strobes n => SeqWait.strobes (n - 1)
    | w => w
  { s with
    harness := { s.harness with sideCnt := [0, 0], echoCnt := [0, 0], frameCnt := [0, 0] },
    latigo := { l with wait := wait, elapsed := if s.flag .LAT_STAT_ACTIVE then l.elapsed + 1 else l.elapsed },
    stirrup := { s.stirrup with imgHold := false } }

/-- Slot `m` overlaps fallback when fallback is in force after the strobe (R139). -/
def State.strobeFb (s : State) (m : Nat) : State :=
  let s := s.fbStrobe
  let fb := s.flag .STR_STAT_FALLBACK
  s.editSlot m (fun o => { o with fb := fb })

/-- What the checkers of the lanes and the voters of the dies counted in the slot that ends (R257, R469). -/
def State.strobeErrors (s : State) (dieVotes : List Nat) (errs : List (Fin 115 × Nat × Nat)) : State :=
  let s := (List.range 16).foldl (fun t f => if t.diePowered f then t.inc .EVD_VOTE_VOTE_CORR f (dieVotes.getD f 0) else t) s
  errs.foldl (fun t e => t.checkerCount e.1 e.2.1 e.2.2) s

/-- The slot strobe: slot n ends and the slot in which T lies begins; what is raised at the strobe belongs to the slot that begins
(R229, R464). -/
def State.slotStrobe (s : State) (meas : Int) (votes dieVotes : List Nat) (errs : List (Fin 115 × Nat × Nat))
    (phases : List (Option (Int × Int))) : State :=
  let n := s.girth.slot
  let m := s.nowFu / 2 ^ 23
  let s : State := { s with girth := { s.girth with slot := m } }
  let s := (((s.strobeClose n).strobeVotes votes).strobeErrors dieVotes errs).strobePhases phases
  let s := s.girthStrobe m meas
  let s := if s.girth.stepped then s.emptyALast else s
  let s := (List.range 16).foldl (fun t f => t.strobeDieAll m f) s
  let s := (((s.skipGroups n m).openSlot m).strobeFb m).strobeMarks
  (((s.rosetteStrobe n).tackStrobe).strobeBorders).strobeCounts

/-! ### Commands -/

/-- SLOT_STROBE (R224): at the first edge at which T reaches the next slot. `meas` is the measurement of the crystal (R226), `votes`
the corrections of each Saddle block in the slot that ends and `dieVotes` those of each die (R469), `errs` by lane what the checkers
counted: bit errors, and overflows of the elastic buffer (R257, R258), `phases` by die the two delays of a PH measurement (R376). -/
def execSlotStrobe (meas : Int) (votes dieVotes : List Nat) (errs : List (Fin 115 × Nat × Nat))
    (phases : List (Option (Int × Int))) (s : State) : Host.Outcome State Fault Refusal :=
  when' (s.alive && s.strobeDue) s (fun s => s.slotStrobe meas votes dieVotes errs phases)

end Sys2Proof.Machine
end

