-- ==== Sys2Proof/Machine/Dispatch.lean ====
section
/-! DEFINITION. One arm for each command: a direct call of its meaning. -/

namespace Sys2Proof.Machine

def exec (i : Instr) (s : State) : Host.Outcome State Fault Refusal :=
  match i with
  | .powerOn vin => Sys2Proof.Machine.execPowerOn s vin
  | .vinSupervisorLoss vin => Sys2Proof.Machine.execVinSupervisorLoss s vin
  | .resetRelease vin rstN railsOk pllLock mid mstr => Sys2Proof.Machine.execResetRelease vin rstN railsOk pllLock mid mstr s
  | .fillComplete => Sys2Proof.Machine.execFillComplete s
  | .bootImageRead => Sys2Proof.Machine.execBootImageRead s
  | .bootComplete => Sys2Proof.Machine.execBootComplete s
  | .anodeSlewStep f c => Sys2Proof.Machine.execAnodeSlewStep f c s
  | .triggerDiscFire f c cur => Sys2Proof.Machine.execTriggerDiscFire f c s cur
  | .thresholdEval f c => Sys2Proof.Machine.execThresholdEval f c s
  | .pixTrgpolWrite f c data => Sys2Proof.Machine.execPixTrgpolWrite f c data s
  | .accLoad f c data => Sys2Proof.Machine.execAccLoad f c data s
  | .injArm f data => Sys2Proof.Machine.execInjArm f data s
  | .injFire f => Sys2Proof.Machine.execInjFire f s
  | .injRepClear f data => Sys2Proof.Machine.execInjRepClear f data s
  | .ovrEnter f c high => Sys2Proof.Machine.execOvrEnter f c s high
  | .ovrRelease f c high => Sys2Proof.Machine.execOvrRelease f c s high
  | .ovrLong f c => Sys2Proof.Machine.execOvrLong f c s
  | .recoveryWindowEnd f c => Sys2Proof.Machine.execRecoveryWindowEnd f c s
  | .neighbourWindowEnd f c left => Sys2Proof.Machine.execNeighbourWindowEnd f c left s
  | .leadCapture f c cur taps => Sys2Proof.Machine.execLeadCapture f c cur taps s
  | .trailCapture f c cur taps => Sys2Proof.Machine.execTrailCapture f c cur s taps
  | .totSaturate f c => Sys2Proof.Machine.execTotSaturate f c s
  | .deadTimeEnd f c => Sys2Proof.Machine.execDeadTimeEnd f c s
  | .creditAdd f c => Sys2Proof.Machine.execCreditAdd f c s
  | .intervalTimeout f c => Sys2Proof.Machine.execIntervalTimeout f c s
  | .completionEntry f c => Sys2Proof.Machine.execCompletionEntry f c s
  | .markerEntry n => Sys2Proof.Machine.execMarkerEntry n s
  | .entryToQueue n => Sys2Proof.Machine.execEntryToQueue n s
  | .awlCommit f data => Sys2Proof.Machine.execAwlCommit f data s
  | .rngRestart f c data => Sys2Proof.Machine.execRngRestart f c data s
  | .restartAll f data => Sys2Proof.Machine.execRestartAll f data s
  | .ringFull f c => Sys2Proof.Machine.execRingFull f c s
  | .frz0 f w => Sys2Proof.Machine.execFrz0 f w s
  | .freezeDecode f w => Sys2Proof.Machine.execFreezeDecode f w s
  | .freezeApply f c => Sys2Proof.Machine.execFreezeApply f c s
  | .transferEnd f c b => Sys2Proof.Machine.execTransferEnd f c b s
  | .conversionEnd f c b hg lg ref => Sys2Proof.Machine.execConversionEnd f c b hg lg ref s
  | .recordPush n => Sys2Proof.Machine.execRecordPush n s
  | .recWaitExpire n => Sys2Proof.Machine.execRecWaitExpire n s
  | .csWordSend n => Sys2Proof.Machine.execCsWordSend n s
  | .shathenAlignSend n half => Sys2Proof.Machine.execShathenAlignSend n half s
  | .primitiveEnter n w => Sys2Proof.Machine.execPrimitiveEnter n w s
  | .sideWordEnter cib w => Sys2Proof.Machine.execSideWordEnter cib w s
  | .binEvaluate => Sys2Proof.Machine.execBinEvaluate s
  | .trig alt tslot toff tfine now => Sys2Proof.Machine.execTrig alt tslot toff tfine now s
  | .strForce data => Sys2Proof.Machine.execStrForce data s
  | .autoTrigger => Sys2Proof.Machine.execAutoTrigger s
  | .triggerDecide => Sys2Proof.Machine.execTriggerDecide s
  | .freezeSend f => Sys2Proof.Machine.execFreezeSend f s
  | .recordArrive n => Sys2Proof.Machine.execRecordArrive n s
  | .refusalArrive n w => Sys2Proof.Machine.execRefusalArrive n w s
  | .ctxTimeout k => Sys2Proof.Machine.execCtxTimeout k s
  | .strClassWrite k data => Sys2Proof.Machine.execStrClassWrite k data s
  | .strMapdataAccess wr data => Sys2Proof.Machine.execStrMapdataAccess wr data s
  | .fbClear data => Sys2Proof.Machine.execFbClear data s
  | .slotStrobe meas votes dieVotes errs phases => Sys2Proof.Machine.execSlotStrobe meas votes dieVotes errs phases s
  | .markerArrive n w cross => Sys2Proof.Machine.execMarkerArrive n w s cross
  | .markerWaitExpire => Sys2Proof.Machine.execMarkerWaitExpire s
  | .hitGateEval => Sys2Proof.Machine.execHitGateEval s
  | .slotPackHit n => Sys2Proof.Machine.execSlotPackHit n s
  | .hitConvert n => Sys2Proof.Machine.execHitConvert n s
  | .ambientCollect n w => Sys2Proof.Machine.execAmbientCollect n w s
  | .ciFrameReceive cib fbad fcrcOk ws => Sys2Proof.Machine.execCiFrameReceive cib fbad fcrcOk ws s
  | .ciSlotEndReceive cib slot nblk => Sys2Proof.Machine.execCiSlotEndReceive cib slot nblk s
  | .ciPortEnable cib => Sys2Proof.Machine.execCiPortEnable cib s
  | .ciPortDisable cib => Sys2Proof.Machine.execCiPortDisable cib s
  | .mergeDeadlineExpire => Sys2Proof.Machine.execMergeDeadlineExpire s
  | .groupReady => Sys2Proof.Machine.execGroupReady s
  | .blockEnterSkive => Sys2Proof.Machine.execBlockEnterSkive s
  | .partVerifyDone e tokens lens flip => Sys2Proof.Machine.execPartVerifyDone e tokens lens flip s
  | .storedPathLeave => Sys2Proof.Machine.execStoredPathLeave s
  | .backlogCheck => Sys2Proof.Machine.execBacklogCheck s
  | .engineReturn data => Sys2Proof.Machine.execEngineReturn data s
  | .engineEnableWrite data => Sys2Proof.Machine.execEngineEnableWrite data s
  | .inspGo data => Sys2Proof.Machine.execInspGo data s
  | .inspDone => Sys2Proof.Machine.execInspDone s
  | .refInputLost alt => Sys2Proof.Machine.execRefInputLost alt s
  | .refInputQualified alt => Sys2Proof.Machine.execRefInputQualified alt s
  | .forceHold data => Sys2Proof.Machine.execForceHold data s
  | .sync alt gmid sseq t1 stamp => Sys2Proof.Machine.execSync alt gmid sseq t1 stamp s
  | .syncTimeout => Sys2Proof.Machine.execSyncTimeout s
  | .pllUnlock => Sys2Proof.Machine.execPllUnlock s
  | .echoReq alt tgt exseq stamp => Sys2Proof.Machine.execEchoReq alt tgt exseq stamp s
  | .echoSend stamp => Sys2Proof.Machine.execEchoSend stamp s
  | .echoReceive cib exseq src stamp => Sys2Proof.Machine.execEchoReceive cib exseq src stamp s
  | .girSnap data => Sys2Proof.Machine.execGirSnap data s
  | .srLowRead who tag addr => Sys2Proof.Machine.execSrLowRead who tag addr s
  | .srHighRead who tag addr => Sys2Proof.Machine.execSrHighRead who tag addr s
  | .rcRead who tag addr => Sys2Proof.Machine.execRcRead who tag addr s
  | .laneClockLoss n => Sys2Proof.Machine.execLaneClockLoss n s
  | .laneClockReturn n => Sys2Proof.Machine.execLaneClockReturn n s
  | .laneLock n => Sys2Proof.Machine.execLaneLock n s
  | .laneLockLoss n => Sys2Proof.Machine.execLaneLockLoss n s
  | .slipRequest n => Sys2Proof.Machine.execSlipRequest n s
  | .slip n => Sys2Proof.Machine.execSlip n s
  | .laneEnable n => Sys2Proof.Machine.execLaneEnable n s
  | .laneDisable n => Sys2Proof.Machine.execLaneDisable n s
  | .badControlBlock n chkFail => Sys2Proof.Machine.execBadControlBlock n chkFail s
  | .alignReceive cib counts skew => Sys2Proof.Machine.execAlignReceive cib counts s skew
  | .portUp cib acount => Sys2Proof.Machine.execPortUp cib acount s
  | .portDown cib align => Sys2Proof.Machine.execPortDown cib align s
  | .shathenLinkLost f => Sys2Proof.Machine.execShathenLinkLost f s
  | .eqAdapt n below now above => Sys2Proof.Machine.execEqAdapt n below now above s
  | .loopWrite tx n data => Sys2Proof.Machine.execLoopWrite tx n data s
  | .shathenAlignReceive n w stamp => Sys2Proof.Machine.execShathenAlignReceive n w stamp s
  | .dieRegWr f w => Sys2Proof.Machine.execDieRegWr f w s
  | .dieRegRd f w => Sys2Proof.Machine.execDieRegRd f w s
  | .tset f w => Sys2Proof.Machine.execTset f w s
  | .returnOpUndefined f w => Sys2Proof.Machine.execReturnOpUndefined f w s
  | .regAnswer f w => Sys2Proof.Machine.execRegAnswer f w s
  | .regTimeout => Sys2Proof.Machine.execRegTimeout s
  | .alignRowSend => Sys2Proof.Machine.execAlignRowSend s
  | .sideSend upb => Sys2Proof.Machine.execSideSend upb s
  | .frameSend upb drv other wit => Sys2Proof.Machine.execFrameSend upb drv other wit s
  | .builderRestart data => Sys2Proof.Machine.execBuilderRestart data s
  | .mirrorWrite data => Sys2Proof.Machine.execMirrorWrite data s
  | .tmiMessageDiscard alt why blocks => Sys2Proof.Machine.execTmiMessageDiscard alt why s blocks
  | .cmdUnknown tgt op arg => Sys2Proof.Machine.execCmdUnknown tgt op arg s
  | .tmiRegWr tgt rtag addr data => Sys2Proof.Machine.execTmiRegWr tgt rtag addr data s
  | .tmiRegRd tgt rtag addr => Sys2Proof.Machine.execTmiRegRd tgt rtag addr s
  | .registerWrite who tag addr data => Sys2Proof.Machine.execRegisterWrite who tag addr data s
  | .hitQueueRead n delay flips => Sys2Proof.Machine.execHitQueueRead n delay flips s
  | .ingressPush n w flip cross => Sys2Proof.Machine.execIngressPush n w flip s cross
  | .dropCommand hq n => Sys2Proof.Machine.execDropCommand hq n s
  | .treeRead b flips mapFlips use rank => Sys2Proof.Machine.execTreeRead b flips mapFlips use s rank
  | .treeFullWrite b data rank => Sys2Proof.Machine.execTreeFullWrite b data s rank
  | .treeByteWrite b mask data rank => Sys2Proof.Machine.execTreeByteWrite b mask data s rank
  | .debugWindowWrite who tag addr data => Sys2Proof.Machine.execDebugWindowWrite who tag addr data s
  | .scrubVisit flips mapFlips use waiting => Sys2Proof.Machine.execScrubVisit flips mapFlips use waiting s
  | .treeRepair data => Sys2Proof.Machine.execTreeRepair data s
  | .repairCopyDone => Sys2Proof.Machine.execRepairCopyDone s
  | .cic1Output f c bits => Sys2Proof.Machine.execCic1Output f c bits s
  | .firOutput f => Sys2Proof.Machine.execFirOutput f s
  | .levelEmit f c => Sys2Proof.Machine.execLevelEmit f c s
  | .stpSync f c data => Sys2Proof.Machine.execStpSync f c data s
  | .stpPresetWrite f c data => Sys2Proof.Machine.execStpPresetWrite f c data s
  | .stpEnable f c data => Sys2Proof.Machine.execStpEnable f c data s
  | .syncAll f data => Sys2Proof.Machine.execSyncAll f data s
  | .stropResetApply f c => Sys2Proof.Machine.execStropResetApply f c s
  | .coefWrite f bankB n data => Sys2Proof.Machine.execCoefWrite f bankB n data s
  | .bankRequest f data => Sys2Proof.Machine.execBankRequest f data s
  | .ambientWordSend n => Sys2Proof.Machine.execAmbientWordSend n s
  | .scanStart => Sys2Proof.Machine.execScanStart s
  | .scanStepStart => Sys2Proof.Machine.execScanStepStart s
  | .visitMake cb => Sys2Proof.Machine.execVisitMake cb s
  | .exReleaseWait cb => Sys2Proof.Machine.execExReleaseWait cb s
  | .hkConvertEnd cb code hi lo ex => Sys2Proof.Machine.execHkConvertEnd cb code hi lo s ex
  | .hkCheckEnd cb code => Sys2Proof.Machine.execHkCheckEnd cb code s
  | .visitEnd cb => Sys2Proof.Machine.execVisitEnd cb s
  | .scanStepEnd => Sys2Proof.Machine.execScanStepEnd s
  | .excWrite n data => Sys2Proof.Machine.execExcWrite n data s
  | .hkChcfgWrite n data => Sys2Proof.Machine.execHkChcfgWrite n data s
  | .urgentRequest data => Sys2Proof.Machine.execUrgentRequest data s
  | .urgentVisitStart => Sys2Proof.Machine.execUrgentVisitStart s
  | .tempUpdate f temp => Sys2Proof.Machine.execTempUpdate f temp s
  | .tempStale f => Sys2Proof.Machine.execTempStale f s
  | .calMaxintExpire f cls => Sys2Proof.Machine.execCalMaxintExpire f cls s
  | .calRunRequest data => Sys2Proof.Machine.execCalRunRequest data s
  | .cal tgt arg => Sys2Proof.Machine.execCal tgt arg s
  | .calRunStart f => Sys2Proof.Machine.execCalRunStart f s
  | .histogramDone n => Sys2Proof.Machine.execHistogramDone n s
  | .histogramTimeout n => Sys2Proof.Machine.execHistogramTimeout n s
  | .injRunEnd f found pos => Sys2Proof.Machine.execInjRunEnd f found pos s
  | .calCommit f => Sys2Proof.Machine.execCalCommit f s
  | .pulseArm data => Sys2Proof.Machine.execPulseArm data s
  | .pulseFire => Sys2Proof.Machine.execPulseFire s
  | .pulseStop data => Sys2Proof.Machine.execPulseStop data s
  | .ldDiagnosis k na mv => Sys2Proof.Machine.execLdDiagnosis k na mv s
  | .lampTempTimeout => Sys2Proof.Machine.execLampTempTimeout s
  | .proofPulse => Sys2Proof.Machine.execProofPulse s
  | .proofIntervalEnd => Sys2Proof.Machine.execProofIntervalEnd s
  | .lampRestore data => Sys2Proof.Machine.execLampRestore data s
  | .bridleSample a b c refFail differ => Sys2Proof.Machine.execBridleSample a b c refFail differ s
  | .summaryArrive f max nvalid ovl => Sys2Proof.Machine.execSummaryArrive f max nvalid ovl s
  | .summaryStale f => Sys2Proof.Machine.execSummaryStale f s
  | .sunGuardRelease b => Sys2Proof.Machine.execSunGuardRelease b s
  | .descentTimeout => Sys2Proof.Machine.execDescentTimeout s
  | .testPulse outB => Sys2Proof.Machine.execTestPulse outB s
  | .feedbackCheck outB fb => Sys2Proof.Machine.execFeedbackCheck outB fb s
  | .keyRelease heldMs => Sys2Proof.Machine.execKeyRelease heldMs s
  | .keyStuck => Sys2Proof.Machine.execKeyStuck s
  | .keyStuckClear => Sys2Proof.Machine.execKeyStuckClear s
  | .degTick => Sys2Proof.Machine.execDegTick s
  | .setpointRamp => Sys2Proof.Machine.execSetpointRamp s
  | .bsetFrame b => Sys2Proof.Machine.execBsetFrame b s
  | .biasOn tgt arg => Sys2Proof.Machine.execBiasOn tgt arg s
  | .biasDown tgt arg => Sys2Proof.Machine.execBiasDown tgt arg s
  | .biasOffNow tgt arg => Sys2Proof.Machine.execBiasOffNow tgt arg s
  | .biasSet tgt arg => Sys2Proof.Machine.execBiasSet tgt arg s
  | .programRequest data => Sys2Proof.Machine.execProgramRequest data s
  | .programStart upset => Sys2Proof.Machine.execProgramStart upset s
  | .programBudgetExpire => Sys2Proof.Machine.execProgramBudgetExpire s
  | .wri upset => Sys2Proof.Machine.execWri upset s
  | .wrr upset => Sys2Proof.Machine.execWrr upset s
  | .rd upset => Sys2Proof.Machine.execRd upset s
  | .rmw upset => Sys2Proof.Machine.execRmw upset s
  | .ldi upset => Sys2Proof.Machine.execLdi upset s
  | .alu upset => Sys2Proof.Machine.execAlu upset s
  | .poll upset => Sys2Proof.Machine.execPoll upset s
  | .pollTimeout => Sys2Proof.Machine.execPollTimeout s
  | .waits upset => Sys2Proof.Machine.execWaits upset s
  | .waitc upset => Sys2Proof.Machine.execWaitc upset s
  | .waitDone => Sys2Proof.Machine.execWaitDone s
  | .jmp upset => Sys2Proof.Machine.execJmp upset s
  | .br upset => Sys2Proof.Machine.execBr upset s
  | .prim upset => Sys2Proof.Machine.execPrim upset s
  | .evt upset => Sys2Proof.Machine.execEvt upset s
  | .endProg upset => Sys2Proof.Machine.execEnd upset s
  | .runProg tgt arg => Sys2Proof.Machine.execRunProg tgt arg s
  | .measReport tgt arg => Sys2Proof.Machine.execMeasReport tgt arg s
  | .stageOpen tgt arg => Sys2Proof.Machine.execStageOpen tgt arg s
  | .eraseDone => Sys2Proof.Machine.execEraseDone s
  | .stage tgt rtag off ws => Sys2Proof.Machine.execStage tgt rtag off ws s
  | .stageClose tgt arg => Sys2Proof.Machine.execStageClose tgt arg s
  | .stageVerifyDone => Sys2Proof.Machine.execStageVerifyDone s
  | .stageAbort tgt arg => Sys2Proof.Machine.execStageAbort tgt arg s
  | .retainedLogWrite => Sys2Proof.Machine.execRetainedLogWrite s
  | .reload tgt arg => Sys2Proof.Machine.execReload tgt arg s
  | .restart tgt arg => Sys2Proof.Machine.execRestart tgt arg s
  | .dieOut tgt arg => Sys2Proof.Machine.execDieOut tgt arg s
  | .diePwrOn tgt arg => Sys2Proof.Machine.execDiePwrOn tgt arg s
  | .diePwrOff tgt arg => Sys2Proof.Machine.execDiePwrOff tgt arg s
  | .dieInit tgt arg => Sys2Proof.Machine.execDieInit tgt arg s
  | .dieJoin tgt arg => Sys2Proof.Machine.execDieJoin tgt arg s
  | .force tgt arg => Sys2Proof.Machine.execForce tgt arg s
  | .laneRetrain tgt arg => Sys2Proof.Machine.execLaneRetrain tgt arg s
  | .dieEventWord n w => Sys2Proof.Machine.execDieEventWord n w s
  | .eventRaise id data => Sys2Proof.Machine.execEventRaise id data s
  | .datapathParityFault code k slot => Sys2Proof.Machine.execDatapathParityFault code k slot s
  | .vinWarnFall vin => Sys2Proof.Machine.execVinWarnFall vin s
  | .vinWarnRelease vin => Sys2Proof.Machine.execVinWarnRelease s vin
  | .brownoutResume => Sys2Proof.Machine.execBrownoutResume s
  | .vinResetFall vin => Sys2Proof.Machine.execVinResetFall s vin
  | .railFault r v => Sys2Proof.Machine.execRailFault r v s
  | .railReset r => Sys2Proof.Machine.execRailReset r s
  | .rstNLow => Sys2Proof.Machine.execRstNLow s
  | .caseTempRead temp vin => Sys2Proof.Machine.execCaseTempRead temp vin s
  | .caseOvertempReset => Sys2Proof.Machine.execCaseOvertempReset s
  | .dieRailLimit f vsa vsd => Sys2Proof.Machine.execDieRailLimit f s vsa vsd
  | .dieRailTrip f => Sys2Proof.Machine.execDieRailTrip f s
  | .dieRailUv f vsa vsd => Sys2Proof.Machine.execDieRailUv f s vsa vsd
  | .rootPllRelock => Sys2Proof.Machine.execRootPllRelock s
  | .diePllLock f => Sys2Proof.Machine.execDiePllLock f s
  | .flashProgramDone => Sys2Proof.Machine.execFlashProgramDone s
  | .dimmedDcOn k => Sys2Proof.Machine.execDimmedDcOn k s
  | .onTimeEnd k => Sys2Proof.Machine.execOnTimeEnd k s
  | .testPulseEnd outB => Sys2Proof.Machine.execTestPulseEnd outB s
  | .eventNHoldEnd => Sys2Proof.Machine.execEventNHoldEnd s

end Sys2Proof.Machine
end

