-- ==== Sys2Proof/Machine/Edge.lean ====
section
/-! DEFINITION. What goes out on the transmit lanes at a ROOT edge (10 Table 10.1, R257, R261, R262, R268), a
commit under way (15), DIE_INIT under way and the register accesses that wait (18), and the edge itself. -/

namespace Sys2Proof.Machine

/-- TSET as its block begins at this edge (Table 10.3). -/
def State.tsetWord (s : State) : Word64 := pack [(60, 4, 3), (44, 16, s.nowOff), (12, 32, s.nowSlot)]

/-- The register that an entry of a template writes (R452, R490): none for an offset that names no register of the die, or one that no write
reaches. -/
def entryReg (f off : Nat) : Option Reg :=
  match dieTarget f off with
  | some x => if x.1.writable true then some x.1 else none
  | none => none

/-- The next REG_WR of the template that DIE_INIT of die `f` writes, if one can go out: an access of the Latigo (R10, R264). An entry that no
write reaches is left out, one that BUR_STAT.LOCK holds back sets WERR (R381). `n` bounds the entries that are passed over. -/
def State.initNext (s : State) (f : Nat) : Nat → State × Option Word64
  | 0 => (s, none)
  | n + 1 =>
    match s.latigo.initRun with
    | some r =>
      let i := templBlock r.templ r.next
      if r.die ≠ f ∨ r.size ≤ r.next ∨ s.copying i ∨ !s.inOrder 5 then (s, none)
      else
        let s := ((s.treeMark 5).treeFetch i).1.clearShadows
        let w := BitVec.ofNat 64 (s.block i).data
        let step (t : State) (sent : List Nat) : State :=
          { t with latigo := { t.latigo with initRun := some { r with next := r.next + 1, sent := sent } } }
        match entryReg f (fw w 32 32) with
        | some x =>
          if burHeld.contains x && bitOf (s.get .BUR_STAT_LOCK) f then
            State.initNext ((step s r.sent).putB .BUR_STAT_WERR true) f n
          else (step s (r.sent ++ [s.frc]), some (dieWord true (fw w 32 32) 0 (fw w 0 32)))
        | none => State.initNext (step s r.sent) f n
    | none => (s, none)

/-- The block of return lane `f` that begins at this edge: a ready freeze window with its two blocks, another word that waits, a write of DIE_INIT,
else IDLE (R261); PRBS31 while PRBS_EN is 1. -/
def State.retLeave (s : State) (f : Nat) : State :=
  if s.flag .HAR_TXL_CTRL_PRBS_EN f then s.retPrbs f
  else if !s.retFree f then s
  else if s.freezeReady f then s.freezeSend f
  else
    let s := s.retTake f 1
    match SMap.get (fun _ => []) s.harness.retQ f with
    | x :: t =>
      let s : State := { s with harness := { s.harness with retQ := SMap.set (fun _ => []) s.harness.retQ f t } }
      s.retBlock f 90 (match x with
        | .word w => w
        | .tset => s.tsetWord)
    | [] =>
      match s.initNext f 8192 with
      | (s, some w) => s.retBlock f 90 w
      | (s, none) => s.retIdle f

/-- A die discards a FRZ0 that no FRZ1 followed: the next block is complete 98 cu after it was (R262). -/
def State.frz0Late (s : State) (f : Nat) : State :=
  match (s.die f).frz0 with
  | some (_, t) => if t + 98 ≤ s.frc then s.dropFrz0 f else s
  | none => s

/-- The lanes of a UP port at a row start: the row of a port that sends, if it has not gone out yet; PRBS31 and loopback also on a port that is
not enabled (R257, R268). -/
def State.portLeave (s : State) (upb : Bool) : State :=
  if s.portSends upb then
    if s.rowDone upb then s else if s.frc % 24576 = 0 then s.sendAlign upb else s.sendBlocks upb
  else if s.flag (bldFail upb) then s
  else (List.range 8).foldl (fun t i => t.upLane upb i none) s

/-- The burst of a commit has reached COMMIT, its last write (R381). -/
def State.burstEnd (s : State) (f : Nat) : State :=
  let b := s.bur f
  if b.commitAt = some s.frc then
    ((s.setBur f { b with commitAt := none }).putB .AWLD_CTRL_PENDING true f).inc .BUR_CNT0_COMMITS
  else s

/-- What the transmit lanes begin to send at this edge, each on its grid (Table 10.1). -/
def State.leave (s : State) : State :=
  let s := (List.range 16).foldl (fun t f => (t.frz0Late f).burstEnd f) s
  let s := if s.frc % 6 = 0 then (s.portLeave false).portLeave true else s
  if s.frc % 66 = 0 then
    let s := (List.range 16).foldl (fun t f => t.retLeave f) s
    if s.flag .HAR_STAT_TMO_IDLE && s.flag .HAR_TXL_CTRL_PRBS_EN 32 then s.prbsBlock 32 else s
  else s

/-- What goes on at an edge by itself: accesses that wait, the end of DIE_INIT, the sinks that a fault switches off. -/
def State.goOn (s : State) : State := ((s.serveWaiting s.fabric.waiting.length).initEnd).cutNow

/-- One ROOT edge with no command: what leaves in START and RUN goes out, and the FRC counts (R219), unless the module is unpowered or
held in RESET (log entry 1), where only the supervisor's own clock runs (log entry 209). -/
def State.tick (s : State) : State :=
  if s.alive then
    let s := if s.working then s.leave else s
    ({ s with frc := s.frc + 1 } : State).goOn
  else if s.mode = .reset then { s with supervisor := { s.supervisor with clock := s.supervisor.clock + 1 } }
  else s

end Sys2Proof.Machine
end

