-- ==== Sys2Proof/Safety.lean ====
section
/-! DEFINITION. The terms that claims use: what every reachable state should satisfy, and what a command shows of itself. -/

namespace Sys2Proof.Machine

/-- Every sparse map of the state is in its canonical form: keys strictly rising, no entry equal to what an unlisted key reads as. -/
def State.canonical (s : State) : Bool :=
  SMap.wf regDefault s.regs && SMap.wf dieDefault s.dies && SMap.wf chanDefault s.chans && SMap.wf quadDefault s.quads &&
    SMap.wf ingressDefault s.ingress && SMap.wf burDefault s.burnish && SMap.wf treeDefault s.tree.blocks &&
    s.flash.all (fun d => SMap.wf (fun _ => 0xFF) d.bytes)

/-! ### The lists that have one entry for each of a fixed number of things -/

def Girth.shaped (g : Girth) : Bool := decide (g.qual.length = 2)

def Supervisor.shaped (v : Supervisor) : Bool := decide (v.railOut.length = 4)

def Harness.shaped (h : Harness) : Bool :=
  decide (h.minor.length = 3) && decide (h.streams.length = 2) && decide (h.resume.length = 2) &&
    decide (h.acount.length = 2) && decide (h.groupAt.length = 2) && decide (h.sideCnt.length = 2) &&
    decide (h.echoCnt.length = 2) && decide (h.frameCnt.length = 2)

def Bridle.shaped (b : Bridle) : Bool :=
  decide (b.runs.length = 5) && decide (b.discs.length = 4) && decide (b.sums.length = 16) && decide (b.clearAt.length = 4) &&
    decide (b.fbDue.length = 2) && decide (b.test.length = 2) && decide (b.testOk.length = 2) && decide (b.frames.length = 4)

def Tack.shaped (k : Tack) : Bool := decide (k.visits.length = 2)

def Skive.shaped (k : Skive) : Bool :=
  decide (k.freeAt.length = 16) && decide (k.fails.length = 16) && decide (k.returned.length = 16)

def Stirrup.shaped (k : Stirrup) : Bool := decide (k.ctxs.length = 4) && decide (k.ctxFree.length = 4)

def Rosette.shaped (r : Rosette) : Bool := decide (r.sets.length = 24)

def Fabric.shaped (f : Fabric) : Bool := decide (f.shadows.length = 3)

def Latigo.shaped (l : Latigo) : Bool := decide (l.logPage.length = 2)

/-- Four hold banks in a channel, two converters, two flash devices, and so on: no list of fixed length grows or shrinks. -/
def State.shaped (s : State) : Bool :=
  s.girth.shaped && s.supervisor.shaped && s.harness.shaped && s.bridle.shaped && s.tack.shaped && s.skive.shaped &&
    s.stirrup.shaped && s.rosette.shaped && s.fabric.shaped && s.latigo.shaped && decide (s.flash.length = 2) && s.chans.all (fun x => decide (x.2.banks.length = 4))

/-- An output of the Bridle is high, or low only for a test pulse that will end high (R408, R413). -/
def State.outputLive (s : State) : Bool :=
  s.flag .BRD_STAT_EN_A || s.flag .BRD_STAT_EN_B || (s.bridle.test.getD 0 none).isSome || (s.bridle.test.getD 1 none).isSome

/-- The outputs of the Bridle are live only in ON and DESCEND, and only in START and RUN (Table 17.2, R408). -/
def State.outputsSafe (s : State) : Bool :=
  !s.outputLive || ((decide (s.get .BRD_STAT_STATE = 1) || decide (s.get .BRD_STAT_STATE = 2)) && s.working)

/-- The counter is one more, and wraps (R7). -/
abbrev Bumped (s t : State) (f : Fld) (i : Nat := 0) : Prop := t.get f i = (s.get f i + 1) % 2 ^ f.w

/-- Source `id` has been raised once: its count is one more, and wraps (R460, R7). -/
abbrev Counted (s t : State) (id : Nat) : Prop := Bumped s t .EVM_CNT_COUNT id

/-- θ of a SYNC in 1/16 fu: T1 + D - t2, t2 the stamp on the module's own time less the receive latency (R229, R230). -/
def State.thetaOf (s : State) (alt : Bool) (t1 stamp : Nat) : Int :=
  (t1 : Int) * 16 + (if alt then s.get .GIR_DLY_ALT_DLY_ALT else s.get .GIR_DLY_TMI_DLY_TMI) - s.stampFu stamp (s.rxLat alt) * 16

/-! ### What a command may write -/

/-- The parts of the state beside the registers. -/
inductive Area where
  | mode | frc | dies | chans | quads | ingress | girth | matrix | supervisor | bridle | latigo | flash | fabric | packer | stirrup | skive
  | tree | stitch | harness | burnish | rosette | tack | wire | line | freeCtr | pending
  deriving DecidableEq, Repr

/-- Part `p` is in `t` as it was in `s`; with `events`, but for what the raising of a source does to it: the matrix (R460), the program
requests and the retained-log save of the Latigo, and the feedback check and the test pulses of the Bridle on a trip (R413, R415). -/
def Area.same (p : Area) (events : Bool) (s t : State) : Prop :=
  match p with
  | .mode => t.mode = s.mode
  | .frc => t.frc = s.frc
  | .dies => t.dies = s.dies
  | .chans => t.chans = s.chans
  | .quads => t.quads = s.quads
  | .ingress => t.ingress = s.ingress
  | .girth => t.girth = s.girth
  | .matrix => events = true ∨ t.matrix = s.matrix
  | .supervisor => t.supervisor = s.supervisor
  | .bridle => t.bridle = if events then { s.bridle with fbDue := t.bridle.fbDue, test := t.bridle.test, testOk := t.bridle.testOk } else s.bridle
  | .latigo => t.latigo = if events then { s.latigo with queue := t.latigo.queue, saveDue := t.latigo.saveDue } else s.latigo
  | .flash => t.flash = s.flash
  | .fabric => t.fabric = s.fabric
  | .packer => t.packer = s.packer
  | .stirrup => t.stirrup = s.stirrup
  | .skive => t.skive = s.skive
  | .tree => t.tree = s.tree
  | .stitch => t.stitch = s.stitch
  | .harness => t.harness = s.harness
  | .burnish => t.burnish = s.burnish
  | .rosette => t.rosette = s.rosette
  | .tack => t.tack = s.tack
  | .wire => t.wire = s.wire
  | .line => t.line = s.line
  | .freeCtr => t.freeCtr = s.freeCtr
  | .pending => t.pending = s.pending

/-- The registers that the raising of a source writes: the event matrix's own, LAT_CNT1, and those of the Bridle's trip. -/
def raiseRegs : List Reg :=
  [.EVM_CNT, .EVM_LAST, .EVM_PEND, .EVM_CNTG, .EVM_STAT, .LAT_CNT1, .BRD_STAT, .BRD_TRIP, .BRD_SET, .BRD_CNT0]

/-- A register of a die or of a channel. -/
def Reg.ofDie (r : Reg) : Bool := r.place.space != .saddle

/-- What a command may write: registers, parts of the state; whether it may raise sources of the event matrix, clear the registers of a
die that loses its rail (R452), write any register that software can write, or take the module to RESET. -/
structure Footprint where
  regs   : List Reg := []
  parts  : List Area := []
  events : Bool := false
  clears : Bool := false
  anyReg : Bool := false
  reset  : Bool := false

/-- The footprint of each command. -/
def commandWrites (c : Instr) : Footprint :=
  match c with
  | .powerOn .. | .prim .. | .restart .. | .vinResetFall .. | .railReset .. | .rstNLow | .caseOvertempReset => { reset := true }
  | .vinSupervisorLoss .. => { parts := [.mode] }
  | .resetRelease .. => { regs := [.GIR_STAT, .ID_MODULE], parts := [.mode, .frc, .supervisor] }
  | .fillComplete => { regs := [.HAR_STAT], parts := [.mode, .quads, .tree, .harness], events := true }
  | .bootImageRead =>
    { parts := [.dies, .chans, .quads, .girth, .matrix, .latigo, .flash, .packer, .stirrup, .skive, .tree, .harness, .burnish, .rosette,
      .tack], events := true, anyReg := true }
  | .bootComplete =>
    { regs := [.PRS_STATE, .TRE_CNT0, .TRE_CNT1, .TRE_CNT3, .TRE_CNT4, .TRE_CNT5, .TRE_LOGPTR, .TRE_LOGA, .TRE_LOGB, .TRE_REPAIR,
      .TRE_ROWHOT, .BRD_STAT, .BRD_DEG, .BRD_SET, .LAT_STAT, .LAT_LOCK, .LAT_RETAIN, .EVM_STAT, .ID_IMAGE_LO, .ID_IMAGE_HI, .ID_IMAGE_SEQ,
      .ID_IMAGE_LEN, .ID_BOOT, .ID_IMGMEAS, .ID_LIVEMEAS], parts := [.mode, .matrix, .bridle, .latigo, .packer, .stirrup, .skive, .tree,
      .stitch, .harness], events := true }
  | .anodeSlewStep .. => { regs := [.PIX_ANODE], parts := [.chans] }
  | .triggerDiscFire .. | .recordPush .. => { parts := [.chans, .quads] }
  | .thresholdEval .. => { regs := [.PIX_TSTAT, .EVD_PEND], parts := [.dies, .quads, .burnish] }
  | .pixTrgpolWrite .. => { regs := [.PIX_TRGPOL, .PIX_TSTAT], parts := [.chans, .fabric] }
  | .accLoad .. => { regs := [.PIX_TLOOP], parts := [.chans, .fabric] }
  | .injArm .. | .injRepClear .. => { regs := [.PIXD_INJ], parts := [.dies, .fabric] }
  | .injFire .. =>
    { regs := [.STR_CALT, .STR_STAT, .STR_TRIGNO, .STR_CNT0, .STR_CNT1, .STR_CNT2, .STR_CNT3, .SP_CNT2], parts := [.dies, .chans, .packer,
      .stirrup, .harness, .burnish], events := true }
  | .ovrEnter .. => { regs := [.PIX_OVR, .BURD_HSEL, .BURD_HSHORT, .BURD_HIST, .EVD_PEND], parts := [.dies, .chans, .quads] }
  | .ovrRelease .. => { regs := [.PIX_OVR, .BURD_HSEL, .BURD_HSHORT, .BURD_HIST], parts := [.chans, .quads] }
  | .ovrLong .. => { regs := [.PIX_OVR, .EVD_PEND], parts := [.dies, .chans, .quads] }
  | .recoveryWindowEnd .. => { regs := [.PIX_OVR], parts := [.chans] }
  | .neighbourWindowEnd .. | .deadTimeEnd .. | .transferEnd .. | .cic1Output .. => { parts := [.chans] }
  | .leadCapture .. => { regs := [.AWL_STAT, .BURD_HSEL, .BURD_HSHORT, .BURD_HIST], parts := [.chans, .quads] }
  | .trailCapture .. => { regs := [.BURD_HSEL, .BURD_HSHORT, .BURD_HIST], parts := [.chans, .quads, .burnish] }
  | .totSaturate .. => { parts := [.chans, .quads, .burnish] }
  | .creditAdd .. => { regs := [.AWL_STAT], parts := [.chans] }
  | .intervalTimeout .. => { regs := [.AWL_IVLSTAT, .AWLD_CSTAT], parts := [.chans, .quads] }
  | .completionEntry .. => { regs := [.AWL_IVLSTAT, .AWL_IVLSTAT2, .AWLD_CSTAT, .EVD_PEND], parts := [.dies, .chans, .quads] }
  | .markerEntry .. | .entryToQueue .. => { regs := [.AWLD_CSTAT], parts := [.quads] }
  | .awlCommit .. => { regs := [.AWLD_CTRL], parts := [.fabric] }
  | .rngRestart .. => { regs := [.RNG_STAT], parts := [.chans, .fabric] }
  | .restartAll .. => { regs := [.RNG_STAT, .RNGD_CTRL], parts := [.chans, .fabric] }
  | .ringFull .. => { regs := [.RNG_STAT], parts := [.chans] }
  | .frz0 .. | .returnOpUndefined .. => { regs := [.SHL_CNT, .EVD_PEND], parts := [.dies, .quads, .harness] }
  | .freezeDecode .. => { regs := [.RNG_CNT, .RNGD_STAT, .SHL_CNT, .EVD_PEND], parts := [.dies, .chans, .quads, .harness] }
  | .freezeApply .. => { regs := [.RNG_CNT, .RNGD_STAT, .EVD_PEND], parts := [.dies, .chans, .quads] }
  | .conversionEnd .. => { regs := [.RNGD_RAMP, .EVD_PEND], parts := [.dies, .chans, .quads, .burnish] }
  | .recWaitExpire .. => { parts := [.quads] }
  | .csWordSend .. | .ambientWordSend .. => { parts := [.quads, .wire, .line] }
  | .shathenAlignSend .. => { parts := [.dies, .quads, .wire, .line] }
  | .primitiveEnter .. => { parts := [.stirrup, .harness] }
  | .sideWordEnter .. => { regs := [.STR_NBR, .HAR_STAT, .HAR_CNT2], parts := [.stirrup, .harness], events := true }
  | .binEvaluate | .autoTrigger | .triggerDecide =>
    { regs := [.STR_STAT, .STR_TRIGNO, .STR_CNT0, .STR_CNT1, .STR_CNT2, .STR_CNT3, .SP_CNT2], parts := [.packer, .stirrup, .harness],
      events := true }
  | .trig .. =>
    { regs := [.STR_STAT, .STR_TRIGNO, .STR_CNT0, .STR_CNT1, .STR_CNT2, .STR_CNT3, .SP_CNT2], parts := [.packer, .stirrup, .harness,
      .line], events := true }
  | .strForce .. | .fbClear .. =>
    { regs := [.STR_CTRL, .STR_STAT, .STR_TRIGNO, .STR_CNT0, .STR_CNT1, .STR_CNT2, .STR_CNT3, .SP_CNT2], parts := [.fabric, .packer,
      .stirrup, .harness], events := true }
  | .freezeSend .. => { regs := [.HAR_CNT6], parts := [.harness, .wire, .line], events := true }
  | .recordArrive .. =>
    { regs := [.STR_STAT, .STR_CNT4, .STR_CNT5, .STR_CNT6, .STR_POOLDESC, .STR_POOLGRAN, .ING_STAT, .ING_CNT, .TRE_CNT0, .TRE_CNT1,
      .TRE_CNT3, .TRE_CNT4, .TRE_LOGPTR, .TRE_LOGA, .TRE_LOGB, .TRE_ROWHOT], parts := [.ingress, .packer, .stirrup, .skive, .tree, .stitch,
      .harness], events := true }
  | .refusalArrive .. =>
    { regs := [.STR_STAT, .STR_CNT3, .STR_CNT4, .STR_CNT5, .STR_CNT6, .ING_STAT, .ING_CNT, .TRE_CNT0, .TRE_CNT4, .TRE_LOGPTR, .TRE_LOGA,
      .TRE_LOGB, .TRE_ROWHOT], parts := [.ingress, .packer, .stirrup, .skive, .tree, .stitch, .harness], events := true }
  | .ctxTimeout .. =>
    { regs := [.STR_STAT, .STR_CNT4, .STR_CNT5, .STR_CNT6, .ING_STAT, .ING_CNT, .TRE_CNT0, .TRE_CNT4, .TRE_LOGPTR, .TRE_LOGA, .TRE_LOGB,
      .TRE_ROWHOT], parts := [.ingress, .packer, .stirrup, .skive, .tree, .stitch, .harness], events := true }
  | .strClassWrite .. => { regs := [.STR_CLASS, .STR_STAT], parts := [.fabric], events := true }
  | .strMapdataAccess .. => { regs := [.STR_MAPADDR, .STR_MAPDATA], parts := [.fabric, .stirrup] }
  | .slotStrobe .. =>
    { regs := [.PIX_TDISC, .PIX_INJ, .PIXD_INJ, .AWL_TAPSEL, .AWL_OFFS, .AWLD_CTRL, .AWLD_BIAS, .AWLD_PHASE, .RNGD_APER, .STR_STAT,
      .STR_CNT4, .STR_CNT5, .STR_CNT6, .STR_POOLDESC, .STR_POOLGRAN, .SP_STAT, .SP_CNT0, .SP_CNT1, .SP_CNT2, .SP_DLOST, .SP_SEQ,
      .STI_EMIT_LO, .STI_EMIT_HI, .STI_WIN, .STI_CNT0, .STI_CNT6, .STI_CNT7, .GIR_STAT, .GIR_XTAL_LO, .GIR_XTAL_HI, .GIR_CNT0, .GIR_CNT1,
      .HAR_RXL_PRBS, .HAR_TXL_PRBS, .ING_STAT, .ING_CNT, .TRE_CNT0, .TRE_CNT1, .TRE_CNT3, .TRE_CNT4, .TRE_LOGPTR, .TRE_LOGA, .TRE_LOGB,
      .TRE_ROWHOT, .BUR_STAT, .BUR_CNT0, .BUR_CNT1, .BUR_CNT2, .BURD_PHMEAS, .CAL_CHQ, .RSE_STAT, .RSE_CHST, .EVM_VOTE, .EVD_PEND,
      .EVD_VOTE], parts := [.dies, .chans, .quads, .ingress, .girth, .matrix, .latigo, .packer, .stirrup, .skive, .tree, .stitch, .harness,
      .burnish, .rosette, .tack, .freeCtr], events := true }
  | .markerArrive .. | .markerWaitExpire | .ingressPush .. =>
    { regs := [.STR_STAT, .STR_CNT4, .STR_CNT5, .STR_CNT6, .STR_POOLDESC, .STR_POOLGRAN, .SP_STAT, .SP_CNT0, .SP_CNT1, .SP_CNT2,
      .SP_DLOST, .SP_SEQ, .STI_CNT6, .STI_CNT7, .ING_STAT, .ING_CNT, .TRE_CNT0, .TRE_CNT1, .TRE_CNT3, .TRE_CNT4, .TRE_LOGPTR, .TRE_LOGA,
      .TRE_LOGB, .TRE_ROWHOT], parts := [.ingress, .packer, .stirrup, .skive, .tree, .stitch, .harness], events := true }
  | .hitGateEval => { regs := [.SP_CNT0, .SP_SEQ, .STI_CNT6, .STI_CNT7], parts := [.packer, .skive], events := true }
  | .slotPackHit .. =>
    { regs := [.SP_CNT0, .SP_CNT2, .ING_STAT, .TRE_CNT0, .TRE_CNT1, .TRE_CNT3, .TRE_CNT4, .TRE_LOGPTR, .TRE_LOGA, .TRE_LOGB, .TRE_ROWHOT],
      parts := [.ingress, .packer, .skive, .tree, .stitch, .harness], events := true }
  | .hitConvert .. => { regs := [.STI_CNT6, .STI_CNT7], parts := [.packer], events := true }
  | .ambientCollect .. => { regs := [.SP_CNT3], parts := [.packer] }
  | .ciFrameReceive .. =>
    { regs := [.STI_STAT, .STI_WIN, .STI_CNT0, .STI_CNT1, .STI_CNT2, .STI_CNT3, .STI_CNT5, .HAR_STAT, .HAR_CNT3], parts := [.stitch,
      .harness, .freeCtr], events := true }
  | .ciSlotEndReceive .. => { regs := [.STI_STAT, .STI_CNT3, .HAR_STAT], parts := [.stitch, .harness] }
  | .ciPortEnable .. | .ciPortDisable .. => { regs := [.STI_CTRL, .STI_STAT], parts := [.fabric] }
  | .mergeDeadlineExpire => { parts := [.stitch] }
  | .groupReady =>
    { regs := [.STI_CTRL, .STI_STAT, .STI_EMIT_LO, .STI_EMIT_HI, .STI_WIN, .STI_CNT4, .HAR_CTRL, .HAR_STAT], parts := [.stitch, .harness],
      events := true }
  | .blockEnterSkive =>
    { regs := [.STR_POOLDESC, .STR_POOLGRAN, .STI_STAT, .STI_WIN, .STI_CNT5, .STI_SHED, .SKV_IN_LO, .SKV_IN_HI, .SKV_OUT_LO, .SKV_OUT_HI],
      parts := [.stirrup, .skive, .stitch], events := true }
  | .partVerifyDone .. =>
    { regs := [.STR_POOLDESC, .STR_POOLGRAN, .STI_STAT, .STI_WIN, .STI_CNT5, .STI_SHED, .SKV_STAT, .SKV_VFAIL, .SKV_CNT0, .SKV_OUT_LO,
      .SKV_OUT_HI], parts := [.stirrup, .skive, .stitch], events := true }
  | .storedPathLeave =>
    { regs := [.STR_POOLDESC, .STR_POOLGRAN, .STI_STAT, .STI_WIN, .STI_CNT5, .STI_SHED, .SKV_OUT_LO, .SKV_OUT_HI], parts := [.stirrup,
      .skive, .stitch], events := true }
  | .backlogCheck => { regs := [.SKV_CNT2], parts := [.skive], events := true }
  | .engineReturn .. => { regs := [.SKV_STAT], parts := [.fabric, .skive] }
  | .engineEnableWrite .. => { regs := [.SKV_CTRL], parts := [.fabric, .skive] }
  | .inspGo .. => { regs := [.SKV_INSP_CTRL], parts := [.fabric] }
  | .inspDone => { regs := [.SKV_CNT1, .SKV_INSP_CTRL, .SKV_INSP_RES, .SKV_INSP_OCRC, .SKV_INSP_FOFF], events := true }
  | .refInputLost .. => { regs := [.GIR_STAT, .GIR_CNT0, .GIR_CNT2, .HAR_STAT], parts := [.girth, .harness], events := true }
  | .refInputQualified .. => { regs := [.GIR_CTRL, .GIR_STAT, .GIR_CNT2, .HAR_STAT], parts := [.girth, .harness], events := true }
  | .forceHold .. | .girSnap .. =>
    { regs := [.GIR_CTRL, .GIR_STAT, .GIR_SNAP_SLOT_LO, .GIR_SNAP_SLOT_HI, .GIR_SNAP_SIG_LO, .GIR_SNAP_SIG_HI, .GIR_SNAP_REF_LO,
      .GIR_SNAP_REF_HI, .GIR_SNAP_RATE_LO, .GIR_SNAP_RATE_HI, .GIR_SNAP_OFFS0, .GIR_SNAP_OFFS1, .GIR_SNAP_OFFS2, .GIR_CNT2, .HAR_STAT],
      parts := [.girth, .fabric, .harness], events := true }
  | .sync .. => { regs := [.GIR_STAT, .GIR_THETA, .GIR_SYNCSEQ, .GIR_CNT0], parts := [.girth, .harness, .line], events := true }
  | .syncTimeout => { parts := [.girth], events := true }
  | .pllUnlock => { regs := [.GIR_STAT], events := true }
  | .echoReq .. => { regs := [.HAR_CNT5], parts := [.girth, .harness, .line], events := true }
  | .echoSend .. => { regs := [.GIR_CNT3, .HAR_CTRL, .HAR_STAT], parts := [.girth, .packer, .harness, .wire, .line], events := true }
  | .echoReceive .. => { regs := [.GIR_CNT3], parts := [.packer, .harness] }
  | .srLowRead .. | .srHighRead .. | .rcRead .. | .regAnswer .. | .regTimeout | .registerWrite .. | .debugWindowWrite .. | .repairCopyDone
    | .wri .. | .wrr .. | .rd .. | .rmw .. | .poll .. =>
    { parts := [.dies, .chans, .quads, .ingress, .girth, .matrix, .latigo, .fabric, .packer, .stirrup, .skive, .tree, .stitch, .harness,
      .burnish, .rosette, .tack, .freeCtr], events := true, anyReg := true }
  | .laneClockLoss .. =>
    { regs := [.GIR_STAT, .HAR_STAT, .HAR_RXL_STAT, .HAR_RXL_CNT, .SHL_STAT, .SHL_CNT, .EVD_PEND], parts := [.dies, .quads, .girth,
      .packer, .harness], events := true }
  | .laneClockReturn .. => { regs := [.GIR_STAT, .HAR_RXL_STAT, .SHL_STAT], parts := [.girth, .harness] }
  | .laneLock .. => { regs := [.HAR_RXL_STAT, .SHL_STAT], parts := [.dies, .quads] }
  | .laneLockLoss .. =>
    { regs := [.HAR_STAT, .HAR_RXL_STAT, .HAR_RXL_CNT, .SHL_STAT, .SHL_CNT, .EVD_PEND], parts := [.dies, .quads, .packer, .harness],
      events := true }
  | .slipRequest .. => { regs := [.HAR_RXL_STAT], events := true }
  | .slip .. => { regs := [.HAR_RXL_STAT], parts := [.fabric], events := true }
  | .laneEnable .. => { regs := [.HAR_RXL_CTRL, .HAR_RXL_STAT], parts := [.fabric] }
  | .laneDisable .. => { regs := [.HAR_STAT, .HAR_RXL_CTRL, .HAR_RXL_STAT], parts := [.fabric, .packer, .harness], events := true }
  | .badControlBlock .. => { regs := [.HAR_CNT4, .HAR_RXL_CNT], events := true }
  | .alignReceive .. | .portDown .. => { regs := [.STR_STAT, .STI_STAT, .HAR_STAT], parts := [.stirrup, .harness], events := true }
  | .portUp .. => { regs := [.STI_STAT, .HAR_STAT], events := true }
  | .shathenLinkLost .. => { parts := [.packer, .harness], events := true }
  | .eqAdapt .. => { regs := [.HAR_RXL_STAT], parts := [.harness], events := true }
  | .loopWrite .. =>
    { regs := [.HAR_STAT, .HAR_RXL_CTRL, .HAR_RXL_STAT, .HAR_TXL_CTRL], parts := [.fabric, .packer, .harness], events := true }
  | .shathenAlignReceive .. => { regs := [.HAR_CNT4, .HAR_SHLAT, .HAR_RXL_CNT], parts := [.packer, .harness, .freeCtr], events := true }
  | .dieRegWr .. =>
    { parts := [.dies, .chans, .quads, .girth, .matrix, .latigo, .packer, .stirrup, .skive, .tree, .harness, .burnish, .rosette, .tack],
      events := true, anyReg := true }
  | .dieRegRd .. => { parts := [.dies, .chans, .quads, .ingress, .packer, .tree, .harness, .freeCtr], events := true, anyReg := true }
  | .tset .. => { regs := [.SHL_STAT, .SHL_CNT, .EVD_PEND], parts := [.dies, .chans, .quads, .harness] }
  | .alignRowSend => { regs := [.HAR_CTRL, .HAR_STAT], parts := [.harness, .wire, .line] }
  | .sideSend .. => { regs := [.HAR_CTRL, .HAR_STAT], parts := [.harness, .wire, .line], events := true }
  | .frameSend .. =>
    { regs := [.HAR_CTRL, .HAR_STAT, .HAR_CNT0, .HAR_CNT1, .HAR_CNT2], parts := [.mode, .harness, .wire, .line], events := true }
  | .builderRestart .. | .mirrorWrite .. => { regs := [.HAR_CTRL, .HAR_STAT], parts := [.fabric, .harness], events := true }
  | .tmiMessageDiscard .. => { regs := [.HAR_CNT4, .HAR_CNT5], parts := [.harness, .line], events := true }
  | .cmdUnknown .. => { parts := [.packer, .harness, .line], events := true }
  | .tmiRegWr .. | .tmiRegRd .. =>
    { parts := [.dies, .chans, .quads, .ingress, .girth, .matrix, .latigo, .fabric, .packer, .stirrup, .skive, .tree, .stitch, .harness,
      .burnish, .rosette, .tack, .line, .freeCtr], events := true, anyReg := true }
  | .hitQueueRead .. =>
    { regs := [.RNG_CNT, .RNG_CNT2, .HQD_CNT, .HQD_CNTB, .EVD_PEND, .HQD_MEM], parts := [.dies, .quads, .wire, .line] }
  | .dropCommand .. =>
    { regs := [.HQD_CNTB, .ING_STAT, .ING_CNT, .TRE_CNT0, .TRE_CNT4, .TRE_LOGPTR, .TRE_LOGA, .TRE_LOGB, .TRE_ROWHOT], parts := [.quads,
      .ingress, .packer, .tree], events := true }
  | .treeRead .. | .treeFullWrite .. | .treeByteWrite .. =>
    { regs := [.TRE_CNT0, .TRE_CNT1, .TRE_CNT3, .TRE_CNT4, .TRE_LOGPTR, .TRE_LOGA, .TRE_LOGB, .TRE_ROWHOT], parts := [.packer, .stirrup,
      .skive, .tree, .stitch, .harness], events := true }
  | .scrubVisit .. =>
    { regs := [.TRE_SCRUB, .TRE_CNT0, .TRE_CNT2, .TRE_CNT3, .TRE_CNT4, .TRE_CNT5, .TRE_LOGPTR, .TRE_LOGA, .TRE_LOGB, .TRE_ROWHOT], parts
      := [.tree], events := true }
  | .treeRepair .. => { regs := [.TRE_REPAIR], parts := [.fabric, .tree], events := true }
  | .firOutput .. => { regs := [.STPD_BANK, .STPD_FADE, .STPD_MAX, .STPD_SUMM], parts := [.dies, .chans, .quads] }
  | .levelEmit .. => { regs := [.PIX_TSTAT, .STP_LEVEL, .STP_FLK, .STP_CNT, .EVD_PEND], parts := [.dies, .chans, .quads, .freeCtr] }
  | .stpSync .. | .stpPresetWrite .. | .stpEnable .. => { regs := [.STP_CTRL], parts := [.chans, .fabric] }
  | .syncAll .. => { regs := [.STPD_CTRL], parts := [.chans, .fabric] }
  | .stropResetApply .. => { regs := [.STP_LEVEL, .STP_CNT], parts := [.chans] }
  | .coefWrite .. => { regs := [.STPD_BANK, .STPD_COEF_A, .STPD_COEF_B], parts := [.fabric] }
  | .bankRequest .. => { regs := [.STPD_BANK, .STPD_FADE, .EVD_PEND], parts := [.dies, .quads, .fabric] }
  | .scanStart => { regs := [.HK_STAT, .HK_CNT2], parts := [.tack], events := true }
  | .scanStepStart | .scanStepEnd => { regs := [.HK_STAT, .HK_CNT4], parts := [.tack], events := true }
  | .visitMake .. | .exReleaseWait .. => { regs := [.HK_CNT3], parts := [.tack], events := true }
  | .hkConvertEnd .. => { regs := [.HK_CNT0], parts := [.tack], events := true }
  | .hkCheckEnd .. => { regs := [.HK_OPEN, .HK_CNT0], parts := [.tack], events := true }
  | .visitEnd .. =>
    { regs := [.HK_STAT, .HK_CNT1, .HK_CNT4, .HK_CHCFG, .HK_CHRES, .RSE_STAT, .RSE_TEMPV, .RSE_FAC], parts := [.packer, .rosette, .tack,
      .freeCtr], events := true }
  | .excWrite .. | .hkChcfgWrite .. => { regs := [.HK_CNT3, .HK_CHCFG], parts := [.fabric, .tack], events := true }
  | .urgentRequest .. => { regs := [.HK_STAT, .HK_CNT2], parts := [.fabric, .tack], events := true }
  | .urgentVisitStart => { regs := [.HK_STAT], parts := [.tack] }
  | .tempUpdate .. => { regs := [.BUR_STEP, .BURD_TEMP, .BURD_TLAST0, .BURD_TLAST1, .EVD_PEND], parts := [.dies, .quads, .burnish] }
  | .tempStale .. => { regs := [.BURD_TEMP, .EVD_PEND], parts := [.dies, .quads] }
  | .calMaxintExpire .. => { parts := [.burnish] }
  | .calRunRequest .. => { parts := [.fabric, .burnish] }
  | .cal .. => { regs := [.LAT_W], parts := [.latigo, .packer, .harness, .burnish, .line] }
  | .calRunStart .. =>
    { regs := [.PIX_INJ, .PIXD_INJ, .AWL_QUAL, .BUR_CNT0, .BUR_CNT1, .BUR_QUAL, .BURD_HSEL, .BURD_TLAST0, .BURD_TLAST1, .BURD_HSHORT,
      .BURD_HIST, .EVD_PEND], parts := [.dies, .quads, .burnish, .rosette, .freeCtr], events := true }
  | .histogramDone .. =>
    { regs := [.AWL_QUAL, .BUR_CNT0, .BUR_CNT1, .BUR_QUAL, .BURD_HSEL, .BURD_HSHORT, .BURD_HIST, .EVD_PEND], parts := [.dies, .quads,
      .burnish, .rosette, .freeCtr], events := true }
  | .histogramTimeout .. =>
    { regs := [.AWL_QUAL, .BUR_CNT0, .BUR_CNT1, .BUR_CNT2, .BUR_QUAL, .BURD_HSEL, .BURD_HSHORT, .BURD_HIST, .EVD_PEND], parts := [.dies,
      .quads, .burnish, .rosette, .freeCtr], events := true }
  | .injRunEnd .. =>
    { regs := [.STP_OFFS, .BUR_CNT0, .BUR_QUAL, .BURD_APEROFS, .CAL_OFFS, .CAL_CHQ], parts := [.dies, .chans, .burnish, .rosette,
      .freeCtr] }
  | .calCommit .. =>
    { regs := [.AWL_TAPSEL_NEXT, .AWL_OFFS, .AWLD_BIAS, .AWLD_PHASE, .RNGD_APER, .BUR_STAT], parts := [.burnish, .freeCtr] }
  | .pulseArm .. => { regs := [.RSE_STAT, .RSE_PULSE], parts := [.fabric, .rosette] }
  | .pulseFire =>
    { regs := [.STR_CALT, .STR_STAT, .STR_TRIGNO, .STR_CNT0, .STR_CNT1, .STR_CNT2, .STR_CNT3, .SP_CNT2, .RSE_STAT, .RSE_PULSENO,
      .RSE_CNT0, .RSE_CNT2], parts := [.packer, .stirrup, .harness, .rosette], events := true }
  | .pulseStop .. => { regs := [.RSE_CTRL, .RSE_STAT, .RSE_FAC], parts := [.fabric, .rosette] }
  | .ldDiagnosis .. => { regs := [.RSE_STAT, .RSE_CNT1, .RSE_CHST], parts := [.rosette], events := true }
  | .lampTempTimeout => { regs := [.RSE_STAT], events := true }
  | .proofPulse => { regs := [.RSE_CNT0], parts := [.packer, .rosette, .freeCtr] }
  | .proofIntervalEnd => { regs := [.RSE_CNT2], parts := [.rosette], events := true }
  | .lampRestore .. => { regs := [.RSE_STAT], parts := [.fabric] }
  | .bridleSample .. => { regs := [.BRD_STAT, .BRD_MON, .BRD_DEG, .BRD_SET], parts := [.bridle], events := true }
  | .summaryArrive .. | .summaryStale .. => { regs := [.BRD_STAT, .BRD_SET], parts := [.bridle], events := true }
  | .sunGuardRelease .. => { regs := [.BRD_STAT], events := true }
  | .descentTimeout => { regs := [.BRD_STAT, .BRD_SET], parts := [.bridle] }
  | .testPulse .. | .testPulseEnd .. => { regs := [.BRD_STAT], parts := [.bridle] }
  | .feedbackCheck .. => { regs := [.BRD_STAT, .BRD_SET, .BRD_CNT0], parts := [.bridle], events := true }
  | .keyRelease .. =>
    { regs := [.BRD_STAT, .BRD_MON, .BRD_DEG, .BRD_SET, .BRD_CNT1, .BRD_LIM0, .BRD_LIM1, .BRD_LIM2, .BRD_LIM3, .BRD_LIM4, .BRD_LIM5,
      .BRD_LIM6, .BRD_LIM7, .BRD_LIM8, .BRD_LIM9, .BRD_LIM10, .LAT_CNT2, .ID_BOOT, .ID_LIVEMEAS], parts := [.bridle, .packer], events :=
      true }
  | .keyStuck => { regs := [.BRD_STAT], parts := [.bridle], events := true }
  | .keyStuckClear => { regs := [.BRD_STAT] }
  | .degTick => { regs := [.BRD_STAT, .BRD_DEG, .BRD_SET], parts := [.bridle], events := true }
  | .setpointRamp => { regs := [.BRD_SET], parts := [.bridle] }
  | .bsetFrame .. => { parts := [.bridle, .wire, .line] }
  | .biasOn .. => { regs := [.BRD_STAT, .BRD_CNT1, .LAT_W], parts := [.bridle, .latigo, .packer, .harness, .line], events := true }
  | .biasDown .. => { regs := [.BRD_STAT, .LAT_W], parts := [.bridle, .latigo, .packer, .harness, .line] }
  | .biasOffNow .. => { regs := [.BRD_STAT, .BRD_TRIP, .BRD_SET, .LAT_W], parts := [.bridle, .latigo, .packer, .harness, .line] }
  | .biasSet .. => { regs := [.BRD_SET, .LAT_W], parts := [.latigo, .packer, .harness, .line] }
  | .programRequest .. => { regs := [.LAT_CNT1], parts := [.latigo, .fabric], events := true }
  | .programStart .. | .programBudgetExpire | .waits .. | .waitc .. | .jmp .. | .br .. | .evt .. | .endProg .. =>
    { regs := [.LAT_STAT, .LAT_CNT0, .LAT_CNT2, .LAT_ABORT, .ID_BOOT, .ID_LIVEMEAS], parts := [.latigo, .packer], events := true }
  | .ldi .. | .alu .. =>
    { regs := [.LAT_STAT, .LAT_CNT0, .LAT_CNT2, .LAT_ABORT, .LAT_W, .ID_BOOT, .ID_LIVEMEAS], parts := [.latigo, .packer], events := true }
  | .pollTimeout | .waitDone => { parts := [.latigo] }
  | .runProg .. => { regs := [.LAT_CNT1, .LAT_W], parts := [.latigo, .packer, .harness, .line], events := true }
  | .measReport .. => { regs := [.LAT_CNT3, .LAT_W], parts := [.latigo, .packer, .harness, .line] }
  | .stageOpen .. => { regs := [.LAT_STAT, .LAT_STAGE, .LAT_STAGEPOS, .LAT_W], parts := [.latigo, .packer, .harness, .line] }
  | .eraseDone => { regs := [.LAT_STAT, .LAT_STAGEPOS], parts := [.latigo, .flash] }
  | .stage .. => { regs := [.HAR_CNT5, .LAT_STAGEPOS, .LAT_CNT2], parts := [.latigo, .packer, .harness, .line], events := true }
  | .stageClose .. | .stageAbort .. => { regs := [.LAT_STAT, .LAT_W], parts := [.latigo, .packer, .harness, .line] }
  | .stageVerifyDone => { regs := [.SKV_CNT1, .LAT_STAT], parts := [.latigo, .packer], events := true }
  | .retainedLogWrite => { regs := [.LAT_RETAIN], parts := [.latigo] }
  | .reload .. =>
    { parts := [.dies, .chans, .quads, .girth, .matrix, .bridle, .latigo, .packer, .stirrup, .skive, .tree, .harness, .burnish, .rosette,
      .tack, .line], events := true, anyReg := true }
  | .dieOut .. | .dieJoin .. => { regs := [.LAT_W], parts := [.dies, .latigo, .packer, .harness, .line] }
  | .diePwrOn .. =>
    { regs := [.AWL_QUAL, .SHL_STAT, .BUR_STAT, .BUR_QUAL, .LAT_W], parts := [.dies, .chans, .quads, .latigo, .packer, .harness, .burnish,
      .line], events := true, clears := true }
  | .diePwrOff .. =>
    { regs := [.AWL_QUAL, .STR_STAT, .STR_CNT4, .STR_CNT5, .STR_CNT6, .ING_STAT, .ING_CNT, .TRE_CNT0, .TRE_CNT4, .TRE_LOGPTR, .TRE_LOGA,
      .TRE_LOGB, .TRE_ROWHOT, .BUR_STAT, .BUR_CNT1, .BUR_QUAL, .LAT_W], parts := [.dies, .chans, .quads, .ingress, .supervisor, .latigo,
      .packer, .stirrup, .skive, .tree, .stitch, .harness, .burnish, .rosette, .line], events := true, clears := true }
  | .dieInit .. => { regs := [.HAR_RXL_CTRL, .HAR_RXL_STAT, .SHL_STAT, .LAT_W], parts := [.latigo, .packer, .harness, .line] }
  | .force .. =>
    { regs := [.STR_STAT, .STR_TRIGNO, .STR_CNT0, .STR_CNT1, .STR_CNT2, .STR_CNT3, .SP_CNT2, .LAT_W], parts := [.latigo, .packer,
      .stirrup, .harness, .line], events := true }
  | .laneRetrain .. =>
    { regs := [.STR_STAT, .STI_STAT, .HAR_STAT, .HAR_RXL_CTRL, .HAR_RXL_STAT, .SHL_STAT, .SHL_CNT, .LAT_W, .EVD_PEND], parts := [.dies,
      .quads, .latigo, .packer, .stirrup, .harness, .line], events := true }
  | .dieEventWord .. | .eventRaise .. => { events := true }
  | .datapathParityFault .. => { regs := [.EVM_CNTG], parts := [.packer, .skive, .stitch, .harness], events := true }
  | .vinWarnFall .. => { regs := [.PRS_STATE, .RSE_STAT], parts := [.supervisor, .packer, .rosette], events := true }
  | .vinWarnRelease .. => { parts := [.supervisor] }
  | .brownoutResume => { regs := [.PRS_STATE, .PRS_DIP, .PRS_CNT], parts := [.supervisor, .latigo], events := true }
  | .railFault .. => { regs := [.PRS_RAIL], parts := [.supervisor], events := true }
  | .caseTempRead .. => { regs := [.PRS_VIN, .PRS_TEMP], parts := [.supervisor], events := true }
  | .dieRailLimit .. => { regs := [.EVD_PEND], parts := [.dies, .quads, .supervisor] }
  | .dieRailTrip .. =>
    { regs := [.AWL_QUAL, .STR_STAT, .STR_CNT4, .STR_CNT5, .STR_CNT6, .ING_STAT, .ING_CNT, .TRE_CNT0, .TRE_CNT4, .TRE_LOGPTR, .TRE_LOGA,
      .TRE_LOGB, .TRE_ROWHOT, .BUR_STAT, .BUR_CNT1, .BUR_QUAL, .PRS_DIERAIL, .PRS_CNT], parts := [.dies, .chans, .quads, .ingress,
      .supervisor, .latigo, .packer, .stirrup, .skive, .tree, .stitch, .harness, .burnish, .rosette], events := true, clears := true }
  | .dieRailUv .. => { regs := [.EVD_PEND], parts := [.dies, .quads] }
  | .rootPllRelock => { regs := [.GIR_STAT], parts := [.girth] }
  | .diePllLock .. => { regs := [.RNG_STAT], parts := [.dies, .chans] }
  | .flashProgramDone => { parts := [.latigo, .flash] }
  | .dimmedDcOn .. | .onTimeEnd .. => { parts := [.rosette] }
  | .eventNHoldEnd => { regs := [.EVM_STAT], parts := [.matrix] }

/-- Nothing of die `f` differs: its state, its channels, its quadrants and their registers. -/
abbrev State.sameDie (s t : State) (f : Nat) : Prop :=
  t.die f = s.die f ∧ (∀ c < 256, t.chan (256 * f + c) = s.chan (256 * f + c)) ∧ (∀ q < 4, t.quad (4 * f + q) = s.quad (4 * f + q)) ∧
    ∀ r i, dieKey f (Reg.key r i) = true → t.reg r i = s.reg r i

end Sys2Proof.Machine
end

