-- ==== Sys2Proof/Certificates/Slice0/Obligations.lean ====
section
/-! DEFINITION. The statements for the provers. -/

open Sys2Proof Sys2Proof.Machine

/-! ### Girth (09) -/

/-- REF_INPUT_LOST (R220, Table 09.1): the input is no longer OK; when it was the selected one, the other input takes its place if it
is OK and enabled, with a time mark of TKIND 3, else the module enters HOLD with event 386 and asks the next strobe for a rebase
(R222), with events 384 and 385 when TMI is lost within 1,024 cu after TMI_ALT; an input that was not selected changes nothing else of
the selection. -/
def Obligations.RefInputLostEffect : Prop :=
  ∀ (s : State) (alt : Bool), s.alive = true →
    ∃ t, exec (.refInputLost alt) s = .next t ∧
      t.get (if alt then .GIR_STAT_ALT_OK else .GIR_STAT_TMI_OK) = 0 ∧
      (s.get .GIR_STAT_REFSEL ≠ b2n alt → t.get .GIR_STAT_REFSEL = s.get .GIR_STAT_REFSEL ∧
        t.girth.marks = s.girth.marks ∧ t.girth.rebase = s.girth.rebase ∧ t.girth.pend = s.girth.pend) ∧
      (s.get .GIR_STAT_REFSEL = b2n alt →
        Counted s t (384 + b2n alt) ∧
        (if (if alt then s.tmiUsable else s.altUsable) then
          t.get .GIR_STAT_REFSEL = b2n (!alt) ∧
            t.girth.marks = s.girth.marks ++ [⟨3, 0, b2n (!alt), s.get .GIR_STAT_TIME_VALID, s.get .GIR_STAT_GMID⟩]
        else
          t.get .GIR_STAT_REFSEL = (if s.flag .GIR_STAT_XTAL_VALID then 2 else 3) ∧ t.girth.rebase = s.girth.rebase ++ [true] ∧
            Counted s t 386 ∧ (∀ t0, s.girth.altLost = some t0 → s.frc ≤ t0 + 1024 → alt = false → Counted s t 385)))

/-- REF_INPUT_QUALIFIED (R220, Table 09.1): the input becomes OK; an enabled input ends HOLD, with event 387 and a rebase at the next
strobe, unless FORCE_HOLD is 1; TMI is preferred, and ends TMI_ALT while REVERT is 1. -/
def Obligations.RefInputQualifiedEffect : Prop :=
  ∀ (s : State) (alt : Bool), s.alive = true → s.girth.shaped = true →
    ∃ t, exec (.refInputQualified alt) s = .next t ∧
      t.get (if alt then .GIR_STAT_ALT_OK else .GIR_STAT_TMI_OK) = 1 ∧
      (s.inHold = true → s.flag .GIR_CTRL_FORCE_HOLD = false →
        s.flag (if alt then .GIR_CTRL_ALT_EN else .GIR_CTRL_TMI_EN) = true →
        t.get .GIR_STAT_REFSEL = b2n (alt && !s.qualified false) ∧ t.girth.rebase = s.girth.rebase ++ [false] ∧ Counted s t 387) ∧
      (alt = false → s.get .GIR_STAT_REFSEL = 1 → s.flag .GIR_CTRL_FORCE_HOLD = false → s.flag .GIR_CTRL_TMI_EN = true →
        s.flag .GIR_CTRL_REVERT = true → t.get .GIR_STAT_REFSEL = 0 ∧ Bumped s t .GIR_CNT2_REF_SW) ∧
      (s.inHold = true → s.flag .GIR_CTRL_FORCE_HOLD = true → t.get .GIR_STAT_REFSEL = s.get .GIR_STAT_REFSEL)

/-- FORCE_HOLD and GIR_SNAP are writes of GIR_CTRL (Table 09.8): the RW bits FORCE_HOLD, LEARN_EN, REVERT, ALT_EN and TMI_EN take the
written values; LEARN_EN 0 breaks crystal learning (R226); FORCE_HOLD 1 outside HOLD enters HOLD with event 386 (Table 09.1); SNAP 1 copies
the slot, σ, REF, RATE and OFFSET of the last strobe into the snapshot registers, every word of each (R242). -/
def Obligations.GirCtrlWriteEffect : Prop :=
  ∀ (s : State) (data : Word32), s.alive = true →
    ∃ t, exec (.forceHold data) s = .next t ∧ exec (.girSnap data) s = .next t ∧
      t.get .GIR_CTRL_FORCE_HOLD = Fld.of .GIR_CTRL_FORCE_HOLD data ∧ t.get .GIR_CTRL_LEARN_EN = Fld.of .GIR_CTRL_LEARN_EN data ∧
      t.get .GIR_CTRL_REVERT = Fld.of .GIR_CTRL_REVERT data ∧ t.get .GIR_CTRL_ALT_EN = Fld.of .GIR_CTRL_ALT_EN data ∧
      t.get .GIR_CTRL_TMI_EN = Fld.of .GIR_CTRL_TMI_EN data ∧
      (Fld.on .GIR_CTRL_LEARN_EN data = false → t.girth.learned = 0) ∧
      (Fld.on .GIR_CTRL_FORCE_HOLD data = true → s.inHold = false →
        t.get .GIR_STAT_REFSEL = (if s.flag .GIR_STAT_XTAL_VALID then 2 else 3) ∧ Counted s t 386 ∧
        Bumped s t .GIR_CNT2_HOLD_ENTRIES) ∧
      (Fld.on .GIR_CTRL_SNAP data = true →
        let p := s.girth.strobes.headD ⟨0, 0, 0, 0, 0⟩
        t.get .GIR_SNAP_SLOT_LO_SLOT_LO = p.slot % 2 ^ 32 ∧ t.get .GIR_SNAP_SLOT_HI_SLOT_HI = p.slot / 2 ^ 32 % 2 ^ 16 ∧
        t.get .GIR_SNAP_SIG_LO_SIG_LO = p.sigma % 2 ^ 32 ∧ t.get .GIR_SNAP_SIG_HI_SIG_HI = p.sigma / 2 ^ 32 % 2 ^ 32 ∧
        t.get .GIR_SNAP_REF_LO_REF_LO = p.ref % 2 ^ 32 ∧ t.get .GIR_SNAP_REF_HI_REF_HI = p.ref / 2 ^ 32 % 2 ^ 32 ∧
        t.get .GIR_SNAP_RATE_LO_RATE_LO = unsigned 48 p.rate % 2 ^ 32 ∧
        t.get .GIR_SNAP_RATE_HI_RATE_HI = unsigned 48 p.rate / 2 ^ 32 % 2 ^ 16 ∧
        t.get .GIR_SNAP_OFFS0_OFFS0 = unsigned 96 p.offset % 2 ^ 32 ∧
        t.get .GIR_SNAP_OFFS1_OFFS1 = unsigned 96 p.offset / 2 ^ 32 % 2 ^ 32 ∧
        t.get .GIR_SNAP_OFFS2_OFFS2 = unsigned 96 p.offset / 2 ^ 64 % 2 ^ 32)

/-- SYNC (R230, R231, Table 09.3): a SYNC of the selected input shows θ, its GMID and SSEQ. From the accepted master, in sequence, with
nothing pending and θ within LOCK_WIN, it is used, and the correction θ shifted by GAIN_SHIFT waits for the first strobe at
least 256 cu later; an SSEQ that is not later than the last is rejected. -/
def Obligations.SyncEffect : Prop :=
  ∀ (s : State) (alt : Bool) (gmid sseq : BitVec 16) (t1 : BitVec 71) (stamp : Nat),
    s.tmiActs = true → s.get .GIR_STAT_REFSEL = b2n alt →
    ∃ t, exec (.sync alt gmid sseq t1 stamp) s = .next t ∧
      let th := s.thetaOf alt t1.toNat stamp
      t.get .GIR_THETA_THETA = unsigned 32 (clampI (-(2 ^ 31)) (2 ^ 31 - 1) th) ∧
      t.get .GIR_SYNCSEQ_LAST_GMID = gmid.toNat ∧ t.get .GIR_SYNCSEQ_LAST_SSEQ = sseq.toNat ∧
      (s.girth.haveMaster = true → gmid.toNat = s.get .GIR_STAT_GMID → ∀ q, s.girth.lastSseq = some q →
        (laterThan 16 sseq.toNat q = false →
          t.girth.lastSseq = some q ∧ t.girth.pend = s.girth.pend ∧ t.girth.run = s.girth.run ∧ Bumped s t .GIR_CNT0_SYNC_REJ) ∧
        (laterThan 16 sseq.toNat q = true → s.girth.pend = none → th.natAbs ≤ s.get .GIR_SERVO_LOCK_WIN * 16 →
          t.girth.pend = some (.corr (truncDiv (th * 2 ^ 12) (2 ^ s.get .GIR_SERVO_GAIN_SHIFT)), s.frc + 256) ∧
          t.girth.lastSseq = some sseq.toNat ∧ t.girth.unused = 0 ∧ t.girth.syncLate = false ∧
          Bumped s t .GIR_CNT0_SYNC_OK))

/-- SYNC_TIMEOUT raises event 395 once for the interval (R234, log entry 58); PLL_UNLOCK clears PLL_LOCK and TIME_VALID with event 394
(R232); ROOT_PLL_RELOCK sets PLL_LOCK and puts a mark of TKIND 7 (R240). -/
def Obligations.ReferenceEventEffect : Prop :=
  ∀ (s : State), s.alive = true →
    (s.inHold = false → s.girth.syncLate = false → max 1 (s.get .GIR_SYNCTO_SYNC_TO) ≤ s.girth.unused →
      ∃ t, exec .syncTimeout s = .next t ∧ t.girth.syncLate = true ∧ Counted s t 395) ∧
    (s.flag .GIR_STAT_PLL_LOCK = true →
      ∃ t, exec .pllUnlock s = .next t ∧ t.get .GIR_STAT_PLL_LOCK = 0 ∧ t.get .GIR_STAT_TIME_VALID = 0 ∧ Counted s t 394) ∧
    (s.flag .GIR_STAT_PLL_LOCK = false →
      ∃ t, exec .rootPllRelock s = .next t ∧ t.get .GIR_STAT_PLL_LOCK = 1 ∧
        t.girth.marks = s.girth.marks ++
          [⟨7, 0, s.get .GIR_STAT_REFSEL, s.get .GIR_STAT_TIME_VALID, s.get .GIR_STAT_GMID⟩])

/-- Echoes (R236, R237, R273): an addressed ECHO_REQ is held when none is, with t2 its stamp less the receive latency, else it is
dropped with event 426; ECHO_SEND, at a row 256 cu or more after t2, puts the echo block first in the streams of the UP ports that send
and reports it in stream 6; an echo that a cascade port receives is reported in stream 6. -/
def Obligations.EchoEffect : Prop :=
  ∀ (s : State),
    (∀ alt tgt exseq stamp, s.tmiActs = true → s.addressed tgt = true → s.girth.echo = none →
      ∃ t, exec (.echoReq alt tgt exseq stamp) s = .next t ∧
        t.girth.echo = some ⟨(s.stampFu stamp (s.rxLat alt)).toNat, exseq.toNat, alt, stamp - s.rxLat alt,
          s.get .GIR_STAT_TIME_VALID⟩) ∧
    (∀ alt tgt exseq stamp e, s.tmiActs = true → s.addressed tgt = true → s.girth.echo = some e →
      ∃ t, exec (.echoReq alt tgt exseq stamp) s = .next t ∧ t.girth.echo = some e ∧ Counted s t 426 ∧
        Bumped s t .HAR_CNT5_ECHO_DROP) ∧
    (∀ stamp e, s.working = true → s.harness.shaped = true → s.girth.echo = some e → e.since + 256 * 128 ≤ s.nextRow * 128 →
      s.nextRow * 128 ≤ stamp → stamp ≤ s.nextRow * 128 + 2 →
      ∃ t, exec (.echoSend stamp) s = .next t ∧ t.girth.echo = none ∧
        Bumped s t .GIR_CNT3_ECHO_SENT ∧
        (∃ ws, t.packer.items = s.packer.items ++ [(6, ws)]) ∧
        (let blk := ctlBlock 0x66 (e.exseq % 2 ^ 16 * 2 ^ 32 + s.get .ID_MODULE_MODULE * 2 ^ 20)
         (∀ p, s.portSends p = true → (t.stream p).prio = blk :: (s.stream p).prio) ∧
         t.line = s.line ++ (if s.portSends false then [.port 0 blk []] else []) ++
           (if s.portSends true then [.port 1 blk []] else []))) ∧
    (∀ cib exseq src stamp, s.alive = true → s.get (if cib then .HAR_STAT_CIB_PORT else .HAR_STAT_CIA_PORT) = 2 →
      ∃ t, exec (.echoReceive cib exseq src stamp) s = .next t ∧
        Bumped s t .GIR_CNT3_ECHO_RX ∧ ∃ ws, t.packer.items = s.packer.items ++ [(6, ws)])

/-! ### Pixel input stage (02) -/

/-- The anode steps one code toward its target (R37); the threshold decision of a C40 cycle applies 0x3FF under the sun guard (R50), and
otherwise a code within the policy bounds (R47), whatever the loop asks for; SUN, STALE and CLAMPED are shown (R48, R50, R51);
the discriminator of an enabled channel fires above its threshold, releases below it by the hysteresis and holds between (R40), and a
firing is counted and, allowed, sets its bit in the primitive word (R43, R46, R113). The current at the channel is the command's operand
(log entry 73), and C40 cycles are counted from FRC 0 (log entry 183). -/
def Obligations.ThresholdEffect : Prop :=
  ∀ (s : State) (f : DieNo) (c : ChanNo), s.working = true → s.diePowered f = true →
    (s.get .PIX_ANODE_ANODE_NOW (gchan f c) ≠ s.get .PIX_ANODE_ANODE (gchan f c) → (s.chan (gchan f c)).anodeAt + 256 ≤ s.frc →
      ∃ t, exec (.anodeSlewStep f c) s = .next t ∧ (t.chan (gchan f c)).anodeAt = s.frc ∧
        t.get .PIX_ANODE_ANODE_NOW (gchan f c) =
          if s.get .PIX_ANODE_ANODE_NOW (gchan f c) < s.get .PIX_ANODE_ANODE (gchan f c)
          then s.get .PIX_ANODE_ANODE_NOW (gchan f c) + 1 else s.get .PIX_ANODE_ANODE_NOW (gchan f c) - 1) ∧
    (s.frc % 64 = 0 →
      ∃ t, exec (.thresholdEval f c) s = .next t ∧
        t.get .PIX_TSTAT_SUN (gchan f c) = b2n (s.dieSun f) ∧ t.get .PIX_TSTAT_STALE (gchan f c) = b2n (s.stropStale (gchan f c)) ∧
        (s.dieSun f = true → t.get .PIX_TSTAT_THR_APPLIED (gchan f c) = 0x3FF) ∧
        (s.dieSun f = false → s.get .PIX_TRGPOL_FLOOR (gchan f c) ≤ s.get .PIX_TRGPOL_CEIL (gchan f c) →
          s.get .PIX_TRGPOL_FLOOR (gchan f c) ≤ t.get .PIX_TSTAT_THR_APPLIED (gchan f c) ∧
          t.get .PIX_TSTAT_THR_APPLIED (gchan f c) ≤ s.get .PIX_TRGPOL_CEIL (gchan f c)) ∧
        (s.stropStale (gchan f c) = false →
          t.get .PIX_TSTAT_CLAMPED (gchan f c) =
            b2n (decide ((s.get .PIX_TRGPOL_CEIL (gchan f c) : Int) < s.thrAsked (gchan f c)) ||
              decide (s.thrAsked (gchan f c) < s.get .PIX_TRGPOL_FLOOR (gchan f c))))) ∧
    (∀ cur, s.flag .PIX_CTRL_EN (gchan f c) = true →
      ∃ t, exec (.triggerDiscFire f c cur) s = .next t ∧
        (t.chan (gchan f c)).trgOn =
          discNext (s.chan (gchan f c)).trgOn cur (s.triggerThr (gchan f c)) (s.hysteresis (gchan f c)) ∧
        ((s.chan (gchan f c)).trgOn = false → s.triggerThr (gchan f c) < cur →
          (t.chan (gchan f c)).fires = (s.chan (gchan f c)).fires + (if s.stropStale (gchan f c) then 0 else 1) ∧
          (s.flag .PIX_CTRL_TRG_EN (gchan f c) = true → s.flag .PIX_CTRL_MASK_TRG (gchan f c) = false → s.dieSun f = false →
            ∃ p ∈ (t.quad (gchan f c / 64)).prims,
              fw p.1 57 1 = gchan f c / 32 % 2 ∧ bitOf p.1.toNat (gchan f c % 32) = true)))

/-- A write of PIX_TRGPOL with CEIL below FLOOR sets WERR and changes neither bound; any other write sets both at once (R49). -/
def Obligations.TrgpolWriteRule : Prop :=
  ∀ (s : State) (f : DieNo) (c : ChanNo) (data : Word32), s.working = true → s.diePowered f = true →
    ∃ t, exec (.pixTrgpolWrite f c data) s = .next t ∧
      (if Fld.PIX_TRGPOL_CEIL.of data < Fld.PIX_TRGPOL_FLOOR.of data then
        t.get .PIX_TSTAT_WERR (gchan f c) = 1 ∧ t.reg .PIX_TRGPOL (gchan f c) = s.reg .PIX_TRGPOL (gchan f c) ∧
          t.get .PIX_TRGPOL_CEIL (gchan f c) = s.get .PIX_TRGPOL_CEIL (gchan f c) ∧
          t.get .PIX_TRGPOL_FLOOR (gchan f c) = s.get .PIX_TRGPOL_FLOOR (gchan f c)
      else
        t.get .PIX_TRGPOL_CEIL (gchan f c) = Fld.PIX_TRGPOL_CEIL.of data ∧
          t.get .PIX_TRGPOL_FLOOR (gchan f c) = Fld.PIX_TRGPOL_FLOOR.of data)

/-- ACC_LOAD in hold mode loads the accumulator so that the loop asks for FORCE (R45, R46); INJ_ARM arms an injection for the next slot with
INJ_BUSY 1 (R52); a write that clears INJ_REP in the slot of a firing ends the injections (R55). That MODE is the one of the same write is the
model's reading (log entry 72), as are the taking of INJ_AT and the group at ARM (log entry 71) and what a first firing is to INJ_REP (log entry
138). -/
def Obligations.PixelWriteEffect : Prop :=
  ∀ (s : State) (f : DieNo) (c : ChanNo) (data : Word32), s.working = true → s.diePowered f = true →
    (Fld.PIX_TLOOP_ACC_LOAD.on data = true → Fld.PIX_TLOOP_MODE.of data = 0 ∨ Fld.PIX_TLOOP_MODE.of data = 3 →
      ∃ t, exec (.accLoad f c data) s = .next t ∧
        (t.chan (gchan f c)).ff + (t.chan (gchan f c)).acc = Fld.PIX_TLOOP_FORCE.of data ∧
        t.get .PIX_TLOOP_FORCE (gchan f c) = Fld.PIX_TLOOP_FORCE.of data) ∧
    (Fld.PIXD_INJ_INJ_ARM.on data = true →
      ∃ t, exec (.injArm f data) s = .next t ∧ t.get .PIXD_INJ_INJ_BUSY f = 1 ∧
        (t.die f).inj = some ⟨s.frc, Fld.PIXD_INJ_INJ_AT.of data, Fld.PIXD_INJ_INJ_GROUP.of data, false⟩) ∧
    (∀ i, Fld.PIXD_INJ_INJ_ARM.on data = false → Fld.PIXD_INJ_INJ_REP.on data = false → (s.die f).inj = some i →
      i.fired = true → s.dieSlotAt f ≤ i.since →
      ∃ t, exec (.injRepClear f data) s = .next t ∧ (t.die f).inj = none ∧ (t.die f).injFall = some s.frc ∧
        t.get .PIXD_INJ_INJ_REP f = 0)

/-- Overrange (R57, R519, Table 02.4): entry to OVER of an enabled channel counts, cancels its window, notes the time and marks the cells
of its ring from then on (R90), and an entry from RECOVER cancels the windows it had opened on its neighbours; release begins RECOVER with
its window of RCV_LEN and, with NB_RCV 1, opens a window of NB_LEN on the channel on either side of the same die (channels 0 and 255 have
one neighbour), with NB_RCV 0 none; 4095 cu in OVER set LONG once; the end of the window returns the channel to NORMAL; a neighbour's window
ends by itself. The high-gain comparator is shown in OVR_HG and marks the cells without a window (R56). Which comparator changes is an
operand (log entry 70), and a window opened on a running one of the same neighbour is joined to it (log entry 79). -/
def Obligations.OverrangeEffect : Prop :=
  ∀ (s : State) (f : DieNo) (c : ChanNo), s.working = true → s.diePowered f = true →
    (s.flag .PIX_CTRL_EN (gchan f c) = true → s.get .PIX_OVR_STATE (gchan f c) ≠ 1 →
      ∃ t, exec (.ovrEnter f c false) s = .next t ∧ (t.chan (gchan f c)).marked .lowOver s.frc = true ∧ t.get .PIX_OVR_STATE (gchan f c) = 1 ∧ t.get .PIX_OVR_OVR_LG (gchan f c) = 1 ∧
        Bumped s t .PIX_OVR_OVR_COUNT (gchan f c) ∧ (t.chan (gchan f c)).own = none ∧ (t.chan (gchan f c)).overAt = s.frc ∧
        ∀ d : ChanNo,
          (d.val = c.val + 1 → (t.chan (gchan f d)).nbL =
            if s.get .PIX_OVR_STATE (gchan f c) = 2 then none else (s.chan (gchan f d)).nbL) ∧
          (d.val + 1 = c.val → (t.chan (gchan f d)).nbR =
            if s.get .PIX_OVR_STATE (gchan f c) = 2 then none else (s.chan (gchan f d)).nbR)) ∧
    (s.get .PIX_OVR_STATE (gchan f c) = 1 →
      ∃ t, exec (.ovrRelease f c false) s = .next t ∧ t.get .PIX_OVR_STATE (gchan f c) = 2 ∧ t.get .PIX_OVR_OVR_LG (gchan f c) = 0 ∧
        (t.chan (gchan f c)).own = some (s.frc, s.frc + s.get .PIXD_RCV_RCV_LEN f) ∧
        (s.flag .PIX_CTRL_NB_RCV (gchan f c) = true →
          let opened (old : Option (Nat × Nat)) : Option (Nat × Nat) :=
            match old with
            | some (o, e) =>
              if s.frc < e then some (o, max e (s.frc + s.get .PIXD_RCV_NB_LEN f)) else some (s.frc, s.frc + s.get .PIXD_RCV_NB_LEN f)
            | none => some (s.frc, s.frc + s.get .PIXD_RCV_NB_LEN f)
          ∀ d : ChanNo,
            (d.val = c.val + 1 → (t.chan (gchan f d)).nbL = opened (s.chan (gchan f d)).nbL) ∧
            (d.val + 1 = c.val → (t.chan (gchan f d)).nbR = opened (s.chan (gchan f d)).nbR)) ∧
        (∀ g, s.flag .PIX_CTRL_NB_RCV (gchan f c) = false ∨ g / 256 ≠ f.val →
          (t.chan g).nbL = (s.chan g).nbL ∧ (t.chan g).nbR = (s.chan g).nbR)) ∧
    (s.flag .PIX_CTRL_EN (gchan f c) = true → s.get .PIX_OVR_OVR_HG (gchan f c) = 0 →
      ∃ t, exec (.ovrEnter f c true) s = .next t ∧ t.get .PIX_OVR_OVR_HG (gchan f c) = 1 ∧
        t.get .PIX_OVR_STATE (gchan f c) = s.get .PIX_OVR_STATE (gchan f c) ∧ (t.chan (gchan f c)).marked .highOver s.frc = true) ∧
    (s.get .PIX_OVR_OVR_HG (gchan f c) = 1 →
      ∃ t, exec (.ovrRelease f c true) s = .next t ∧ t.get .PIX_OVR_OVR_HG (gchan f c) = 0) ∧
    (s.get .PIX_OVR_STATE (gchan f c) = 1 → (s.chan (gchan f c)).overLong = false → (s.chan (gchan f c)).overAt + 4095 < s.frc →
      ∃ t, exec (.ovrLong f c) s = .next t ∧ t.get .PIX_OVR_LONG (gchan f c) = 1 ∧ (t.chan (gchan f c)).overLong = true) ∧
    (∀ o e, (s.chan (gchan f c)).own = some (o, e) → s.get .PIX_OVR_STATE (gchan f c) = 2 → e ≤ s.frc →
      ∃ t, exec (.recoveryWindowEnd f c) s = .next t ∧ t.get .PIX_OVR_STATE (gchan f c) = 0 ∧ (t.chan (gchan f c)).own = none) ∧
    (∀ left o e, (if left then (s.chan (gchan f c)).nbL else (s.chan (gchan f c)).nbR) = some (o, e) → e ≤ s.frc →
      ∃ t, exec (.neighbourWindowEnd f c left) s = .next t ∧
        (if left then (t.chan (gchan f c)).nbL else (t.chan (gchan f c)).nbR) = none)

/-! ### Awl hit timing (03) -/

/-- Captures (R40, R62, R65, R71, R73, R74): a current above the timing threshold opens, with credits, a hit in HIGH with the stamp that
the taps give under the selection in force; without credits it is lost and counted; within 10 cu of a trailing edge it opens a
piled-up hit; a current below the threshold by the hysteresis, or the power-down of the channel, ends the hit in DEAD, or a lost edge in
ARMED; a hit saturates after 4095 cu; the dead time ends; a credit is added up to 128. The current is the command's operand (log entry 73),
the order of the taps is that of log entry 139, and LOST_BURST and PILE_COUNT count for masked and disabled channels too, which spend no
credits (log entry 74). -/
def Obligations.CaptureEffect : Prop :=
  ∀ (s : State) (f : DieNo) (c : ChanNo) (cur : Nat) (taps : BitVec 160), s.working = true → s.diePowered f = true →
    ((s.chan (gchan f c)).awl = .armed → s.creditDue (gchan f c) = false → s.timingThr (gchan f c) < cur →
      (2 ≤ s.get .AWL_STAT_CREDIT (gchan f c) →
        ∃ t l, exec (.leadCapture f c cur taps) s = .next t ∧ (t.chan (gchan f c)).awl = .high ∧
          (t.chan (gchan f c)).lead = some l ∧ l.edge = s.frc ∧ l.raw = rawFine (s.dieCount f) (s.tapsOf (gchan f c) taps) ∧
          l.trg = (s.chan (gchan f c)).trgOn ∧ l.epoch = s.get .AWLD_CTRL_EPOCH f ∧
          t.get .AWL_STAT_CREDIT (gchan f c) = s.get .AWL_STAT_CREDIT (gchan f c) - (if s.hitMasked (gchan f c) then 0 else 2)) ∧
      (s.get .AWL_STAT_CREDIT (gchan f c) < 2 →
        ∃ t, exec (.leadCapture f c cur taps) s = .next t ∧ (t.chan (gchan f c)).awl = .lost ∧ (t.chan (gchan f c)).lead = none ∧
          Bumped s t .AWL_STAT_LOST_BURST (gchan f c))) ∧
    ((s.chan (gchan f c)).awl = .dead → s.frc < (s.chan (gchan f c)).trail + 10 → s.creditDue (gchan f c) = false →
      s.timingThr (gchan f c) < cur →
      ∃ t l, exec (.leadCapture f c cur taps) s = .next t ∧ (t.chan (gchan f c)).awl = .pileHigh ∧
        (t.chan (gchan f c)).lead = some l ∧ l.pile = true ∧ l.raw = rawCoarse (s.dieCount f) ∧
        Bumped s t .AWL_STAT_PILE_COUNT (gchan f c)) ∧
    (s.flag .PIX_CTRL_EN (gchan f c) = false ∨ cur + s.hysteresis (gchan f c) < s.timingThr (gchan f c) →
      ((s.chan (gchan f c)).awl = .high ∨ (s.chan (gchan f c)).awl = .sat ∨ (s.chan (gchan f c)).awl = .pileHigh →
        ∃ t, exec (.trailCapture f c cur taps) s = .next t ∧ (t.chan (gchan f c)).awl = .dead ∧
          (t.chan (gchan f c)).trail = s.frc ∧ (t.chan (gchan f c)).lead = none) ∧
      ((s.chan (gchan f c)).awl = .lost →
        ∃ t, exec (.trailCapture f c cur taps) s = .next t ∧ (t.chan (gchan f c)).awl = .armed)) ∧
    (∀ l, (s.chan (gchan f c)).lead = some l → (s.chan (gchan f c)).awl = .high ∨ (s.chan (gchan f c)).awl = .pileHigh →
      l.edge + 4095 ≤ s.frc →
      ∃ t, exec (.totSaturate f c) s = .next t ∧ (t.chan (gchan f c)).awl = .sat) ∧
    ((s.chan (gchan f c)).awl = .dead → (s.chan (gchan f c)).trail + 10 ≤ s.frc →
      ∃ t, exec (.deadTimeEnd f c) s = .next t ∧ (t.chan (gchan f c)).awl = .armed) ∧
    (s.creditDue (gchan f c) = true →
      ∃ t, exec (.creditAdd f c) s = .next t ∧
        t.get .AWL_STAT_CREDIT (gchan f c) = min 128 (s.get .AWL_STAT_CREDIT (gchan f c) + 1) ∧
        (t.chan (gchan f c)).creditAt = some s.frc)

/-- The completion stage (R77 to R82): the next entry is taken while fewer than 255 hits are in the stage, and dropped and counted
otherwise; discarded entries at the head are skipped (R79); in interval mode a start waits with its timer, replacing one that waits, and a
stop matches the waiting start or is an orphan (Table 03.3A); a start that no stop matched in time is discarded and counted; COMMIT
sets PENDING (R67). That starts and stops pair when their entries are taken is the model's reading (log entry 24), as are the counting in
the registers of channel 2k (log entry 75) and the taking of IVL_EN and TIMEOUT at the capture (log entry 191). -/
def Obligations.CompletionStageEffect : Prop :=
  ∀ (s : State) (f : DieNo) (c : ChanNo), s.working = true → s.diePowered f = true →
    (∀ e r d, (s.chan (gchan f c)).ivl = some (e, r, d) → d ≤ s.frc → s.ivlComing (gchan f c) d = false →
      ∃ t, exec (.intervalTimeout f c) s = .next t ∧ (t.chan (gchan f c)).ivl = none ∧
        Bumped s t .AWL_IVLSTAT_TIMEOUTS (gchan f c)) ∧
    (∀ x, (s.quad (gchan f c / 64)).nextEntry = some x → isEntry (gchan f c) x.edge x = true → x.edge + 16 ≤ s.frc →
      ((s.quad (gchan f c / 64)).stageHits < 255 →
        ∃ t, exec (.completionEntry f c) s = .next t ∧
          (x.limit = none →
            (t.quad (gchan f c / 64)).stage = skipDropped ((s.quad (gchan f c / 64)).stage.map (fun y =>
              if isEntry (gchan f c) x.edge y && !y.taken then { y with taken := true } else y))) ∧
          (∀ d, x.limit = some d → gchan f c = pairOf (gchan f c) →
            (t.chan (gchan f c)).ivl = some (x.edge, x.raw, d) ∧
            ((s.chan (gchan f c)).ivl ≠ none → Bumped s t .AWL_IVLSTAT2_RESTARTS (gchan f c))) ∧
          (x.limit ≠ none → gchan f c ≠ pairOf (gchan f c) →
            ((s.chan (pairOf (gchan f c))).ivl = none → Bumped s t .AWL_IVLSTAT2_ORPHANS (pairOf (gchan f c))) ∧
            (∀ e r d, (s.chan (pairOf (gchan f c))).ivl = some (e, r, d) → r ≤ x.raw → x.edge ≤ d →
              (t.chan (pairOf (gchan f c))).ivl = none ∧ Bumped s t .AWL_IVLSTAT_PAIRS (pairOf (gchan f c))))) ∧
      (255 ≤ (s.quad (gchan f c / 64)).stageHits →
        ∃ t, exec (.completionEntry f c) s = .next t ∧ Bumped s t .AWLD_CSTAT_CS_FULL (gchan f c / 64))) ∧
    (∀ data, Fld.AWLD_CTRL_COMMIT.on data = true →
      ∃ t, exec (.awlCommit f data) s = .next t ∧ t.get .AWLD_CTRL_PENDING f = 1)

/-- What leaves the completion stage (R77, R79, R104, R294): a marker takes its reserved entry with the stage's losses; a complete head
goes through the push port with its birth stamp and takes it for 8 cu, a marker goes into the side queue with its position and takes no
push; the head is removed, and discarded entries behind it are skipped. The position is that of the instant at which the marker leaves the
stage (log entry 177); with four markers in the side queue a fifth is dropped (log entry 145); a record that has waited REC_WAIT comes
first (log entry 78). -/
def Obligations.StageToQueueEffect : Prop :=
  ∀ (s : State) (n : LaneNo), s.working = true → s.diePowered (n.val / 4) = true →
    (∀ x, (s.quad n).nextEntry = some x → x.chan = none → x.drop = false → x.edge + 16 ≤ s.frc →
      ∃ t, exec (.markerEntry n) s = .next t ∧ (t.quad n).csLost = 0 ∧
        ∃ y ∈ (t.quad n).stage, y.chan = none ∧ y.edge = x.edge ∧ y.taken = true ∧ y.due = s.frc ∧
          y.word = x.word.map (fun w => w ||| pack [(16, 8, (s.quad n).csLost)])) ∧
    (∀ x, s.headComplete n = some x → x.chan ≠ none → s.portFree n = true →
      (s.quad n).recs.head?.any (fun r => r.waited) = false →
      ∃ t, exec (.entryToQueue n) s = .next t ∧
        (t.quad n).inq = (s.quad n).inq ++ [⟨s.frc, x.word.getD 0, x.birth, false, false⟩] ∧ (t.quad n).port = s.frc + 8 ∧
        (t.quad n).stage = skipDropped (skipDropped (s.quad n).stage).tail) ∧
    (∀ x, s.headComplete n = some x → x.chan = none →
      ∃ t, exec (.entryToQueue n) s = .next t ∧ (t.quad n).inq = (s.quad n).inq ∧
        (t.quad n).stage = skipDropped (skipDropped (s.quad n).stage).tail ∧
        ((s.quad n).marks.length < 4 →
          (t.quad n).marks = (s.quad n).marks ++ [(x.word.getD 0, (s.quad n).markPos s.frc)]))
/-! ### Analog ring (04) -/

/-- Restarts and freezes (R91 to R96, R262): a restart, of one channel or of all 256, sets R0 to the next ROOT edge; FULL comes 1024 cu
after R0; a FRZ0 that has come over the return lane waits for its FRZ1, and one that waited already is discarded; the pair reaches every
channel it names when F lies within 2048 cu, and is refused there as RANGE otherwise; a FRZ1 without its FRZ0, and a FRZ0 that is too old
with it, are discarded, each with RET_BADWORD. A freeze is applied to the lowest free bank: it is refused as BUSY when no bank is free, as
LATE when its first cell would be overwritten within its 16 cu, as NOT_READY when none of its cells was written at or after R0, and
otherwise takes the cells from the first such cell on, PRE_SHORT when some come before it; while the counter runs on unbroken, sample j is
the cell of offset S + j, one not yet written in this lap that of 1024 cu earlier. The transfer ends after 16 cu. The model's choices here:
an F exactly 2^15 cu away counts as passed (log entry 189), a freeze applied at R0 itself sees the restart (log entry 188), and a word
spells a block that is on its way to the die (log entry 207). -/
def Obligations.FreezeEffect : Prop :=
  ∀ (s : State) (f : DieNo), s.working = true → s.diePowered f = true →
    (∀ c data, Fld.RNG_CTRL_RESTART.on data = true →
      ∃ t, exec (.rngRestart f c data) s = .next t ∧
        (t.chan (gchan f c)).restart = some (s.frc + 1, (s.dieOff f + 1) % 65536)) ∧
    (∀ data, Fld.RNGD_CTRL_RESTART_ALL.on data = true →
      ∃ t, exec (.restartAll f data) s = .next t ∧
        ∀ c : ChanNo, (t.chan (gchan f c)).restart = some (s.frc + 1, (s.dieOff f + 1) % 65536)) ∧
    (∀ c r, (s.chan (gchan f c)).r0At s.frc = some r → r + 1024 ≤ s.frc →
      ∃ t, exec (.ringFull f c) s = .next t ∧ t.get .RNG_STAT_FULL (gchan f c) = 1) ∧
    (∀ w : Word64, fw w 60 4 = 4 → s.retDue f (· == w) = true →
      ∃ t, exec (.frz0 f w) s = .next t ∧ (t.die f).frz0 = some (w, s.frc) ∧
        t.get .SHL_CNT_RET_BADWORD f =
          (s.get .SHL_CNT_RET_BADWORD f + if (s.die f).frz0.isSome then 1 else 0) % 2 ^ Fld.SHL_CNT_RET_BADWORD.w) ∧
    (∀ w : Word64, fw w 60 4 = 5 → s.retDue f (· == w) = true →
      (∀ w0 t0, (s.die f).frz0 = some (w0, t0) → s.frc < t0 + 98 →
        ∃ t, exec (.freezeDecode f w) s = .next t ∧ (t.die f).frz0 = none ∧
          (let stop := (fw w0 28 16 + fw w 34 10) % 65536
           (wrapDiff 16 stop (s.dieOff f) ≤ 2048 →
            ∀ g ∈ freezeChannels f w0, ∃ x, (t.chan g).freezes = (s.chan g).freezes ++ [x] ∧ x.tag = fw w0 18 10 ∧
              x.pre = fw w 52 8 ∧ x.win = fw w 44 8 + 1 ∧ x.start = (fw w0 28 16 + 65536 - fw w 52 8) % 65536 ∧
              x.at_ = if wrapDiff 16 stop (s.dieOff f) < 0 then s.dieOff f else stop) ∧
           (2048 < wrapDiff 16 stop (s.dieOff f) →
            ∀ g ∈ freezeChannels f w0, (t.chan g).freezes = (s.chan g).freezes ∧ Bumped s t .RNG_CNT_REFUSED g))) ∧
      ((s.die f).frz0 = none →
        ∃ t, exec (.freezeDecode f w) s = .next t ∧ (t.die f).frz0 = none ∧ Bumped s t .SHL_CNT_RET_BADWORD f ∧
          ∀ g, (t.chan g).freezes = (s.chan g).freezes) ∧
      (∀ w0 t0, (s.die f).frz0 = some (w0, t0) → t0 + 98 ≤ s.frc →
        ∃ t, exec (.freezeDecode f w) s = .next t ∧ (t.die f).frz0 = none ∧
          t.get .SHL_CNT_RET_BADWORD f = (s.get .SHL_CNT_RET_BADWORD f + 2) % 2 ^ Fld.SHL_CNT_RET_BADWORD.w ∧
          ∀ g, (t.chan g).freezes = (s.chan g).freezes)) ∧
    (∀ c x, firstFreeze (s.dieOff f) (s.chan (gchan f c)).freezes = some x → 0 ≤ s.sinceOff f x.at_ →
      ∃ t, exec (.freezeApply f c) s = .next t ∧ (t.chan (gchan f c)).freezes = (s.chan (gchan f c)).freezes.erase x ∧
        (let at_ := passedAt x.at_ s.frc (s.segs f)
         let d := wrapDiff 16 (offAt (s.segs f) at_) x.start
         let time (j : Nat) : Int := cellAt (s.segs f) at_ ((x.start + j) % 1024)
         (((s.die f).since : Int) + 1023 ≤ at_ → 0 ≤ d → d ≤ 1008 →
           ∀ j : Nat, j < 1024 → time j = if (j : Int) ≤ d then at_ - d + j else at_ - d + j - 1024) ∧
         (s.freeBank (gchan f c) = none →
           (t.chan (gchan f c)).banks = (s.chan (gchan f c)).banks ∧
             Bumped s t .RNG_CNT_REFUSED (gchan f c) ∧ Bumped s t .RNGD_STAT_REF_BUSY f) ∧
         (∀ b, s.freeBank (gchan f c) = some b →
           (1024 < d + 16 ∨ (∀ j < x.win, ∀ r, (s.chan (gchan f c)).r0At at_ = some r → time j < r) →
             (t.chan (gchan f c)).banks = (s.chan (gchan f c)).banks ∧
               Bumped s t .RNG_CNT_REFUSED (gchan f c) ∧ Bumped s t .RNGD_STAT_REF_OTHER f) ∧
           (∀ k r, d + 16 ≤ 1024 → (s.chan (gchan f c)).banks.length = 4 → (s.chan (gchan f c)).r0At at_ = some r → k < x.win →
             (∀ j < k, time j < r) → (r : Int) ≤ time k →
             ∃ y, (t.chan (gchan f c)).banks.getD b none = some y ∧ y.phase = .transfer ∧ y.tag = x.tag ∧ y.pre = x.pre ∧
               y.first = k ∧ y.win = x.win ∧ y.epoch = s.get .AWLD_CTRL_EPOCH f)))) ∧
    (∀ c (b : Fin 4) x, (s.chan (gchan f c)).banks.getD b none = some x → x.phase = .transfer → x.at_ + 16 ≤ s.frc →
      ∃ t, exec (.transferEnd f c b) s = .next t ∧ (t.chan (gchan f c)).banks.getD b none = some { x with phase := .convert })

/-- Conversion and records (R90, R97, R104, R105): a conversion ends with the reference code shown and the records of the bank in wait,
0xFFF for every sample whose cell was written while the comparator was active; a record starts when the head entry of the completion
stage is not complete, and, with a complete one at the head, once it has waited REC_WAIT: its words go through the push port, one per 8 cu,
and its bank is free with the end of its last push. The codes come as operands, and of a wrong number or of another shape they fault, for
no hardware gives them (log entry 134); GAIN_MODE is read at the end of the conversion (log entry 143), and the record that is pushed is
the oldest in wait, its words at the instants that follow (log entry 78). -/
def Obligations.RecordEffect : Prop :=
  ∀ (s : State), s.working = true →
    (∀ (f : DieNo) (c : ChanNo) (b : Fin 4) hg lg ref x, s.diePowered f = true →
      (s.chan (gchan f c)).banks.getD b none = some x → x.phase = .convert → hg.length = x.win → lg.length = x.win →
      emptyOk x.idle hg = true → emptyOk x.idle lg = true →
      x.at_ + 16 + convTime ((ref :: hg ++ lg).map ringCode) ≤ s.frc →
      ∃ t, exec (.conversionEnd f c b hg lg ref) s = .next t ∧
        (t.chan (gchan f c)).banks.getD b none = some { x with phase := .converted } ∧
        t.get .RNGD_RAMP_RAMP_REF f = ringCode ref ∧
        ∃ r ∈ (t.quad (gchan f c / 64)).recs, r.chan = c.val ∧ r.bank = b.val ∧ r.at_ = s.frc ∧ r.waited = false ∧
          r.words = recordsOf (s.get .RNGD_CTRL_GAIN_MODE f) c b x (decide (ringCode ref < 0x7C0) || decide (0x840 < ringCode ref))
            ((overCodes x.satH hg).drop x.first) ((overCodes x.satL lg).drop x.first)) ∧
    (∀ (f : DieNo) (c : ChanNo) (b : Fin 4) hg lg ref x, (s.chan (gchan f c)).banks.getD b none = some x →
      hg.length ≠ x.win ∨ lg.length ≠ x.win ∨ emptyOk x.idle hg = false ∨ emptyOk x.idle lg = false →
      exec (.conversionEnd f c b hg lg ref) s = .fault .illFormed) ∧
    (∀ (n : LaneNo) r rs, s.diePowered (n.val / 4) = true → (s.quad n).recs = r :: rs → s.portFree n = true →
      s.headComplete n = none ∨ r.waited = true ∨ r.at_ + s.recWait (n.val / 4) ≤ s.frc →
      ∃ t, exec (.recordPush n) s = .next t ∧ (t.quad n).recs = rs ∧ (t.quad n).port = s.frc + 8 * r.words.length ∧
        (t.quad n).inq = (s.quad n).inq ++ landings s.frc (s.dieCount (n.val / 4)) 0 0 r.words ∧
        (∀ x, r.bank < 4 → (s.chan (256 * (n.val / 4) + r.chan)).banks.getD r.bank none = some x →
          (s.chan (256 * (n.val / 4) + r.chan)).banks.length = 4 →
          (t.chan (256 * (n.val / 4) + r.chan)).banks.getD r.bank none = some { x with phase := .pushed (s.frc + 8 * r.words.length) })) ∧
    (∀ (n : LaneNo) r rs x, s.diePowered (n.val / 4) = true → (s.quad n).recs = r :: rs → s.headComplete n = some x →
      r.waited = false → s.frc < r.at_ + s.recWait (n.val / 4) → exec (.recordPush n) s = .next s) ∧
    (∀ (n : LaneNo) r rs, s.diePowered (n.val / 4) = true → (s.quad n).recs = r :: rs →
      r.at_ + s.recWait (n.val / 4) ≤ s.frc →
      ∃ t, exec (.recWaitExpire n) s = .next t ∧ (t.quad n).recs = { r with waited := true } :: rs)

/-! ### Strop (13) -/

/-- The chain (R330, R332 to R334): a CIC1 output enters the FIR line; a level that is emitted is shown, ends SETTLING and, when
it is neither stale nor suppressed, counts as fresh; a reset is requested by SYNC, by a write of PRESET, by EN from 0 to 1 and by SYNC_ALL,
and is applied at r0. A level is formed under the preset taken at the last r0 (log entry 21), every write of STP_CTRL requests a reset (log
entry 20), and an output of the modulator brings its 100 bits (log entry 80). -/
def Obligations.StropChainEffect : Prop :=
  ∀ (s : State) (f : DieNo), s.working = true → s.diePowered f = true →
    (∀ c bits, s.dieCount f % 25600 = 0 → (s.chan (gchan f c)).strop.r0 ≠ some (s.dieCount f) →
      (s.chan (gchan f c)).strop.cicAt ≠ some (s.dieCount f) →
      ∃ t, exec (.cic1Output f c bits) s = .next t ∧
        let p := (s.chan (gchan f c)).strop
        let q := (t.chan (gchan f c)).strop
        q.ints = cicBits bits p.ints ∧ q.line = ((combStep (cicBits bits p.ints).2.2 p.combs).1 :: p.line).take 32 ∧
          q.cicAt = some (s.dieCount f)) ∧
    (∀ c, s.flag .STP_CTRL_EN (gchan f c) = true → s.dieCount f % presetPeriod (s.chan (gchan f c)).strop.preset = 0 →
      s.levelValid (gchan f c) (s.dieCount f) = true → (s.die f).firAt = some (s.dieCount f) →
      (s.chan (gchan f c)).strop.levelAt ≠ some (s.dieCount f) →
      ∃ t, exec (.levelEmit f c) s = .next t ∧ t.get .STP_LEVEL_SETTLING (gchan f c) = 0 ∧
        t.get .STP_LEVEL_LEVEL (gchan f c) =
          (if (s.chan (gchan f c)).strop.preset = 0 then (s.chan (gchan f c)).strop.fir else (s.chan (gchan f c)).strop.out2) % 2 ^ 24 ∧
        (s.stropOff (gchan f c) = false → (s.chan (gchan f c)).strop.req = none →
          (t.chan (gchan f c)).strop.freshAt = some s.frc)) ∧
    (∀ c data, Fld.STP_CTRL_SYNC.on data = true →
      ∃ t, exec (.stpSync f c data) s = .next t ∧
        (t.chan (gchan f c)).strop.req = some ((s.chan (gchan f c)).strop.req.getD s.frc)) ∧
    (∀ c data,
      ∃ t, exec (.stpPresetWrite f c data) s = .next t ∧ t.get .STP_CTRL_PRESET (gchan f c) = Fld.STP_CTRL_PRESET.of data ∧
        (t.chan (gchan f c)).strop.req = some ((s.chan (gchan f c)).strop.req.getD s.frc)) ∧
    (∀ c data, Fld.STP_CTRL_EN.on data = true → s.flag .STP_CTRL_EN (gchan f c) = false →
      ∃ t, exec (.stpEnable f c data) s = .next t ∧ t.get .STP_CTRL_EN (gchan f c) = 1 ∧
        (t.chan (gchan f c)).strop.req = some ((s.chan (gchan f c)).strop.req.getD s.frc)) ∧
    (∀ data, Fld.STPD_CTRL_SYNC_ALL.on data = true →
      ∃ t, exec (.syncAll f data) s = .next t ∧ ∀ c : ChanNo, (t.chan (gchan f c)).strop.req.isSome = true) ∧
    (∀ c, s.resetDue (gchan f c) = true →
      ∃ t, exec (.stropResetApply f c) s = .next t ∧ (t.chan (gchan f c)).strop.r0 = some (s.dieCount f) ∧
        (t.chan (gchan f c)).strop.req = none ∧ (t.chan (gchan f c)).strop.levelAt = none ∧
        t.get .STP_LEVEL_SETTLING (gchan f c) = 1 ∧ Bumped s t .STP_CNT_RESETS (gchan f c))

/-- Banks and transport (R339 to R343, Table 13.3): a coefficient of the bank not in use is written, a write to the bank in use sets WERR
and changes nothing; a request for the other bank begins a fade; ambient words go out when no other
control and status word may, and the collector puts them into stream 2. A fade runs over the FADE_LEN that stood when it started, 0 acting as
1 (log entry 81). -/
def Obligations.StropTransportEffect : Prop :=
  ∀ (s : State), s.working = true →
    (∀ (f : DieNo) bankB (n : Fin 32) data, s.diePowered f = true →
      (s.flag .STPD_BANK_FADING f = false → s.flag .STPD_BANK_PEND f = false → s.flag .STPD_BANK_BANK f ≠ bankB →
        ∃ t, exec (.coefWrite f bankB n data) s = .next t ∧
          (if bankB then t.get .STPD_COEF_B_H (32 * f + n) = Fld.STPD_COEF_B_H.of data
            else t.get .STPD_COEF_A_H (32 * f + n) = Fld.STPD_COEF_A_H.of data)) ∧
      (s.flag .STPD_BANK_BANK f = bankB →
        ∃ t, exec (.coefWrite f bankB n data) s = .next t ∧ t.get .STPD_BANK_WERR f = 1 ∧
          ∀ k : Fin 512, t.get .STPD_COEF_A_H k = s.get .STPD_COEF_A_H k ∧ t.get .STPD_COEF_B_H k = s.get .STPD_COEF_B_H k)) ∧
    (∀ (f : DieNo) data, s.diePowered f = true → Fld.STPD_BANK_REQ.on data = true → s.flag .STPD_BANK_FADING f = false →
      Fld.STPD_BANK_REQ_BANK.of data ≠ s.get .STPD_BANK_BANK f →
      ∃ t, exec (.bankRequest f data) s = .next t ∧ t.get .STPD_BANK_BANK f = Fld.STPD_BANK_REQ_BANK.of data ∧
        t.get .STPD_BANK_FADING f = 1 ∧ t.get .STPD_FADE_FADE_POS f = 0 ∧
        (t.die f).fadeLen = max 1 (s.get .STPD_CTRL_FADE_LEN f)) ∧
    (∀ (n : LaneNo) w, s.laneReady n = true → bitOf (s.die (n.val / 4)).alignDue (n.val % 4) = false →
      (s.formPrims n).onlyAmbient n = true → s.ambientSpaced n = true →
      ((s.formPrims n).quad n).cs.find? (fun w => csRank w == 4) = some w →
      ∃ t, exec (.ambientWordSend n) s = .next t ∧ (t.quad n).cs = ((s.formPrims n).quad n).cs.erase w ∧
        (t.quad n).ambAt = some s.frc ∧ t.line = s.line ++ [.lane n false w]) ∧
    (∀ (n : LaneNo) w, fw w 58 6 = 0x35 →
      ∃ t it, exec (.ambientCollect n w) s = .next t ∧ t.packer.items = s.packer.items ++ [(2, [it])] ∧ fw it 60 4 = 2 ∧
        fw it 48 12 = 256 * (n / 4) + fw w 50 8) ∧
    (∀ (n : LaneNo) w, fw w 58 6 = 0x34 → SMap.get (fun _ => none) s.packer.levels (256 * (n / 4) + fw w 50 8) = none →
      s.isUnformed s.nowSlot = false →
      ∃ t it, exec (.ambientCollect n w) s = .next t ∧ t.packer.items = s.packer.items ++ [(2, [it])] ∧ fw it 60 4 = 1 ∧
        SMap.get (fun _ => none) t.packer.levels (256 * (n / 4) + fw w 50 8) = some (fw w 0 24, s.girth.begun))

/-! ### Stirrup (05) -/

/-- The map and its neighbours (R112, R114, R116 to R118, R272): every set bit of a primitive word enters the map with its bin; a side word
in time enters the border cells of an enabled port, a late one is counted with event 410; the evaluation of a bin is remembered; a
write and a read of STR_MAPDATA act on the cell that STR_MAPADDR names and move it on; a side word that is due goes out. Which bin is
evaluated is the model's reading (log entry 42), and so is that border cells of a port which goes down count for earlier bins (log entry
178). -/
def Obligations.TriggerMapEffect : Prop :=
  ∀ (s : State), s.working = true →
    (∀ (n : LaneNo) w, s.joined (n.val / 4) = true → fw w 58 6 = 0x31 → 8 * s.nearBin (fw w 44 13) + 8 + 128 ≤ s.nowCu →
      ∃ t, exec (.primitiveEnter n w) s = .next t ∧
        ∀ i < 32, bitOf (fw w 0 32) i = true →
          (s.nearBin (fw w 44 13), 256 * (n.val / 4) + 64 * (n.val % 4) + 32 * fw w 57 1 + i) ∈ t.stirrup.prims) ∧
    (∀ cib w, s.get (portFld cib) = 2 →
      (8 * s.nearBin (fw w 32 13) + 8 + 256 < s.nowCu →
        ∃ t, exec (.sideWordEnter cib w) s = .next t ∧ Bumped s t .HAR_CNT2_SIDE_LATE ∧ Counted s t 410 ∧
          t.stirrup.borders = s.stirrup.borders) ∧
      (s.nowCu ≤ 8 * s.nearBin (fw w 32 13) + 8 + 256 → s.flag (if cib then .STR_NBR_CIB_EN else .STR_NBR_CIA_EN) = true →
        bitOf (s.get .STR_STAT_NBR_LOST) (b2n cib) = false →
        ∃ t, exec (.sideWordEnter cib w) s = .next t ∧
          t.stirrup.borders.length = s.stirrup.borders.length + (bitsList 32 (fw w 0 32)).length ∧
          ∀ x ∈ t.stirrup.borders.drop s.stirrup.borders.length,
            x.bin = s.nearBin (fw w 32 13) ∧ x.cib = cib ∧ x.side = s.get (if cib then .STR_NBR_CIB_SIDE else .STR_NBR_CIA_SIDE) ∧
              x.stop = none)) ∧
    (272 ≤ s.nowCu → s.stirrup.last.all (fun x => decide (x.1 < s.evalBin)) = true →
      ∃ t, exec .binEvaluate s = .next t ∧ t.stirrup.last = some (s.evalBin, (s.binCondition s.evalBin).1) ∧
        ((s.binCondition s.evalBin).1 = true → s.stirrup.last = some (s.evalBin - 1, false) → 0 < s.evalBin →
          s.stirrup.imgHold = false → bitOf (s.get .STR_CTRL_SRC_EN) 0 = true →
          ∃ x ∈ t.stirrup.trigs, bitOf x.src 0 = true ∧ x.d = s.ruleD (8 * s.evalBin))) ∧
    (∀ data,
      ∃ t, exec (.strMapdataAccess true data) s = .next t ∧
        SMap.get (fun _ => 0) t.stirrup.map (s.get .STR_MAPADDR_ADDR) =
          Fld.STR_MAPDATA_VALID.of data * 2 ^ 15 + Fld.STR_MAPDATA_GCHAN.of data ∧
        t.get .STR_MAPADDR_ADDR = (s.get .STR_MAPADDR_ADDR + s.get .STR_MAPADDR_AINC) % 2 ^ 12) ∧
    (∀ data,
      ∃ t, exec (.strMapdataAccess false data) s = .next t ∧ t.stirrup = s.stirrup ∧
        t.get .STR_MAPDATA_GCHAN = s.mapCell % 2 ^ 12 ∧
        t.get .STR_MAPADDR_ADDR = (s.get .STR_MAPADDR_ADDR + s.get .STR_MAPADDR_AINC) % 2 ^ 12) ∧
    (∀ upb x xs, s.sides upb = x :: xs → x.1 + 136 ≤ s.nowCu →
      ∃ t, exec (.sideSend upb) s = .next t ∧ t.sides upb = xs ∧
        (s.portSends upb = true → s.harness.shaped = true →
          (t.stream upb).prio = (s.stream upb).prio ++ [ctlBlock 0x55 x.2] ∧
            t.line = s.line ++ [.port (b2n upb) (ctlBlock 0x55 x.2) []]) ∧
        (s.portSends upb = false → t.line = s.line ∧ t.harness.streams = s.harness.streams))

/-- Triggers (R120 to R125, R129, R130, R140, R261): TRIG, FORCE and AUTO form triggers of their sources, a TRIG beyond the eight of the
wait list is decided at once; the decision of the first trigger numbers and marks it; freeze commands go out as a pair, and one that the
die acts on too late counts with event 430; a class is stored with WIN, PRE and POST clamped, which CLAMP shows and event 483 reports. That
the mark of a refused TRIG goes with the slot that runs is the model's choice (log entry 196), as are the order of decisions of one D (log
entry 39) and the base of AUTO while A_last is empty (log entry 44). -/
def Obligations.TriggerEffect : Prop :=
  ∀ (s : State), s.working = true →
    (∀ alt tslot toff tfine now, bitOf (s.get .STR_CTRL_SRC_EN) 1 = true →
      (s.waitList < 8 →
        ∃ t, exec (.trig alt tslot toff tfine now) s = .next t ∧ ∃ x ∈ t.stirrup.trigs, bitOf x.src 1 = true) ∧
      (8 ≤ s.waitList → s.stirrup.trigs.all (fun x => !sameTrig
          (if now then 8 * (s.nowCu / 8) else
            unsigned 48 ((s.nowCu / 65536 : Nat) + wrapDiff 32 tslot.toNat (s.nowCu / 65536)) * 65536 + toff.toNat) x.d x) = true →
        ∃ t, exec (.trig alt tslot toff tfine now) s = .next t ∧ Bumped s t .STR_TRIGNO_TRIGNO ∧
          t.stirrup.trigs = s.stirrup.trigs)) ∧
    (∀ data, Fld.STR_CTRL_FORCE.on data = true → bitOf (Fld.STR_CTRL_SRC_EN.of data) 2 = true →
      ∃ t, exec (.strForce data) s = .next t ∧ ∃ x ∈ t.stirrup.trigs, bitOf x.src 2 = true) ∧
    (bitOf (s.get .STR_CTRL_SRC_EN) 3 = true → s.stirrup.autoK < s.autoPeriods →
      ∃ t, exec .autoTrigger s = .next t ∧ t.stirrup.autoK = s.autoPeriods ∧ ∃ x ∈ t.stirrup.trigs, bitOf x.src 3 = true) ∧
    (∀ x, firstTrig s.stirrup.trigs = some x → x.d ≤ s.nowCu →
      ∃ t o cls ctx frozen, exec .triggerDecide s = .next t ∧ t.stirrup.trigs = s.stirrup.trigs.erase x ∧
        Bumped s t .STR_TRIGNO_TRIGNO ∧
        t.packer.items = s.packer.items ++ [(7, trigMark x o cls ctx frozen (s.get .STR_TRIGNO_TRIGNO))]) ∧
    (∀ (f : DieNo) w0 w1 ready g r, SMap.get (fun _ => []) s.harness.frzQ f = (w0, w1, ready, g) :: r → s.retFree f = true →
      ready ≤ s.frc →
      ∃ t, exec (.freezeSend f) s = .next t ∧ t.line = s.line ++ [.ret f w0, .ret f w1] ∧
        SMap.get (fun _ => []) t.harness.frzQ f = r ∧ SMap.get (fun _ => 0) t.harness.retAt f = s.frc + 132 ∧
        (g < s.frc + 122 → Bumped s t .HAR_CNT6_RET_LATE ∧ Counted s t 430)) ∧
    (∀ (k : Fin 4) data,
      let win := max 15 (Fld.STR_CLASS_WINM1.of data)
      let pre := min (Fld.STR_CLASS_PRE.of data) win
      let post := max (win - pre) (min (1008 - pre) (Fld.STR_CLASS_POST.of data))
      let clamped := decide (win ≠ Fld.STR_CLASS_WINM1.of data) || decide (pre ≠ Fld.STR_CLASS_PRE.of data) ||
        decide (post ≠ Fld.STR_CLASS_POST.of data)
      ∃ t, exec (.strClassWrite k data) s = .next t ∧ t.get .STR_CLASS_WINM1 k = win ∧ t.get .STR_CLASS_PRE k = pre ∧
        t.get .STR_CLASS_POST k = post ∧ t.get .STR_CLASS_NWINM1 k = Fld.STR_CLASS_NWINM1.of data ∧
        t.get .STR_CLASS_ROI_MODE k = Fld.STR_CLASS_ROI_MODE.of data ∧
        (∀ j < 4, bitOf (t.get .STR_STAT_CLAMP) j = if j = k.val then clamped else bitOf (s.get .STR_STAT_CLAMP) j) ∧
        (clamped = true → Counted s t 483)) ∧
    (∀ data, Fld.STR_CTRL_FB_CLEAR.on data = true →
      ∃ t, exec (.fbClear data) s = .next t ∧ t.stirrup.fbClear = true)

/-- Records at the Stirrup (R126, R133, R134, R136, R138): once the reader has passed the markers before it, a record header at the head
of an ingress queue leaves it; with a TAG of no busy context the record is dropped, counted and reported; of a busy one it takes from
the pool the descriptors and granules that its segment record still lacks; an open record takes the words behind it as they come, through
its end word, with which it is open no more. A refusal is counted with event 477; a context that times out is released, and free from the
next C160 cycle. A TAG whose window the context does not hold is stale (log entry 147), a record of a die that has left JOINED is expected no
more (log entry 55), and C160 cycles are counted from FRC 0 (log entry 183). -/
def Obligations.SegmentEffect : Prop :=
  ∀ (s : State), s.working = true →
    (∀ (n : LaneNo) u v x, u = (s.ingSettle n).passMarkers n → (u.ing n).opened = [] → u.ingPop n = (v, some x) →
      u.ingHead n = some x.w → wType x.w = 2 → wKind x.w = 0 →
      (v.tagCtx (fw x.w 39 10) = none →
        ∃ t, exec (.recordArrive n) s = .next t ∧ Bumped v t .STR_CNT4_STALE_REC ∧ Counted v t 480 ∧ Bumped v t .ING_CNT_DROPS ∧
          (t.ing n).opened = [] ∧ t.stirrup = v.stirrup) ∧
      (∀ c r size desc gran, v.tagCtx (fw x.w 39 10) = some c → v.joined (n.val / 4) = true →
        (c.trigno, 256 * (n.val / 4) + fw x.w 52 8) ∉ v.stirrup.dropped →
        r = v.segOf c (256 * (n.val / 4) + fw x.w 52 8) →
        size = r.size + recordWords (fw x.w 14 9) + (if r.chain = [] then 2 else 0) →
        desc = ceilDiv size 256 - r.chain.length → gran = ceilDiv size 32 - r.grans.length →
        desc ≤ v.get .STR_POOLDESC_FREE_DESC → gran ≤ v.get .STR_POOLGRAN_FREE_GRAN → v.ingReady n = false →
        ∃ t, exec (.recordArrive n) s = .next t ∧ (t.ing n).opened = [x.w] ∧ (t.ing n).rn = (v.ing n).rn ∧
          t.get .STR_POOLDESC_FREE_DESC = v.get .STR_POOLDESC_FREE_DESC - desc ∧
          t.get .STR_POOLGRAN_FREE_GRAN = v.get .STR_POOLGRAN_FREE_GRAN - gran)) ∧
    (∀ (n : LaneNo) u v x h rest, u = (s.ingSettle n).passMarkers n → (u.ing n).opened = h :: rest → u.ingPop n = (v, some x) → (v.ing n).opened = h :: rest →
      (isEnd x.w = true → ∃ t, exec (.recordArrive n) s = .next t ∧ (t.ing n).opened = [] ∧ (t.ing n).rn = (v.ing n).rn) ∧
      (isEnd x.w = false → v.ingReady n = false →
        ∃ t, exec (.recordArrive n) s = .next t ∧ (t.ing n).opened = h :: rest ++ [x.w] ∧ (t.ing n).rn = (v.ing n).rn)) ∧
    (∀ (n : LaneNo) w, fw w 58 6 = 0x32 →
      ∃ t, exec (.refusalArrive n w) s = .next t ∧ Bumped s t .STR_CNT3_DIE_REFUSED ∧ Counted s t 477) ∧
    (∀ (k : Fin 4) c, s.stirrup.ctxs.getD k none = some c →
      c.since + max 1 (s.get .STR_CTXTO_CTX_TIMEOUT) * 256 ≤ s.frc →
      ∃ t, exec (.ctxTimeout k) s = .next t ∧ t.stirrup.ctxs.getD k none = none ∧
        (s.stirrup.shaped = true → t.stirrup.ctxFree.getD k 0 = s.c160 + 1))

/-! ### Slots, markers and hits (06, 11) -/

/-- SLOT_STROBE (R224, R168, R518): at the first edge at which T reaches the next slot, the slot that T lies in begins, with this FRC as
its σ, recorded with the triple in force; the time marks that waited stand in its stream 7, with σ in the global time that the new triple
gives, and with TV 0 unless TIME_VALID is 1 (R232, R240), PERIOD decides whether a scan is due (R358), and a proof
interval that ends is judged by the settings it had (R395). The measurement of the crystal and what the checkers counted are operands (log
entries 59, 131). -/
def Obligations.SlotStrobeEffect : Prop :=
  ∀ (s : State) (meas : Int) votes dieVotes errs phases, s.alive = true → s.strobeDue = true →
    ∃ t p, exec (.slotStrobe meas votes dieVotes errs phases) s = .next t ∧ t.girth.slot = s.nowFu / 2 ^ 23 ∧
      t.girth.sigma = s.frc ∧ t.girth.marks = [] ∧
      (∀ m ∈ s.girth.marks, ∃ a b, (7, [a, b]) ∈ t.packer.items ∧ fw a 60 4 = 3 ∧ fw a 56 4 = m.kind % 2 ^ 4 ∧
        fw a 36 16 = m.gmid % 2 ^ 16 ∧ fw a 0 32 = (markDelta m.delta).1 % 2 ^ 32 ∧
        fw a 52 1 = (min m.tv (t.get .GIR_STAT_TIME_VALID)) % 2 ∧ fw b 60 4 = 3 ∧
        fw b 7 16 = t.nowFu / 128 % 2 ^ 16 ∧ fw b 0 7 = t.nowFu % 2 ^ 7 ∧ fw b 23 32 = t.nowFu / 2 ^ 23 % 2 ^ 32) ∧
      t.girth.strobes.head? = some p ∧ p.slot = s.nowFu / 2 ^ 23 ∧
      p.sigma = s.frc ∧ p.offset = t.girth.offset ∧ p.rate = t.girth.rate ∧ p.ref = t.girth.ref ∧
      t.harness.frameCnt = [0, 0] ∧ t.stirrup.imgHold = false ∧
      t.tack.scanDue = (t.working && t.get .HK_CTRL_PERIOD != 0 && t.nowSlot % t.get .HK_CTRL_PERIOD == 0) ∧
      t.rosette.intEnd =
        if s.working && s.flag .RSE_CTRL_PROOF_EN && decide (s.nowSlot / s.proofInt < t.nowSlot / s.proofInt) then
          some ((List.range 24).any fun k =>
            s.proofDue (s.nowSlot / s.proofInt * s.proofInt) (s.nowSlot / s.proofInt * s.proofInt + s.proofInt - 1) k)
        else s.rosette.intEnd

/-- Closing a slot (R149, R152, R153, R155, R164, R168 to R170): a marker that comes out of its crossing buffer at a C160 edge enters its
ingress queue with the slot that it opens, brings its die's epoch, and closes the slot when it is the last one awaited; MARKER_WAIT closes
the slot for good at a C160 edge; the gate hands stream 0 to the Skive as one block; a hit word at the head of a queue enters the packer's
slot, unless its ToT is below TOT_MIN and neither CAL nor TRG keeps it, and is converted there: its full local offset k is the one nearest
its arrival with the COARSE of its word, and its global time that of σ + k under the slot's triple. The instant at which a word has crossed
is an operand (log entry 204), the slot of a marker is that of its entry into the crossing buffer, C160 cycles are counted from FRC 0 (log
entry 183), and the latency of the lane is rounded up to whole cu (log entry 45). -/
def Obligations.SlotPackerEffect : Prop :=
  ∀ (s : State), s.working = true →
    (∀ (n : LaneNo) w cross, wType w = 0 → s.diePowered (n.val / 4) = true → s.crossFits n cross = true → (s.ing n).xw = (s.ing n).xr →
      ∃ t, exec (.markerArrive n w cross) s = .next t ∧ fieldOf t.packer.reported (4 * (n.val / 4)) 4 = fw w 40 4 ∧
        ((s.ing n).marks.length < 4 →
          (∃ p, (w, s.slotOpened (s.frc - cross), p) ∈ (t.ing n).marks) ∨
            SMap.get (fun _ => 0) t.packer.laneSlot n = s.slotOpened (s.frc - cross)) ∧
        (∀ o, s.nextClose = some o → s.packer.slots.filter (fun x => x.slot == o.slot) = [o] → o.formed = true →
          (∀ m < 64, bitOf o.dies (m / 4) = true → m ≠ n.val → (o.marker m).isSome = true) → (o.slot, s.frc) ∈ t.skive.closed)) ∧
    (∀ o, s.nextClose = some o → s.frc % 16 = 0 → o.ended.getD 0 + s.get .SP_WAIT_MARKER_WAIT ≤ s.frc →
      ∃ t, exec .markerWaitExpire s = .next t ∧ (∀ x ∈ t.packer.slots, x.slot = o.slot → x.closed.isSome = true) ∧
        (s.packer.slots.filter (fun x => x.slot == o.slot) = [o] → o.formed = true → (o.slot, s.frc) ∈ t.skive.closed)) ∧
    (∀ o, s.packer.slots.find? (fun o => o.closed.isSome) = some o → o.ended.getD 0 + s.get .SP_WAIT_GATE_WAIT ≤ s.frc →
      ∃ t, exec .hitGateEval s = .next t ∧ (∀ x ∈ t.packer.slots, x.slot ≠ o.slot) ∧
        (o.formed = true → ∃ b, t.skive.inbox = s.skive.inbox ++ [(b, ceilDiv s.frc 4 * 4)] ∧ b.stream = 0 ∧ b.slot = o.slot ∧
          b.seq = s.get .SP_SEQ_NEXT_SEQ 0 ∧ b.absent = o.closed.map (·.1) ∧ b.lost = (o.closed.getD (0, 0)).2)) ∧
    (∀ (n : LaneNo) u v x k o, u = (s.ingSettle n).passMarkers n → (u.ing n).opened = [] → u.ingPop n = (v, some x) →
      u.ingHead n = some x.w → x.bad = false → wType x.w = 1 →
      SMap.get (fun _ => 0) u.packer.laneSlot n = k + 1 → v.packer.slots.find? (fun y => y.slot == k && y.closed.isNone) = some o →
      (s.get .SP_CTRL_TOT_MIN ≤ fw x.w 19 12 ∨ fw x.w 11 1 = 1 ∨ fw x.w 17 1 = 1 →
        ∃ t, exec (.slotPackHit n) s = .next t ∧ (t.ing n).rn = (v.ing n).rn ∧
          ∃ y ∈ t.packer.slots, y.slot = k ∧ y.hits = o.hits ++ [⟨n, x.w, s.stampFrc x.birth, none⟩]) ∧
      (fw x.w 19 12 < s.get .SP_CTRL_TOT_MIN → fw x.w 11 1 = 0 → fw x.w 17 1 = 0 →
        ∃ t, exec (.slotPackHit n) s = .next t ∧ (t.ing n).rn = (v.ing n).rn ∧ t.packer = v.packer ∧ Bumped v t .SP_CNT0_ZS_TOT)) ∧
    (∀ (n : LaneNo) o i h, s.packer.slots.find? (fun o => o.hits.any (fun h => h.lane == n.val && h.item.isNone)) = some o →
      o.hits.findIdx? (fun h => h.lane == n.val && h.item.isNone) = some i → o.hits[i]? = some h →
      ∃ t, exec (.hitConvert n) s = .next t ∧ ∃ x ∈ t.packer.slots, x.slot = o.slot ∧ x.hits.length = o.hits.length ∧
        ∃ (w : Word64) (k g : Int), x.hits[i]? = some { h with item := some (w, g) } ∧
          (k - (fw h.w 38 16 : Nat)) % 65536 = 0 ∧
          (let a : Int := (h.at_ : Int) - (s.strobeOf o.slot).sigma - ((s.get .HAR_SHLAT_LAT n + 3) / 4 : Nat)
           k - a < 32768 ∧ a - 32768 ≤ k) ∧
          g = timeFu (s.strobeOf o.slot).offset (s.strobeOf o.slot).rate (s.strobeOf o.slot).ref
            ((((s.strobeOf o.slot).sigma : Int) + k) * 128 + (fw h.w 31 7 : Nat)) ∧
          fw w 62 2 = 1 ∧ fw w 50 12 = 256 * (n.val / 4) + fw h.w 54 8 ∧ (fw w 34 16 : Int) = g / 128 % 65536 ∧
          (fw w 27 7 : Int) = g % 128 ∧ fw w 15 12 = fw h.w 19 12)

/-- A word-clock cycle of a hit-queue reader (R257, R259, R288, R292, R297, R325), of a lane that no control and status word waits for:
the next word that has passed the tests goes out, or with nothing to send an IDLE block; a staged hit goes out, or counts as aged, and its
discard costs no block: the hit behind it may have it; a hit word at R is staged and R moves on; a row with two flipped bits, the only one
in the queue, is passed and handled as an overrun. A command is one such cycle (log entry 175), how long a pointer takes to cross and which
bits have flipped are operands (log entries 63, 99), an item discarded for its age raises the die event of an overrun (log entry 136), and
R does not go back behind the row with two flips (log entry 176). -/
def Obligations.HitQueueReadEffect : Prop :=
  ∀ (s u : State) (n : LaneNo) (delay : Nat) q, s.alive = true → s.diePowered (n.val / 4) = true → 1 ≤ delay → delay ≤ 49 →
    (s.quad n).rdAt ≤ 2 * s.frc + 1 → u = (s.formPrims n).land n → q = u.quad n →
    (∀ flips, ∃ t, exec (.hitQueueRead n delay flips) s = .next t) ∧
    (u.laneReady n = true → q.cs = [] → bitOf (s.die (n.val / 4)).alignDue (n.val % 4) = false → ∀ flips,
      (∀ w r, q.out = w :: r →
        ∃ t l, exec (.hitQueueRead n delay flips) s = .next t ∧ t.line = s.line ++ [.lane n false w] ∧ (t.quad n).out = r ++ l) ∧
      (q.out = [] → q.whole = false →
        ∃ t, exec (.hitQueueRead n delay flips) s = .next t ∧ t.line = s.line ∧ t.wire = (s.wireBlock (64 + n) true idleBlock).wire) ∧
      (∀ w, q.out = [] → q.whole = true → q.stg = [w] → wType w = 1 →
        ((s.qage (n.val / 4) : Int) < wrapDiff 16 (s.dieOff (n.val / 4)) q.stgBirth → q.marks = [] →
          (ptrDiff (q.wCopy s.frc delay) q.rn = 0 →
            ∃ t, exec (.hitQueueRead n delay flips) s = .next t ∧ t.line = s.line ∧ Bumped s t .HQD_CNT_AGED n ∧ (t.quad n).stg = []) ∧
          (∀ x, x = q.row q.rn → s.dieLocked (n.val / 4) = false → q.drain = false → flips = [] →
            ptrDiff (q.wCopy s.frc delay) q.rn ≠ 0 → ptrDiff (q.wCopy s.frc delay) q.rn ≤ 2048 → x.tag = q.rn / 2048 % 4 → wType x.w = 1 →
            wrapDiff 16 (s.dieOff (n.val / 4)) x.birth ≤ s.qage (n.val / 4) →
            ∃ t, exec (.hitQueueRead n delay flips) s = .next t ∧ t.line = s.line ++ [.lane n false x.w] ∧ Bumped s t .HQD_CNT_AGED n)) ∧
        (wrapDiff 16 (s.dieOff (n.val / 4)) q.stgBirth ≤ s.qage (n.val / 4) →
          ∃ t, exec (.hitQueueRead n delay flips) s = .next t ∧ t.line = s.line ++ [.lane n false w]))) ∧
    (q.whole = false → q.marks = [] →
      (q.stg = [] → q.drain = false → ptrDiff (q.wCopy s.frc delay) q.rn ≠ 0 → ptrDiff (q.wCopy s.frc delay) q.rn ≤ 2048 →
        (q.row q.rn).tag = q.rn / 2048 % 4 → wType (q.row q.rn).w = 1 →
        ∃ t, exec (.hitQueueRead n delay []) s = .next t ∧ (t.quad n).rn = q.rn + 1 ∧ (t.quad n).stg = [(q.row q.rn).w] ∧
          (t.quad n).stgBirth = (q.row q.rn).birth ∧ (t.quad n).whole = true) ∧
      (∀ k, 2 ≤ k → q.wCopy s.frc delay = q.rn + 1 →
        ∃ t, exec (.hitQueueRead n delay [k]) s = .next t ∧ (t.quad n).rn = q.rn + 1 ∧ (t.quad n).stg = [] ∧
          Bumped s t .HQD_MEM_UNCORR (n.val / 4) ∧ Bumped s t .HQD_CNTB_RESYNCS n))

/-- Ingress queues and drops (R287 to R290, R295, R296, R300, R302): a hit word that comes out of its crossing buffer enters the ingress
queue, into the Tree block of the row at W, with its tag and the stamp of its entry into the crossing buffer; one that finds the queue full
waits for the next C160 cycle, which costs the oldest unopened item unless a pop has made room; a word whose crossing tag is wrong is counted
as lost; a drop command ends the item that is open, in an ingress queue or in a hit-queue reader. The instant at which a word has crossed is
an operand (log entry 204), C160 cycles are counted from FRC 0 (log entry 183), and the words of an open record move up when an item behind
them goes (log entry 202). -/
def Obligations.QueueEffect : Prop :=
  ∀ (s : State), s.alive = true →
    (∀ (n : LaneNo) w cross, wType w = 1 → (s.ing n).drain = false → (s.ing n).xw = (s.ing n).xr → s.crossFits n cross = true →
      ((s.ing n).extra = none → (s.ing n).isFull = false → s.copying (ingBlock n (s.ing n).wn) = false →
        ∃ t, exec (.ingressPush n w 0 cross) s = .next t ∧ (t.ing n).wn = (s.ing n).wn + 1 ∧ (t.ing n).rn = (s.ing n).rn ∧
          t.ingWord n (s.ing n).wn = w ∧
          (t.ing n).sideAt (s.ing n).wn = ⟨(s.ing n).wn / 4096 % 4, (s.frc - cross) % 65536, s.c160⟩) ∧
      ((s.ing n).extra = none → (s.ing n).isFull = true →
        ∃ t, exec (.ingressPush n w 0 cross) s = .next t ∧ (t.ing n).wn = (s.ing n).wn ∧ (t.ing n).rn = (s.ing n).rn ∧
          (t.ing n).extra = some (w, (s.frc - cross) % 65536, s.c160)) ∧
      (∀ w0 b c, (s.ing n).extra = some (w0, b, c) → c < s.c160 →
        ∃ t, exec (.ingressPush n w 0 cross) s = .next t ∧ Bumped s t .ING_STAT_ING_LOST n)) ∧
    (∀ (n : LaneNo) w cross (flip : Fin 4), wType w ≠ 3 → flip ≠ 0 → (s.ing n).xw = (s.ing n).xr → s.crossFits n cross = true →
      ∃ t, exec (.ingressPush n w flip cross) s = .next t ∧ Bumped s t .ING_CNT_XLOST ∧ (t.ing n).wn = (s.ing n).wn ∧
        (t.ing n).rn = (s.ing n).rn ∧ (t.ing n).marks = (s.ing n).marks) ∧
    (∀ (n : LaneNo), (s.ing n).opened ≠ [] →
      ∃ t, exec (.dropCommand false n) s = .next t ∧ (t.ing n).opened = [] ∧ Bumped s t .ING_CNT_DROPS) ∧
    (∀ (n : LaneNo), s.diePowered (n.val / 4) = true → (s.quad n).stg ≠ [] → (s.quad n).whole = false →
      ∃ t, exec (.dropCommand true n) s = .next t ∧ (t.quad n).stg = [] ∧ (t.quad n).drain = true ∧ Bumped s t .HQD_CNTB_DROPS n)

/-! ### Stitch (07) -/

/-- Cascade ports and groups (R173, R175 to R179, R278): a bad frame is discarded and counted, a whole frame counts for its port and with a
bad HCRC stops at the first check; a sound block of a present slot joins its group; the first slot-end mark of a JOINING port
from E on makes it CONTRIBUTING, a later one completes the port's part of the group; enabling and disabling a port; a group past its
deadline is late; a ready group leaves: behind what waits for the ports already come the late blocks in the order of their arrival, then the
own blocks with the port bits of their absence maps, then those of CIA, then those of CIB, and the slot-end mark last, all of it on each
port that sends, or, unmirrored with two ports, shared (log entry 16). -/
def Obligations.StitchEffect : Prop :=
  ∀ (s : State), s.alive = true →
    (∀ cib fcrcOk ws, s.get (portFld cib) = 2 →
      ∃ t, exec (.ciFrameReceive cib true fcrcOk ws) s = .next t ∧ Bumped s t .HAR_CNT3_CI_FBAD ∧ Counted s t 408 ∧
        t.stitch = s.stitch) ∧
    (∀ cib ws, s.get (portFld cib) = 2 → s.get (ciFld cib) ≠ 0 → s.isUnformed (hdrSlot ws) = false →
      (hcrcOk ws = false →
        ∃ t, exec (.ciFrameReceive cib false true ws) s = .next t ∧ t.stitch = (s.countRx cib).stitch ∧
          Bumped s t .STI_CNT2_CI_HCRC ∧ Counted s t 442) ∧
      (hcrcOk ws = true → hdrModule ws ≠ s.get .ID_MODULE_MODULE → 0 ≤ wrapDiff 48 (hdrSlot ws) s.emit →
        wrapDiff 48 (hdrSlot ws) s.emit ≤ s.mergeDl + 4 → s.flag .STI_CTRL_DEDUP = false → pcrcOk ws = true →
        s.fits (8 * ws.length) = true → s.beforeE cib (hdrSlot ws) = false →
        ∃ t, exec (.ciFrameReceive cib false true ws) s = .next t ∧
          t.stitch.groups = editGroup (hdrSlot ws) (fun g => if cib then { g with cib := g.cib ++ [(s.stitch.taken, ws)] }
              else { g with cia := g.cia ++ [(s.stitch.taken, ws)] })
            s.stitch.groups ∧
          t.stitch.used = s.stitch.used + 8 * ws.length)) ∧
    (∀ cib (slot : BitVec 48) nblk, s.get (portFld cib) = 2 → s.isUnformed slot.toNat = false →
      (s.get (ciFld cib) = 1 → s.emit ≤ slot.toNat →
        ∃ t, exec (.ciSlotEndReceive cib slot nblk) s = .next t ∧ t.get (ciFld cib) = 2 ∧
          (if cib then t.stitch.fromB else t.stitch.fromA) = slot.toNat + 1) ∧
      (s.get (ciFld cib) = 2 → s.beforeE cib slot.toNat = false →
        ∃ t, exec (.ciSlotEndReceive cib slot nblk) s = .next t ∧
          t.stitch.groups = editGroup slot.toNat (fun g => if cib then { g with doneB := true } else { g with doneA := true })
            s.stitch.groups)) ∧
    (∀ cib,
      ∃ t, exec (.ciPortEnable cib) s = .next t ∧ t.get (if cib then .STI_CTRL_CIB_EN else .STI_CTRL_CIA_EN) = 1 ∧
        t.get (ciFld cib) = (if s.get (ciFld cib) = 0 then 1 else s.get (ciFld cib))) ∧
    (∀ cib,
      ∃ t, exec (.ciPortDisable cib) s = .next t ∧ t.get (if cib then .STI_CTRL_CIB_EN else .STI_CTRL_CIA_EN) = 0 ∧
        t.get (ciFld cib) = 0) ∧
    (∃ t, exec .mergeDeadlineExpire s = .next t ∧
      ∀ g ∈ t.stitch.groups, g.formed = true → g.slot + s.mergeDl < s.girth.slot → g.late = true) ∧
    (∀ g, s.ring = false → s.stitch.groups.find? (fun g => g.formed) = some g → g.wait = [] → s.portReady false g = true →
      s.portReady true g = true →
      ∃ t, exec .groupReady s = .next t ∧ (∀ x ∈ t.stitch.groups, x.slot ≠ g.slot) ∧ t.stitch.late = [] ∧
        (let mir := s.groupMode.harness.mirror
         let ports := b2n (s.portAbsent false g) + 2 * b2n (s.portAbsent true g)
         let all := (s.stitch.late.map (·.2.2)).map (reflag false mir) ++
           g.own.map (fun b => ({ (b.complete g.dies ports) with mirror := mir } : Block).words) ++
           (g.cia.map (·.2)).map (reflag false mir) ++ (g.cib.map (·.2)).map (reflag false mir)
         let part (upb : Bool) : List (List Word64) :=
           if mir || !(s.groupMode.portSends false && s.groupMode.portSends true) then all else if upb then (share all 0 0).2 else (share all 0 0).1
         ∀ upb, t.outQ upb =
           if s.groupMode.portSends upb then s.outQ upb ++ (part upb).map (fun w => Outgoing.frame w false false true) ++ [.slotEnd g.slot]
           else s.outQ upb))

/-! ### Harness lanes and Shathen links (10) -/

/-- Receive lanes (R249 to R251, R255, R258, Table 10.2): clock loss, clock return, lock and loss of lock of a receive lane and of a return
lane; slips; enable and disable; bad control blocks, of which a DOWN lane reports none (R252); a step of the equaliser moves EQ_NOW by one
toward the widest of the three eyes and within its bounds, and holds it at EQ_MIN when the bounds are crossed (R256); LOOP of a receive or a
transmit lane is written while the lane is idle, and ignored with WERR otherwise. The idle lanes are those of log entry 14, a lane enabled
without its clock stays DOWN (log entry 31), and the eye widths are operands (log entry 137). -/
def Obligations.LaneEffect : Prop :=
  ∀ (s : State), s.alive = true →
    (∀ n : AnyLane, n.val < 82 →
      (∃ t, exec (.laneClockLoss n) s = .next t ∧
        t.get .HAR_RXL_STAT_STATE n = (if s.get .HAR_RXL_STAT_STATE n = 0 then 0 else 3) ∧
        (s.get .HAR_RXL_STAT_STATE n = 2 → Bumped s t .HAR_RXL_CNT_LOCK_LOSS n)) ∧
      (∃ t, exec (.laneClockReturn n) s = .next t ∧
        t.get .HAR_RXL_STAT_STATE n = (if s.get .HAR_RXL_STAT_STATE n = 3 then 1 else s.get .HAR_RXL_STAT_STATE n)) ∧
      (∃ t, exec (.laneLock n) s = .next t ∧
        t.get .HAR_RXL_STAT_STATE n = (if s.get .HAR_RXL_STAT_STATE n = 1 then 2 else s.get .HAR_RXL_STAT_STATE n)) ∧
      (∃ t, exec (.laneLockLoss n) s = .next t ∧
        t.get .HAR_RXL_STAT_STATE n = (if s.get .HAR_RXL_STAT_STATE n = 2 then 1 else s.get .HAR_RXL_STAT_STATE n) ∧
        (s.get .HAR_RXL_STAT_STATE n = 2 → Bumped s t .HAR_RXL_CNT_LOCK_LOSS n))) ∧
    (∀ n : AnyLane, 82 ≤ n.val → s.diePowered (n.val - 82) = true →
      (∃ t, exec (.laneClockLoss n) s = .next t ∧ t.get .SHL_STAT_CLK_OK (n.val - 82) = 0 ∧
        t.get .SHL_STAT_RET_STATE (n.val - 82) = (if s.get .SHL_STAT_RET_STATE (n.val - 82) = 0 then 0 else 3)) ∧
      (∃ t, exec (.laneClockReturn n) s = .next t ∧ t.get .SHL_STAT_CLK_OK (n.val - 82) = 1) ∧
      (s.get .SHL_STAT_RET_STATE (n.val - 82) = 1 →
        ∃ t, exec (.laneLock n) s = .next t ∧ t.get .SHL_STAT_RET_STATE (n.val - 82) = 2) ∧
      (s.get .SHL_STAT_RET_STATE (n.val - 82) = 2 →
        ∃ t, exec (.laneLockLoss n) s = .next t ∧ t.get .SHL_STAT_RET_STATE (n.val - 82) = 1 ∧
          Bumped s t .SHL_CNT_RET_LOCK_LOSS (n.val - 82))) ∧
    (∀ n : RxLane,
      (s.get .HAR_RXL_STAT_STATE n = 1 → s.flag .HAR_RXL_STAT_SLIP_REQ n = false →
        ∃ t, exec (.slipRequest n) s = .next t ∧ t.get .HAR_RXL_STAT_SLIP_REQ n = 1 ∧ Counted s t 428) ∧
      (s.get .HAR_RXL_STAT_STATE n = 1 →
        ∃ t, exec (.slip n) s = .next t ∧ t.get .HAR_RXL_STAT_SLIP_REQ n = 0 ∧
          (s.get .HAR_RXL_STAT_SLIPS n < 65 → Bumped s t .HAR_RXL_STAT_SLIPS n) ∧
          (s.get .HAR_RXL_STAT_SLIPS n = 65 → t.get .HAR_RXL_STAT_SLIPS n = 0 ∧ Counted s t 429)) ∧
      (∃ t, exec (.laneEnable n) s = .next t ∧ t.get .HAR_RXL_CTRL_LANE_EN n = 1 ∧
        (s.get .HAR_RXL_STAT_STATE n = 0 → s.clockOk n = true →
          t.get .HAR_RXL_STAT_STATE n = 1 ∧ t.get .HAR_RXL_STAT_SLIPS n = 0 ∧
            t.get .HAR_RXL_STAT_EQ_NOW n = s.get .HAR_RXL_CTRL_EQ_INIT n % 2 ^ Fld.HAR_RXL_STAT_EQ_NOW.w)) ∧
      (∃ t, exec (.laneDisable n) s = .next t ∧ t.get .HAR_RXL_CTRL_LANE_EN n = 0 ∧ t.get .HAR_RXL_STAT_STATE n = 0 ∧
        (s.get .HAR_RXL_STAT_STATE n = 2 → Counted s t 435)) ∧
      (s.get .HAR_RXL_STAT_STATE n ≠ 0 →
        (∃ t, exec (.badControlBlock n true) s = .next t ∧ Bumped s t .HAR_CNT4_ITEM_CRC ∧ Counted s t 409) ∧
        (∃ t, exec (.badControlBlock n false) s = .next t ∧ Bumped s t .HAR_RXL_CNT_BAD_HDR n)) ∧
      (∀ chkFail, s.get .HAR_RXL_STAT_STATE n = 0 → exec (.badControlBlock n chkFail) s = .next s) ∧
      (∀ below now above, s.flag .HAR_RXL_CTRL_ADAPT_EN n = true → s.get .HAR_RXL_STAT_STATE n = 2 → s.eqDue n = true →
        ∃ t, exec (.eqAdapt n below now above) s = .next t ∧ t.get .HAR_RXL_STAT_EYE n = now % 2 ^ Fld.HAR_RXL_STAT_EYE.w ∧
          (let lo := s.get .HAR_RXL_CTRL_EQ_MIN n
           let hi := s.get .HAR_RXL_CTRL_EQ_MAX n
           let eq := s.get .HAR_RXL_STAT_EQ_NOW n
           (lo ≤ hi → below ≤ now → above ≤ now → t.get .HAR_RXL_STAT_EQ_NOW n = max lo (min hi eq)) ∧
           (lo ≤ hi → now < above → below < above → t.get .HAR_RXL_STAT_EQ_NOW n = max lo (min hi (eq + 1))) ∧
           (lo ≤ hi → now < below → above < below → t.get .HAR_RXL_STAT_EQ_NOW n = max lo (min hi (eq - 1))) ∧
           (hi < lo → t.get .HAR_RXL_STAT_EQ_NOW n = lo))) ∧
      (∀ data, n.val < 33 → Fld.HAR_TXL_CTRL_LOOP.of data ≠ s.get .HAR_TXL_CTRL_LOOP n →
        ∃ t, exec (.loopWrite true n data) s = .next t ∧
          (if s.txIdle n then t.get .HAR_TXL_CTRL_LOOP n = Fld.HAR_TXL_CTRL_LOOP.of data
            else t.get .HAR_TXL_CTRL_LOOP n = s.get .HAR_TXL_CTRL_LOOP n ∧ t.get .HAR_TXL_CTRL_WERR n = 1)) ∧
      (∀ data, Fld.HAR_RXL_CTRL_LOOP.of data ≠ s.get .HAR_RXL_CTRL_LOOP n →
        ∃ t, exec (.loopWrite false n data) s = .next t ∧
          (if s.rxIdle n then t.get .HAR_RXL_CTRL_LOOP n = Fld.HAR_RXL_CTRL_LOOP.of data ∧
              t.get .HAR_RXL_CTRL_PRBS_EN n = Fld.HAR_RXL_CTRL_PRBS_EN.of data
            else t.get .HAR_RXL_CTRL_LOOP n = s.get .HAR_RXL_CTRL_LOOP n ∧ t.get .HAR_RXL_CTRL_WERR n = 1)))

/-- Ports (R119, R253, R254, Table 07.3): an ALIGN row whose lanes agree and follow the last is taken; a port that is not UP aligns on a
row whose lanes agree within 48 cu, and a larger skew raises event 404; a port that has aligned and comes UP raises its event, and a LOST cascade port joins again; a port that goes down raises its event, its cascade port becomes LOST and its border
cells become inactive. The counts of a row are operands, and a row that does not name eight lanes faults, for no hardware gives it (log
entry 134); a LOST cascade port joins again when its port is UP (log entry 149); border cells stay for the bins before the present one (log
entry 178). -/
def Obligations.PortEffect : Prop :=
  ∀ (s : State), s.alive = true →
    (∀ cib c skew, c < 2 ^ 32 → s.get (portFld cib) = 2 → s.harness.acount.length = 2 →
      (s.harness.acount.getD (b2n cib) none).all (fun a => decide (wrapDiff 32 c a = 1)) = true →
      ∃ t, exec (.alignReceive cib (List.replicate 8 c) skew) s = .next t ∧ t.get (portFld cib) = 2 ∧
        t.harness.acount.getD (b2n cib) none = some c) ∧
    (∀ cib c skew, c < 2 ^ 32 → s.get (portFld cib) ≠ 2 → s.harness.acount.length = 2 →
      (skew ≤ 48 → s.portLocked cib = true →
        ∃ t, exec (.alignReceive cib (List.replicate 8 c) skew) s = .next t ∧ t.get (portFld cib) = 1 ∧
          t.harness.acount.getD (b2n cib) none = some c) ∧
      (48 < skew →
        ∃ t, exec (.alignReceive cib (List.replicate 8 c) skew) s = .next t ∧ Counted s t 404 ∧
          t.harness.acount.getD (b2n cib) none = none)) ∧
    (∀ cib counts skew, counts.length ≠ 8 → exec (.alignReceive cib counts skew) s = .fault .illFormed) ∧
    (∀ cib (acount : BitVec 32), s.portLocked cib = true → s.get (portFld cib) = 1 →
      s.harness.acount.getD (b2n cib) none = some acount.toNat →
      ∃ t, exec (.portUp cib acount) s = .next t ∧ t.get (portFld cib) = 2 ∧ Counted s t (402 + b2n cib) ∧
        t.get (ciFld cib) = (if s.get (ciFld cib) = 3 then 1 else s.get (ciFld cib))) ∧
    (∀ cib align, s.get (portFld cib) = 2 →
      ∃ t, exec (.portDown cib align) s = .next t ∧ t.get (portFld cib) = b2n (s.portLocked cib) ∧ Counted s t (400 + b2n cib) ∧
        Counted s t (481 + b2n cib) ∧ (∀ x ∈ t.stirrup.borders, x.cib = cib → x.stop.isSome = true) ∧
        (s.get (ciFld cib) = 1 ∨ s.get (ciFld cib) = 2 → t.get (ciFld cib) = 3))

/-- The Shathen links (R254, R259 to R263): the first control and status word that may go, and the slot's ALIGN block, go
out on their lane; the Saddle forms the
latency of a lane, which is measured then (R22), and a jump on a JOINED die takes it out of the slot; a lost link does the same; a TSET that
has come over the return lane sets the die's count; an undefined OP is a bad word. A jump takes the die out of the slot and not out of JOINED
(log entry 68), the event of a lost link names the lane that left LOCKED first (log entry 56), and a word spells a block that is on its way
to the die (log entry 207). -/
def Obligations.LinkEffect : Prop :=
  ∀ (s : State), s.working = true →
    (∀ (n : LaneNo) w, s.laneReady n = true → ((s.formPrims n).quad n).cs.find? (csMay (s.dieLocked (n.val / 4))) = some w →
      csRank w = 0 ∨ bitOf (s.die (n.val / 4)).alignDue (n.val % 4) = false →
      ∃ t, exec (.csWordSend n) s = .next t ∧ (t.quad n).cs = ((s.formPrims n).quad n).cs.erase w ∧
        t.line = s.line ++ [.lane n false w]) ∧
    (∀ (n : LaneNo) half, s.laneReady n = true → (s.quad n).laneAt ≤ 2 * s.frc + b2n half → bitOf (s.die (n.val / 4)).alignDue (n.val % 4) = true →
      ((s.formPrims n).quad n).cs.all (fun w => csRank w != 0) = true →
      ∃ t, exec (.shathenAlignSend n half) s = .next t ∧ bitOf (t.die (n.val / 4)).alignDue (n.val % 4) = false ∧
        t.line = s.line ++ [.lane n true (shathenAlign (s.dieCount (n.val / 4) / 65536) (2 * s.dieOff (n.val / 4) + b2n half))]) ∧
    (∀ (n : LaneNo) w stamp, s.get .HAR_RXL_STAT_STATE n = 2 → fw w 56 8 = 0x22 → chkOk w = true →
      (s.joined (n.val / 4) = false → 0 ≤ latencyOf w stamp → latencyOf w stamp < 1024 →
        ∃ t, exec (.shathenAlignReceive n w stamp) s = .next t ∧ (t.get .HAR_SHLAT_LAT n : Int) = latencyOf w stamp ∧
          bitOf t.harness.unmeasured n = false) ∧
      (s.joined (n.val / 4) = true → 160 < latencyOf w stamp →
        ∃ t, exec (.shathenAlignReceive n w stamp) s = .next t ∧ Counted s t 397 ∧
          ∀ o ∈ t.packer.slots, o.ended = none → bitOf o.gone (n.val / 4) = true)) ∧
    (∀ (f : DieNo) n, s.lostLane f = some n →
      ∃ t, exec (.shathenLinkLost f) s = .next t ∧ Counted s t 396 ∧ t.lostLane f = none ∧
        ∀ o ∈ t.packer.slots, o.ended = none → bitOf o.gone f = true) ∧
    (∀ (f : DieNo) w, s.diePowered f = true → fw w 60 4 = 3 → s.retDue f (· == w) = true →
      ∃ t, exec (.tset f w) s = .next t ∧ t.dieCount f = fw w 12 32 * 65536 + fw w 44 16 + 90 ∧
        t.get .SHL_STAT_TSET_DONE f = 1) ∧
    (∀ (f : DieNo) w, s.diePowered f = true → fw w 60 4 = 0 ∨ 5 < fw w 60 4 → s.retDue f (fun _ => true) = true → (s.die f).frz0 = none →
      ∃ t, exec (.returnOpUndefined f w) s = .next t ∧ Bumped s t .SHL_CNT_RET_BADWORD f)

/-- Frames and messages (R175, R268, R269, R271, R275 to R277, R280, R459, R460, R463): the ALIGN rows go out on every port that sends, and
so does a frame on which all builders agree, the first frame taking START to RUN; of the three CRC values the one with two votes is FCRC, the
minority counts with its event, FBAD goes out when the driving builder is in the minority or no two values agree, and a frame with FBAD is
sent once more, on its own port in split mode, on both ports in mirrored mode after a vote without a majority; a driving builder in the
minority for the fourth time in a row has failed: its port stops, and in split mode the frame is sent again on the other port. A slot-end
mark carries the count of blocks; a write of HAR_CTRL restarts a failed builder at the next group and stores MIRROR; discarded messages are
counted; die event words and raised sources reach the matrix; EVENT_N is released. The CRC values are operands (log entry 137), and a frame
that moves to the other port counts there (log entry 18). -/
def Obligations.FrameEffect : Prop :=
  ∀ (s : State), s.working = true →
    (s.frc % 24576 = 0 →
      ∃ t, exec .alignRowSend s = .next t ∧
        (let due (upb : Bool) : Bool := s.portSends upb && !s.rowDone upb
         t.line = s.line ++ (if due false then [.alignRow 0 (s.frc / 24576 % 2 ^ 32)] else []) ++
           (if due true then [.alignRow 1 (s.frc / 24576 % 2 ^ 32)] else []) ∧
         t.wire.sent.length = s.wire.sent.length + 8 * (b2n (due false) + b2n (due true)))) ∧
    (∀ upb ws own counts q (crc : BitVec 32), s.portSends upb = true → s.streamFree upb = true →
      s.outQ upb = .frame ws own false counts :: q →
      ∃ t, exec (.frameSend upb crc crc crc) s = .next t ∧ t.mode = .run ∧ t.outQ upb = q ∧
        t.line = s.line ++ [.port (b2n upb) (fsBlock ws.length) ws, .port (b2n upb) (feBlock false crc.toNat) []] ∧
        (s.harness.shaped = true → (t.stream upb).fifo =
          (s.stream upb).fifo ++ (true, fsBlock ws.length) :: ws.map (fun w => (false, w)) ++ [(true, feBlock false crc.toNat)])) ∧
    (∀ upb ws own counts q (drv other wit : BitVec 32), s.portSends upb = true → s.streamFree upb = true →
      s.outQ upb = .frame ws own false counts :: q → s.flag .HAR_STAT_WIT_FAIL = false → s.harness.minor.length = 3 →
      (s.harness.minor.all (fun k => decide (k < 3)) = true →
        (drv = other → drv ≠ wit →
          ∃ t, exec (.frameSend upb drv other wit) s = .next t ∧ t.outQ upb = q ∧ Bumped s t .HAR_CNT1_DIS_W ∧ Counted s t 413 ∧
            t.line = s.line ++ [.port (b2n upb) (fsBlock ws.length) ws, .port (b2n upb) (feBlock false drv.toNat) []]) ∧
        (drv ≠ other → drv = wit →
          ∃ t, exec (.frameSend upb drv other wit) s = .next t ∧ t.outQ upb = q ∧
            Bumped s t (if upb then .HAR_CNT0_DIS_A else .HAR_CNT0_DIS_B) ∧ Counted s t (if upb then 411 else 412) ∧
            t.line = s.line ++ [.port (b2n upb) (fsBlock ws.length) ws, .port (b2n upb) (feBlock false drv.toNat) []]) ∧
        (drv ≠ other → other = wit →
          ∃ t, exec (.frameSend upb drv other wit) s = .next t ∧
            Bumped s t (if upb then .HAR_CNT0_DIS_B else .HAR_CNT0_DIS_A) ∧ Counted s t (if upb then 412 else 411) ∧
            t.line = s.line ++ [.port (b2n upb) (fsBlock ws.length) ws, .port (b2n upb) (feBlock true other.toNat) []] ∧
            (s.harness.mirror = false → t.outQ upb = .frame ws own true false :: q ∧ Bumped s t .HAR_CNT2_REPLAYS ∧ Counted s t 417) ∧
            (s.harness.mirror = true → t.outQ upb = q)) ∧
        (drv ≠ other → drv ≠ wit → other ≠ wit →
          ∃ t c, exec (.frameSend upb drv other wit) s = .next t ∧ Bumped s t .HAR_CNT1_VOTE_NONE ∧ Counted s t 416 ∧
            t.line = s.line ++ [.port (b2n upb) (fsBlock ws.length) ws, .port (b2n upb) (feBlock true c) []] ∧
            t.outQ upb = .frame ws own true false :: q ∧ Bumped s t .HAR_CNT2_REPLAYS ∧ Counted s t 417 ∧
            t.outQ (!upb) = if s.harness.mirror then .frame ws own true false :: s.outQ !upb else s.outQ !upb)) ∧
      (s.harness.minor.getD (b2n upb) 0 = 3 → s.harness.mirror = false → drv ≠ other → other = wit →
        ∃ t, exec (.frameSend upb drv other wit) s = .next t ∧ t.get (bldFail upb) = 1 ∧ Counted s t (414 + b2n upb) ∧
          t.get .HAR_STAT_DEGRADED = 1 ∧ t.portSends upb = false ∧ t.outQ upb = [] ∧
          (t.outQ !upb).head? = some (.frame ws own true true) ∧ Bumped s t .HAR_CNT2_REPLAYS ∧ Counted s t 417)) ∧
    (∀ upb slot q (crc : BitVec 32), s.portSends upb = true → s.streamFree upb = true → s.outQ upb = .slotEnd slot :: q →
      ∃ t, exec (.frameSend upb crc crc crc) s = .next t ∧ t.outQ upb = q ∧
        (let p := seWords slot (if upb then s.harness.sentB else s.harness.sentA)
         t.line = s.line ++ [.port (b2n upb) p.1 [p.2]]) ∧
        (if upb then t.harness.sentB else t.harness.sentA) = 0) ∧
    (∀ upb data, (if upb then Fld.HAR_CTRL_BLD_B_RESTART else Fld.HAR_CTRL_BLD_A_RESTART).on data = true → s.flag (bldFail upb) = true →
      s.harness.resume.length = 2 →
      ∃ t, exec (.builderRestart data) s = .next t ∧ t.harness.resume.getD (b2n upb) false = true ∧
        t.groupMode.flag (bldFail upb) = false) ∧
    (∀ data,
      ∃ t, exec (.mirrorWrite data) s = .next t ∧ t.get .HAR_CTRL_MIRROR = Fld.HAR_CTRL_MIRROR.of data ∧
        t.harness.mirror = s.harness.mirror) ∧
    (∀ alt blocks,
      (∃ t, exec (.tmiMessageDiscard alt .mcrc blocks) s = .next t ∧ Bumped s t .HAR_CNT4_TMI_MCRC ∧ Counted s t 422) ∧
      (∃ t, exec (.tmiMessageDiscard alt .bad blocks) s = .next t ∧ Bumped s t .HAR_CNT5_TMI_BAD ∧ Counted s t 423) ∧
      (∃ t, exec (.tmiMessageDiscard alt .unlocked blocks) s = .next t ∧ Bumped s t .HAR_CNT5_TMI_BAD)) ∧
    (∀ (n : LaneNo) w, fw w 58 6 = 0x37 → fw w 53 5 < 24 →
      ∃ t, exec (.dieEventWord n w) s = .next t ∧ Counted s t (24 * (n.val / 4) + fw w 53 5)) ∧
    (∀ (id : Fin 544) data, id.val ≠ 543 → id.val ≠ 532 → id.val ≠ 516 →
      ∃ t, exec (.eventRaise id data) s = .next t ∧ Counted s t id) ∧
    (∀ e, s.matrix.hold = some e → e ≤ s.frc → s.pinWanted = false →
      ∃ t, exec .eventNHoldEnd s = .next t ∧ t.get .EVM_STAT_EVENT_N = 0 ∧ t.matrix.hold = none)

/-! ### Skive and Tree (08, 12) -/

/-- Blocks through the Skive (R189, R200, R201, R207, R210, R215, Table 08.5): a block enters and is split over the engines in service,
or takes the stored path. A part that inflates to its own bytes from a sound history ends its engine's run of failures and leaves the failure
record alone; any other records its engine and fault and lengthens the run, which at the limit takes the engine out of service with event
456 + e. With the last part of a block the block leaves: compressed, stored where that is no shorter, or stored with VCLASS 0b01 and event 452
when a part failed. A stored block leaves; a slot that still has blocks 65,536 cu after its close is a backlog. The tokens, the header and an
upset of a part are operands (log entries 61, 62); a block of MODE 0b00 takes the stored path without a failure (log entry 52). -/
def Obligations.SkiveEffect : Prop :=
  ∀ (s : State), s.working = true →
    (∀ b x0 r, s.skive.inbox = (b, x0) :: r → x0 ≤ s.frc → b.payload ≠ [] → (s.skvMode b.stream = 0 ∨ s.engines = []) →
      ∃ t, exec .blockEnterSkive s = .next t ∧ t.skive.inbox = r ∧ t.skive.blocks = s.skive.blocks ∧ t.skive.parts = s.skive.parts ∧
        ∃ x, t.skive.stored = s.skive.stored ++ [x] ∧ x.1.slot = b.slot ∧ x.1.stream = b.stream ∧ x.1.seq = b.seq ∧
          x.1.payload = s.precode b.stream false b.payload ∧ x.1.ulen = x.1.payload.length ∧ x0 ≤ x.2) ∧
    (∀ b x0 r, s.skive.inbox = (b, x0) :: r → x0 ≤ s.frc → b.payload ≠ [] → s.skvMode b.stream ≠ 0 → s.engines ≠ [] →
      ∃ t, exec .blockEnterSkive s = .next t ∧ t.skive.inbox = r ∧ t.skive.stored = s.skive.stored ∧
        (let w := (s.precode b.stream false b.payload).length / 8
         let n := min s.engines.length (max 1 (ceilDiv w 512))
         t.skive.parts.length = s.skive.parts.length + n ∧
         ∃ k, t.skive.blocks = s.skive.blocks ++ [k] ∧ k.parts = n ∧ k.kind = s.skvMode b.stream ∧ k.out = [] ∧ k.blk.slot = b.slot ∧
           k.blk.stream = b.stream)) ∧
    (∀ (e : Fin 16) tokens lens flip p, s.skive.parts.find? (fun p => p.engine == e.val) = some p → p.done ≤ s.frc →
      tokensFit p.chain p.bytes tokens 0 false = true → headerFits (s.partStats p) lens = true → s.skive.shaped = true →
      (let out := flipByte (encodePart (s.partStats p) lens tokens p.bytes p.last).1 flip
       let r := inflate true false p.bytes.length out
       let bad := decide (r.2.1 ≠ 0) || decide (r.1 ≠ p.bytes) || p.hist
       let n := if bad then s.skive.fails.getD e 0 + 1 else 0
       ∃ t, exec (.partVerifyDone e tokens lens flip) s = .next t ∧ t.skive.parts = s.skive.parts.erase p ∧
         t.skive.fails.getD e 0 = n ∧
         t.get .SKV_VFAIL_LAST_ENG = (if bad then e.val else s.get .SKV_VFAIL_LAST_ENG) ∧
         t.get .SKV_VFAIL_LAST_FAULT = (if bad then r.2.1 % 2 ^ Fld.SKV_VFAIL_LAST_FAULT.w else s.get .SKV_VFAIL_LAST_FAULT) ∧
         (p.limit ≠ 0 → p.limit ≤ n → bitOf (s.get .SKV_STAT_ENG_OUT) e = false →
           t.get .SKV_STAT_ENG_OUT = withBit (s.get .SKV_STAT_ENG_OUT) e true ∧ Counted s t (456 + e.val)) ∧
         (p.limit = 0 ∨ n < p.limit → t.get .SKV_STAT_ENG_OUT = s.get .SKV_STAT_ENG_OUT) ∧
         ∀ k, s.skive.blocks.find? (fun x => x.blk.slot == p.slot && x.blk.stream == p.stream) = some k →
           (k.out.length + 1 ≠ k.parts → t.get .SKV_VFAIL_VERIFY_FAIL = s.get .SKV_VFAIL_VERIFY_FAIL ∧ t.stitch = s.stitch) ∧
           (k.out.length + 1 = k.parts →
             (∀ x ∈ t.skive.blocks, ¬(x.blk.slot = k.blk.slot ∧ x.blk.stream = k.blk.stream)) ∧
             ∃ (u : State) (b : Block), t = u.placeOwn b ∧ u.stitch = s.stitch ∧ b.slot = k.blk.slot ∧ b.stream = k.blk.stream ∧ b.seq = k.blk.seq ∧
               (let coded := (List.range k.parts).flatMap fun i =>
                  (((k.out ++ [(p.index, out)]).find? (fun x => x.1 == i)).map (fun x => x.2)).getD []
                if (k.failed || bad) = true then
                  b.kind = k.blk.kind ∧ b.payload = k.blk.payload ∧ b.vclass = (if k.blk.vclass = 0 then 1 else k.blk.vclass) ∧
                    Bumped s t .SKV_VFAIL_VERIFY_FAIL ∧ t.get .SKV_VFAIL_LAST_STREAM = k.blk.stream % 2 ^ Fld.SKV_VFAIL_LAST_STREAM.w ∧
                    Counted s t 452
                else t.get .SKV_VFAIL_VERIFY_FAIL = s.get .SKV_VFAIL_VERIFY_FAIL ∧
                  if k.blk.ulen ≤ coded.length then b = k.blk else b = { k.blk with kind := k.kind, payload := coded })))) ∧
    (∀ b x r, s.skive.stored = (b, x) :: r → x ≤ s.frc →
      ∃ t, exec .storedPathLeave s = .next t ∧ t.skive.stored = r ∧
        t.get .SKV_OUT_LO_OUT_LO + t.get .SKV_OUT_HI_OUT_HI * 2 ^ 32 =
          (s.get .SKV_OUT_LO_OUT_LO + s.get .SKV_OUT_HI_OUT_HI * 2 ^ 32 + b.payload.length) % 2 ^ 64) ∧
    (∀ n x r, s.skive.closed = (n, x) :: r → x + 65536 ≤ s.frc →
      ∃ t, exec .backlogCheck s = .next t ∧ t.skive.closed = r ∧
        (if s.inSkive n then Bumped s t .SKV_CNT2_BACKLOG ∧ Counted s t 455 else t.regs = s.regs))

/-- Skive registers (R210, R212, R213): an engine returned by SKV_STAT, or whose ENG_EN bit rises, starts with no statistics: those of
parts that began before this instant count for none that begins from now on; an inspection run inflates INLEN bytes of the Tree and
reports fault, length and CRC. -/
def Obligations.SkiveRegisterEffect : Prop :=
  ∀ (s : State), s.alive = true →
    (∀ data,
      ∃ t, exec (.engineReturn data) s = .next t ∧ ∀ e, e < 16 →
        bitOf (t.get .SKV_STAT_ENG_OUT) e = (bitOf (s.get .SKV_STAT_ENG_OUT) e && !bitOf (Fld.SKV_STAT_ENG_OUT.of data) e) ∧
        (bitOf (Fld.SKV_STAT_ENG_OUT.of data) e = true → bitOf (s.get .SKV_STAT_ENG_OUT) e = true → s.skive.shaped = true →
          t.skive.returned.getD e 0 = s.frc ∧ t.skive.fails.getD e 0 = 0 ∧
            ∀ p ∈ t.skive.parts, p.engine = e → s.frc ≤ p.start → p.since = s.frc)) ∧
    (∀ data,
      ∃ t, exec (.engineEnableWrite data) s = .next t ∧ t.get .SKV_CTRL_ENG_EN = Fld.SKV_CTRL_ENG_EN.of data ∧
        t.get .SKV_CTRL_VFAIL_LIMIT = Fld.SKV_CTRL_VFAIL_LIMIT.of data ∧
        ∀ e, e < 16 → bitOf (Fld.SKV_CTRL_ENG_EN.of data) e = true → bitOf (s.get .SKV_CTRL_ENG_EN) e = false → s.skive.shaped = true →
          t.skive.returned.getD e 0 = s.frc ∧ ∀ p ∈ t.skive.parts, p.engine = e → s.frc ≤ p.start → p.since = s.frc) ∧
    (∀ data, Fld.SKV_INSP_CTRL_GO.on data = true →
      ∃ t, exec (.inspGo data) s = .next t ∧ t.get .SKV_INSP_CTRL_BUSY = 1 ∧
        (Fld.SKV_INSP_CTRL_DONE.on data = true → t.get .SKV_INSP_CTRL_DONE = 0)) ∧
    (s.flag .SKV_INSP_CTRL_BUSY = true →
      ∃ t, exec .inspDone s = .next t ∧
        (let r := inflate false false (s.get .SKV_INSP_OUTMAX_OUTMAX)
           (s.treeBytesAt (8 * s.get .SKV_INSP_SRC_SRC) (s.get .SKV_INSP_INLEN_INLEN))
         t.get .SKV_INSP_CTRL_BUSY = 0 ∧ t.get .SKV_INSP_CTRL_DONE = 1 ∧
         t.get .SKV_INSP_CTRL_FAULT = r.2.1 % 2 ^ Fld.SKV_INSP_CTRL_FAULT.w ∧
         t.get .SKV_INSP_RES_OUTLEN = r.1.length % 2 ^ Fld.SKV_INSP_RES_OUTLEN.w ∧
         t.get .SKV_INSP_OCRC_OCRC = crc32c r.1 % 2 ^ 32 ∧
         (r.2.1 ≠ 0 → Counted s t 454 ∧ Bumped s t .SKV_CNT1_INSP_FAULT)))

/-- Reads and writes of the Tree (R28, R306 to R310, R314 to R316, R323, Tables 12.2 and 12.4), that come in the order of their ranks, over
the block as its flipped bits leave it, where the map block that covers it is clean: a clean block is left alone, a correctable one
is mended, an uncorrectable one is poisoned with event 485; a full write makes every parity current; a byte write makes the column
parity stale, and none goes into the map. An access to a row that is being copied waits. Flips and the rank are operands (log entries 63, 65,
185). -/
def Obligations.TreeEffect : Prop :=
  ∀ (s : State) (rank : Fin 6) (b : Fin 4194304), s.alive = true → s.inOrder rank = true →
    (s.copying b = false →
      (∀ flips mapFlips use,
        let u := (s.strike b flips).strike (staleAt b).1 mapFlips
        (u.block (staleAt b).1).classify = .clean → u.stale b = false → b.val < mapStart →
        ((u.block b).classify = .clean → exec (.treeRead b flips mapFlips use rank) s =
          .next (u.treeMark rank)) ∧
        (∀ x, (u.block b).classify = .mend x →
          ∃ t, exec (.treeRead b flips mapFlips use rank) s = .next t ∧ t.block b = x ∧ Bumped s t .TRE_CNT0_CORR_READ) ∧
        ((u.block b).classify = .uncorrectable →
          ∃ t, exec (.treeRead b flips mapFlips use rank) s = .next t ∧ t.block b = (u.block b).poisoned ∧ t.stale b = false ∧
            Bumped s t .TRE_CNT1_UNCORR_READ ∧ Counted s t 485)) ∧
      (∀ data,
        ∃ t, exec (.treeFullWrite b data rank) s = .next t ∧ t.stale b = false ∧
          ((staleAt b).1 ≠ b.val → t.block b = TBlock.full data.toNat) ∧
          ∀ i, i ≠ b.val → i ≠ (staleAt b).1 → t.block i = s.block i) ∧
      (∀ mask data, mask ≠ 0 → b.val < mapStart →
        ∃ t, exec (.treeByteWrite b mask data rank) s = .next t ∧ t.stale b = true ∧
          t.block b = (s.block b).writeBytes mask.toNat data.toNat ∧
          ∀ i, i ≠ b.val → i ≠ (staleAt b).1 → t.block i = s.block i) ∧
      (∀ data,
        ∃ t, exec (.treeByteWrite b 0 data rank) s = .next t ∧ ∀ i, i ≠ (staleAt b).1 → t.block i = s.block i)) ∧
    (∀ mask data, mapStart ≤ b.val → exec (.treeByteWrite b mask data rank) s = .next s) ∧
    (s.copying b = true → ∀ data,
      ∃ t, exec (.treeFullWrite b data rank) s = .next t ∧ t.tree.blocks = s.tree.blocks ∧
        t.tree.held = s.tree.held ++ [(rank.val, .full b data.toNat)])

/-- The scrubber and spare rows (R319 to R323, Table 12.4): a visit that is due moves SCRUB_POS on, mends a correctable block, poisons an
uncorrectable one that is in use and fills again one that is not; a repair of a macro with a spare left copies the row in 128 cu
and counts, and one that waited begins (log entry 159); with no spare left it is refused. When a visit is due is log entry 66, GO during a copy
log entry 64. -/
def Obligations.ScrubEffect : Prop :=
  ∀ (s : State), s.alive = true →
    (∀ flips mapFlips use,
      let i := s.get .TRE_SCRUB_POS
      let u := (s.strike i flips).strike (staleAt i).1 mapFlips
      s.get .TRE_CTRL_SCRUB_PERIOD ≠ 0 → s.visitDue = true → s.copying i = false → (u.block (staleAt i).1).classify = .clean →
      u.stale i = false → i < mapStart →
      (∃ t, exec (.scrubVisit flips mapFlips use false) s = .next t ∧ Bumped s t .TRE_SCRUB_POS ∧ t.tree.visitAt = s.frc) ∧
      (∀ x, (u.block i).classify = .mend x →
        ∃ t, exec (.scrubVisit flips mapFlips use false) s = .next t ∧ t.block i = x ∧ Bumped s t .TRE_CNT0_CORR_SCRUB) ∧
      ((u.block i).classify = .uncorrectable → u.inUse i use = true →
        ∃ t, exec (.scrubVisit flips mapFlips use false) s = .next t ∧ t.block i = (u.block i).poisoned ∧
          Bumped s t .TRE_CNT2_POISONED ∧ Counted s t 486) ∧
      ((u.block i).classify = .uncorrectable → u.inUse i use = false →
        ∃ t, exec (.scrubVisit flips mapFlips use false) s = .next t ∧ t.block i = treeDefault i ∧ t.stale i = true ∧
          Bumped s t .TRE_CNT2_REINIT ∧ Counted s t 487)) ∧
    (∀ data, Fld.TRE_REPAIR_GO.on data = true → s.tree.copy = none →
      (s.fused (Fld.TRE_REPAIR_MACRO.of data) + s.soft (Fld.TRE_REPAIR_MACRO.of data) < 4 →
        ∃ t, exec (.treeRepair data) s = .next t ∧ t.get .TRE_REPAIR_BUSY = 1 ∧
          t.tree.copy = some (Fld.TRE_REPAIR_MACRO.of data, Fld.TRE_REPAIR_ROW.of data, s.frc)) ∧
      (4 ≤ s.fused (Fld.TRE_REPAIR_MACRO.of data) + s.soft (Fld.TRE_REPAIR_MACRO.of data) →
        ∃ t, exec (.treeRepair data) s = .next t ∧ t.get .TRE_REPAIR_REFUSED = 1 ∧ t.tree.copy = none ∧ Counted s t 490)) ∧
    (∀ m r x, s.tree.copy = some (m, r, x) → x + 128 ≤ s.frc → s.inOrder 6 = true → s.tree.held = [] → s.fabric.waiting = [] →
      (s.tree.todo = [] →
        ∃ t, exec .repairCopyDone s = .next t ∧ t.tree.copy = none ∧ t.soft m = s.soft m + 1 ∧ t.get .TRE_REPAIR_BUSY = 0 ∧
          Bumped s t .TRE_CNT5_REPAIRS ∧ Counted s t 489) ∧
      (∀ m2 r2 l, s.tree.todo = (m2, r2) :: l → m2 ≠ m → s.fused m2 + s.soft m2 < 4 →
        ∃ t, exec .repairCopyDone s = .next t ∧ t.tree.copy = some (m2, r2, s.frc) ∧ t.tree.todo = l ∧
          Bumped s t .TRE_CNT5_REPAIRS ∧ Counted s t 489))

/-! ### Tack (14) -/

/-- Scans and visits (R350, R351, R353, R358 to R360): a scan begins when the strobe of a slot that PERIOD divides has called for it, and not else; a step gives its first two
channels to the converters; a visit takes its configuration at MAKE, or waits for its EX output; a step and a scan end; an urgent
visit takes converter A, and the scan visit that it suspends is kept (log entries 160, 161). -/
def Obligations.ScanEffect : Prop :=
  ∀ (s : State), s.working = true →
    (s.tack.scanDue = false → exec .scanStart s = .next s) ∧
    (s.tack.scanDue = true →
      (s.flag .HK_STAT_SCANNING = false →
        ∃ t, exec .scanStart s = .next t ∧ t.tack.scanDue = false ∧ t.get .HK_STAT_SCANNING = 1 ∧ Bumped s t .HK_STAT_SCANNO ∧ t.tack.queue = s.hkList ∧
          t.tack.plaus31 = bitOf (s.get .HK_MASK_MASK) 31) ∧
      (s.flag .HK_STAT_SCANNING = true →
        ∃ t, exec .scanStart s = .next t ∧ t.tack.scanDue = false ∧ t.tack.waiting = true ∧ Bumped s t .HK_CNT2_SCAN_LATE ∧ Counted s t 500)) ∧
    (∀ a b q, s.flag .HK_STAT_SCANNING = true → s.tack.step = false → s.frc % 64 = 0 → s.tack.visits = [none, none] → s.tack.saved = none →
      s.tack.queue = a :: b :: q →
      ∃ t, exec .scanStepStart s = .next t ∧ t.tack.queue = q ∧ t.tack.step = true ∧
        t.tack.visits = [some (s.newVisit 1 a), some (s.newVisit 1 b)]) ∧
    (∀ cb v, s.visit cb = some v → s.tack.visits.length = 2 → v.phase = .make → v.due ≤ s.frc → v.code = none →
      (s.exBusy cb (s.reg .HK_CHCFG v.ch) = false →
        ∃ t x, exec (.visitMake cb) s = .next t ∧ t.visit cb = some x ∧ x.phase = .sample ∧ x.ch = v.ch ∧
          x.cfg = s.reg .HK_CHCFG v.ch ∧ x.win = s.reg .HK_CHWIN v.ch ∧
          x.due = s.frc + (1 + settleCycles (s.reg .HK_CHCFG v.ch)) * 64 ∧ x.settleAt = s.frc + 64) ∧
      (s.exBusy cb (s.reg .HK_CHCFG v.ch) = true →
        ∃ t, exec (.visitMake cb) s = .next t ∧ t.visit cb = some { v with phase := .wait, waited := true } ∧
          (v.waited = false → Bumped s t .HK_CNT3_EX_WAIT ∧ Counted s t 504))) ∧
    (∀ cb v, s.visit cb = some v → s.tack.visits.length = 2 → v.phase = .wait → v.code = none → s.frc % 64 = 0 →
      (s.exBusy cb (s.reg .HK_CHCFG v.ch) = false →
        ∃ t x, exec (.exReleaseWait cb) s = .next t ∧ t.visit cb = some x ∧ x.phase = .sample ∧ x.ch = v.ch ∧
          x.cfg = s.reg .HK_CHCFG v.ch) ∧
      (s.exBusy cb (s.reg .HK_CHCFG v.ch) = true → v.waited = true →
        ∃ t, exec (.exReleaseWait cb) s = .next t ∧ t.visit cb = some v ∧ t.regs = s.regs)) ∧
    (s.tack.step = true → s.tack.visits = [none, none] → s.tack.saved = none →
      (s.tack.queue ≠ [] ∨ s.tack.plaus31 = true →
        ∃ t, exec .scanStepEnd s = .next t ∧ t.tack.step = false ∧ t.regs = s.regs) ∧
      (s.tack.queue = [] → s.tack.plaus31 = false → s.tack.waiting = false →
        ∃ t, exec .scanStepEnd s = .next t ∧ t.tack.step = false ∧ t.get .HK_STAT_SCANNING = 0 ∧ Bumped s t .HK_CNT4_SCANS ∧
          Counted s t 506)) ∧
    (∀ ch q, s.tack.urgent = ch :: q → s.tack.visits.length = 2 → s.frc % 64 = 0 →
      (∀ v, s.visit false = some v → v.kind ≠ 2 ∧ v.converting s.frc = false ∧ v.phase ≠ .done) →
      ∃ t, exec .urgentVisitStart s = .next t ∧ t.tack.urgent = q ∧ t.visit false = some (s.newVisit 2 (s.hkChannel ch)) ∧
        t.get .HK_STAT_URG_BUSY = 1 ∧ (∀ v, s.visit false = some v → t.tack.saved = some v)) ∧
    (∀ data, Fld.HK_URG_GO.on data = true →
      (s.tack.urgent.length < 4 →
        ∃ t, exec (.urgentRequest data) s = .next t ∧ t.tack.urgent = s.tack.urgent ++ [Fld.HK_URG_CH.of data] ∧
          t.get .HK_STAT_URG_PEND = (s.tack.urgent.length + 1) % 2 ^ Fld.HK_STAT_URG_PEND.w) ∧
      (4 ≤ s.tack.urgent.length →
        ∃ t, exec (.urgentRequest data) s = .next t ∧ t.tack.urgent = s.tack.urgent ∧ Bumped s t .HK_CNT2_URG_REFUSED ∧
          Counted s t 501))

/-- Conversion, test and sample (R349, R352, R354 to R357, R361, R364): a conversion gives the visit its code, and CMW and COMP from
the voltages at the lands; the second failed test in a row sets OPEN with event 494, the second passed one clears it; a complete sample whose
turn it is becomes an item of stream 3 and the channel's result, and the range for the next visit goes into RANGE when autorange changes it;
an excitation write restarts the settling of a visit that is past MAKE; a configuration is stored as written, with event 507 for each code
that acts otherwise and for no other. The codes and voltages are operands (log entry 137); every write of HK_CHCFGn writes the excitation (log
entry 162). -/
def Obligations.SampleEffect : Prop :=
  ∀ (s : State), s.working = true →
    (∀ cb (code : BitVec 16) hi lo ex v, s.visit cb = some v → s.tack.visits.length = 2 → v.phase = .sample → v.due + 80 * 64 ≤ s.frc →
      ∃ t x, exec (.hkConvertEnd cb code hi lo ex) s = .next t ∧ t.visit cb = some x ∧ x.code = some code.toInt ∧ x.at_ = v.due ∧
        x.cmw = v.cmwAt hi lo ∧ x.comp = v.compAt ex ∧ x.phase = (if tested v.cfg then .test else .done) ∧
        (v.cmwAt hi lo = true → Bumped s t .HK_CNT0_CMW)) ∧
    (∀ cb (code : BitVec 12) v, s.visit cb = some v → s.tack.visits.length = 2 → v.phase = .test → v.due ≤ s.frc → v.ch < 32 →
      ∃ t x, exec (.hkCheckEnd cb code) s = .next t ∧ t.visit cb = some x ∧ x.phase = .done ∧ x.suspect = testFails v code.toInt ∧
        (let n := SMap.get (fun _ => (0, 0)) s.tack.tests v.ch
         (testFails v code.toInt = true → 1 ≤ n.1 → bitOf (s.get .HK_OPEN_OPEN) v.ch = false →
           bitOf (t.get .HK_OPEN_OPEN) v.ch = true ∧ Counted s t 494) ∧
         (testFails v code.toInt = false → 1 ≤ n.2 → bitOf (s.get .HK_OPEN_OPEN) v.ch = true →
           bitOf (t.get .HK_OPEN_OPEN) v.ch = false ∧ Counted s t 495))) ∧
    (∀ cb v, s.visit cb = some v → s.tack.visits.length = 2 → v.phase = .done → v.kind = 1 →
      s.itemTurn cb v = true → s.flag .HK_LAMP_LAMP_EN = false →
      ∃ t w, exec (.visitEnd cb) s = .next t ∧ t.visit cb = none ∧ t.packer.items = s.packer.items ++ [(3, [w])] ∧ fw w 60 4 = 1 ∧
        fw w 55 5 = v.ch % 32 ∧ fw w 54 1 = b2n cb ∧ fw w 0 16 = unsigned 16 (v.code.getD 0) ∧
        t.get .HK_CHRES_CODE v.ch = unsigned 16 (v.code.getD 0) ∧ t.get .HK_CHRES_OVR v.ch = b2n v.ovr ∧
        t.get .HK_CHRES_SUSPECT v.ch = b2n v.suspect ∧
        (let r := Fld.HK_CHCFG_RANGE.of v.cfg
         let next := v.nextRange (s.flag .HK_CHCFG_AUTO v.ch)
         fw w 52 2 = r ∧ fw w 44 1 = b2n (next != r) ∧
           t.get .HK_CHCFG_RANGE v.ch = if next = r then s.get .HK_CHCFG_RANGE v.ch else next)) ∧
    (∀ (n : Fin 32) data v, s.visit true = none → s.visit false = some v → s.tack.visits.length = 2 → v.ch = n.val →
      v.phase = .sample ∨ v.phase = .test → v.settleAt ≤ s.frc →
      ∃ t x, exec (.excWrite n data) s = .next t ∧ t.get .HK_CHCFG_EXSRC n = Fld.HK_CHCFG_EXSRC.of data ∧
        t.get .HK_CHCFG_EXCUR n = Fld.HK_CHCFG_EXCUR.of data ∧ t.visit false = some x ∧ x.phase = .sample ∧ x.code = none ∧
        x.exSrc = Fld.HK_CHCFG_EXSRC.of data ∧ x.due = (s.frc / 64 + 1) * 64 + settleCycles v.cfg * 64 ∧
        Bumped s t .HK_CNT3_EXC_RESTART ∧ Counted s t 502) ∧
    (∀ (n : Fin 32) data,
      ∃ t, exec (.hkChcfgWrite n data) s = .next t ∧ t.get .HK_CHCFG_DIFF n = Fld.HK_CHCFG_DIFF.of data ∧
        t.get .HK_CHCFG_RANGE n = Fld.HK_CHCFG_RANGE.of data ∧ t.get .HK_CHCFG_OW_PULL n = Fld.HK_CHCFG_OW_PULL.of data ∧
        t.get .HK_CHCFG_SETTLE n = Fld.HK_CHCFG_SETTLE.of data ∧
        t.get .HK_CHCFG_AUTO n = Fld.HK_CHCFG_AUTO.of data ∧ t.get .HK_CHCFG_RMAX n = Fld.HK_CHCFG_RMAX.of data ∧
        t.get .HK_CHCFG_EXSRC n = Fld.HK_CHCFG_EXSRC.of data ∧ t.get .HK_CHCFG_EXCUR n = Fld.HK_CHCFG_EXCUR.of data ∧
        (Fld.HK_CHCFG_OW_PULL.of data = 3 ∨ 200 < Fld.HK_CHCFG_EXCUR.of data ∨
          Fld.HK_CHCFG_DIFF.on data = true ∧ (n.val % 2 = 1 ∨ n.val = 30) → Counted s t 507) ∧
        (Fld.HK_CHCFG_OW_PULL.of data ≠ 3 → Fld.HK_CHCFG_EXCUR.of data ≤ 200 →
          (Fld.HK_CHCFG_DIFF.on data = true → n.val % 2 = 0 ∧ n.val ≠ 30) → t.get .EVM_CNT_COUNT 507 = s.get .EVM_CNT_COUNT 507))

/-! ### Burnish (15) -/

/-- Requests for calibration (R367 to R369): a reading of at least STEP from the last run's temperature requests its classes; no reading for
1,024 slots makes the temperature stale; MAXINT counts from a run that there was (log entry 165); a write of BUR_RUN and CAL request; a request
that can start becomes a run. -/
def Obligations.CalibrationRequestEffect : Prop :=
  ∀ (s : State), s.working = true →
    (∀ (f : DieNo) (temp : BitVec 16), s.diePowered f = true →
      ∃ t, exec (.tempUpdate f temp) s = .next t ∧ t.get .BURD_TEMP_TEMP f = temp.toNat ∧ t.get .BURD_TEMP_STALE f = 0 ∧
        (t.bur f).tempAt = s.girth.begun ∧
        ∀ c, c < 3 → bitOf (t.bur f).req c =
          (bitOf (s.bur f).req c || decide ((s.tStep c : Int) ≤ (temp.toInt - s.getS (tLast c) f).natAbs))) ∧
    (∀ f : DieNo, (s.bur f).tempAt + 1024 ≤ s.girth.begun →
      ∃ t, exec (.tempStale f) s = .next t ∧ t.get .BURD_TEMP_STALE f = 1 ∧
        (s.flag .BURD_TEMP_STALE f = false → s.diePowered f = true → bitOf (t.get .EVD_PEND_PEND f) 23 = true)) ∧
    (∀ (f : DieNo) (cls : Fin 3), s.get .BUR_CTRL_MAXINT ≠ 0 → (s.bur f).last.getD cls 0 ≠ 0 →
      (s.bur f).last.getD cls 0 + s.get .BUR_CTRL_MAXINT * 4096 ≤ s.girth.begun + 1 →
      ∃ t, exec (.calMaxintExpire f cls) s = .next t ∧ bitOf (t.bur f).req cls = true ∧ t.regs = s.regs) ∧
    (∀ data, ∃ t, exec (.calRunRequest data) s = .next t ∧ t.regs = s.regs ∧
      ∀ f c, f < 16 → c < 3 → bitOf (t.bur f).req c =
        (bitOf (s.bur f).req c || (bitOf (Fld.BUR_RUN_DIES.of data) f && bitOf (Fld.BUR_RUN_CLASS.of data) c))) ∧
    (∀ tgt arg, s.tmiActs = true → s.addressed tgt = true → s.latigo.initRun = none →
      ∃ t, exec (.cal tgt arg) s = .next t ∧ t.packer.items.length = s.packer.items.length + 1 ∧
        ∀ f c, f < 16 → c < 3 → bitOf (t.bur f).req c =
          (bitOf (s.bur f).req c || (bitOf (fieldOf arg.toNat 0 16) f && bitOf (fieldOf arg.toNat 16 3) c))) ∧
    (∀ f : DieNo, s.calReady f 0 = false → s.calReady f 1 = true → s.calReady f 2 = false →
      ∃ t, exec (.calRunStart f) s = .next t ∧ bitOf (t.bur f).req 1 = false ∧ bitOf (t.bur f).run 1 = true ∧
        (t.bur f).phiSum = 0 ∧ (t.bur f).phiN = 0 ∧ t.get .BURD_TLAST0_T_PH f = s.get .BURD_TEMP_TEMP f)

/-- Runs and commits (R53, R331, R369, R377, R378, R380, R381): a served histogram is kept and cleared; a starved quadrant counts; neither goes on
while CD is disabled; an injection that is due fires (INJ_AT and its group are those of the write of ARM, log entry 71); the FIR outputs, the
first one after the last injection beginning the AMB interval with empty sums; an INJ run ends, a channel of its last group with too few timed
hits is FAIL, and APEROFS is the mean of the shifts found in its ring records, whose pulses come as operands (log entries 85, 201), one for each
record; a commit locks the die, writes its next fields in blocks of 66 cu, and the step at the last of them sets PENDING (log entries 25, 90). -/
def Obligations.CalibrationRunEffect : Prop :=
  ∀ (s : State), s.working = true →
    (∀ (n : LaneNo) x, s.cdWaits n = true → bitOf (s.get .BURD_HSEL_DONE (n.val / 4)) (n.val % 4) = true →
      s.nextEnabled n (s.histChan n + 1) = some x →
      ∃ t, exec (.histogramDone n) s = .next t ∧ t.histChan n = x ∧
        bitOf (t.get .BURD_HSEL_DONE (n.val / 4)) (n.val % 4) = false ∧
        SMap.get (fun _ => []) (t.bur (n.val / 4)).cdHist (64 * (n.val % 4) + s.histChan n) =
          (List.range 128).map (fun k => s.get .BURD_HIST_COUNT (128 * n + k)) ++ [s.get .BURD_HSHORT_COUNT n] ∧
        ∀ k, k < 128 → t.get .BURD_HIST_COUNT (128 * n + k) = 0) ∧
    (∀ (n : LaneNo) x, s.cdWaits n = true → bitOf (s.get .BURD_HSEL_DONE (n.val / 4)) (n.val % 4) = false →
      (s.bur (n.val / 4)).cdFrom.getD (n.val % 4) 0 + s.get .BUR_CD_CD_TIMEOUT ≤ s.girth.begun →
      s.nextEnabled n (s.histChan n + 1) = some x →
      ∃ t, exec (.histogramTimeout n) s = .next t ∧ t.histChan n = x ∧ Bumped s t .BUR_CNT2_STARVED) ∧
    (∀ n : LaneNo, s.calOn 0 = false → exec (.histogramDone n) s = .next s ∧ exec (.histogramTimeout n) s = .next s) ∧
    (∀ (f : DieNo) i, s.diePowered f = true → (s.die f).inj = some i → s.injDue f i = true →
      ∃ t, exec (.injFire f) s = .next t ∧
        (if s.flag .PIXD_INJ_INJ_REP f then (t.die f).inj = some { i with since := s.frc, fired := true }
          else (t.die f).inj = none ∧ (t.die f).injFall = some (s.frc + 1))) ∧
    (∀ f : DieNo, s.diePowered f = true → s.dieCount f % firStep = 0 → (s.die f).firAt ≠ some (s.dieCount f) →
      ∃ t, exec (.firOutput f) s = .next t ∧ (t.die f).firAt = some (s.dieCount f) ∧
        (s.injDone f = true → (s.die f).amb = none →
          (t.die f).amb = some 0 ∧ ∀ c, c < 256 → (t.chan (256 * f + c)).strop.ambSum = 0)) ∧
    (∀ (f : DieNo) found pos a, s.injDone f = true → (s.die f).amb = some a → 64 ≤ a →
      (aperFits (s.aperRecs f) found pos = false → exec (.injRunEnd f found pos) s = .fault .illFormed) ∧
      (aperFits (s.aperRecs f) found pos = true →
      ∃ t, exec (.injRunEnd f found pos) s = .next t ∧ (t.die f).amb = none ∧ bitOf (t.bur f).run 2 = false ∧
        bitOf (t.bur f).res 2 = true ∧ Bumped s t .BUR_CNT0_RUNS ∧
        (∀ r c, (s.bur f).shots = some r → c < 256 → 2 * (SMap.get (fun _ => (0, 0)) r.hits c).1 < r.offs →
          t.get .CAL_CHQ_FAIL (256 * f + c) = 1) ∧
        (let l := aperShifts (s.aperRecs f) found pos
         let w := Fld.BURD_APEROFS_APEROFS.w
         (l = [] → t.get .BURD_APEROFS_APEROFS f = s.get .BURD_APEROFS_APEROFS f) ∧
         ∀ m : Int, l ≠ [] → l.foldl (· + ·) 0 = m * l.length → -(2 ^ (w - 1)) ≤ m → m < 2 ^ (w - 1) →
           t.getS .BURD_APEROFS_APEROFS f = m))) ∧
    (∀ f : DieNo, s.diePowered f = true → (s.bur f).res ≠ 0 → s.flag .AWLD_CTRL_PENDING f = false →
      bitOf (s.get .BUR_STAT_LOCK) f = false → (s.bur f).epoch0 + (s.die f).ramp.r ≤ s.nowSlot + 1 →
      ∃ t k, exec (.calCommit f) s = .next t ∧ bitOf (t.get .BUR_STAT_LOCK) f = true ∧ t.get .AWLD_CTRL_PENDING f = 0 ∧ 257 ≤ k ∧
        (t.bur f).commitAt = some (s.frc + 66 * k) ∧ (t.bur f).res = 0 ∧ (t.bur f).classes = (s.bur f).res ∧
        (∀ v, (s.bur f).bias = some v → t.get .AWLD_BIAS_BIAS_NEXT f = v % 2 ^ Fld.AWLD_BIAS_BIAS_NEXT.w)) ∧
    (∀ f : DieNo, s.pending = [] → s.fabric.waiting = [] → (s.bur f).commitAt = some s.frc →
      ∃ t, step s = .next t ∧ t.frc = s.frc + 1 ∧ (t.bur f).commitAt = none ∧ t.get .AWLD_CTRL_PENDING f = 1 ∧
        ((∀ x, x < 16 → x ≠ f.val → (s.bur x).commitAt ≠ some s.frc) → Bumped s t .BUR_CNT0_COMMITS))

/-! ### Rosette (16) -/

/-- Pulse trains and lamps (R387 to R391, R394, R396, Table 16.1): ARM latches a train from the next slot that PERIOD divides, its width
held between 11 and 2,560 cu, and what ran or waited goes on up to that slot; a pulse is marked in stream 7 and counted, also a suppressed one
and also while the Rosette is off (log entry 95), and lights the sinks of its colours (one that names no colour lights none, log entry 167);
STOP ends the train; a diagnosed fault shows on the sink and switches off the function or the colour, and the next step puts out the sinks
that this leaves off; a restore clears what the write names; an on-time ends. -/
def Obligations.LampEffect : Prop :=
  ∀ (s : State), s.working = true →
    (∀ data, Fld.RSE_PULSE_ARM.on data = true →
      ∃ t x, exec (.pulseArm data) s = .next t ∧ t.get .RSE_STAT_ARMED = 1 ∧
        (∀ n, x.from_ ≤ n → t.trainOf n = some x) ∧
        (s.rosette.train ≠ none ∨ s.rosette.next ≠ [] → ∀ n, n < x.from_ → t.trainOf n = s.trainOf n) ∧
        x.poff = Fld.RSE_PULSE_POFF.of data ∧ x.colours = Fld.RSE_PULSE_COLOURS.of data ∧
        x.width = min 2560 (max 11 (Fld.RSE_PULSE_WIDTH.of data)) ∧ x.period = max 1 (s.get .RSE_PPER_PERIOD) ∧ s.nowSlot < x.from_ ∧
        x.from_ % x.period = 0 ∧ x.from_ ≤ s.nowSlot + x.period) ∧
    (∀ x, s.trainOf s.nowSlot = some x → x.uses s.nowSlot = true → s.rosette.fired ≠ some s.girth.begun → s.slotReached x.poff = true →
      (let named := (List.range 3).filter (fun c => bitOf x.colours c)
       let suppr := s.rseOff || (named != [] && named.all (fun c => bitOf s.rosette.off c))
       ∃ t l, exec .pulseFire s = .next t ∧ t.rosette.fired = some s.girth.begun ∧
         t.packer.items = s.packer.items ++ (7, lightMark x.width s.rosette.global x.colours false suppr
           (s.get .RSE_PULSENO_PULSENO) (s.nowSlot * 65536 + x.poff)) :: l ∧
         Bumped s t .RSE_CNT0_PULSES ∧ Bumped s t .RSE_PULSENO_PULSENO ∧
         (suppr = true → Bumped s t .RSE_CNT2_SUPPRESSED ∧ Counted s t 513 ∧ t.rosette.lit = s.rosette.lit) ∧
         (suppr = false → ∀ k, k < 24 → SMap.get (fun _ => none) t.rosette.lit k =
           if bitOf x.colours (colourOf k) && (s.sink k).mode == 2 && !s.sinkOff k then some ⟨s.frc, s.frc + x.width, false, 2⟩
           else SMap.get (fun _ => none) s.rosette.lit k))) ∧
    (∀ data, Fld.RSE_CTRL_STOP.on data = true →
      ∃ t, exec (.pulseStop data) s = .next t ∧ t.rosette.train = none ∧ t.rosette.next = [] ∧ t.get .RSE_STAT_ARMED = 0 ∧
        t.get .RSE_CTRL_EN = Fld.RSE_CTRL_EN.of data ∧ t.get .RSE_CTRL_GLOBAL = Fld.RSE_CTRL_GLOBAL.of data) ∧
    (∀ (k : Fin 24) na mv l low short, SMap.get (fun _ => none) s.rosette.lit k = some l → l.diag = false → l.on_ + 768 ≤ l.end_ →
      l.on_ + 768 ≤ s.frc → low = decide (2 * na * (255 * 1023) < s.sinkCurrent k l.kind) →
      short = decide (50 * s.get .RSE_DIAG_SHORT_V < mv) →
      ∃ t, exec (.ldDiagnosis k na mv) s = .next t ∧
        (low = true → t.get .RSE_CHST_OPEN k = 1 ∧ Bumped s t .RSE_CNT1_OPENS ∧ Counted s t 508) ∧
        (short = true → t.get .RSE_CHST_SHORT k = 1 ∧ Bumped s t .RSE_CNT1_SHORTS ∧ Counted s t 509) ∧
        (low = true ∨ short = true → Counted s t 510 ∧
          (if s.flag .RSE_CTRL_FAIL_ACT then bitOf (t.get .RSE_STAT_COL_OFF) (colourOf k) = true
            else t.get .RSE_STAT_FUNC_OFF = 1) ∧
          t.rosette.cut = true ∧ bitOf t.rosette.off (colourOf k) = true ∧ t.rosette.lit = SMap.set (fun _ => none) s.rosette.lit k
            (some { l with diag := true })) ∧
        (low = false → short = false → t.regs = s.regs)) ∧
    (s.pending = [] → s.fabric.waiting = [] → s.rosette.cut = true →
      ∃ t, step s = .next t ∧ t.rosette.cut = false ∧
        ∀ k, k < 24 → t.sinkOff k = true → SMap.get (fun _ => none) t.rosette.lit k = none) ∧
    (∀ data,
      ∃ t, exec (.lampRestore data) s = .next t ∧ (Fld.RSE_STAT_FUNC_OFF.on data = true → t.get .RSE_STAT_FUNC_OFF = 0) ∧
        ∀ c, c < 3 → bitOf (t.get .RSE_STAT_COL_OFF) c =
          (bitOf (s.get .RSE_STAT_COL_OFF) c && !bitOf (Fld.RSE_STAT_COL_OFF.of data) c)) ∧
    (∀ k : Fin 24, (s.sink k).mode = 1 → s.sinkOff k = false →
      (let since := (s.nowOff + 65536 - phiOf k) % 65536
       since < (s.sink k).duty * 16 → SMap.get (fun _ => none) s.rosette.lit k = none →
       ∃ t, exec (.dimmedDcOn k) s = .next t ∧ SMap.get (fun _ => none) t.rosette.lit k =
         some ⟨s.frc, s.frc + ((s.sink k).duty * 16 - since), false, 1⟩)) ∧
    (∀ (k : Fin 24) l, SMap.get (fun _ => none) s.rosette.lit k = some l → l.end_ ≤ s.frc →
      ∃ t, exec (.onTimeEnd k) s = .next t ∧ SMap.get (fun _ => none) t.rosette.lit k = none)

/-- Lamp temperature and proofs (R393, R395): no valid lamp sample for TEMP_TO slots makes the temperature stale; a proof pulse of the lowest
due sink lasts 5,120 cu and takes no pulse number (its mark's is a free value, log entry 29); at the end of an interval a sink that was still
due makes it late (log entry 211). -/
def Obligations.ProofEffect : Prop :=
  ∀ (s : State), s.working = true →
    (s.flag .RSE_STAT_TEMP_STALE = false → s.rosette.sampleAt + max 1 (s.get .RSE_TEMPTO_TEMP_TO) ≤ s.girth.begun →
      ∃ t, exec .lampTempTimeout s = .next t ∧ t.get .RSE_STAT_TEMP_STALE = 1 ∧ Counted s t 511) ∧
    (∀ k, s.proofSink = some k → s.flag .RSE_CTRL_PROOF_EN = true → s.darkSlot s.nowSlot = true →
      s.rosette.proofAt ≠ some s.girth.begun → s.slotReached (s.proofOff k) = true →
      ∃ t w, exec .proofPulse s = .next t ∧ t.rosette.proofAt = some s.girth.begun ∧ t.packer.items = s.packer.items ++ [(7, w)] ∧
        Bumped s t .RSE_CNT0_PROOFS ∧ t.get .RSE_PULSENO_PULSENO = s.get .RSE_PULSENO_PULSENO ∧
        SMap.get (fun _ => none) t.rosette.lit k = some ⟨s.frc, s.frc + 5120, false, 3⟩) ∧
    (∀ late, s.rosette.intEnd = some late →
      ∃ t, exec .proofIntervalEnd s = .next t ∧ t.rosette.intEnd = none ∧
        (if late then Bumped s t .RSE_CNT2_PROOF_LATE ∧ Counted s t 512 else t.regs = s.regs)) ∧
    (s.rosette.intEnd = none → exec .proofIntervalEnd s = .next s)

/-! ### Bridle (17) -/

/-- Samples and summaries (R399 to R404, R410, Tables 17.1 and 17.2): a sample shows its codes and loses a monitor whose self-test fails or that
stands apart from the median for DISC_N samples; each limit is judged by two of three monitors or one of two where it is active, a violation in
TRIP_N samples in a row leads to LOCKOUT with both outputs low and its cause (CEIL 1, RAMP 2, DIR 3, the sun guard trip 4, STALE 5), so do two
monitors that disagree (DISC), fewer than two (MON) and channels that differ for more than 1 ms (XCHK, with event 526 in LOCKOUT too), and
nothing else in the sample does; in DESCEND the outputs go low when every monitor in service reads OFF_LEVEL or less. A summary is kept with its
time and, when it calls for it, asserts the guard of its channel; a stale die asserts it too (when the guard is evaluated is log entry 186, which
setpoint STALE means is log entry 168); a guard clear for SUN_CLR is released. -/
def Obligations.BridleSampleEffect : Prop :=
  ∀ (s : State), s.alive = true →
    (∀ (a b c : BitVec 14) (ref : BitVec 3) differ, s.passed 100 s.bridle.sampleAt = true →
      ∃ t, exec (.bridleSample a b c ref differ) s = .next t ∧ t.get .BRD_MON_CODE 0 = a.toNat ∧ t.get .BRD_MON_CODE 1 = b.toNat ∧
        t.get .BRD_MON_CODE 2 = c.toNat ∧
        (∀ m, m < 3 → t.get .BRD_MON_REF_FAIL m = b2n (bitOf ref.toNat m) ∧
          (bitOf ref.toNat m = true → t.get .BRD_MON_LOST m = 1)) ∧
        (2 ≤ popCount 3 ref.toNat → t.get .BRD_STAT_STATE = 3) ∧
        (t.get .BRD_STAT_STATE = 3 → s.get .BRD_STAT_STATE ≠ 3 → t.get .BRD_STAT_EN_A = 0 ∧ t.get .BRD_STAT_EN_B = 0 ∧
          (∀ k, k < 4 → t.get .BRD_SET_SENT k = 0) ∧ Bumped s t .BRD_CNT0_TRIPS)) ∧
    (∀ (a b c : BitVec 14) (ref : BitVec 3) differ, s.passed 100 s.bridle.sampleAt = true → s.monitors.length = 3 →
      ∃ t, exec (.bridleSample a b c ref differ) s = .next t ∧
        (let code := sampleCode (a.toNat, b.toNat, c.toNat)
         (∀ m, m < 3 → ref = 0 → s.get .BRD_LIM2_DISC_TOL < absDiff (code m) (median [a.toNat, b.toNat, c.toNat]) →
           s.get .BRD_LIM2_DISC_N ≤ s.bridle.discs.getD m 0 + 1 → t.get .BRD_MON_LOST m = 1) ∧
         (differ = true → 10 ≤ s.bridle.xchk → t.get .BRD_STAT_STATE = 3 ∧ (s.bridle.xchk = 10 → Counted s t 526)))) ∧
    (∀ (a b c : BitVec 14), s.passed 100 s.bridle.sampleAt = true → s.bridle.shaped = true →
      (let code := sampleCode (a.toNat, b.toNat, c.toNat)
       let ms := s.monitors
       let tol := s.get .BRD_LIM2_DISC_TOL
       let st := s.get .BRD_STAT_STATE
       let rise (m : Nat) : Int := match s.bridle.samples[99]? with | some y => (code m : Int) - sampleCode y m | none => 0
       let vote (p : Nat → Bool) : Bool := decide ((if ms.length = 3 then 2 else 1) ≤ (ms.filter p).length)
       let bad : List Bool :=
         [vote (fun m => decide (s.get .BRD_LIM0_CEIL < code m)) && (st == 1 || st == 2),
          vote (fun m => decide (s.get .BRD_LIM0_RAMP_MAX < (rise m).natAbs)) && st == 1,
          vote (fun m => decide ((s.get .BRD_LIM1_DIR_TOL : Int) < rise m)) && st == 2,
          (List.range 16).any (fun f => s.sumFresh f && decide (s.get .BRD_LIM5_SUN_TRIP < (s.summary f).max)) && (st == 1 || st == 2),
          (List.range 16).any (fun f => s.staleViolated f) && (st == 1 || st == 2)]
       let runs (k : Nat) : Nat := if bad.getD k false then s.bridle.runs.getD k 0 + 1 else 0
       let trips (k : Nat) : Prop := max 1 (s.get .BRD_LIM1_TRIP_N) ≤ runs k
       let pair : Nat := match ms.map code with
         | [x, y] => if tol < absDiff x y then s.bridle.discs.getD 3 0 + 1 else 0
         | _ => 0
       let disc : Prop := max 1 (s.get .BRD_LIM2_DISC_N) ≤ pair
       (∀ m ∈ ms, ms.length = 3 → tol < absDiff (code m) (median (ms.map code)) →
         s.bridle.discs.getD m 0 + 1 < max 1 (s.get .BRD_LIM2_DISC_N)) →
       ∃ t, exec (.bridleSample a b c 0 false) s = .next t ∧ (∀ k, k < 5 → t.bridle.runs.getD k 0 = runs k) ∧
         (∀ k, k < 5 → trips k → t.get .BRD_STAT_STATE = 3 ∧ t.get .BRD_STAT_EN_A = 0 ∧ t.get .BRD_STAT_EN_B = 0 ∧
           ((∀ j, j < k → ¬trips j) → t.get .BRD_TRIP_CAUSE = k + 1)) ∧
         (disc → t.get .BRD_STAT_STATE = 3 ∧ ((∀ k, k < 5 → ¬trips k) → st ≠ 3 → t.get .BRD_TRIP_CAUSE = 0xB)) ∧
         (ms.length < 2 → t.get .BRD_STAT_STATE = 3) ∧
         ((∀ k, k < 5 → ¬trips k) → ¬disc → 2 ≤ ms.length →
           t.get .BRD_STAT_STATE = if st = 2 ∧ ∀ m ∈ ms, code m ≤ s.get .BRD_LIM1_OFF_LEVEL then 0 else st))) ∧
    (∀ (f : DieNo) max nvalid ovl, s.bridle.sums.length = 16 →
      ∃ t x, exec (.summaryArrive f max nvalid ovl) s = .next t ∧ t.summary f = x ∧ x.max = max.toNat ∧ x.nvalid = nvalid.toNat ∧
        x.ovl = ovl ∧ x.at_ = some s.frc ∧
        (∀ b, s.dieMap f = some b → s.get .BRD_LIM4_SUN_LIM < max.toNat ∨ ovl = true ∨ nvalid.toNat < s.get .BRD_LIM6_SUN_NMIN →
          t.guardOn b = true ∧ t.get .BRD_SET_SENT b ≤ s.get .BRD_LIM7_STBY)) ∧
    (∀ (f : DieNo) b, s.sumFresh f = false → s.dieMap f = some b →
      ∃ t, exec (.summaryStale f) s = .next t ∧ t.guardOn b = true ∧ t.get .BRD_SET_SENT b ≤ s.get .BRD_LIM7_STBY) ∧
    (∀ (b : Fin 4) x, s.guardOn b = true → s.guardClear b = true → s.bridle.clearAt.getD b none = some x →
      x + s.get .BRD_LIM6_SUN_CLR * 100000 * usCu ≤ s.frc →
      ∃ t, exec (.sunGuardRelease b) s = .next t ∧ t.guardOn b = false ∧ Counted s t 527)

/-- Outputs and setpoints (R404 to R407, R412 to R414, R420, Table 17.2): the primitives of the bias, the descent's end, test pulses on
their grid and their end, which a trip, an OFF_NOW request and every transition to OFF suppress (R414), the feedback that disagrees and
trips, the ramp by SET_SLEW toward its goal each ms, and the frame of the BSET line when one is due and the line is free and not held low (Table 20.4); the first
test pulse sets the grid (log entry 169). -/
def Obligations.BridleOutputEffect : Prop :=
  ∀ (s : State), s.alive = true → s.bridle.test.length = 2 → s.bridle.fbDue.length = 2 →
    (∀ tgt arg, s.tmiActs = true → s.addressed tgt = true → s.latigo.initRun = none →
      (s.get .BRD_STAT_STATE = 0 → s.onAllowed = true →
        ∃ t, exec (.biasOn tgt arg) s = .next t ∧ t.get .BRD_STAT_STATE = 1 ∧ t.get .BRD_STAT_EN_A = 1 ∧ t.get .BRD_STAT_EN_B = 1) ∧
      (s.get .BRD_STAT_STATE = 2 → ∃ t, exec (.biasOn tgt arg) s = .next t ∧ t.get .BRD_STAT_STATE = 1) ∧
      (s.get .BRD_STAT_STATE = 0 → s.onAllowed = false →
        ∃ t, exec (.biasOn tgt arg) s = .next t ∧ Bumped s t .BRD_CNT1_REQ_REFUSED ∧ Counted s t 524 ∧
          (s.get .BRD_STAT_EN_A = 0 → t.get .BRD_STAT_EN_A = 0) ∧ (s.get .BRD_STAT_EN_B = 0 → t.get .BRD_STAT_EN_B = 0)) ∧
      (s.get .BRD_STAT_STATE = 1 →
        ∃ t, exec (.biasDown tgt arg) s = .next t ∧ t.get .BRD_STAT_STATE = 2 ∧ t.bridle.descAt = s.frc) ∧
      (∃ t, exec (.biasSet tgt arg) s = .next t ∧ t.get .BRD_SET_REQ (fieldOf arg.toNat 16 2) = fieldOf arg.toNat 0 14 ∧
        ∀ k, k < 4 → k ≠ fieldOf arg.toNat 16 2 → t.get .BRD_SET_REQ k = s.get .BRD_SET_REQ k)) ∧
    (∀ tgt arg, s.tmiActs = true → s.addressed tgt = true →
      ∃ t, exec (.biasOffNow tgt arg) s = .next t ∧ t.get .BRD_STAT_EN_A = 0 ∧ t.get .BRD_STAT_EN_B = 0 ∧
        (∀ k, k < 4 → t.get .BRD_SET_SENT k = 0) ∧
        t.get .BRD_STAT_STATE = (if s.get .BRD_STAT_STATE = 3 then 3 else 0)) ∧
    (s.get .BRD_STAT_STATE = 2 → s.bridle.descAt + s.get .BRD_LIM3_DESC_T * 1000000 * usCu ≤ s.frc →
      ∃ t, exec .descentTimeout s = .next t ∧ t.get .BRD_STAT_STATE = 0 ∧ t.get .BRD_STAT_EN_A = 0 ∧ t.get .BRD_STAT_EN_B = 0) ∧
    (∀ outB, s.flag (enFld outB) = true → s.onGrid outB = true →
      ∃ t, exec (.testPulse outB) s = .next t ∧ t.get (enFld outB) = 0 ∧ t.get (enFld (!outB)) = s.get (enFld (!outB)) ∧
        t.bridle.test.getD (b2n outB) none = some s.frc) ∧
    (∀ outB x, s.bridle.test.getD (b2n outB) none = some x → x + 512000 ≤ s.frc →
      ∃ t, exec (.testPulseEnd outB) s = .next t ∧ t.get (enFld outB) = 1 ∧ t.bridle.test.getD (b2n outB) none = none) ∧
    (∀ outB,
      (∀ tgt arg u, s.tmiActs = true → s.addressed tgt = true → exec (.biasOffNow tgt arg) s = .next u →
        exec (.testPulseEnd outB) u = .next u ∧ u.get (enFld outB) = 0) ∧
      (exec (.testPulseEnd outB) s.bridleOff = .next s.bridleOff ∧ s.bridleOff.get (enFld outB) = 0) ∧
      (∀ cause, s.get .BRD_STAT_STATE ≠ 3 →
        exec (.testPulseEnd outB) (s.bridleTrip cause) = .next (s.bridleTrip cause) ∧ (s.bridleTrip cause).get (enFld outB) = 0)) ∧
    (∀ outB fb x, s.bridle.fbDue.getD (b2n outB) none = some x → x ≤ s.frc →
      ∃ t, exec (.feedbackCheck outB fb) s = .next t ∧ t.get (fbFld outB) = b2n fb ∧
        (fb ≠ s.flag (enFld outB) → t.get .BRD_STAT_STATE = 3 ∧ Counted s t 523)) ∧
    (s.get .BRD_STAT_STATE = 1 ∨ s.get .BRD_STAT_STATE = 2 → s.passed 1000 s.bridle.rampAt = true →
      ∃ t, exec .setpointRamp s = .next t ∧ ∀ b, b < 4 →
        (let goal := if s.get .BRD_STAT_STATE = 1 then min (s.get .BRD_SET_REQ b) (s.get .BRD_LIM8_SET_MAX) else 0
         let goal := if s.guardOn b then min goal (s.get .BRD_LIM7_STBY) else goal
         let sent := s.get .BRD_SET_SENT b
         t.get .BRD_SET_SENT b =
           (if sent < goal then min goal (sent + s.get .BRD_LIM8_SET_SLEW) else max goal (sent - s.get .BRD_LIM8_SET_SLEW)))) ∧
    (∀ b : Fin 4, s.bsetLow = false → s.frameDue b = true → s.bridle.lineFree ≤ s.frc →
      ∃ t, exec (.bsetFrame b) s = .next t ∧ t.bridle.lineFree = s.frc + 40 * usCu ∧
        t.line = s.line ++ [.bset ((bsetBytes b (s.setpointSent b)).flatMap charBits)])

/-- The key and degraded operation (R415, R417, R419): a press of 100 ms to 2 s in LOCKOUT with nothing wrong leads to OFF with event 517, and is
refused with event 521 while an output's feedback is high; a
degraded second counts, and the one that reaches DEG_MAX trips; a pending section is taken by the press, when it is valid (R419). -/
def Obligations.BridleKeyEffect : Prop :=
  ∀ (s : State), s.alive = true →
    (∀ held, s.flag .BRD_STAT_KEY_STUCK = false → 100 ≤ held → held ≤ 2000 → s.get .BRD_STAT_STATE = 3 →
      (s.bridle.pending = none → (∀ m, m < 3 → s.get .BRD_MON_LOST m = 0) → s.violations.all (!·) = true →
        s.flag .BRD_STAT_FB_A = false → s.flag .BRD_STAT_FB_B = false → s.flag .BRD_STAT_SECT_BAD = false →
        0 < s.get .BRD_LIM0_CEIL →
        ∃ t, exec (.keyRelease held) s = .next t ∧ Counted s t 517 ∧
          (s.flag .EVM_CFG_BRIDLE 517 = false → s.flag .EVM_CFG_BRIDLE 543 = false → s.flag .EVM_CFG_BRIDLE 532 = false →
            t.get .BRD_STAT_STATE = 0)) ∧
      (∀ x, s.bridle.pending = some x →
        ∃ t, exec (.keyRelease held) s = .next t ∧ t.bridle.pending = none ∧ t.get .BRD_STAT_SECT_PEND = 0 ∧
          (sectionValid x.words = true → Bumped s t .LAT_CNT2_RELOADS ∧ t.get .BRD_STAT_SECT_BAD = 0 ∧
            ∀ (i : Nat) r w, limRegs[i]? = some r → x.words[i]? = some w → t.reg r 0 = BitVec.ofNat 32 w) ∧
          (sectionValid x.words = false → t.get .BRD_STAT_SECT_BAD = 1 ∧ t.get .BRD_STAT_STATE = 3 ∧ Counted s t 521)) ∧
      (s.flag .BRD_STAT_FB_A = true →
        ∃ t, exec (.keyRelease held) s = .next t ∧ t.get .BRD_STAT_STATE = 3 ∧ Counted s t 521 ∧ Bumped s t .BRD_CNT1_KEY_REFUSED)) ∧
    (s.mode ≠ .fill → s.flag .BRD_STAT_DEGRADED = true → s.bridle.degAt + 1000000 * usCu ≤ s.frc →
      ∃ t, exec .degTick s = .next t ∧ t.get .BRD_DEG_DEG_USED = satAdd 18 (s.get .BRD_DEG_DEG_USED) 1 ∧
        (s.get .BRD_DEG_DEG_USED < s.get .BRD_LIM3_DEG_MAX * 3600 →
          s.get .BRD_LIM3_DEG_MAX * 3600 ≤ satAdd 18 (s.get .BRD_DEG_DEG_USED) 1 → t.get .BRD_STAT_STATE = 3 ∧ Counted s t 519))

/-- A key held for more than 2 s sticks with event 520 and its press is ignored; while KEY_STUCK is 1 no press counts; KEY_STUCK clears once the
key has been released for 1 s without a press, after which a press that counts starts (R416). -/
def Obligations.KeyStuckRule : Prop :=
  ∀ (s : State), s.alive = true →
    (s.flag .BRD_STAT_KEY_STUCK = false →
      ∃ t, exec .keyStuck s = .next t ∧ t.get .BRD_STAT_KEY_STUCK = 1 ∧ Counted s t 520) ∧
    (∀ x, s.flag .BRD_STAT_KEY_STUCK = true → s.bridle.keyUp = some x → x + 1000000 * usCu ≤ s.frc →
      ∃ t, exec .keyStuckClear s = .next t ∧ t.get .BRD_STAT_KEY_STUCK = 0) ∧
    (∀ x, s.bridle.keyUp = some x → s.frc < x + 1000000 * usCu → exec .keyStuckClear s = .next s) ∧
    (s.bridle.keyUp = none → exec .keyStuckClear s = .next s) ∧
    (∀ held, s.flag .BRD_STAT_KEY_STUCK = true ∨ 2000 < held →
      exec (.keyRelease held) s = .next { s with bridle := { s.bridle with keyUp := some s.frc } })

/-! ### Power, reset and boot (01, 18, 20) -/

/-- Reset (R29, R312, R475, R476, R480 to R483, Table 20.3): power-on brings the rails up, and it and each reset cause lead to RESET with the
cause shown; flash bytes, DEG_USED, fuses and what the supervisor knows of the case are kept; in RESET a further cause is added to CAUSE_MAP, of
the causes of one supervisor cycle CAUSE shows the lowest code (log entry 172, the supervisor's clock log entry 209), and a rail is watched, which
reaches its window only after the one before; a release with every rail in its window latches the straps and begins FILL at FRC 0 (log entries 2,
4, 122); FILL ends in BOOT with the Tree at its fill pattern. -/
def Obligations.ResetEffect : Prop :=
  ∀ s : State,
    (∀ vin, s.mode = .unpowered → 1200 ≤ vin →
      ∃ t, exec (.powerOn vin) s = .next t ∧ t.mode = .reset ∧ t.get .PRS_CAUSE_CAUSE = 1 ∧ t.get .PRS_CAUSE_CAUSE_MAP = 2 ∧
        t.flash = s.flash.map (fun d => { d with par := none }) ∧ t.get .BRD_DEG_DEG_USED = s.get .BRD_DEG_DEG_USED ∧
        t.get .BRD_STAT_STATE = 3 ∧ t.get .PRS_RAIL_IN_WIN = 31 ∧ t.dies = []) ∧
    (∀ vin, s.mode = .reset → vin < 1200 → ∃ t, exec (.vinSupervisorLoss vin) s = .next t ∧ t.mode = .unpowered) ∧
    (∀ (vin : Nat) (r : Fin 4) (x : Nat), s.mode ≠ .unpowered → s.mode ≠ .reset → vin < 3100 →
        s.supervisor.railOut.getD r none = some x → x + 90 * usCu ≤ s.supTime →
        ∀ p ∈ [(Instr.vinResetFall vin, 2), (.railReset r, 3), (.rstNLow, 5)],
      ∃ t, exec p.1 s = .next t ∧ t.mode = .reset ∧ t.get .PRS_CAUSE_CAUSE = p.2 ∧ t.get .PRS_CAUSE_CAUSE_MAP = 2 ^ p.2 ∧
        t.flash = s.flash.map (fun d => { d with par := none }) ∧ t.supervisor.fuses = s.supervisor.fuses ∧
        t.supervisor.hotMs = s.supervisor.hotMs ∧ t.supervisor.caseArm = s.supervisor.caseArm ∧
        t.get .PRS_RAIL_IN_WIN = s.get .PRS_RAIL_IN_WIN ∧ t.get .BRD_DEG_DEG_USED = s.get .BRD_DEG_DEG_USED ∧
        t.line = s.line ∧ t.wire = s.wire ∧ t.get .BRD_STAT_EN_A = 0 ∧ t.get .BRD_STAT_EN_B = 0 ∧ t.dies = [] ∧ t.packer = Packer.reset) ∧
    (∀ (vin : Nat) (r : Fin 4) (x : Nat), s.mode = .reset → vin < 3100 →
        s.supervisor.railOut.getD r none = some x → x + 90 * usCu ≤ s.supTime →
        ∀ p ∈ [(Instr.vinResetFall vin, 2), (.railReset r, 3), (.rstNLow, 5)],
      ∃ t, exec p.1 s = .next t ∧ t.mode = .reset ∧ t.get .PRS_CAUSE_CAUSE =
          (if s.supervisor.clock = 0 then min p.2 (s.get .PRS_CAUSE_CAUSE) else s.get .PRS_CAUSE_CAUSE) ∧
        bitOf (t.get .PRS_CAUSE_CAUSE_MAP) p.2 = true) ∧
    (∀ (r : Fin 4) (v : Nat), s.mode = .reset →
      (railIn r v = false → bitOf (s.get .PRS_RAIL_IN_WIN) (r.val + 1) = true →
        ∃ t, exec (.railFault r v) s = .next t ∧ bitOf (t.get .PRS_RAIL_IN_WIN) (r.val + 1) = false ∧
          bitOf (t.get .PRS_RAIL_FAULT) (r.val + 1) = true) ∧
      (railIn r v = true → bitOf (s.get .PRS_RAIL_IN_WIN) (r.val + 1) = false →
        ∃ t, exec (.railFault r v) s = .next t ∧
          bitOf (t.get .PRS_RAIL_IN_WIN) (r.val + 1) = bitOf (s.get .PRS_RAIL_IN_WIN) r.val)) ∧
    (s.mode ≠ .unpowered → 100 ≤ s.supervisor.hotMs →
      ∃ t, exec .caseOvertempReset s = .next t ∧ t.mode = .reset ∧ t.supervisor.tempHold = true ∧
        bitOf (t.get .PRS_CAUSE_CAUSE_MAP) 4 = true) ∧
    (∀ vin mid mstr, s.mode = .reset → s.supervisor.tempHold = false → 3550 ≤ vin → s.get .PRS_RAIL_IN_WIN = 31 →
      ∃ t, exec (.resetRelease vin true true true mid mstr) s = .next t ∧ t.mode = .fill ∧ t.frc = 0 ∧
        t.get .ID_MODULE_MODULE = mid.toNat ∧ t.get .ID_MODULE_STRAP = mid.toNat ∧ t.get .ID_MODULE_MSTR = b2n mstr) ∧
    (∀ vin rstN railsOk pllLock mid mstr, vin < 3550 ∨ rstN = false ∨ railsOk = false ∨ pllLock = false ∨ s.supervisor.tempHold = true ∨
        s.get .PRS_RAIL_IN_WIN ≠ 31 →
      exec (.resetRelease vin rstN railsOk pllLock mid mstr) s = .next s) ∧
    (s.mode = .fill → ∃ t, exec .fillComplete s = .next t ∧ t.mode = .boot ∧ ∀ i, t.block i = treeDefault i)

/-- Supply and case (R476 to R479, R483, R485, R486, Table 20.2): a fall below 34.0 V begins a dip and 1 ms above 35.0 V ends it, with its length;
a rail that leaves its window is recorded; readings show; a die whose rail trips is OFF. The levels come as operands (log entries 15, 119), and
where an upset of a data path strikes (log entry 123). -/
def Obligations.SupplyEffect : Prop :=
  ∀ s : State, s.alive = true →
    (∀ vin, s.flag .PRS_STATE_BROWNOUT = false →
      (vin < 3400 → ∃ t, exec (.vinWarnFall vin) s = .next t ∧ t.get .PRS_STATE_BROWNOUT = 1 ∧ t.supervisor.dipFall = s.frc ∧
        Counted s t 534 ∧ t.get .RSE_STAT_BROWN = 1) ∧
      (3400 ≤ vin → exec (.vinWarnFall vin) s = .next s)) ∧
    (∀ vin, s.flag .PRS_STATE_BROWNOUT = true →
      (3500 < vin → s.supervisor.dipRise = none →
        ∃ t, exec (.vinWarnRelease vin) s = .next t ∧ t.supervisor.dipRise = some s.frc ∧ t.regs = s.regs) ∧
      (vin < 3500 → ∃ t, exec (.vinWarnFall vin) s = .next t ∧ t.supervisor.dipRise = none ∧ t.regs = s.regs) ∧
      (3500 ≤ vin → exec (.vinWarnFall vin) s = .next s)) ∧
    (∀ x, s.flag .PRS_STATE_BROWNOUT = true → s.supervisor.dipRise = some x → x + 1000 * usCu ≤ s.frc →
      ∃ t, exec .brownoutResume s = .next t ∧ t.get .PRS_STATE_BROWNOUT = 0 ∧ Bumped s t .PRS_CNT_DIPS ∧ Counted s t 535 ∧
        t.get .PRS_DIP_LAST_DIP = min (2 ^ 32 - 1) ((x - s.supervisor.dipFall) / usCu)) ∧
    (∀ (r : Fin 4) (v : Nat),
      (railIn r v = false →
        (∃ t, exec (.railFault r v) s = .next t ∧ bitOf (t.get .PRS_RAIL_IN_WIN) (r.val + 1) = false ∧
          (s.supervisor.railOut.length = 4 →
            t.supervisor.railOut.getD r none = some ((s.supervisor.railOut.getD r none).getD s.supTime)) ∧
          (bitOf (s.get .PRS_RAIL_IN_WIN) (r.val + 1) = true →
            bitOf (t.get .PRS_RAIL_FAULT) (r.val + 1) = true ∧ Counted s t 536))) ∧
      (railIn r v = true →
        ∃ t, exec (.railFault r v) s = .next t ∧ bitOf (t.get .PRS_RAIL_IN_WIN) (r.val + 1) = true ∧
          t.get .PRS_RAIL_FAULT = s.get .PRS_RAIL_FAULT ∧ t.supervisor.railOut.getD r none = none) ∧
      (∀ x, s.supervisor.railOut.getD r none = some x → x + 90 * usCu ≤ s.supTime →
        ∃ t, exec (.railReset r) s = .next t ∧ t.mode = .reset ∧ t.get .PRS_CAUSE_CAUSE = 3)) ∧
    (∀ temp vin : BitVec 16, (∀ x, s.supervisor.caseAt = some x → x + 1000 * usCu ≤ s.supTime) →
      ∃ t, exec (.caseTempRead temp vin) s = .next t ∧ t.get .PRS_TEMP_CASE = temp.toNat ∧ t.get .PRS_VIN_VIN = vin.toNat ∧
        t.supervisor.hotMs = (if 105 * 16 < temp.toInt then s.supervisor.hotMs + 1 else 0) ∧
        (s.getS .PRS_TEMP_CASE_HI < temp.toInt → s.supervisor.caseArm = true → Counted s t 539 ∧ t.supervisor.caseArm = false)) ∧
    (∀ f : DieNo, s.diePowered f = true →
      (∀ x, SMap.get (fun _ => none) s.supervisor.limitAt f = some x → x + 1000 * usCu ≤ s.frc →
        ∃ t, exec (.dieRailTrip f) s = .next t ∧ t.diePowered f = false ∧ bitOf (t.get .PRS_DIERAIL_TRIP) f = true ∧
        Bumped s t .PRS_CNT_DIE_TRIPS) ∧
      (∀ vsa vsd, 800 ≤ vsa ∨ 1200 ≤ vsd → SMap.get (fun _ => none) s.supervisor.limitAt f = none →
        ∃ t, exec (.dieRailLimit f vsa vsd) s = .next t ∧ bitOf (t.get .EVD_PEND_PEND f) 21 = true ∧
          SMap.get (fun _ => none) t.supervisor.limitAt f = some s.frc) ∧
      (∀ vsa vsd, vsa < 1710 ∨ vsd < 855 →
        ∃ t, exec (.dieRailUv f vsa vsd) s = .next t ∧ bitOf (t.get .EVD_PEND_PEND f) 20 = true) ∧
      (s.working = true → (s.die f).pll = false → bitOf s.harness.clocks (20 + f) = true →
        ∃ t, exec (.diePllLock f) s = .next t ∧ (t.die f).pll = true ∧
          ((s.die f).pwr = .init →
            ∀ c, c < 256 → (t.chan (256 * f + c)).restart = some (s.frc + 1, (s.dieOff f + 1) % 65536)))) ∧
    (∀ code (k : Fin 8) (slot : BitVec 48), s.working = true →
      ∃ t, exec (.datapathParityFault code k slot) s = .next t ∧ Bumped s t .EVM_CNTG_DP_PARITY ∧ Counted s t 542 ∧
        ∀ o ∈ t.packer.slots, o.slot = slot.toNat → bitOf o.poison k = true)

/-- Boot, staging flash and the retained log (R417, R427 to R429, R434 to R438, R445, R495): the ROM probes the devices, tries the candidates in
their order and reads the second when the first proves invalid; completing BOOT gives START or HALT with the identity of the image, no live
reload and every section locked, and START loads DEG_USED from the latest retained record with 60 s added, which may be the second that trips;
program and erase operations at the head complete; a retained record goes once to each device in use, into its next free page. Which state
stays of an invalid image is log entry 105, the order of records log entry 171, the pages of the log log entry 108. -/
def Obligations.BootEffect : Prop :=
  ∀ s : State,
    (s.mode = .boot → s.latigo.booted = none →
      (let u := (s.editFlash 0 Flash.probe).editFlash 1 Flash.probe
       (∀ d, d < 2 → s.flash.length = 2 → (s.flashDev d).usable = false → u.candidate d = none) ∧
       (u.candidates = [] →
         ∃ t b, exec .bootImageRead s = .next t ∧ t.mode = .boot ∧ t.flash = u.flash ∧ t.latigo.booted = some b ∧ b.valid = false ∧
           t.get .LAT_STAT_FALLBACK = 0) ∧
       (∀ d h, u.candidates = [(d, h)] →
         ∃ t b, exec .bootImageRead s = .next t ∧ t.latigo.booted = some b ∧ b.dev = d ∧ b.both = false ∧ b.id = h.id ∧
           b.seq = h.seq ∧ b.len = h.len ∧ b.meas = sha256 (readBytes (s.flashDev d).byte 0 h.len) ∧
           (b.valid = true → directoryOk (s.flashDev d).byte h = true)) ∧
       (∀ d h d' h', u.candidates = [(d, h), (d', h')] →
         (let r := ((u.put .LAT_LOCK_LOCK 0).putB .LAT_STAT_FALLBACK false).readImage d h false
          ∃ t b, exec .bootImageRead s = .next t ∧ t.latigo.booted = some b ∧
            if r.2.valid then b = r.2 ∧ b.dev = d
            else b.dev = d' ∧ b.both = true ∧ b.id = h'.id ∧ b.seq = h'.seq)))) ∧
    (∀ b, s.mode = .boot → s.latigo.booted = some b →
      ∃ t, exec .bootComplete s = .next t ∧ t.mode = (if b.valid then .start else .halt) ∧ t.get .LAT_LOCK_LOCK = 255 ∧
        t.get .ID_IMAGE_SEQ_IMAGE_SEQ = b.seq % 2 ^ 32 ∧ t.get .ID_IMAGE_LO_IMAGE_ID_LO = b.id % 2 ^ 32 ∧
        t.get .ID_BOOT_SRC = b.dev % 2 ∧ t.get .ID_BOOT_FALLBACK = b2n b.both ∧ t.get .ID_BOOT_NRELOAD = 0 ∧ t.latigo.booted = none ∧
        (∀ k, k < 8 → t.get .ID_IMGMEAS_IMGMEAS k = b.meas.getD k 0 % 2 ^ 32 ∧
          t.get .ID_LIVEMEAS_LIVEMEAS k = b.meas.getD k 0 % 2 ^ 32) ∧
        (b.valid = true → Counted s t 538 ∧ t.get .LAT_STAT_ACTIVE = 1 ∧ t.get .LAT_STAT_PROG = 0 ∧
          (let deg := match laterRecord (s.latestOf 0) (s.latestOf 1) with | some x => x.2.1 + 60 | none => 0
           t.get .BRD_DEG_DEG_USED = deg % 2 ^ Fld.BRD_DEG_DEG_USED.w ∧
           (s.get .BRD_DEG_DEG_USED < s.get .BRD_LIM3_DEG_MAX * 3600 → s.get .BRD_LIM3_DEG_MAX * 3600 ≤ deg →
             t.get .BRD_STAT_STATE = 3 ∧ Counted s t 519)))) ∧
    (∀ dev off bs ops, s.alive = true → s.latigo.ops = .progLog dev off bs :: ops → s.latigo.issued = true →
      ∃ t, exec .flashProgramDone s = .next t ∧ t.latigo.ops = ops ∧ t.flash = s.flash.modify dev (fun d => d.program off bs)) ∧
    (∀ dev off bs ops, s.alive = true → s.latigo.ops = .progStage dev off bs :: ops → s.latigo.issued = true →
      ∃ t, exec .flashProgramDone s = .next t ∧ t.latigo.ops = ops ∧ t.flash = s.flash.modify dev (fun d => d.program off bs) ∧
        t.latigo.bufWords = s.latigo.bufWords - bs.length / 8) ∧
    (∀ dev sector lastOne ops, s.alive = true → s.latigo.ops = .eraseStage dev sector lastOne :: ops → s.latigo.issued = true →
      ∃ t, exec .eraseDone s = .next t ∧ t.latigo.ops = ops ∧ t.flash = s.flash.modify dev (fun d => d.erase sector) ∧
        (lastOne = true → s.get .LAT_STAT_STAGE_STATE = 1 → t.get .LAT_STAT_STAGE_STATE = 2 ∧ t.get .LAT_STAGEPOS_NEXT = 0x1000)) ∧
    (∀ dev sector ops, s.alive = true → s.latigo.issued = true →
      (s.latigo.ops = .eraseLog dev sector :: ops →
        ∃ t, exec .eraseDone s = .next t ∧ t.latigo.ops = ops ∧ t.flash = s.flash.modify dev (fun d => d.erase sector)) ∧
      (s.latigo.ops = .eraseHeader dev :: ops →
        ∃ t, exec .eraseDone s = .next t ∧ t.latigo.ops = ops ∧ t.flash = s.flash.modify dev (fun d => d.erase 0))) ∧
    (s.working = true → s.recordDue = true →
      ∃ t, exec .retainedLogWrite s = .next t ∧ Bumped s t .LAT_RETAIN_RSEQ ∧ t.latigo.savedAt = s.frc ∧
        t.latigo.degSaved = s.get .BRD_DEG_DEG_USED ∧ t.latigo.saveDue = false ∧ t.flash = s.flash ∧
        ∃ l0 l1, t.latigo.ops = s.latigo.ops ++ (l0 ++ l1) ∧ ∀ p ∈ [(0, l0), (1, l1)],
          ((s.flashDev p.1).used = false → p.2 = []) ∧
          ((s.flashDev p.1).used = true → ∃ e,
            p.2 = .progLog p.1 ((s.flashDev p.1).logBase + 256 * s.freePage p.1 (s.latigo.logPage.getD p.1 0))
              (recordBytes (s.get .LAT_RETAIN_RSEQ + 1) (s.get .BRD_DEG_DEG_USED) s.latigo.starts (s.get .BRD_TRIP_CAUSE)) :: e ∧
            (e = [] ∨ ∃ n, e = [.eraseLog p.1 n])))

/-! ### Register fabric (18, 21) -/

/-- Register accesses at the Saddle (R8, R10, R241, R444, R488, R492, Table 18.9), with no access in flight or waiting: the low word of a pair leaves
the shadow of its requester; a high word that the shadow holds comes from it, any other is torn; a read clears an RC field; a
write of a register that holds a value and no action leaves what the access kinds of its fields give, and the item that TMI gets
says so; an address that names nothing has status 1; the Tree debug window writes four bytes, and waits for a row that is being copied and for the next
C640 edge where a later rank has been served at this one. The requester's turn at its C160 edge is log entry 103, the order of the tests log
entry 98, a shadow's end log entry 101, and what of a read JTAG may make log entry 124. -/
def Obligations.RegisterAccessEffect : Prop :=
  ∀ s : State, s.fabricBusy = false →
    (∀ who tag (addr : Word32) r i h, s.served who = true → target addr.toNat = .reg r i → srHigh r = some h →
      ∃ t, exec (.srLowRead who tag addr) s = .next t ∧
        t.fabric.shadows = setAt [none, none, none] (whoIdx who) (some ⟨r.ctorIdx, s.view h i, s.nowFu % 128⟩) ∧
        (who = .latigo → t.get .LAT_W_W (tag.toNat % 8) = s.view r i) ∧ (who = .jtag → t.fabric.jtag = (0, false, s.view r i)) ∧
        (who = .tmi → ∃ w a, t.packer.items = s.packer.items ++ [(5, [w, a])] ∧ fw w 60 4 = 1 ∧ fw w 52 8 = tag.toNat ∧
          fw w 51 1 = 0 ∧ fw w 48 3 = 0 ∧ fw w 0 32 = s.view r i)) ∧
    (∀ who tag (addr : Word32) r i lo, s.served who = true → target addr.toNat = .reg r i → srLow r = some lo →
      ∃ t, exec (.srHighRead who tag addr) s = .next t ∧
        (∀ x, s.fabric.shadows.getD (whoIdx who) none = some x → x.pair = lo.ctorIdx → lo ≠ .GIR_NOW_LO →
          t.fabric.shadows = [none, none, none] ∧ (who = .jtag → t.fabric.jtag = (0, false, x.high))) ∧
        (s.fabric.shadows.getD (whoIdx who) none = none →
          t.fabric.shadows = [none, none, none] ∧ (who = .jtag → t.fabric.jtag = (0, true, s.view r i)))) ∧
    (∀ who tag (addr : Word32) i, s.served who = true → target addr.toNat = .reg .STI_WIN i →
      ∃ t, exec (.rcRead who tag addr) s = .next t ∧ fieldOf (t.reg .STI_WIN i).toNat 0 16 = 0 ∧
        fieldOf (t.reg .STI_WIN i).toNat 16 16 = fieldOf (s.reg .STI_WIN i).toNat 16 16 ∧
        (who = .jtag → t.fabric.jtag = (0, false, (s.reg .STI_WIN i).toNat))) ∧
    (∀ who tag (addr : Word32) data, s.served who = true →
      (∀ r i, target addr.toNat = .reg r i → r.writable (s.locked (lockOf r)) = true →
        (∀ u : State, u.writeReg r i data = u.writePlain r i data) →
        ∃ t, exec (.registerWrite who tag addr data) s = .next t ∧
          t.reg r i = plainWrite (s.reg r i) data (s.locked (lockOf r)) r.fields ∧ (who = .jtag → t.fabric.jtag = (0, false, 0))) ∧
      (∀ r i, target addr.toNat = .reg r i → r.writable (s.locked (lockOf r)) = false →
        ∃ t, exec (.registerWrite who tag addr data) s = .next t ∧ t.regs = s.regs ∧ (who = .jtag → t.fabric.jtag = (3, false, 0))) ∧
      (target addr.toNat = .none →
        ∃ t, exec (.registerWrite who tag addr data) s = .next t ∧ t.regs = s.regs ∧ (who = .jtag → t.fabric.jtag = (1, false, 0)))) ∧
    (∀ who tag (addr data : Word32) x, s.served who = true → who ≠ .latigo → target addr.toNat = .tree x → x / 8 < mapStart →
      (s.copying (x / 8) = false → s.inOrder 5 = true →
        ∃ t, exec (.debugWindowWrite who tag addr data) s = .next t ∧ t.stale (x / 8) = true ∧ treeWord t x = data.toNat ∧
          (who = .jtag → t.fabric.jtag = (0, false, 0))) ∧
      (s.copying (x / 8) = true ∨ s.inOrder 5 = false →
        ∃ t, exec (.debugWindowWrite who tag addr data) s = .next t ∧ t.tree = s.tree ∧
          t.fabric.waiting = [⟨s.c160, who, contOf who tag.toNat, true, addr.toNat, data.toNat⟩])) ∧
    (∀ tgt tag (addr data : Word32) r i, s.tmiActs = true → s.addressed tgt = true → s.turn .tmi = true → target addr.toNat = .reg r i →
      (r.writable (s.locked (lockOf r)) = true → (∀ u : State, u.writeReg r i data = u.writePlain r i data) →
        ∃ t w a, exec (.tmiRegWr tgt tag addr data) s = .next t ∧
          t.reg r i = plainWrite (s.reg r i) data (s.locked (lockOf r)) r.fields ∧
          t.packer.items = s.packer.items ++ [(5, [w, a])] ∧ fw w 60 4 = 2 ∧ fw w 52 8 = tag.toNat ∧ fw w 48 3 = 0) ∧
      (srHigh r = none → srLow r = none → r.fields.all (fun f => f.acc != .rc) = true → [Reg.STR_MAPDATA, .ING_STAT, .HQD_STAT, .RNG_CNT, .RNG_CNT2].contains r = false →
        ∃ t w a, exec (.tmiRegRd tgt tag addr) s = .next t ∧ t.regs = s.regs ∧
          t.packer.items = s.packer.items ++ [(5, [w, a])] ∧ fw w 60 4 = 1 ∧ fw w 52 8 = tag.toNat ∧ fw w 48 3 = 0 ∧
          fw w 0 32 = s.view r i) ∧
      (r = .ING_STAT →
        ∃ t w a l, exec (.tmiRegRd tgt tag addr) s = .next t ∧ t.packer.items = l ++ [(5, [w, a])] ∧ fw w 52 8 = tag.toNat ∧
          fw w 48 3 = 0 ∧ fw w 0 32 = (s.ingSettle i).view .ING_STAT i))

/-- Die accesses (R264, R444, R490, Table 10.3): an access to a powered die waits for its return lane and is in flight; one that comes
meanwhile waits; the die answers on data lane 0, with ERR for an address that names nothing; the answer and the time-out of 4,096
cu end the access. A die acts on the words that its return lane has brought it (log entry 207), and the RTAG of the Latigo's accesses is log
entry 33. -/
def Obligations.DieAccessEffect : Prop :=
  ∀ s : State, s.working = true →
    (∀ tgt tag (addr : Word32) f r i off, s.addressed tgt = true → s.fabricBusy = false → s.turn .tmi = true →
      target addr.toNat = .die f r i off →
      s.diePowered f = true →
      ∃ t a, exec (.tmiRegRd tgt tag addr) s = .next t ∧ t.fabric.access = some a ∧ a.die = f ∧ a.wr = false ∧
        a.rtag = tag.toNat ∧ a.since = s.frc ∧
        SMap.get (fun _ => []) t.harness.retQ f =
          SMap.get (fun _ => []) s.harness.retQ f ++ [.word (dieWord false off tag.toNat 0)]) ∧
    (∀ tgt tag (addr : Word32) f r i off, s.addressed tgt = true → s.fabricBusy = false → s.turn .tmi = true →
      target addr.toNat = .die f r i off →
      s.diePowered f = false →
      ∃ t w a, exec (.tmiRegRd tgt tag addr) s = .next t ∧ t.fabric.access = none ∧
        t.packer.items = s.packer.items ++ [(5, [w, a])] ∧ fw w 48 3 = 2) ∧
    (∀ tgt tag (addr data : Word32), s.addressed tgt = true → s.fabricBusy = true →
      ∃ t, exec (.tmiRegWr tgt tag addr data) s = .next t ∧ t.regs = s.regs ∧
        t.fabric.waiting = waitPlace ⟨s.c160, .tmi, .tmi tag.toNat, true, addr.toNat, data.toNat⟩ s.fabric.waiting) ∧
    (∀ (f : DieNo) w, s.diePowered f = true → (s.die f).frz0 = none → fw w 60 4 = 1 → s.retDue f (· == w) = true →
      (dieTarget f (fw w 40 20) = none →
        ∃ t, exec (.dieRegWr f w) s = .next t ∧ t.regs = s.regs ∧ answerWord (fw w 32 8) true true 0 ∈ (t.quad (4 * f.val)).cs) ∧
      (∀ r i, dieTarget f (fw w 40 20) = some (r, i) →
        (∀ u : State, u.writeReg r i (BitVec.ofNat 32 (fw w 0 32)) = u.writePlain r i (BitVec.ofNat 32 (fw w 0 32))) →
        ∃ t, exec (.dieRegWr f w) s = .next t ∧
          t.reg r i = plainWrite (s.reg r i) (BitVec.ofNat 32 (fw w 0 32)) (s.locked (lockOf r)) r.fields ∧
          answerWord (fw w 32 8) false true 0 ∈ (t.quad (4 * f.val)).cs)) ∧
    (∀ (f : DieNo) w r i, s.diePowered f = true → (s.die f).frz0 = none → fw w 60 4 = 2 → s.retDue f (· == w) = true → dieTarget f (fw w 40 20) = some (r, i) →
      ∃ t x, exec (.dieRegRd f w) s = .next t ∧ answerWord (fw w 32 8) false false x ∈ (t.quad (4 * f.val)).cs ∧
        ([Reg.STR_MAPDATA, .ING_STAT, .HQD_STAT, .RNG_CNT, .RNG_CNT2].contains r = false → x = s.view r i) ∧ (r = .HQD_STAT → x = (s.hqStat i).view r i) ∧
        (r = .RNG_CNT ∨ r = .RNG_CNT2 → x = (s.land (i / 64)).view r i)) ∧
    (∀ (f : DieNo) w a tag, s.fabric.access = some a → s.fabric.waiting = [] → a.cont = .tmi tag → a.die = f.val →
      s.initTurn f = false → fw w 58 6 = 0x33 → fw w 50 8 = a.rtag → fw w 48 1 = b2n a.wr → fw w 49 1 = 0 →
      ∃ t x y, exec (.regAnswer f w) s = .next t ∧ t.fabric.access = none ∧ t.packer.items = s.packer.items ++ [(5, [x, y])] ∧
        fw x 52 8 = tag % 256 ∧ fw x 48 3 = 0 ∧ fw x 0 32 = fw w 0 32) ∧
    (∀ a tag, s.fabric.access = some a → s.fabric.waiting = [] → a.cont = .tmi tag → a.since + 4096 ≤ s.frc →
      ∃ t x y, exec .regTimeout s = .next t ∧ t.fabric.access = none ∧ t.packer.items = s.packer.items ++ [(5, [x, y])] ∧
        fw x 52 8 = tag % 256 ∧ fw x 48 3 = 2 ∧ Bumped s t .HAR_CNT6_REG_TIMEOUT ∧ Counted s t 431)

/-! ### Latigo (18) -/

/-- Commands that act on images and programs (R435, R437, R442, R443, R445 to R449, Tables 18.8 to 18.10): their effect, and the refusals of
Table 18.8; while DIE_INIT is under way every primitive but BIAS_OFF_NOW waits. STAGE_OPEN in CLOSED and FAILED is log entry 112, of a device
that is not in use log entry 210, the device of STAGE_ABORT log entry 113, the template store log entry 208. -/
def Obligations.ImageCommandEffect : Prop :=
  ∀ s : State, s.tmiActs = true →
    (∀ tgt arg, s.addressed tgt = true → s.latigo.initRun = none →
      (∃ t ws x, exec (.measReport tgt arg) s = .next t ∧ Bumped s t .LAT_CNT3_MEAS_REPORTS ∧ ws.length = 15 ∧
        t.packer.items = s.packer.items ++ [(6, ws), (5, x)] ∧ fw (ws.getD 0 0) 60 4 = 3 ∧
        fw (ws.getD 0 0) 16 32 = fieldOf arg.toNat 0 32) ∧
      (([1, 2, 3] : List Nat).contains (s.get .LAT_STAT_STAGE_STATE) = false → (s.flashDev (s.stageDev arg.toNat)).used = true → 1 ≤ fieldOf arg.toNat 0 16 → fieldOf arg.toNat 0 16 ≤ 1536 →
        ∃ t, exec (.stageOpen tgt arg) s = .next t ∧ t.get .LAT_STAT_STAGE_STATE = 1 ∧
          t.get .LAT_STAT_STAGE_DEV = s.stageDev arg.toNat % 2 ∧ t.latigo.header = [] ∧
          t.latigo.ops = s.latigo.ops ++ eraseOps (s.stageDev arg.toNat) (fieldOf arg.toNat 0 16)) ∧
      (([1, 2, 3] : List Nat).contains (s.get .LAT_STAT_STAGE_STATE) = true ∨ (s.flashDev (s.stageDev arg.toNat)).used = false ∨
          fieldOf arg.toNat 0 16 = 0 ∨ 1536 < fieldOf arg.toNat 0 16 →
        ∃ t x y, exec (.stageOpen tgt arg) s = .next t ∧ t.latigo = s.latigo ∧ t.packer.items = s.packer.items ++ [(5, [x, y])] ∧
          fw x 48 3 = 4) ∧
      (s.get .LAT_STAT_STAGE_STATE = 2 → ∃ t, exec (.stageClose tgt arg) s = .next t ∧ t.get .LAT_STAT_STAGE_STATE = 3) ∧
      (s.get .LAT_STAT_STAGE_STATE ≠ 2 → ∃ t, exec (.stageClose tgt arg) s = .next t ∧ t.regs = s.regs) ∧
      (∃ t, exec (.stageAbort tgt arg) s = .next t ∧ t.get .LAT_STAT_STAGE_STATE = 0 ∧ t.latigo.bufWords = 0 ∧
        ((s.flashDev s.abortDev).used = true → ∃ l, t.latigo.ops = l ++ [.eraseHeader s.abortDev] ∧
          ∀ o ∈ l.drop (b2n s.latigo.issued), o.staging = false)) ∧
      (∀ d h x bs, d = (if bitOf arg.toNat 16 then 1 - s.get .PRS_STATE_IMAGE_SRC else s.get .PRS_STATE_IMAGE_SRC) →
        s.candidate d = some h →
        (sectionsOf (s.flashDev d).byte h).find? (fun x => x.type == fieldOf arg.toNat 8 8 && x.index == fieldOf arg.toNat 0 8) = some x →
        x.type = 3 → x.index ≤ 16 → x.ulen ≤ 262144 → inflateSection (s.flashDev d).byte x = .inl bs →
        ∃ t, exec (.reload tgt arg) s = .next t ∧ Bumped s t .ID_BOOT_NRELOAD ∧ Bumped s t .LAT_CNT2_RELOADS ∧
          t.latigo.templ = s.latigo.templ.filter (fun y => y.1 != x.index) ++ [(x.index, min 8192 (wordPairs bs).length)] ∧
          (s.tree.copy = none → ∀ k v, k < 8192 → (wordPairs bs)[k]? = some v →
            t.block (templBlock x.index k) = TBlock.full (v.1 * 2 ^ 32 + v.2))) ∧
      (s.mode ≠ .halt → s.get .LAT_STAT_STAGE_STATE ≠ 1 → s.get .LAT_STAT_STAGE_STATE ≠ 3 → s.flashDeferred = false →
        ∃ t u, exec (.restart tgt arg) s = .next t ∧ exec .rstNLow s = .next u ∧ t.mode = .reset ∧ t.get .PRS_CAUSE_CAUSE = 6 ∧
          t = { u with regs := t.regs, line := t.line } ∧ ∀ r i, r ≠ .PRS_CAUSE → t.reg r i = u.reg r i) ∧
      (s.mode = .halt → s.get .LAT_STAT_STAGE_STATE ≠ 1 → s.get .LAT_STAT_STAGE_STATE ≠ 3 → s.flashDeferred = false →
        ∃ t, exec (.restart tgt arg) s = .next t ∧ t.mode = .boot ∧ exec .bootImageRead t = .next t.bootRead) ∧
      (s.get .LAT_STAT_STAGE_STATE = 1 ∨ s.get .LAT_STAT_STAGE_STATE = 3 ∨ s.flashDeferred = true →
        ∃ t x y, exec (.restart tgt arg) s = .next t ∧ t.mode = s.mode ∧ t.regs = s.regs ∧
          t.packer.items = s.packer.items ++ [(5, [x, y])] ∧ fw x 48 3 = 4) ∧
      (s.latigo.queue.contains (fieldOf arg.toNat 0 5) = false → s.latigo.queue.length < 8 →
        ∃ t, exec (.runProg tgt arg) s = .next t ∧ t.latigo.queue = s.latigo.queue ++ [fieldOf arg.toNat 0 5])) ∧
    (∀ tgt arg, s.addressed tgt = true →
      (∀ op : Byte, op.toNat = 0 ∨ 0x12 < op.toNat →
        ∃ t x y, exec (.cmdUnknown tgt op arg) s = .next t ∧ Counted s t 433 ∧
          t.packer.items = s.packer.items ++ [(5, [x, y])] ∧ fw x 60 4 = 3 ∧ fw x 52 8 = op.toNat ∧ fw x 48 3 = 4) ∧
      (s.latigo.initRun ≠ none → ∀ p ∈ [(Instr.runProg tgt arg, 0x01), (.measReport tgt arg, 0x02), (.stageOpen tgt arg, 0x03),
          (.stageClose tgt arg, 0x04), (.stageAbort tgt arg, 0x05), (.reload tgt arg, 0x06), (.restart tgt arg, 0x07),
          (.dieOut tgt arg, 0x08), (.dieInit tgt arg, 0x0A), (.dieJoin tgt arg, 0x0B), (.cal tgt arg, 0x0C), (.force tgt arg, 0x0D),
          (.biasOn tgt arg, 0x0E), (.biasDown tgt arg, 0x0F), (.biasSet tgt arg, 0x11), (.laneRetrain tgt arg, 0x12)],
        ∃ t, exec p.1 s = .next t ∧ t.latigo = { s.latigo with prims := s.latigo.prims ++ [⟨p.2, arg.toNat, true⟩] } ∧ t.regs = s.regs)) ∧
    (∀ tgt tag (off : Word32) ws, s.addressed tgt = true → s.get .LAT_STAT_STAGE_STATE = 2 → 1 ≤ ws.length → ws.length ≤ 32 →
      (off.toNat + 8 * ws.length ≤ 0x1000 →
        ∃ t, exec (.stage tgt tag off ws) s = .next t ∧ t.latigo.ops = s.latigo.ops ∧
          ∀ k, k < 8 * ws.length → SMap.get (fun _ => 0xFF) t.latigo.header (off.toNat + k) = (wordBytes ws).getD k 0) ∧
      (0x1000 < off.toNat + 8 * ws.length → s.get .LAT_STAGEPOS_NEXT ≤ off.toNat →
        off.toNat + 8 * ws.length ≤ s.get .LAT_STAGE_SECTORS * 4096 → s.latigo.bufWords + ws.length ≤ 8192 →
        ∃ t, exec (.stage tgt tag off ws) s = .next t ∧ t.latigo.bufWords = s.latigo.bufWords + ws.length ∧
          t.latigo.ops = s.latigo.ops ++ [.progStage (s.get .LAT_STAT_STAGE_DEV) off.toNat (wordBytes ws)] ∧
          t.get .LAT_STAGEPOS_NEXT = (off.toNat + 8 * ws.length) % 2 ^ Fld.LAT_STAGEPOS_NEXT.w)) ∧
    (s.get .LAT_STAT_STAGE_STATE = 3 → s.stageBusy = false →
      (headerOf s.stagedByte = none → ∃ t, exec .stageVerifyDone s = .next t ∧ t.get .LAT_STAT_STAGE_STATE = 5 ∧ Counted s t 533) ∧
      (∀ h, headerOf s.stagedByte = some h → directoryOk s.stagedByte h = true →
        (State.verifySections s.stagedByte (readOrder (sectionsOf s.stagedByte h)) s).2 = true →
        ∃ t, exec .stageVerifyDone s = .next t ∧ t.get .LAT_STAT_STAGE_STATE = 4 ∧
          t.latigo.ops = s.latigo.ops ++ [.progHeader (s.get .LAT_STAT_STAGE_DEV) (readBytes s.stagedByte 0 0x1000)]))

/-- Commands that act on dies, triggers and lanes (R22, R368, R443, R451 to R453, R485, Table 18.8). DIE_PWR on puts the die into INIT at once (log
entry 115) and requests its runs; DIE_INIT enables the lanes, sends TSET and begins to write the template; each answer ends one write, a write
without an answer for 4,096 cu fails with event 431, and with the last one DIE_INIT ends, complete unless a write failed (log entry 41); DIE_JOIN
asks for a latency measured since the lanes were lost. -/
def Obligations.DieCommandEffect : Prop :=
  ∀ (s : State) tgt (arg : BitVec 36), s.working = true → s.addressed tgt = true →
    (s.latigo.initRun = none → ∀ f, f = fieldOf arg.toNat 0 4 →
      (s.joined f = true → s.dieMap f = none →
        ∃ t, exec (.dieOut tgt arg) s = .next t ∧ (t.die f).outPend = true ∧ (t.die f).pwr = .joined) ∧
      (∀ b, s.joined f = true → s.dieMap f = some b → s.get .BRD_LIM7_STBY < s.get .BRD_SET_SENT b →
        ∃ t, exec (.dieOut tgt arg) s = .next t ∧ t.dies = s.dies) ∧
      (bitOf arg.toNat 4 = true → s.diePowered f = false →
        ∃ t, exec (.diePwrOn tgt arg) s = .next t ∧ (t.die f).pwr = .init ∧ (t.die f).initDone = false ∧ Counted s t 537 ∧
          bitOf (t.bur f).req 1 = true ∧ bitOf (t.bur f).req 2 = true) ∧
      (bitOf arg.toNat 4 = false → s.diePowered f = true → s.joined f = false →
        ∃ t, exec (.diePwrOff tgt arg) s = .next t ∧ t.diePowered f = false ∧ Counted s t 537) ∧
      (bitOf arg.toNat 4 = false → s.joined f = true → ∃ t, exec (.diePwrOff tgt arg) s = .next t ∧ t.dies = s.dies) ∧
      ((s.die f).pwr = .init →
        ∃ t, exec (.dieInit tgt arg) s = .next t ∧
          t.latigo.initRun = some { req := ⟨0x0A, arg.toNat, true⟩, die := f, templ := s.templateOf f, size := s.templSize (s.templateOf f),
                                    next := 0, sent := [], failed := false } ∧
          SMap.get (fun _ => []) t.harness.retQ f = SMap.get (fun _ => []) s.harness.retQ f ++ [.tset] ∧
          ∀ q, q < 4 → t.get .HAR_RXL_CTRL_LANE_EN (4 * f + q) = 1) ∧
      ((s.die f).pwr ≠ .init → ∃ t, exec (.dieInit tgt arg) s = .next t ∧ t.dies = s.dies ∧ t.regs = s.regs) ∧
      ((s.die f).pwr = .init → (s.die f).initDone = true → s.flag .SHL_STAT_CLK_OK f = true → s.flag .SHL_STAT_TSET_DONE f = true →
        s.dieLocked f = true → s.measured f = true → (∀ q, q < 4 → 64 ≤ s.get .HAR_SHLAT_LAT (4 * f + q) ∧ s.get .HAR_SHLAT_LAT (4 * f + q) ≤ 160) →
        ∃ t, exec (.dieJoin tgt arg) s = .next t ∧ (t.die f).joinPend = true) ∧
      (s.measured f = false → ∃ t, exec (.dieJoin tgt arg) s = .next t ∧ t.dies = s.dies)) ∧
    (∀ (f : DieNo) r u l, s.latigo.initRun = some r → r.die = f.val → r.sent = u :: l → s.fabric.access = none →
      (∀ w, fw w 58 6 = 0x33 → fw w 50 8 = 0 → fw w 48 1 = 1 →
        ∃ t, exec (.regAnswer f w) s = .next t ∧ t.latigo.initRun = some { r with sent := l }) ∧
      (u + 4096 ≤ s.frc →
        ∃ t, exec .regTimeout s = .next t ∧ t.latigo.initRun = some { r with sent := l, failed := true } ∧
          Bumped s t .HAR_CNT6_REG_TIMEOUT ∧ Counted s t 431)) ∧
    (∀ r, s.pending = [] → s.fabric.waiting = [] → s.latigo.initRun = some r → r.next = r.size → r.sent = [] → s.latigo.prims = [] →
      r.req.tmi = true →
      ∃ t x y, step s = .next t ∧ t.latigo.initRun = none ∧ (t.die r.die).initDone = (!r.failed || (s.die r.die).initDone) ∧
        t.packer.items = s.packer.items ++ [(5, [x, y])] ∧ fw x 60 4 = 3 ∧ fw x 48 3 = if r.failed then 2 else 0) ∧
    (s.latigo.initRun = none → bitOf (s.get .STR_CTRL_SRC_EN) 2 = true →
      ∃ t, exec (.force tgt arg) s = .next t ∧ ∃ x ∈ t.stirrup.trigs, bitOf x.src 2 = true) ∧
    (s.latigo.initRun = none → ∀ g, g = fieldOf arg.toNat 0 6 →
      (g < 16 → s.joined g = false →
        ∃ t, exec (.laneRetrain tgt arg) s = .next t ∧ ∀ q, q < 4 → t.get .HAR_RXL_CTRL_LANE_EN (4 * g + q) = 1 ∧
          t.get .HAR_RXL_STAT_STATE (4 * g + q) = b2n (s.clockOk (4 * g + q))) ∧
      (g < 16 → s.joined g = true →
        ∃ t x y, exec (.laneRetrain tgt arg) s = .next t ∧ t.regs = s.regs ∧ t.packer.items = s.packer.items ++ [(5, [x, y])] ∧
          fw x 48 3 = 4))

/-- The instructions of the sequencer (R440 to R443, Table 18.7), each at the position of a program that runs, waits for nothing and has not
exceeded its budget, one in a C160 cycle; only those that access a register wait for their turn at the fabric, and one that meets an access in
flight waits (log entries 32, 103). A PRIM ends with its status; DIE_INIT ends later (log entry 111 for an undefined code). The position of an
uncorrectable row of the store aborts. -/
def Obligations.SequencerEffect : Prop :=
  ∀ (s : State) (w : Word64), s.seqReady = true → s.fetch = some w →
    (fw w 58 6 = 0x01 → s.turn .latigo = true → s.fabricBusy = false →
      ∀ r i, target (waddr w) = .reg r i → r.writable (s.locked (lockOf r)) = true →
      (∀ u : State, u.writeReg r i (BitVec.ofNat 32 (fw w 0 32)) = u.writePlain r i (BitVec.ofNat 32 (fw w 0 32))) →
      ∃ t, exec (.wri false) s = .next t ∧ t.latigo.pos = s.latigo.pos + 1 ∧ t.latigo.wait = .none ∧
        t.reg r i = plainWrite (s.reg r i) (BitVec.ofNat 32 (fw w 0 32)) (s.locked (lockOf r)) r.fields) ∧
    (fw w 58 6 = 0x02 → s.turn .latigo = true → s.fabricBusy = false →
      ∀ r i, target (waddr w) = .reg r i → r.writable (s.locked (lockOf r)) = true →
      (∀ u : State, u.writeReg r i (BitVec.ofNat 32 (s.w (fw w 32 3))) = u.writePlain r i (BitVec.ofNat 32 (s.w (fw w 32 3)))) →
      ∃ t, exec (.wrr false) s = .next t ∧ t.latigo.pos = s.latigo.pos + 1 ∧ t.latigo.wait = .none ∧
        t.reg r i = plainWrite (s.reg r i) (BitVec.ofNat 32 (s.w (fw w 32 3))) (s.locked (lockOf r)) r.fields) ∧
    (fw w 58 6 = 0x03 → s.turn .latigo = true → s.fabricBusy = false →
      target (waddr w) = .none →
      ∃ t, exec (.rd false) s = .next t ∧ t.latigo.pos = s.latigo.pos + 1 ∧ t.w (fw w 32 3) = 0) ∧
    (fw w 58 6 = 0x03 → s.turn .latigo = true → s.fabricBusy = false →
      ∀ r i, target (waddr w) = .reg r i → srHigh r = none → srLow r = none →
      r.fields.all (fun f => f.acc != .rc) = true → [Reg.STR_MAPDATA, .ING_STAT, .HQD_STAT, .RNG_CNT, .RNG_CNT2].contains r = false →
      ∃ t, exec (.rd false) s = .next t ∧ t.latigo.pos = s.latigo.pos + 1 ∧ t.w (fw w 32 3) = s.view r i) ∧
    (fw w 58 6 = 0x03 → s.turn .latigo = true → s.fabricBusy = false →
      ∀ i, target (waddr w) = .reg .ING_STAT i →
      ∃ t, exec (.rd false) s = .next t ∧ t.latigo.pos = s.latigo.pos + 1 ∧ t.w (fw w 32 3) = (s.ingSettle i).view .ING_STAT i) ∧
    (fw w 58 6 = 0x04 → s.turn .latigo = true → s.fabricBusy = false →
      ∀ r i, target (waddr w) = .reg r i → r.writable (s.locked (lockOf r)) = true → srHigh r = none →
      srLow r = none → r.fields.all (fun f => f.acc != .rc) = true → [Reg.STR_MAPDATA, .ING_STAT, .HQD_STAT, .RNG_CNT, .RNG_CNT2].contains r = false →
      (∀ (u : State) d, u.writeReg r i d = u.writePlain r i d) →
      ∃ t, exec (.rmw false) s = .next t ∧ t.latigo.pos = s.latigo.pos + 1 ∧
        t.reg r i = plainWrite (s.reg r i) (BitVec.ofNat 32 (modified (s.view r i) (s.w (fw w 32 3)) (s.w (fw w 29 3))))
          (s.locked (lockOf r)) r.fields) ∧
    (fw w 58 6 = 0x01 → s.fabricBusy = true →
      ∃ t, exec (.wri false) s = .next t ∧ t.latigo.pos = s.latigo.pos ∧ t.latigo.wait = .access ∧ t.regs = s.regs ∧
        t.fabric.waiting = waitPlace ⟨s.c160, .latigo, .write, true, waddr w, fw w 0 32⟩ s.fabric.waiting) ∧
    (fw w 58 6 = 0x05 →
      ∃ t, exec (.ldi false) s = .next t ∧ t.latigo.pos = s.latigo.pos + 1 ∧ t.latigo.seqAt = s.frc + 16 ∧ t.w (fw w 32 3) = fw w 0 32) ∧
    (fw w 58 6 = 0x06 →
      ∃ t, exec (.alu false) s = .next t ∧ t.latigo.pos = s.latigo.pos + 1 ∧
        t.w (fw w 32 3) = aluResult (fw w 23 3) (s.w (fw w 29 3)) (s.w (fw w 26 3)) (fw w 0 16) % 2 ^ 32) ∧
    (fw w 58 6 = 0x07 → s.turn .latigo = true → s.fabricBusy = false →
      target (waddr w) = .none →
      ∃ t, exec (.poll false) s = .next t ∧
        (s.w (fw w 32 3) = 0 → t.latigo.pos = s.latigo.pos + 1 ∧ t.latigo.flagT = false ∧ t.latigo.wait = .none) ∧
        (s.w (fw w 32 3) ≠ 0 → fw w 13 16 ≠ 0 →
          t.latigo.pos = s.latigo.pos ∧ t.latigo.wait = .poll (s.frc + fw w 13 16 * 16384))) ∧
    (fw w 58 6 = 0x08 → ∃ t, exec (.waits false) s = .next t ∧ t.latigo.wait = .strobes (fw w 0 32) ∧ t.latigo.pos = s.latigo.pos) ∧
    (fw w 58 6 = 0x09 →
      ∃ t, exec (.waitc false) s = .next t ∧ t.latigo.wait = .cycles (s.frc + 16 * fw w 0 32) ∧ t.latigo.pos = s.latigo.pos) ∧
    (fw w 58 6 = 0x0A → fw w 0 12 < s.program.len → ∃ t, exec (.jmp false) s = .next t ∧ t.latigo.pos = fw w 0 12 ∧ t.regs = s.regs) ∧
    (fw w 58 6 = 0x0B → fw w 0 12 < s.program.len →
      ∃ t, exec (.br false) s = .next t ∧ t.regs = s.regs ∧ t.latigo.pos =
        (if branchTaken (fw w 27 2) (s.w (fw w 32 3)) (s.w (fw w 29 3)) s.latigo.flagT then fw w 0 12 else s.latigo.pos + 1)) ∧
    (fw w 58 6 = 0x0C →
      (let arg := if fw w 49 1 = 1 then s.w (fw w 46 3) else fw w 0 36
       let u : State := { s with latigo := { s.latigo with seqAt := s.frc + 16, wait := .prim } }
       let r := u.runPrimitive (fw w 50 8) arg
       (fw w 50 8 ≠ 0x0A → s.latigo.initRun = none ∨ fw w 50 8 = 0x10 →
         ∃ t, exec (.prim false) s = .next t ∧
           (if r.1.mode = .reset then t = r.1 else t.w 7 = r.2 % 2 ^ 32 ∧ t.latigo.flagT = decide (r.2 ≠ 0) ∧
             t.latigo.pos = r.1.latigo.pos + 1 ∧ t.latigo.wait = .none)) ∧
       (fw w 50 8 = 0x0A → s.latigo.initRun = none → (s.die (fieldOf arg 0 4)).pwr = .init →
         ∃ t, exec (.prim false) s = .next t ∧ t.latigo.wait = .prim ∧ t.latigo.pos = s.latigo.pos ∧ t.latigo.initRun.isSome = true) ∧
       (fw w 50 8 = 0x0A → s.latigo.initRun = none → (s.die (fieldOf arg 0 4)).pwr ≠ .init →
         ∃ t, exec (.prim false) s = .next t ∧ t.w 7 = 4 ∧ t.latigo.flagT = true ∧ t.latigo.pos = s.latigo.pos + 1) ∧
       (fw w 50 8 ≠ 0x10 → s.latigo.initRun ≠ none →
         ∃ t, exec (.prim false) s = .next t ∧ t.latigo.wait = .prim ∧ t.latigo.pos = s.latigo.pos ∧
           t.latigo.prims = s.latigo.prims ++ [⟨fw w 50 8, arg, false⟩]))) ∧
    (fw w 58 6 = 0x0D → ∃ t, exec (.evt false) s = .next t ∧ Counted s t 531 ∧ t.latigo.pos = s.latigo.pos + 1) ∧
    (fw w 58 6 = 0x0F →
      ∃ t, exec (.endProg false) s = .next t ∧ Bumped s t .LAT_CNT0_PROGS_RUN ∧ t.get .LAT_STAT_ACTIVE = 0 ∧ t.latigo.nextStore = [] ∧
        ∀ x, s.latigo.nextStore = [x] → t.latigo.progs = x.progs ∧ t.latigo.code = x.code ∧ Bumped s t .LAT_CNT2_RELOADS) ∧
    (∀ c, (c ∈ [Instr.wri true, .wrr true, .rd true, .rmw true, .poll true] ∧ s.arrives .latigo = true) ∨
        c ∈ [Instr.ldi true, .alu true, .waits true, .waitc true, .jmp true, .br true, .prim true, .evt true, .endProg true] →
      ∃ t, exec c s = .next t ∧ t.get .LAT_ABORT_CAUSE = 4 ∧ t.get .LAT_STAT_ACTIVE = 0 ∧ Counted s t 530)

/-- Programs (R439, R442, Tables 18.7 and 18.13): a request queues its program; the next one starts at its first instruction; a budget that is
exceeded aborts it at the next instruction boundary and not before (the strobes that count are log entry 109), and an undefined OP at once, with
their cause and event 530 (log entry 110 for program 0); a wait and a POLL that run out let it go on. -/
def Obligations.ProgramEffect : Prop :=
  ∀ s : State, s.working = true →
    (∀ data, Fld.LAT_RUN_GO.on data = true → s.latigo.queue.contains (Fld.LAT_RUN_PROG.of data) = false → s.latigo.queue.length < 8 →
      ∃ t, exec (.programRequest data) s = .next t ∧ t.latigo.queue = s.latigo.queue ++ [Fld.LAT_RUN_PROG.of data]) ∧
    (∀ n, s.nextProgram = some n → s.flag .LAT_STAT_ACTIVE = false → n < 32 →
      (∃ t, exec (.programStart false) s = .next t ∧ t.get .LAT_STAT_ACTIVE = 1 ∧ t.get .LAT_STAT_PROG = n ∧ t.latigo.pos = 0 ∧
        t.latigo.elapsed = 0 ∧ t.latigo.queue = s.latigo.queue.erase n) ∧
      (∃ t, exec (.programStart true) s = .next t ∧ t.get .LAT_STAT_ACTIVE = 0 ∧ t.get .LAT_ABORT_CAUSE = 4 ∧ t.get .LAT_ABORT_PROG = n)) ∧
    (s.flag .LAT_STAT_ACTIVE = true →
      (s.boundary = true → s.program.budget ≠ 0 → s.program.budget < s.latigo.elapsed →
        ∃ t, exec .programBudgetExpire s = .next t ∧ t.get .LAT_STAT_ACTIVE = 0 ∧ t.get .LAT_ABORT_CAUSE = 1 ∧
          t.get .LAT_ABORT_PROG = s.get .LAT_STAT_PROG ∧ t.get .LAT_ABORT_POS = s.latigo.pos % 2 ^ Fld.LAT_ABORT_POS.w ∧
          Bumped s t .LAT_CNT0_PROG_ABORTS ∧ Counted s t 530) ∧
      (s.boundary = false → exec .programBudgetExpire s = .next s) ∧
      (∀ w, s.seqReady = true → s.fetch = some w → opDefined (fw w 58 6) = false →
        ∃ t, exec (.ldi false) s = .next t ∧ t.get .LAT_STAT_ACTIVE = 0 ∧ t.get .LAT_ABORT_CAUSE = 2) ∧
      (s.seqReady = true → s.fetch = none →
        ∃ t, exec (.endProg false) s = .next t ∧ t.get .LAT_STAT_ACTIVE = 0 ∧ t.get .LAT_ABORT_CAUSE = 3) ∧
      (s.waitOver = true → ∃ t, exec .waitDone s = .next t ∧ t.latigo.pos = s.latigo.pos + 1 ∧ t.latigo.wait = .none) ∧
      (∀ u, s.latigo.wait = .poll u → u ≤ s.frc →
        ∃ t, exec .pollTimeout s = .next t ∧ t.latigo.flagT = true ∧ t.latigo.pos = s.latigo.pos + 1 ∧ t.latigo.wait = .none))

/-! ### The whole machine -/

/-- A step takes the command at the front of the queue and runs it with the queue's rest; on an empty queue one ROOT edge passes (log
entry 1): the FRC counts (R219) outside UNPOWERED and RESET, where only the supervisor's own clock runs in RESET (log entry 209); in START and RUN
what the transmit lanes begin to send at the edge goes out first (`State.leave`); then the accesses that wait, the end of DIE_INIT and the sinks
that a fault has switched off go on (`State.goOn`), and where none of these is there nothing else changes. -/
def Obligations.StepRunsFront : Prop :=
  (∀ (c : Instr) (rest : List Instr) (s : State), step { s with pending := c :: rest } = exec c { s with pending := rest }) ∧
    ∀ s : State, s.pending = [] →
      (s.mode = .unpowered → step s = .next s) ∧
      (s.mode = .reset → step s = .next { s with supervisor := { s.supervisor with clock := s.supervisor.clock + 1 } }) ∧
      (s.alive = true → step s = .next ({ (if s.working then s.leave else s) with frc := s.frc + 1 } : State).goOn) ∧
      (s.fabric.waiting = [] → s.latigo.initRun = none → s.rosette.cut = false →
        (s.alive = true → s.working = false → step s = .next { s with frc := s.frc + 1 }) ∧
        (s.working = true → ∃ t, step s = .next t ∧ t = { s.leave with frc := s.frc + 1 } ∧ t.mode = s.mode ∧ t.pending = [] ∧
          t.flash = s.flash ∧ t.supervisor = s.supervisor ∧ t.stirrup = s.stirrup ∧ t.packer = s.packer ∧ t.skive = s.skive))

/-- The machine after reset: RESET with cause POWER_ON (Table 20.3), the Bridle in LOCKOUT with both outputs low and all three monitors
in service (Table 17.6), every die OFF, every channel disabled with their threshold between 0 and 0x3FF, 128 credits and the alternating tap
choice, the Stirrup's pool free, no program running, nothing sent and nothing waiting in the queues named here, and the FRC 0; it satisfies the three
invariants that every step keeps. -/
def Obligations.ResetState : Prop :=
  let s := State.reset
  s.mode = .reset ∧ s.get .PRS_CAUSE_CAUSE = 1 ∧
    s.get .BRD_STAT_STATE = 3 ∧ s.get .BRD_STAT_EN_A = 0 ∧ s.get .BRD_STAT_EN_B = 0 ∧ s.get .BRD_STAT_MON_IN = 7 ∧
    (∀ f < 16, (s.die f).pwr = .off) ∧
    (∀ g < 4096, s.get .PIX_CTRL_EN g = 0 ∧ s.get .PIX_TRGPOL_FLOOR g = 0 ∧ s.get .PIX_TRGPOL_CEIL g = 0x3FF ∧
      s.get .AWL_STAT_CREDIT g = 128 ∧ s.get .AWL_TAPSEL_TAPSEL g = 0x55555555 ∧ s.get .PIX_TTARGET_TARGET g = 5) ∧
    s.reg .STR_POOLDESC 0 = 16384 ∧ s.reg .STR_POOLGRAN 0 = 65536 ∧
    s.get .LAT_STAT_ACTIVE = 0 ∧ s.line = [] ∧ s.pending = [] ∧ s.packer.items = [] ∧ s.stitch.groups = [] ∧ s.skive.blocks = [] ∧
    s.harness.outA = [] ∧ s.harness.outB = [] ∧ s.frc = 0 ∧
    s.canonical = true ∧ s.shaped = true ∧ s.outputsSafe = true

/-- Every step keeps the canonical form of these sparse maps: registers, dies, channels, quadrants, ingress queues, Burnish, the blocks of
the Tree and the two flash devices have strictly rising keys and no entry equal to what an unlisted key reads as, so equal
contents are equal data. -/
def Obligations.StepKeepsCanonical : Prop :=
  ∀ s t : State, s.canonical = true → step s = .next t → t.canonical = true

/-- Every step keeps the fixed numbers of things: four hold banks in a channel, two converters, two flash devices, sixteen engines, four
contexts, twenty-four lamp sets and so on. -/
def Obligations.StepKeepsShape : Prop :=
  ∀ s t : State, s.shaped = true → step s = .next t → t.shaped = true

/-- Every step keeps the safety of the bias outputs: BIAS_EN_A or BIAS_EN_B is high, or a test pulse that will end high runs, only in ON
and DESCEND of the Bridle and only in START and RUN (Table 17.2, R408, R413). -/
def Obligations.StepKeepsOutputsSafe : Prop :=
  ∀ s t : State, s.outputsSafe = true → step s = .next t → t.outputsSafe = true

/-- The transitions of Table 01.8, each with its cause, are the only ones: of a command, and of an edge of ROOT, at which only a RESTART that
waited for the end of DIE_INIT is served. -/
def Obligations.ModeTransitions : Prop :=
  (∀ (c : Instr) (s t : State), exec c s = .next t → t.mode ≠ s.mode →
    (s.mode = .unpowered ∧ t.mode = .reset ∧ ∃ vin, c = .powerOn vin ∧ 1200 ≤ vin) ∨
    (s.mode = .reset ∧ t.mode = .unpowered ∧ ∃ vin, c = .vinSupervisorLoss vin ∧ vin < 1200) ∨
    (s.mode = .reset ∧ t.mode = .fill ∧ s.supervisor.tempHold = false ∧ s.get .PRS_RAIL_IN_WIN = 31 ∧
      ∃ vin mid mstr, c = .resetRelease vin true true true mid mstr ∧ 3550 ≤ vin) ∨
    (s.mode = .fill ∧ t.mode = .boot ∧ c = .fillComplete) ∨
    (s.mode = .boot ∧ c = .bootComplete ∧
      ∃ b, s.latigo.booted = some b ∧ t.mode = if b.valid then .start else .halt) ∨
    (s.mode = .start ∧ t.mode = .run ∧ ∃ upb drv other wit, c = .frameSend upb drv other wit) ∨
    (s.mode = .halt ∧ t.mode = .boot ∧ ∃ tgt arg, c = .restart tgt arg) ∨
    (s.mode ≠ .unpowered ∧ s.mode ≠ .reset ∧ t.mode = .reset ∧
      ((∃ vin, c = .vinResetFall vin ∧ vin < 3100) ∨ (∃ r, c = .railReset r) ∨ c = .rstNLow ∨ c = .caseOvertempReset)) ∨
    (s.working = true ∧ t.mode = .reset ∧ ((∃ tgt arg, c = .restart tgt arg) ∨ ∃ upset, c = .prim upset))) ∧
  ∀ s t : State, s.pending = [] → step s = .next t → t.mode ≠ s.mode →
    s.alive = true ∧ (t.mode = .reset ∨ s.mode = .halt ∧ t.mode = .boot) ∧ s.latigo.initRun.isSome = true ∧
      ∃ p ∈ s.latigo.prims, p.code = 7

/-- The frame of every command: a command that answers a next state, and does not take the module to RESET, changes no register and no
part of the state outside its row of `commandWrites`; a command that may raise sources of the event matrix changes beside them
only what a raising writes. No command touches the queue or the fuses, or any but its own the FRC, which starts from 0 as the module leaves
RESET (R219), and the contents of the flash devices, which change only when a page program or an erase ends (R435); the facts that the boot ROM
has taken of a device (R427) are no contents. -/
def Obligations.CommandFootprint : Prop :=
  ∀ (c : Instr) (s t : State), exec c s = .next t →
   (t.pending = s.pending ∧ (t.frc = s.frc ∨ (s.mode = .reset ∧ t.mode = .fill ∧ t.frc = 0)) ∧
    (t.flash.map Flash.bytes = s.flash.map Flash.bytes ∨ c = .flashProgramDone ∨ c = .eraseDone) ∧
    t.supervisor.fuses = s.supervisor.fuses) ∧
   ((commandWrites c).reset = false →
    ((commandWrites c).anyReg = false → ∀ r i, r ∉ (commandWrites c).regs → ((commandWrites c).events = true → r ∉ raiseRegs) →
      ((commandWrites c).clears = true → r.ofDie = false) → t.reg r i = s.reg r i) ∧
    ∀ p, p ∉ (commandWrites c).parts → p.same (commandWrites c).events s t)

/-- The captures and thresholds of a channel concern its own die alone: nothing of another die differs afterwards, and neither its
channels nor its quadrants nor the registers of either do. -/
def Obligations.OtherDiesUntouched : Prop :=
  ∀ (s t : State) (f h : DieNo) (ch : ChanNo) (data : Word32) (cur : Nat) (taps : BitVec 160) (high : Bool) (b : Fin 4), h ≠ f →
    ∀ c ∈ [Instr.anodeSlewStep f ch, .triggerDiscFire f ch cur, .thresholdEval f ch, .pixTrgpolWrite f ch data, .accLoad f ch data,
        .ovrEnter f ch high, .ovrRelease f ch high, .leadCapture f ch cur taps, .trailCapture f ch cur taps, .totSaturate f ch,
        .deadTimeEnd f ch,
        .creditAdd f ch, .intervalTimeout f ch, .completionEntry f ch, .ringFull f ch, .rngRestart f ch data, .transferEnd f ch b],
      exec c s = .next t → s.sameDie t h
end

