-- ==== Sys2Proof/Laws/Regs.lean ====
section
/-! SUPPORT. Sparse maps, register fields, and the record of what a write of a field does: read after write, and every other field
as before. -/

set_option Elab.async false

namespace Sys2Proof.Machine

/-! ### Sparse maps -/

theorem SMap.get_erase_self {α : Type} (d : Nat → α) (m : SMap α) (k : Nat) : SMap.get d (SMap.erase m k) k = d k := by
  induction m with
  | nil => rfl
  | cons p t ih =>
    obtain ⟨j, v⟩ := p
    by_cases h : j = k <;> simp [SMap.erase, SMap.get, h, ih]

theorem SMap.get_erase_ne {α : Type} (d : Nat → α) (m : SMap α) {j k : Nat} (h : j ≠ k) :
    SMap.get d (SMap.erase m k) j = SMap.get d m j := by
  induction m with
  | nil => rfl
  | cons p t ih =>
    obtain ⟨i, v⟩ := p
    by_cases h1 : i = k
    · have h2 : i ≠ j := fun e => h (e.symm.trans h1)
      simp [SMap.erase, SMap.get, h1, ih, Ne.symm h]
    · by_cases h2 : i = j
      · subst h2; simp [SMap.erase, SMap.get, h1]
      · simp [SMap.erase, SMap.get, h1, h2, ih]

theorem SMap.get_insert_self {α : Type} (d : Nat → α) (m : SMap α) (k : Nat) (v : α) :
    SMap.get d (SMap.insert m k v) k = v := by
  induction m with
  | nil => simp [SMap.insert, SMap.get]
  | cons p t ih =>
    obtain ⟨j, u⟩ := p
    by_cases h : k < j
    · simp [SMap.insert, SMap.get, h]
    · by_cases h2 : k = j
      · simp [SMap.insert, SMap.get, h2]
      · simp [SMap.insert, SMap.get, h, h2, Ne.symm h2, ih]

theorem SMap.get_insert_ne {α : Type} (d : Nat → α) (m : SMap α) {j k : Nat} (v : α) (h : j ≠ k) :
    SMap.get d (SMap.insert m k v) j = SMap.get d m j := by
  induction m with
  | nil => simp [SMap.insert, SMap.get, Ne.symm h]
  | cons p t ih =>
    obtain ⟨i, u⟩ := p
    by_cases h1 : k < i
    · simp [SMap.insert, SMap.get, h1, Ne.symm h]
    · by_cases h2 : k = i
      · subst h2; simp [SMap.insert, SMap.get, Ne.symm h]
      · by_cases h3 : i = j
        · subst h3; simp [SMap.insert, SMap.get, h1, h2]
        · simp [SMap.insert, SMap.get, h1, h2, h3, ih]

/-- Read after write at the same key. -/
@[simp] theorem SMap.get_set_self {α : Type} [DecidableEq α] (d : Nat → α) (m : SMap α) (k : Nat) (v : α) :
    SMap.get d (SMap.set d m k v) k = v := by
  by_cases h : v = d k
  · simp [SMap.set, h, SMap.get_erase_self]
  · simp [SMap.set, h, SMap.get_insert_self]

/-- A write leaves every other key alone. -/
theorem SMap.get_set_ne {α : Type} [DecidableEq α] (d : Nat → α) (m : SMap α) {j k : Nat} (v : α) (h : j ≠ k) :
    SMap.get d (SMap.set d m k v) j = SMap.get d m j := by
  by_cases hv : v = d k
  · simp [SMap.set, hv, SMap.get_erase_ne d m h]
  · simp [SMap.set, hv, SMap.get_insert_ne d m v h]

theorem SMap.wfFrom_mono {α : Type} [DecidableEq α] (d : Nat → α) {a b : Nat} (hab : a ≤ b) {m : SMap α}
    (h : SMap.wfFrom d b m = true) : SMap.wfFrom d a m = true := by
  cases m with
  | nil => rfl
  | cons p t =>
    obtain ⟨j, v⟩ := p
    simp only [SMap.wfFrom, Bool.and_eq_true, decide_eq_true_eq] at h ⊢
    exact ⟨⟨by omega, h.1.2⟩, h.2⟩

theorem SMap.wfFrom_erase {α : Type} [DecidableEq α] (d : Nat → α) (k : Nat) {b : Nat} {m : SMap α}
    (h : SMap.wfFrom d b m = true) : SMap.wfFrom d b (SMap.erase m k) = true := by
  induction m generalizing b with
  | nil => rfl
  | cons p t ih =>
    obtain ⟨j, v⟩ := p
    simp only [SMap.wfFrom, Bool.and_eq_true, decide_eq_true_eq] at h
    by_cases hk : j = k
    · simp only [SMap.erase, hk, if_true]
      exact SMap.wfFrom_mono d (by omega) (ih h.2)
    · simp only [SMap.erase, hk, if_false, SMap.wfFrom, Bool.and_eq_true, decide_eq_true_eq]
      exact ⟨h.1, ih h.2⟩

theorem SMap.wfFrom_insert {α : Type} [DecidableEq α] (d : Nat → α) (k : Nat) {v : α} (hv : v ≠ d k) {b : Nat} (hb : b ≤ k)
    {m : SMap α} (h : SMap.wfFrom d b m = true) : SMap.wfFrom d b (SMap.insert m k v) = true := by
  induction m generalizing b with
  | nil => simp [SMap.insert, SMap.wfFrom, hv, hb]
  | cons p t ih =>
    obtain ⟨j, u⟩ := p
    simp only [SMap.wfFrom, Bool.and_eq_true, decide_eq_true_eq] at h
    by_cases h1 : k < j
    · simp only [SMap.insert, h1, if_true, SMap.wfFrom, Bool.and_eq_true, decide_eq_true_eq]
      exact ⟨⟨hb, hv⟩, ⟨by omega, h.1.2⟩, h.2⟩
    · by_cases h2 : k = j
      · subst h2
        simp only [SMap.insert, lt_irrefl, if_false, if_true, SMap.wfFrom, Bool.and_eq_true, decide_eq_true_eq]
        exact ⟨⟨hb, hv⟩, h.2⟩
      · simp only [SMap.insert, h1, h2, if_false, SMap.wfFrom, Bool.and_eq_true, decide_eq_true_eq]
        exact ⟨h.1, ih (by omega) h.2⟩

/-- A write keeps the canonical form. -/
theorem SMap.wf_set {α : Type} [DecidableEq α] (d : Nat → α) {m : SMap α} (k : Nat) (v : α) (h : SMap.wf d m = true) :
    SMap.wf d (SMap.set d m k v) = true := by
  by_cases hv : v = d k
  · simpa [SMap.set, hv, SMap.wf] using SMap.wfFrom_erase d k h
  · simpa [SMap.set, hv, SMap.wf] using SMap.wfFrom_insert d k hv (Nat.zero_le k) h

/-- Leaving entries out keeps the canonical form. -/
theorem SMap.wf_filter {α : Type} [DecidableEq α] (d : Nat → α) {m : SMap α} (p : Nat × α → Bool) (h : SMap.wf d m = true) :
    SMap.wf d (m.filter p) = true := by
  suffices ∀ b, SMap.wfFrom d b m = true → SMap.wfFrom d b (m.filter p) = true from this 0 h
  clear h
  induction m with
  | nil => intro b _; rfl
  | cons q t ih =>
    obtain ⟨j, v⟩ := q
    intro b h
    simp only [SMap.wfFrom, Bool.and_eq_true, decide_eq_true_eq] at h
    by_cases hp : p (j, v) = true
    · simp only [List.filter_cons, hp, if_true, SMap.wfFrom, Bool.and_eq_true, decide_eq_true_eq]
      exact ⟨h.1, ih _ h.2⟩
    · simp only [List.filter_cons, hp]
      exact SMap.wfFrom_mono d (by omega) (ih _ h.2)

/-! ### Bit fields -/

theorem fieldOf_lt (x lo w : Nat) : fieldOf x lo w < 2 ^ w := Nat.mod_lt _ (Nat.two_pow_pos w)

theorem fieldOf_eq (x lo w : Nat) : fieldOf x lo w = (x >>> lo) % 2 ^ w := by
  rw [fieldOf, Nat.shiftRight_eq_div_pow]

/-- A number put together from what lies below a field, the field, and what lies above it. -/
theorem split_field (x lo w : Nat) : x = x % 2 ^ lo + 2 ^ lo * (fieldOf x lo w + 2 ^ w * (x / 2 ^ (lo + w))) := by
  have h1 := Nat.mod_add_div x (2 ^ lo)
  have h2 := Nat.mod_add_div (x / 2 ^ lo) (2 ^ w)
  rw [Nat.div_div_eq_div_mul, ← Nat.pow_add] at h2
  rw [fieldOf, h2, h1]

theorem withField_toNat (x : Word32) (lo w v : Nat) (h : lo + w ≤ 32) :
    (withField x lo w v).toNat = x.toNat % 2 ^ lo + 2 ^ lo * (v % 2 ^ w + 2 ^ w * (x.toNat / 2 ^ (lo + w))) := by
  have hx := split_field x.toNat lo w
  have hlt : x.toNat < 2 ^ 32 := x.isLt
  have hv : v % 2 ^ w < 2 ^ w := Nat.mod_lt _ (Nat.two_pow_pos w)
  have hlo : x.toNat % 2 ^ lo < 2 ^ lo := Nat.mod_lt _ (Nat.two_pow_pos lo)
  have he : x.toNat - fieldOf x.toNat lo w * 2 ^ lo + v % 2 ^ w * 2 ^ lo =
      x.toNat % 2 ^ lo + 2 ^ lo * (v % 2 ^ w + 2 ^ w * (x.toNat / 2 ^ (lo + w))) := by
    generalize fieldOf x.toNat lo w = fo at *
    generalize x.toNat / 2 ^ (lo + w) = hi at *
    generalize x.toNat % 2 ^ lo = l at *
    rw [hx]
    have e1 : 2 ^ lo * (fo + 2 ^ w * hi) = fo * 2 ^ lo + 2 ^ lo * (2 ^ w * hi) := by ring
    have e2 : 2 ^ lo * (v % 2 ^ w + 2 ^ w * hi) = v % 2 ^ w * 2 ^ lo + 2 ^ lo * (2 ^ w * hi) := by ring
    rw [e1, e2]
    omega
  have hb : x.toNat / 2 ^ (lo + w) < 2 ^ (32 - (lo + w)) := by
    rw [Nat.div_lt_iff_lt_mul (Nat.two_pow_pos _), ← Nat.pow_add]
    rwa [show 32 - (lo + w) + (lo + w) = 32 by omega]
  have hlt2 : x.toNat % 2 ^ lo + 2 ^ lo * (v % 2 ^ w + 2 ^ w * (x.toNat / 2 ^ (lo + w))) < 2 ^ 32 := by
    have e : (2 : Nat) ^ 32 = 2 ^ lo * (2 ^ w * 2 ^ (32 - (lo + w))) := by
      rw [← Nat.pow_add, ← Nat.pow_add]; congr 1; omega
    have h3 : v % 2 ^ w + 2 ^ w * (x.toNat / 2 ^ (lo + w)) + 1 ≤ 2 ^ w * 2 ^ (32 - (lo + w)) := by
      have : 2 ^ w * (x.toNat / 2 ^ (lo + w) + 1) ≤ 2 ^ w * 2 ^ (32 - (lo + w)) := Nat.mul_le_mul_left _ hb
      rw [Nat.mul_add] at this
      omega
    have h4 := Nat.mul_le_mul_left (2 ^ lo) h3
    rw [Nat.mul_add, ← e] at h4
    omega
  rw [withField, BitVec.toNat_ofNat, he, Nat.mod_eq_of_lt hlt2]

/-- The field written reads as the value written, cut to its width. -/
theorem fieldOf_withField (x : Word32) (lo w v : Nat) (h : lo + w ≤ 32) :
    fieldOf (withField x lo w v).toNat lo w = v % 2 ^ w := by
  rw [withField_toNat x lo w v h, fieldOf, Nat.add_mul_div_left _ _ (Nat.two_pow_pos lo),
    Nat.div_eq_of_lt (Nat.mod_lt _ (Nat.two_pow_pos lo)), Nat.zero_add, Nat.add_mul_mod_self_left, Nat.mod_mod]

/-- A field that shares no bit with the one written is as before. -/
theorem fieldOf_withField_ne (x : Word32) (lo w v lo' w' : Nat) (h : lo + w ≤ 32) (hd : lo' + w' ≤ lo ∨ lo + w ≤ lo') :
    fieldOf (withField x lo w v).toNat lo' w' = fieldOf x.toNat lo' w' := by
  have ht := withField_toNat x lo w v h
  rcases hd with hd | hd
  · have e : ∀ y : Nat, fieldOf y lo' w' = fieldOf (y % 2 ^ lo) lo' w' := by
      intro y
      rw [fieldOf, fieldOf]
      obtain ⟨k, hk⟩ : ∃ k, lo = lo' + w' + k := ⟨lo - (lo' + w'), by omega⟩
      have e1 : 2 ^ lo = 2 ^ lo' * 2 ^ (w' + k) := by rw [← Nat.pow_add]; congr 1; omega
      rw [e1, Nat.mod_mul_right_div_self, Nat.pow_add, Nat.mod_mul_right_mod]
    rw [e, ht, Nat.add_mul_mod_self_left, Nat.mod_mod, ← e]
  · have e : ∀ y : Nat, fieldOf y lo' w' = fieldOf (y / 2 ^ (lo + w)) (lo' - (lo + w)) w' := by
      intro y
      rw [fieldOf, fieldOf, Nat.div_div_eq_div_mul, ← Nat.pow_add, show lo + w + (lo' - (lo + w)) = lo' by omega]
    rw [e, ht, Nat.pow_add, ← Nat.div_div_eq_div_mul, Nat.add_mul_div_left _ _ (Nat.two_pow_pos lo),
      Nat.div_eq_of_lt (Nat.mod_lt _ (Nat.two_pow_pos lo)), Nat.zero_add, Nat.add_mul_div_left _ _ (Nat.two_pow_pos w),
      Nat.div_eq_of_lt (Nat.mod_lt _ (Nat.two_pow_pos w)), Nat.zero_add, ← Nat.pow_add, ← e]

/-! ### Fields of the state -/

/-- A register is found in the list at its number. -/
theorem Reg.all_ctorIdx (r : Reg) : Reg.all[r.ctorIdx]? = some r := by cases r <;> rfl

/-- Registers with one number are one register. -/
theorem Reg.ctorIdx_inj {r r' : Reg} (h : r.ctorIdx = r'.ctorIdx) : r = r' := by
  have h1 := Reg.all_ctorIdx r
  rw [h, Reg.all_ctorIdx r'] at h1
  exact (Option.some.inj h1).symm

/-- A field lies in its register. -/
def Fld.fits (f : Fld) : Bool := decide (f.lo + f.w ≤ 32)

/-- Two fields that a write of one keeps apart: of different registers, or sharing no bit. -/
def Fld.apart (f g : Fld) : Bool :=
  decide (f.reg.ctorIdx ≠ g.reg.ctorIdx) || decide (g.lo + g.w ≤ f.lo) || decide (f.lo + f.w ≤ g.lo)

/-- There are fewer than 512 registers. -/
theorem Reg.ctorIdx_lt (r : Reg) : r.ctorIdx < 512 := by
  have h := Reg.all_ctorIdx r
  have hl : Reg.all.length ≤ 512 := Nat.le_of_ble_eq_true (by decide +kernel)
  exact lt_of_lt_of_le (List.getElem?_eq_some_iff.mp h).1 hl

/-- Elements of different registers lie apart. -/
theorem Reg.key_ne {r r' : Reg} {i i' : Nat} (hr : r.ctorIdx ≠ r'.ctorIdx) : r.key i ≠ r'.key i' := by
  intro h
  have h1 := r.ctorIdx_lt
  have h2 := r'.ctorIdx_lt
  simp only [Reg.key] at h
  omega

theorem Reg.key_ne_elem (r : Reg) {i i' : Nat} (h : i ≠ i') : r.key i ≠ r.key i' := by
  intro e
  simp only [Reg.key] at e
  omega

@[simp] theorem State.reg_setReg_self (s : State) (r : Reg) (i : Nat) (w : Word32) : (s.setReg r i w).reg r i = w := by
  simp [State.reg, State.setReg]

theorem State.reg_setReg_ne (s : State) {r r' : Reg} {i i' : Nat} (w : Word32) (h : r'.key i' ≠ r.key i) :
    (s.setReg r i w).reg r' i' = s.reg r' i' := by
  simp [State.reg, State.setReg, SMap.get_set_ne _ _ _ h]

/-- Read after write of a field. -/
@[simp] theorem State.get_put_self (s : State) (f : Fld) (v i : Nat) (h : f.fits = true) :
    (s.put f v i).get f i = v % 2 ^ f.w := by
  rw [State.get, State.put, State.reg_setReg_self, fieldOf_withField _ _ _ _ (by simpa [Fld.fits] using h)]

/-- A write of a field leaves a field of another register, or one that shares no bit with it, alone. -/
@[simp] theorem State.get_put_apart (s : State) (f g : Fld) (v i j : Nat) (hf : f.fits = true) (h : f.apart g = true) : (s.put f v i).get g j = s.get g j := by
  simp only [Fld.apart, Bool.or_eq_true, decide_eq_true_eq] at h
  by_cases hk : f.reg.ctorIdx = g.reg.ctorIdx
  · have hd : g.lo + g.w ≤ f.lo ∨ f.lo + f.w ≤ g.lo := by tauto
    have hr : f.reg = g.reg := by
      cases f with | mk r _ _ => cases g with | mk r' _ _ => exact Reg.ctorIdx_inj hk
    by_cases hij : i = j
    · subst hij
      rw [State.get, State.get, State.put, ← hr, State.reg_setReg_self,
        fieldOf_withField_ne _ _ _ _ _ _ (by simpa [Fld.fits] using hf) hd]
    · rw [State.get, State.get, State.put, ← hr, State.reg_setReg_ne _ _ (Reg.key_ne_elem _ (Ne.symm hij))]
  · rw [State.get, State.get, State.put, State.reg_setReg_ne _ _ (Reg.key_ne (Ne.symm hk))]

/-- A write of one element leaves every other element alone. -/
theorem State.get_put_elem (s : State) (f g : Fld) (v : Nat) {i j : Nat} (hr : f.reg = g.reg) (h : i ≠ j) :
    (s.put f v i).get g j = s.get g j := by
  rw [State.get, State.get, State.put, ← hr, State.reg_setReg_ne _ _ (Reg.key_ne_elem _ (Ne.symm h))]

end Sys2Proof.Machine
end

