-- ==== Sys2Proof/Laws/State.lean ====
section
/-! SUPPORT. One lemma for each field of the state and each named update: what the update leaves alone. -/

namespace Sys2Proof.Machine

/-! ### State.setReg -/

@[simp] theorem State.setReg_mode (s : State) (r : Reg) (i : Nat) (w : Word32) : (s.setReg r i w).mode = s.mode := rfl
@[simp] theorem State.setReg_frc (s : State) (r : Reg) (i : Nat) (w : Word32) : (s.setReg r i w).frc = s.frc := rfl
@[simp] theorem State.setReg_dies (s : State) (r : Reg) (i : Nat) (w : Word32) : (s.setReg r i w).dies = s.dies := rfl
@[simp] theorem State.setReg_chans (s : State) (r : Reg) (i : Nat) (w : Word32) : (s.setReg r i w).chans = s.chans := rfl
@[simp] theorem State.setReg_quads (s : State) (r : Reg) (i : Nat) (w : Word32) : (s.setReg r i w).quads = s.quads := rfl
@[simp] theorem State.setReg_ingress (s : State) (r : Reg) (i : Nat) (w : Word32) : (s.setReg r i w).ingress = s.ingress := rfl
@[simp] theorem State.setReg_girth (s : State) (r : Reg) (i : Nat) (w : Word32) : (s.setReg r i w).girth = s.girth := rfl
@[simp] theorem State.setReg_matrix (s : State) (r : Reg) (i : Nat) (w : Word32) : (s.setReg r i w).matrix = s.matrix := rfl
@[simp] theorem State.setReg_supervisor (s : State) (r : Reg) (i : Nat) (w : Word32) : (s.setReg r i w).supervisor = s.supervisor := rfl
@[simp] theorem State.setReg_bridle (s : State) (r : Reg) (i : Nat) (w : Word32) : (s.setReg r i w).bridle = s.bridle := rfl
@[simp] theorem State.setReg_latigo (s : State) (r : Reg) (i : Nat) (w : Word32) : (s.setReg r i w).latigo = s.latigo := rfl
@[simp] theorem State.setReg_flash (s : State) (r : Reg) (i : Nat) (w : Word32) : (s.setReg r i w).flash = s.flash := rfl
@[simp] theorem State.setReg_fabric (s : State) (r : Reg) (i : Nat) (w : Word32) : (s.setReg r i w).fabric = s.fabric := rfl
@[simp] theorem State.setReg_packer (s : State) (r : Reg) (i : Nat) (w : Word32) : (s.setReg r i w).packer = s.packer := rfl
@[simp] theorem State.setReg_stirrup (s : State) (r : Reg) (i : Nat) (w : Word32) : (s.setReg r i w).stirrup = s.stirrup := rfl
@[simp] theorem State.setReg_skive (s : State) (r : Reg) (i : Nat) (w : Word32) : (s.setReg r i w).skive = s.skive := rfl
@[simp] theorem State.setReg_tree (s : State) (r : Reg) (i : Nat) (w : Word32) : (s.setReg r i w).tree = s.tree := rfl
@[simp] theorem State.setReg_stitch (s : State) (r : Reg) (i : Nat) (w : Word32) : (s.setReg r i w).stitch = s.stitch := rfl
@[simp] theorem State.setReg_harness (s : State) (r : Reg) (i : Nat) (w : Word32) : (s.setReg r i w).harness = s.harness := rfl
@[simp] theorem State.setReg_burnish (s : State) (r : Reg) (i : Nat) (w : Word32) : (s.setReg r i w).burnish = s.burnish := rfl
@[simp] theorem State.setReg_rosette (s : State) (r : Reg) (i : Nat) (w : Word32) : (s.setReg r i w).rosette = s.rosette := rfl
@[simp] theorem State.setReg_tack (s : State) (r : Reg) (i : Nat) (w : Word32) : (s.setReg r i w).tack = s.tack := rfl
@[simp] theorem State.setReg_wire (s : State) (r : Reg) (i : Nat) (w : Word32) : (s.setReg r i w).wire = s.wire := rfl
@[simp] theorem State.setReg_line (s : State) (r : Reg) (i : Nat) (w : Word32) : (s.setReg r i w).line = s.line := rfl
@[simp] theorem State.setReg_freeCtr (s : State) (r : Reg) (i : Nat) (w : Word32) : (s.setReg r i w).freeCtr = s.freeCtr := rfl
@[simp] theorem State.setReg_pending (s : State) (r : Reg) (i : Nat) (w : Word32) : (s.setReg r i w).pending = s.pending := rfl

/-! ### State.put -/

@[simp] theorem State.put_mode (s : State) (f : Fld) (v i : Nat) : (s.put f v i).mode = s.mode := rfl
@[simp] theorem State.put_frc (s : State) (f : Fld) (v i : Nat) : (s.put f v i).frc = s.frc := rfl
@[simp] theorem State.put_dies (s : State) (f : Fld) (v i : Nat) : (s.put f v i).dies = s.dies := rfl
@[simp] theorem State.put_chans (s : State) (f : Fld) (v i : Nat) : (s.put f v i).chans = s.chans := rfl
@[simp] theorem State.put_quads (s : State) (f : Fld) (v i : Nat) : (s.put f v i).quads = s.quads := rfl
@[simp] theorem State.put_ingress (s : State) (f : Fld) (v i : Nat) : (s.put f v i).ingress = s.ingress := rfl
@[simp] theorem State.put_girth (s : State) (f : Fld) (v i : Nat) : (s.put f v i).girth = s.girth := rfl
@[simp] theorem State.put_matrix (s : State) (f : Fld) (v i : Nat) : (s.put f v i).matrix = s.matrix := rfl
@[simp] theorem State.put_supervisor (s : State) (f : Fld) (v i : Nat) : (s.put f v i).supervisor = s.supervisor := rfl
@[simp] theorem State.put_bridle (s : State) (f : Fld) (v i : Nat) : (s.put f v i).bridle = s.bridle := rfl
@[simp] theorem State.put_latigo (s : State) (f : Fld) (v i : Nat) : (s.put f v i).latigo = s.latigo := rfl
@[simp] theorem State.put_flash (s : State) (f : Fld) (v i : Nat) : (s.put f v i).flash = s.flash := rfl
@[simp] theorem State.put_fabric (s : State) (f : Fld) (v i : Nat) : (s.put f v i).fabric = s.fabric := rfl
@[simp] theorem State.put_packer (s : State) (f : Fld) (v i : Nat) : (s.put f v i).packer = s.packer := rfl
@[simp] theorem State.put_stirrup (s : State) (f : Fld) (v i : Nat) : (s.put f v i).stirrup = s.stirrup := rfl
@[simp] theorem State.put_skive (s : State) (f : Fld) (v i : Nat) : (s.put f v i).skive = s.skive := rfl
@[simp] theorem State.put_tree (s : State) (f : Fld) (v i : Nat) : (s.put f v i).tree = s.tree := rfl
@[simp] theorem State.put_stitch (s : State) (f : Fld) (v i : Nat) : (s.put f v i).stitch = s.stitch := rfl
@[simp] theorem State.put_harness (s : State) (f : Fld) (v i : Nat) : (s.put f v i).harness = s.harness := rfl
@[simp] theorem State.put_burnish (s : State) (f : Fld) (v i : Nat) : (s.put f v i).burnish = s.burnish := rfl
@[simp] theorem State.put_rosette (s : State) (f : Fld) (v i : Nat) : (s.put f v i).rosette = s.rosette := rfl
@[simp] theorem State.put_tack (s : State) (f : Fld) (v i : Nat) : (s.put f v i).tack = s.tack := rfl
@[simp] theorem State.put_wire (s : State) (f : Fld) (v i : Nat) : (s.put f v i).wire = s.wire := rfl
@[simp] theorem State.put_line (s : State) (f : Fld) (v i : Nat) : (s.put f v i).line = s.line := rfl
@[simp] theorem State.put_freeCtr (s : State) (f : Fld) (v i : Nat) : (s.put f v i).freeCtr = s.freeCtr := rfl
@[simp] theorem State.put_pending (s : State) (f : Fld) (v i : Nat) : (s.put f v i).pending = s.pending := rfl

/-! ### State.putB -/

@[simp] theorem State.putB_mode (s : State) (f : Fld) (b : Bool) (i : Nat) : (s.putB f b i).mode = s.mode := rfl
@[simp] theorem State.putB_frc (s : State) (f : Fld) (b : Bool) (i : Nat) : (s.putB f b i).frc = s.frc := rfl
@[simp] theorem State.putB_dies (s : State) (f : Fld) (b : Bool) (i : Nat) : (s.putB f b i).dies = s.dies := rfl
@[simp] theorem State.putB_chans (s : State) (f : Fld) (b : Bool) (i : Nat) : (s.putB f b i).chans = s.chans := rfl
@[simp] theorem State.putB_quads (s : State) (f : Fld) (b : Bool) (i : Nat) : (s.putB f b i).quads = s.quads := rfl
@[simp] theorem State.putB_ingress (s : State) (f : Fld) (b : Bool) (i : Nat) : (s.putB f b i).ingress = s.ingress := rfl
@[simp] theorem State.putB_girth (s : State) (f : Fld) (b : Bool) (i : Nat) : (s.putB f b i).girth = s.girth := rfl
@[simp] theorem State.putB_matrix (s : State) (f : Fld) (b : Bool) (i : Nat) : (s.putB f b i).matrix = s.matrix := rfl
@[simp] theorem State.putB_supervisor (s : State) (f : Fld) (b : Bool) (i : Nat) : (s.putB f b i).supervisor = s.supervisor := rfl
@[simp] theorem State.putB_bridle (s : State) (f : Fld) (b : Bool) (i : Nat) : (s.putB f b i).bridle = s.bridle := rfl
@[simp] theorem State.putB_latigo (s : State) (f : Fld) (b : Bool) (i : Nat) : (s.putB f b i).latigo = s.latigo := rfl
@[simp] theorem State.putB_flash (s : State) (f : Fld) (b : Bool) (i : Nat) : (s.putB f b i).flash = s.flash := rfl
@[simp] theorem State.putB_fabric (s : State) (f : Fld) (b : Bool) (i : Nat) : (s.putB f b i).fabric = s.fabric := rfl
@[simp] theorem State.putB_packer (s : State) (f : Fld) (b : Bool) (i : Nat) : (s.putB f b i).packer = s.packer := rfl
@[simp] theorem State.putB_stirrup (s : State) (f : Fld) (b : Bool) (i : Nat) : (s.putB f b i).stirrup = s.stirrup := rfl
@[simp] theorem State.putB_skive (s : State) (f : Fld) (b : Bool) (i : Nat) : (s.putB f b i).skive = s.skive := rfl
@[simp] theorem State.putB_tree (s : State) (f : Fld) (b : Bool) (i : Nat) : (s.putB f b i).tree = s.tree := rfl
@[simp] theorem State.putB_stitch (s : State) (f : Fld) (b : Bool) (i : Nat) : (s.putB f b i).stitch = s.stitch := rfl
@[simp] theorem State.putB_harness (s : State) (f : Fld) (b : Bool) (i : Nat) : (s.putB f b i).harness = s.harness := rfl
@[simp] theorem State.putB_burnish (s : State) (f : Fld) (b : Bool) (i : Nat) : (s.putB f b i).burnish = s.burnish := rfl
@[simp] theorem State.putB_rosette (s : State) (f : Fld) (b : Bool) (i : Nat) : (s.putB f b i).rosette = s.rosette := rfl
@[simp] theorem State.putB_tack (s : State) (f : Fld) (b : Bool) (i : Nat) : (s.putB f b i).tack = s.tack := rfl
@[simp] theorem State.putB_wire (s : State) (f : Fld) (b : Bool) (i : Nat) : (s.putB f b i).wire = s.wire := rfl
@[simp] theorem State.putB_line (s : State) (f : Fld) (b : Bool) (i : Nat) : (s.putB f b i).line = s.line := rfl
@[simp] theorem State.putB_freeCtr (s : State) (f : Fld) (b : Bool) (i : Nat) : (s.putB f b i).freeCtr = s.freeCtr := rfl
@[simp] theorem State.putB_pending (s : State) (f : Fld) (b : Bool) (i : Nat) : (s.putB f b i).pending = s.pending := rfl

/-! ### State.inc -/

@[simp] theorem State.inc_mode (s : State) (f : Fld) (i n : Nat) : (s.inc f i n).mode = s.mode := rfl
@[simp] theorem State.inc_frc (s : State) (f : Fld) (i n : Nat) : (s.inc f i n).frc = s.frc := rfl
@[simp] theorem State.inc_dies (s : State) (f : Fld) (i n : Nat) : (s.inc f i n).dies = s.dies := rfl
@[simp] theorem State.inc_chans (s : State) (f : Fld) (i n : Nat) : (s.inc f i n).chans = s.chans := rfl
@[simp] theorem State.inc_quads (s : State) (f : Fld) (i n : Nat) : (s.inc f i n).quads = s.quads := rfl
@[simp] theorem State.inc_ingress (s : State) (f : Fld) (i n : Nat) : (s.inc f i n).ingress = s.ingress := rfl
@[simp] theorem State.inc_girth (s : State) (f : Fld) (i n : Nat) : (s.inc f i n).girth = s.girth := rfl
@[simp] theorem State.inc_matrix (s : State) (f : Fld) (i n : Nat) : (s.inc f i n).matrix = s.matrix := rfl
@[simp] theorem State.inc_supervisor (s : State) (f : Fld) (i n : Nat) : (s.inc f i n).supervisor = s.supervisor := rfl
@[simp] theorem State.inc_bridle (s : State) (f : Fld) (i n : Nat) : (s.inc f i n).bridle = s.bridle := rfl
@[simp] theorem State.inc_latigo (s : State) (f : Fld) (i n : Nat) : (s.inc f i n).latigo = s.latigo := rfl
@[simp] theorem State.inc_flash (s : State) (f : Fld) (i n : Nat) : (s.inc f i n).flash = s.flash := rfl
@[simp] theorem State.inc_fabric (s : State) (f : Fld) (i n : Nat) : (s.inc f i n).fabric = s.fabric := rfl
@[simp] theorem State.inc_packer (s : State) (f : Fld) (i n : Nat) : (s.inc f i n).packer = s.packer := rfl
@[simp] theorem State.inc_stirrup (s : State) (f : Fld) (i n : Nat) : (s.inc f i n).stirrup = s.stirrup := rfl
@[simp] theorem State.inc_skive (s : State) (f : Fld) (i n : Nat) : (s.inc f i n).skive = s.skive := rfl
@[simp] theorem State.inc_tree (s : State) (f : Fld) (i n : Nat) : (s.inc f i n).tree = s.tree := rfl
@[simp] theorem State.inc_stitch (s : State) (f : Fld) (i n : Nat) : (s.inc f i n).stitch = s.stitch := rfl
@[simp] theorem State.inc_harness (s : State) (f : Fld) (i n : Nat) : (s.inc f i n).harness = s.harness := rfl
@[simp] theorem State.inc_burnish (s : State) (f : Fld) (i n : Nat) : (s.inc f i n).burnish = s.burnish := rfl
@[simp] theorem State.inc_rosette (s : State) (f : Fld) (i n : Nat) : (s.inc f i n).rosette = s.rosette := rfl
@[simp] theorem State.inc_tack (s : State) (f : Fld) (i n : Nat) : (s.inc f i n).tack = s.tack := rfl
@[simp] theorem State.inc_wire (s : State) (f : Fld) (i n : Nat) : (s.inc f i n).wire = s.wire := rfl
@[simp] theorem State.inc_line (s : State) (f : Fld) (i n : Nat) : (s.inc f i n).line = s.line := rfl
@[simp] theorem State.inc_freeCtr (s : State) (f : Fld) (i n : Nat) : (s.inc f i n).freeCtr = s.freeCtr := rfl
@[simp] theorem State.inc_pending (s : State) (f : Fld) (i n : Nat) : (s.inc f i n).pending = s.pending := rfl

/-! ### State.putS -/

@[simp] theorem State.putS_mode (s : State) (f : Fld) (v : Int) (i : Nat) : (s.putS f v i).mode = s.mode := rfl
@[simp] theorem State.putS_frc (s : State) (f : Fld) (v : Int) (i : Nat) : (s.putS f v i).frc = s.frc := rfl
@[simp] theorem State.putS_dies (s : State) (f : Fld) (v : Int) (i : Nat) : (s.putS f v i).dies = s.dies := rfl
@[simp] theorem State.putS_chans (s : State) (f : Fld) (v : Int) (i : Nat) : (s.putS f v i).chans = s.chans := rfl
@[simp] theorem State.putS_quads (s : State) (f : Fld) (v : Int) (i : Nat) : (s.putS f v i).quads = s.quads := rfl
@[simp] theorem State.putS_ingress (s : State) (f : Fld) (v : Int) (i : Nat) : (s.putS f v i).ingress = s.ingress := rfl
@[simp] theorem State.putS_girth (s : State) (f : Fld) (v : Int) (i : Nat) : (s.putS f v i).girth = s.girth := rfl
@[simp] theorem State.putS_matrix (s : State) (f : Fld) (v : Int) (i : Nat) : (s.putS f v i).matrix = s.matrix := rfl
@[simp] theorem State.putS_supervisor (s : State) (f : Fld) (v : Int) (i : Nat) : (s.putS f v i).supervisor = s.supervisor := rfl
@[simp] theorem State.putS_bridle (s : State) (f : Fld) (v : Int) (i : Nat) : (s.putS f v i).bridle = s.bridle := rfl
@[simp] theorem State.putS_latigo (s : State) (f : Fld) (v : Int) (i : Nat) : (s.putS f v i).latigo = s.latigo := rfl
@[simp] theorem State.putS_flash (s : State) (f : Fld) (v : Int) (i : Nat) : (s.putS f v i).flash = s.flash := rfl
@[simp] theorem State.putS_fabric (s : State) (f : Fld) (v : Int) (i : Nat) : (s.putS f v i).fabric = s.fabric := rfl
@[simp] theorem State.putS_packer (s : State) (f : Fld) (v : Int) (i : Nat) : (s.putS f v i).packer = s.packer := rfl
@[simp] theorem State.putS_stirrup (s : State) (f : Fld) (v : Int) (i : Nat) : (s.putS f v i).stirrup = s.stirrup := rfl
@[simp] theorem State.putS_skive (s : State) (f : Fld) (v : Int) (i : Nat) : (s.putS f v i).skive = s.skive := rfl
@[simp] theorem State.putS_tree (s : State) (f : Fld) (v : Int) (i : Nat) : (s.putS f v i).tree = s.tree := rfl
@[simp] theorem State.putS_stitch (s : State) (f : Fld) (v : Int) (i : Nat) : (s.putS f v i).stitch = s.stitch := rfl
@[simp] theorem State.putS_harness (s : State) (f : Fld) (v : Int) (i : Nat) : (s.putS f v i).harness = s.harness := rfl
@[simp] theorem State.putS_burnish (s : State) (f : Fld) (v : Int) (i : Nat) : (s.putS f v i).burnish = s.burnish := rfl
@[simp] theorem State.putS_rosette (s : State) (f : Fld) (v : Int) (i : Nat) : (s.putS f v i).rosette = s.rosette := rfl
@[simp] theorem State.putS_tack (s : State) (f : Fld) (v : Int) (i : Nat) : (s.putS f v i).tack = s.tack := rfl
@[simp] theorem State.putS_wire (s : State) (f : Fld) (v : Int) (i : Nat) : (s.putS f v i).wire = s.wire := rfl
@[simp] theorem State.putS_line (s : State) (f : Fld) (v : Int) (i : Nat) : (s.putS f v i).line = s.line := rfl
@[simp] theorem State.putS_freeCtr (s : State) (f : Fld) (v : Int) (i : Nat) : (s.putS f v i).freeCtr = s.freeCtr := rfl
@[simp] theorem State.putS_pending (s : State) (f : Fld) (v : Int) (i : Nat) : (s.putS f v i).pending = s.pending := rfl

/-! ### State.take -/

@[simp] theorem State.take_mode (s : State) (f : Fld) (w : Word32) (i : Nat) : (s.take f w i).mode = s.mode := rfl
@[simp] theorem State.take_frc (s : State) (f : Fld) (w : Word32) (i : Nat) : (s.take f w i).frc = s.frc := rfl
@[simp] theorem State.take_dies (s : State) (f : Fld) (w : Word32) (i : Nat) : (s.take f w i).dies = s.dies := rfl
@[simp] theorem State.take_chans (s : State) (f : Fld) (w : Word32) (i : Nat) : (s.take f w i).chans = s.chans := rfl
@[simp] theorem State.take_quads (s : State) (f : Fld) (w : Word32) (i : Nat) : (s.take f w i).quads = s.quads := rfl
@[simp] theorem State.take_ingress (s : State) (f : Fld) (w : Word32) (i : Nat) : (s.take f w i).ingress = s.ingress := rfl
@[simp] theorem State.take_girth (s : State) (f : Fld) (w : Word32) (i : Nat) : (s.take f w i).girth = s.girth := rfl
@[simp] theorem State.take_matrix (s : State) (f : Fld) (w : Word32) (i : Nat) : (s.take f w i).matrix = s.matrix := rfl
@[simp] theorem State.take_supervisor (s : State) (f : Fld) (w : Word32) (i : Nat) : (s.take f w i).supervisor = s.supervisor := rfl
@[simp] theorem State.take_bridle (s : State) (f : Fld) (w : Word32) (i : Nat) : (s.take f w i).bridle = s.bridle := rfl
@[simp] theorem State.take_latigo (s : State) (f : Fld) (w : Word32) (i : Nat) : (s.take f w i).latigo = s.latigo := rfl
@[simp] theorem State.take_flash (s : State) (f : Fld) (w : Word32) (i : Nat) : (s.take f w i).flash = s.flash := rfl
@[simp] theorem State.take_fabric (s : State) (f : Fld) (w : Word32) (i : Nat) : (s.take f w i).fabric = s.fabric := rfl
@[simp] theorem State.take_packer (s : State) (f : Fld) (w : Word32) (i : Nat) : (s.take f w i).packer = s.packer := rfl
@[simp] theorem State.take_stirrup (s : State) (f : Fld) (w : Word32) (i : Nat) : (s.take f w i).stirrup = s.stirrup := rfl
@[simp] theorem State.take_skive (s : State) (f : Fld) (w : Word32) (i : Nat) : (s.take f w i).skive = s.skive := rfl
@[simp] theorem State.take_tree (s : State) (f : Fld) (w : Word32) (i : Nat) : (s.take f w i).tree = s.tree := rfl
@[simp] theorem State.take_stitch (s : State) (f : Fld) (w : Word32) (i : Nat) : (s.take f w i).stitch = s.stitch := rfl
@[simp] theorem State.take_harness (s : State) (f : Fld) (w : Word32) (i : Nat) : (s.take f w i).harness = s.harness := rfl
@[simp] theorem State.take_burnish (s : State) (f : Fld) (w : Word32) (i : Nat) : (s.take f w i).burnish = s.burnish := rfl
@[simp] theorem State.take_rosette (s : State) (f : Fld) (w : Word32) (i : Nat) : (s.take f w i).rosette = s.rosette := rfl
@[simp] theorem State.take_tack (s : State) (f : Fld) (w : Word32) (i : Nat) : (s.take f w i).tack = s.tack := rfl
@[simp] theorem State.take_wire (s : State) (f : Fld) (w : Word32) (i : Nat) : (s.take f w i).wire = s.wire := rfl
@[simp] theorem State.take_line (s : State) (f : Fld) (w : Word32) (i : Nat) : (s.take f w i).line = s.line := rfl
@[simp] theorem State.take_freeCtr (s : State) (f : Fld) (w : Word32) (i : Nat) : (s.take f w i).freeCtr = s.freeCtr := rfl
@[simp] theorem State.take_pending (s : State) (f : Fld) (w : Word32) (i : Nat) : (s.take f w i).pending = s.pending := rfl

/-! ### State.send -/

/-- A block changes the lanes alone (R247). -/
theorem State.wireBlock_eq (s : State) (m : Nat) (ctl : Bool) (x : Word64) : ∃ w, s.wireBlock m ctl x = { s with wire := w } := by
  unfold State.wireBlock
  generalize scramble (s.tx m).scr x = p
  exact ⟨_, rfl⟩

/-- An item on the record changes the record and the lanes. -/
theorem State.send_eq (s : State) (x : LineItem) : ∃ w, s.send x = { s with line := s.line ++ [x], wire := w } := by
  have go : ∀ (l : List (Nat × Bool × Word64)) (t : State), ∃ w, l.foldl (fun t b => t.wireBlock b.1 b.2.1 b.2.2) t = { t with wire := w } := by
    intro l
    induction l with
    | nil => exact fun t => ⟨t.wire, rfl⟩
    | cons b l ih =>
      intro t
      obtain ⟨v, hv⟩ := t.wireBlock_eq b.1 b.2.1 b.2.2
      rw [List.foldl_cons, hv]
      exact ih _
  exact go x.blocks { s with line := s.line ++ [x] }

@[simp] theorem State.send_line (s : State) (x : LineItem) : (s.send x).line = s.line ++ [x] := by
  obtain ⟨w, h⟩ := s.send_eq x; rw [h]
@[simp] theorem State.send_mode (s : State) (x : LineItem) : (s.send x).mode = s.mode := by
  obtain ⟨w, h⟩ := s.send_eq x; rw [h]
@[simp] theorem State.send_frc (s : State) (x : LineItem) : (s.send x).frc = s.frc := by
  obtain ⟨w, h⟩ := s.send_eq x; rw [h]
@[simp] theorem State.send_regs (s : State) (x : LineItem) : (s.send x).regs = s.regs := by
  obtain ⟨w, h⟩ := s.send_eq x; rw [h]
@[simp] theorem State.send_dies (s : State) (x : LineItem) : (s.send x).dies = s.dies := by
  obtain ⟨w, h⟩ := s.send_eq x; rw [h]
@[simp] theorem State.send_chans (s : State) (x : LineItem) : (s.send x).chans = s.chans := by
  obtain ⟨w, h⟩ := s.send_eq x; rw [h]
@[simp] theorem State.send_quads (s : State) (x : LineItem) : (s.send x).quads = s.quads := by
  obtain ⟨w, h⟩ := s.send_eq x; rw [h]
@[simp] theorem State.send_ingress (s : State) (x : LineItem) : (s.send x).ingress = s.ingress := by
  obtain ⟨w, h⟩ := s.send_eq x; rw [h]
@[simp] theorem State.send_girth (s : State) (x : LineItem) : (s.send x).girth = s.girth := by
  obtain ⟨w, h⟩ := s.send_eq x; rw [h]
@[simp] theorem State.send_matrix (s : State) (x : LineItem) : (s.send x).matrix = s.matrix := by
  obtain ⟨w, h⟩ := s.send_eq x; rw [h]
@[simp] theorem State.send_supervisor (s : State) (x : LineItem) : (s.send x).supervisor = s.supervisor := by
  obtain ⟨w, h⟩ := s.send_eq x; rw [h]
@[simp] theorem State.send_bridle (s : State) (x : LineItem) : (s.send x).bridle = s.bridle := by
  obtain ⟨w, h⟩ := s.send_eq x; rw [h]
@[simp] theorem State.send_latigo (s : State) (x : LineItem) : (s.send x).latigo = s.latigo := by
  obtain ⟨w, h⟩ := s.send_eq x; rw [h]
@[simp] theorem State.send_flash (s : State) (x : LineItem) : (s.send x).flash = s.flash := by
  obtain ⟨w, h⟩ := s.send_eq x; rw [h]
@[simp] theorem State.send_fabric (s : State) (x : LineItem) : (s.send x).fabric = s.fabric := by
  obtain ⟨w, h⟩ := s.send_eq x; rw [h]
@[simp] theorem State.send_packer (s : State) (x : LineItem) : (s.send x).packer = s.packer := by
  obtain ⟨w, h⟩ := s.send_eq x; rw [h]
@[simp] theorem State.send_stirrup (s : State) (x : LineItem) : (s.send x).stirrup = s.stirrup := by
  obtain ⟨w, h⟩ := s.send_eq x; rw [h]
@[simp] theorem State.send_skive (s : State) (x : LineItem) : (s.send x).skive = s.skive := by
  obtain ⟨w, h⟩ := s.send_eq x; rw [h]
@[simp] theorem State.send_tree (s : State) (x : LineItem) : (s.send x).tree = s.tree := by
  obtain ⟨w, h⟩ := s.send_eq x; rw [h]
@[simp] theorem State.send_stitch (s : State) (x : LineItem) : (s.send x).stitch = s.stitch := by
  obtain ⟨w, h⟩ := s.send_eq x; rw [h]
@[simp] theorem State.send_harness (s : State) (x : LineItem) : (s.send x).harness = s.harness := by
  obtain ⟨w, h⟩ := s.send_eq x; rw [h]
@[simp] theorem State.send_burnish (s : State) (x : LineItem) : (s.send x).burnish = s.burnish := by
  obtain ⟨w, h⟩ := s.send_eq x; rw [h]
@[simp] theorem State.send_rosette (s : State) (x : LineItem) : (s.send x).rosette = s.rosette := by
  obtain ⟨w, h⟩ := s.send_eq x; rw [h]
@[simp] theorem State.send_tack (s : State) (x : LineItem) : (s.send x).tack = s.tack := by
  obtain ⟨w, h⟩ := s.send_eq x; rw [h]
@[simp] theorem State.send_freeCtr (s : State) (x : LineItem) : (s.send x).freeCtr = s.freeCtr := by
  obtain ⟨w, h⟩ := s.send_eq x; rw [h]
@[simp] theorem State.send_pending (s : State) (x : LineItem) : (s.send x).pending = s.pending := by
  obtain ⟨w, h⟩ := s.send_eq x; rw [h]

/-! ### State.item -/

@[simp] theorem State.item_mode (s : State) (k : Nat) (ws : List Word64) : (s.item k ws).mode = s.mode := rfl
@[simp] theorem State.item_frc (s : State) (k : Nat) (ws : List Word64) : (s.item k ws).frc = s.frc := rfl
@[simp] theorem State.item_regs (s : State) (k : Nat) (ws : List Word64) : (s.item k ws).regs = s.regs := rfl
@[simp] theorem State.item_dies (s : State) (k : Nat) (ws : List Word64) : (s.item k ws).dies = s.dies := rfl
@[simp] theorem State.item_chans (s : State) (k : Nat) (ws : List Word64) : (s.item k ws).chans = s.chans := rfl
@[simp] theorem State.item_quads (s : State) (k : Nat) (ws : List Word64) : (s.item k ws).quads = s.quads := rfl
@[simp] theorem State.item_ingress (s : State) (k : Nat) (ws : List Word64) : (s.item k ws).ingress = s.ingress := rfl
@[simp] theorem State.item_girth (s : State) (k : Nat) (ws : List Word64) : (s.item k ws).girth = s.girth := rfl
@[simp] theorem State.item_matrix (s : State) (k : Nat) (ws : List Word64) : (s.item k ws).matrix = s.matrix := rfl
@[simp] theorem State.item_supervisor (s : State) (k : Nat) (ws : List Word64) : (s.item k ws).supervisor = s.supervisor := rfl
@[simp] theorem State.item_bridle (s : State) (k : Nat) (ws : List Word64) : (s.item k ws).bridle = s.bridle := rfl
@[simp] theorem State.item_latigo (s : State) (k : Nat) (ws : List Word64) : (s.item k ws).latigo = s.latigo := rfl
@[simp] theorem State.item_flash (s : State) (k : Nat) (ws : List Word64) : (s.item k ws).flash = s.flash := rfl
@[simp] theorem State.item_fabric (s : State) (k : Nat) (ws : List Word64) : (s.item k ws).fabric = s.fabric := rfl
@[simp] theorem State.item_stirrup (s : State) (k : Nat) (ws : List Word64) : (s.item k ws).stirrup = s.stirrup := rfl
@[simp] theorem State.item_skive (s : State) (k : Nat) (ws : List Word64) : (s.item k ws).skive = s.skive := rfl
@[simp] theorem State.item_tree (s : State) (k : Nat) (ws : List Word64) : (s.item k ws).tree = s.tree := rfl
@[simp] theorem State.item_stitch (s : State) (k : Nat) (ws : List Word64) : (s.item k ws).stitch = s.stitch := rfl
@[simp] theorem State.item_harness (s : State) (k : Nat) (ws : List Word64) : (s.item k ws).harness = s.harness := rfl
@[simp] theorem State.item_burnish (s : State) (k : Nat) (ws : List Word64) : (s.item k ws).burnish = s.burnish := rfl
@[simp] theorem State.item_rosette (s : State) (k : Nat) (ws : List Word64) : (s.item k ws).rosette = s.rosette := rfl
@[simp] theorem State.item_tack (s : State) (k : Nat) (ws : List Word64) : (s.item k ws).tack = s.tack := rfl
@[simp] theorem State.item_wire (s : State) (k : Nat) (ws : List Word64) : (s.item k ws).wire = s.wire := rfl
@[simp] theorem State.item_line (s : State) (k : Nat) (ws : List Word64) : (s.item k ws).line = s.line := rfl
@[simp] theorem State.item_freeCtr (s : State) (k : Nat) (ws : List Word64) : (s.item k ws).freeCtr = s.freeCtr := rfl
@[simp] theorem State.item_pending (s : State) (k : Nat) (ws : List Word64) : (s.item k ws).pending = s.pending := rfl

/-! ### State.setDie -/

@[simp] theorem State.setDie_mode (s : State) (f : Nat) (d : Die) : (s.setDie f d).mode = s.mode := rfl
@[simp] theorem State.setDie_frc (s : State) (f : Nat) (d : Die) : (s.setDie f d).frc = s.frc := rfl
@[simp] theorem State.setDie_regs (s : State) (f : Nat) (d : Die) : (s.setDie f d).regs = s.regs := rfl
@[simp] theorem State.setDie_chans (s : State) (f : Nat) (d : Die) : (s.setDie f d).chans = s.chans := rfl
@[simp] theorem State.setDie_quads (s : State) (f : Nat) (d : Die) : (s.setDie f d).quads = s.quads := rfl
@[simp] theorem State.setDie_ingress (s : State) (f : Nat) (d : Die) : (s.setDie f d).ingress = s.ingress := rfl
@[simp] theorem State.setDie_girth (s : State) (f : Nat) (d : Die) : (s.setDie f d).girth = s.girth := rfl
@[simp] theorem State.setDie_matrix (s : State) (f : Nat) (d : Die) : (s.setDie f d).matrix = s.matrix := rfl
@[simp] theorem State.setDie_supervisor (s : State) (f : Nat) (d : Die) : (s.setDie f d).supervisor = s.supervisor := rfl
@[simp] theorem State.setDie_bridle (s : State) (f : Nat) (d : Die) : (s.setDie f d).bridle = s.bridle := rfl
@[simp] theorem State.setDie_latigo (s : State) (f : Nat) (d : Die) : (s.setDie f d).latigo = s.latigo := rfl
@[simp] theorem State.setDie_flash (s : State) (f : Nat) (d : Die) : (s.setDie f d).flash = s.flash := rfl
@[simp] theorem State.setDie_fabric (s : State) (f : Nat) (d : Die) : (s.setDie f d).fabric = s.fabric := rfl
@[simp] theorem State.setDie_packer (s : State) (f : Nat) (d : Die) : (s.setDie f d).packer = s.packer := rfl
@[simp] theorem State.setDie_stirrup (s : State) (f : Nat) (d : Die) : (s.setDie f d).stirrup = s.stirrup := rfl
@[simp] theorem State.setDie_skive (s : State) (f : Nat) (d : Die) : (s.setDie f d).skive = s.skive := rfl
@[simp] theorem State.setDie_tree (s : State) (f : Nat) (d : Die) : (s.setDie f d).tree = s.tree := rfl
@[simp] theorem State.setDie_stitch (s : State) (f : Nat) (d : Die) : (s.setDie f d).stitch = s.stitch := rfl
@[simp] theorem State.setDie_harness (s : State) (f : Nat) (d : Die) : (s.setDie f d).harness = s.harness := rfl
@[simp] theorem State.setDie_burnish (s : State) (f : Nat) (d : Die) : (s.setDie f d).burnish = s.burnish := rfl
@[simp] theorem State.setDie_rosette (s : State) (f : Nat) (d : Die) : (s.setDie f d).rosette = s.rosette := rfl
@[simp] theorem State.setDie_tack (s : State) (f : Nat) (d : Die) : (s.setDie f d).tack = s.tack := rfl
@[simp] theorem State.setDie_wire (s : State) (f : Nat) (d : Die) : (s.setDie f d).wire = s.wire := rfl
@[simp] theorem State.setDie_line (s : State) (f : Nat) (d : Die) : (s.setDie f d).line = s.line := rfl
@[simp] theorem State.setDie_freeCtr (s : State) (f : Nat) (d : Die) : (s.setDie f d).freeCtr = s.freeCtr := rfl
@[simp] theorem State.setDie_pending (s : State) (f : Nat) (d : Die) : (s.setDie f d).pending = s.pending := rfl

/-! ### State.setChan -/

@[simp] theorem State.setChan_mode (s : State) (g : Nat) (c : Chan) : (s.setChan g c).mode = s.mode := rfl
@[simp] theorem State.setChan_frc (s : State) (g : Nat) (c : Chan) : (s.setChan g c).frc = s.frc := rfl
@[simp] theorem State.setChan_regs (s : State) (g : Nat) (c : Chan) : (s.setChan g c).regs = s.regs := rfl
@[simp] theorem State.setChan_dies (s : State) (g : Nat) (c : Chan) : (s.setChan g c).dies = s.dies := rfl
@[simp] theorem State.setChan_quads (s : State) (g : Nat) (c : Chan) : (s.setChan g c).quads = s.quads := rfl
@[simp] theorem State.setChan_ingress (s : State) (g : Nat) (c : Chan) : (s.setChan g c).ingress = s.ingress := rfl
@[simp] theorem State.setChan_girth (s : State) (g : Nat) (c : Chan) : (s.setChan g c).girth = s.girth := rfl
@[simp] theorem State.setChan_matrix (s : State) (g : Nat) (c : Chan) : (s.setChan g c).matrix = s.matrix := rfl
@[simp] theorem State.setChan_supervisor (s : State) (g : Nat) (c : Chan) : (s.setChan g c).supervisor = s.supervisor := rfl
@[simp] theorem State.setChan_bridle (s : State) (g : Nat) (c : Chan) : (s.setChan g c).bridle = s.bridle := rfl
@[simp] theorem State.setChan_latigo (s : State) (g : Nat) (c : Chan) : (s.setChan g c).latigo = s.latigo := rfl
@[simp] theorem State.setChan_flash (s : State) (g : Nat) (c : Chan) : (s.setChan g c).flash = s.flash := rfl
@[simp] theorem State.setChan_fabric (s : State) (g : Nat) (c : Chan) : (s.setChan g c).fabric = s.fabric := rfl
@[simp] theorem State.setChan_packer (s : State) (g : Nat) (c : Chan) : (s.setChan g c).packer = s.packer := rfl
@[simp] theorem State.setChan_stirrup (s : State) (g : Nat) (c : Chan) : (s.setChan g c).stirrup = s.stirrup := rfl
@[simp] theorem State.setChan_skive (s : State) (g : Nat) (c : Chan) : (s.setChan g c).skive = s.skive := rfl
@[simp] theorem State.setChan_tree (s : State) (g : Nat) (c : Chan) : (s.setChan g c).tree = s.tree := rfl
@[simp] theorem State.setChan_stitch (s : State) (g : Nat) (c : Chan) : (s.setChan g c).stitch = s.stitch := rfl
@[simp] theorem State.setChan_harness (s : State) (g : Nat) (c : Chan) : (s.setChan g c).harness = s.harness := rfl
@[simp] theorem State.setChan_burnish (s : State) (g : Nat) (c : Chan) : (s.setChan g c).burnish = s.burnish := rfl
@[simp] theorem State.setChan_rosette (s : State) (g : Nat) (c : Chan) : (s.setChan g c).rosette = s.rosette := rfl
@[simp] theorem State.setChan_tack (s : State) (g : Nat) (c : Chan) : (s.setChan g c).tack = s.tack := rfl
@[simp] theorem State.setChan_wire (s : State) (g : Nat) (c : Chan) : (s.setChan g c).wire = s.wire := rfl
@[simp] theorem State.setChan_line (s : State) (g : Nat) (c : Chan) : (s.setChan g c).line = s.line := rfl
@[simp] theorem State.setChan_freeCtr (s : State) (g : Nat) (c : Chan) : (s.setChan g c).freeCtr = s.freeCtr := rfl
@[simp] theorem State.setChan_pending (s : State) (g : Nat) (c : Chan) : (s.setChan g c).pending = s.pending := rfl

/-! ### State.setQuad -/

@[simp] theorem State.setQuad_mode (s : State) (n : Nat) (q : Quad) : (s.setQuad n q).mode = s.mode := rfl
@[simp] theorem State.setQuad_frc (s : State) (n : Nat) (q : Quad) : (s.setQuad n q).frc = s.frc := rfl
@[simp] theorem State.setQuad_regs (s : State) (n : Nat) (q : Quad) : (s.setQuad n q).regs = s.regs := rfl
@[simp] theorem State.setQuad_dies (s : State) (n : Nat) (q : Quad) : (s.setQuad n q).dies = s.dies := rfl
@[simp] theorem State.setQuad_chans (s : State) (n : Nat) (q : Quad) : (s.setQuad n q).chans = s.chans := rfl
@[simp] theorem State.setQuad_ingress (s : State) (n : Nat) (q : Quad) : (s.setQuad n q).ingress = s.ingress := rfl
@[simp] theorem State.setQuad_girth (s : State) (n : Nat) (q : Quad) : (s.setQuad n q).girth = s.girth := rfl
@[simp] theorem State.setQuad_matrix (s : State) (n : Nat) (q : Quad) : (s.setQuad n q).matrix = s.matrix := rfl
@[simp] theorem State.setQuad_supervisor (s : State) (n : Nat) (q : Quad) : (s.setQuad n q).supervisor = s.supervisor := rfl
@[simp] theorem State.setQuad_bridle (s : State) (n : Nat) (q : Quad) : (s.setQuad n q).bridle = s.bridle := rfl
@[simp] theorem State.setQuad_latigo (s : State) (n : Nat) (q : Quad) : (s.setQuad n q).latigo = s.latigo := rfl
@[simp] theorem State.setQuad_flash (s : State) (n : Nat) (q : Quad) : (s.setQuad n q).flash = s.flash := rfl
@[simp] theorem State.setQuad_fabric (s : State) (n : Nat) (q : Quad) : (s.setQuad n q).fabric = s.fabric := rfl
@[simp] theorem State.setQuad_packer (s : State) (n : Nat) (q : Quad) : (s.setQuad n q).packer = s.packer := rfl
@[simp] theorem State.setQuad_stirrup (s : State) (n : Nat) (q : Quad) : (s.setQuad n q).stirrup = s.stirrup := rfl
@[simp] theorem State.setQuad_skive (s : State) (n : Nat) (q : Quad) : (s.setQuad n q).skive = s.skive := rfl
@[simp] theorem State.setQuad_tree (s : State) (n : Nat) (q : Quad) : (s.setQuad n q).tree = s.tree := rfl
@[simp] theorem State.setQuad_stitch (s : State) (n : Nat) (q : Quad) : (s.setQuad n q).stitch = s.stitch := rfl
@[simp] theorem State.setQuad_harness (s : State) (n : Nat) (q : Quad) : (s.setQuad n q).harness = s.harness := rfl
@[simp] theorem State.setQuad_burnish (s : State) (n : Nat) (q : Quad) : (s.setQuad n q).burnish = s.burnish := rfl
@[simp] theorem State.setQuad_rosette (s : State) (n : Nat) (q : Quad) : (s.setQuad n q).rosette = s.rosette := rfl
@[simp] theorem State.setQuad_tack (s : State) (n : Nat) (q : Quad) : (s.setQuad n q).tack = s.tack := rfl
@[simp] theorem State.setQuad_wire (s : State) (n : Nat) (q : Quad) : (s.setQuad n q).wire = s.wire := rfl
@[simp] theorem State.setQuad_line (s : State) (n : Nat) (q : Quad) : (s.setQuad n q).line = s.line := rfl
@[simp] theorem State.setQuad_freeCtr (s : State) (n : Nat) (q : Quad) : (s.setQuad n q).freeCtr = s.freeCtr := rfl
@[simp] theorem State.setQuad_pending (s : State) (n : Nat) (q : Quad) : (s.setQuad n q).pending = s.pending := rfl

/-! ### State.setIng -/

@[simp] theorem State.setIng_mode (s : State) (n : Nat) (q : Ingress) : (s.setIng n q).mode = s.mode := rfl
@[simp] theorem State.setIng_frc (s : State) (n : Nat) (q : Ingress) : (s.setIng n q).frc = s.frc := rfl
@[simp] theorem State.setIng_regs (s : State) (n : Nat) (q : Ingress) : (s.setIng n q).regs = s.regs := rfl
@[simp] theorem State.setIng_dies (s : State) (n : Nat) (q : Ingress) : (s.setIng n q).dies = s.dies := rfl
@[simp] theorem State.setIng_chans (s : State) (n : Nat) (q : Ingress) : (s.setIng n q).chans = s.chans := rfl
@[simp] theorem State.setIng_quads (s : State) (n : Nat) (q : Ingress) : (s.setIng n q).quads = s.quads := rfl
@[simp] theorem State.setIng_girth (s : State) (n : Nat) (q : Ingress) : (s.setIng n q).girth = s.girth := rfl
@[simp] theorem State.setIng_matrix (s : State) (n : Nat) (q : Ingress) : (s.setIng n q).matrix = s.matrix := rfl
@[simp] theorem State.setIng_supervisor (s : State) (n : Nat) (q : Ingress) : (s.setIng n q).supervisor = s.supervisor := rfl
@[simp] theorem State.setIng_bridle (s : State) (n : Nat) (q : Ingress) : (s.setIng n q).bridle = s.bridle := rfl
@[simp] theorem State.setIng_latigo (s : State) (n : Nat) (q : Ingress) : (s.setIng n q).latigo = s.latigo := rfl
@[simp] theorem State.setIng_flash (s : State) (n : Nat) (q : Ingress) : (s.setIng n q).flash = s.flash := rfl
@[simp] theorem State.setIng_fabric (s : State) (n : Nat) (q : Ingress) : (s.setIng n q).fabric = s.fabric := rfl
@[simp] theorem State.setIng_packer (s : State) (n : Nat) (q : Ingress) : (s.setIng n q).packer = s.packer := rfl
@[simp] theorem State.setIng_stirrup (s : State) (n : Nat) (q : Ingress) : (s.setIng n q).stirrup = s.stirrup := rfl
@[simp] theorem State.setIng_skive (s : State) (n : Nat) (q : Ingress) : (s.setIng n q).skive = s.skive := rfl
@[simp] theorem State.setIng_tree (s : State) (n : Nat) (q : Ingress) : (s.setIng n q).tree = s.tree := rfl
@[simp] theorem State.setIng_stitch (s : State) (n : Nat) (q : Ingress) : (s.setIng n q).stitch = s.stitch := rfl
@[simp] theorem State.setIng_harness (s : State) (n : Nat) (q : Ingress) : (s.setIng n q).harness = s.harness := rfl
@[simp] theorem State.setIng_burnish (s : State) (n : Nat) (q : Ingress) : (s.setIng n q).burnish = s.burnish := rfl
@[simp] theorem State.setIng_rosette (s : State) (n : Nat) (q : Ingress) : (s.setIng n q).rosette = s.rosette := rfl
@[simp] theorem State.setIng_tack (s : State) (n : Nat) (q : Ingress) : (s.setIng n q).tack = s.tack := rfl
@[simp] theorem State.setIng_wire (s : State) (n : Nat) (q : Ingress) : (s.setIng n q).wire = s.wire := rfl
@[simp] theorem State.setIng_line (s : State) (n : Nat) (q : Ingress) : (s.setIng n q).line = s.line := rfl
@[simp] theorem State.setIng_freeCtr (s : State) (n : Nat) (q : Ingress) : (s.setIng n q).freeCtr = s.freeCtr := rfl
@[simp] theorem State.setIng_pending (s : State) (n : Nat) (q : Ingress) : (s.setIng n q).pending = s.pending := rfl

/-! ### State.setBur -/

@[simp] theorem State.setBur_mode (s : State) (f : Nat) (b : BurDie) : (s.setBur f b).mode = s.mode := rfl
@[simp] theorem State.setBur_frc (s : State) (f : Nat) (b : BurDie) : (s.setBur f b).frc = s.frc := rfl
@[simp] theorem State.setBur_regs (s : State) (f : Nat) (b : BurDie) : (s.setBur f b).regs = s.regs := rfl
@[simp] theorem State.setBur_dies (s : State) (f : Nat) (b : BurDie) : (s.setBur f b).dies = s.dies := rfl
@[simp] theorem State.setBur_chans (s : State) (f : Nat) (b : BurDie) : (s.setBur f b).chans = s.chans := rfl
@[simp] theorem State.setBur_quads (s : State) (f : Nat) (b : BurDie) : (s.setBur f b).quads = s.quads := rfl
@[simp] theorem State.setBur_ingress (s : State) (f : Nat) (b : BurDie) : (s.setBur f b).ingress = s.ingress := rfl
@[simp] theorem State.setBur_girth (s : State) (f : Nat) (b : BurDie) : (s.setBur f b).girth = s.girth := rfl
@[simp] theorem State.setBur_matrix (s : State) (f : Nat) (b : BurDie) : (s.setBur f b).matrix = s.matrix := rfl
@[simp] theorem State.setBur_supervisor (s : State) (f : Nat) (b : BurDie) : (s.setBur f b).supervisor = s.supervisor := rfl
@[simp] theorem State.setBur_bridle (s : State) (f : Nat) (b : BurDie) : (s.setBur f b).bridle = s.bridle := rfl
@[simp] theorem State.setBur_latigo (s : State) (f : Nat) (b : BurDie) : (s.setBur f b).latigo = s.latigo := rfl
@[simp] theorem State.setBur_flash (s : State) (f : Nat) (b : BurDie) : (s.setBur f b).flash = s.flash := rfl
@[simp] theorem State.setBur_fabric (s : State) (f : Nat) (b : BurDie) : (s.setBur f b).fabric = s.fabric := rfl
@[simp] theorem State.setBur_packer (s : State) (f : Nat) (b : BurDie) : (s.setBur f b).packer = s.packer := rfl
@[simp] theorem State.setBur_stirrup (s : State) (f : Nat) (b : BurDie) : (s.setBur f b).stirrup = s.stirrup := rfl
@[simp] theorem State.setBur_skive (s : State) (f : Nat) (b : BurDie) : (s.setBur f b).skive = s.skive := rfl
@[simp] theorem State.setBur_tree (s : State) (f : Nat) (b : BurDie) : (s.setBur f b).tree = s.tree := rfl
@[simp] theorem State.setBur_stitch (s : State) (f : Nat) (b : BurDie) : (s.setBur f b).stitch = s.stitch := rfl
@[simp] theorem State.setBur_harness (s : State) (f : Nat) (b : BurDie) : (s.setBur f b).harness = s.harness := rfl
@[simp] theorem State.setBur_rosette (s : State) (f : Nat) (b : BurDie) : (s.setBur f b).rosette = s.rosette := rfl
@[simp] theorem State.setBur_tack (s : State) (f : Nat) (b : BurDie) : (s.setBur f b).tack = s.tack := rfl
@[simp] theorem State.setBur_wire (s : State) (f : Nat) (b : BurDie) : (s.setBur f b).wire = s.wire := rfl
@[simp] theorem State.setBur_line (s : State) (f : Nat) (b : BurDie) : (s.setBur f b).line = s.line := rfl
@[simp] theorem State.setBur_freeCtr (s : State) (f : Nat) (b : BurDie) : (s.setBur f b).freeCtr = s.freeCtr := rfl
@[simp] theorem State.setBur_pending (s : State) (f : Nat) (b : BurDie) : (s.setBur f b).pending = s.pending := rfl

/-! ### State.setTx -/

@[simp] theorem State.setTx_mode (s : State) (m : Nat) (x : TxLane) : (s.setTx m x).mode = s.mode := rfl
@[simp] theorem State.setTx_frc (s : State) (m : Nat) (x : TxLane) : (s.setTx m x).frc = s.frc := rfl
@[simp] theorem State.setTx_regs (s : State) (m : Nat) (x : TxLane) : (s.setTx m x).regs = s.regs := rfl
@[simp] theorem State.setTx_dies (s : State) (m : Nat) (x : TxLane) : (s.setTx m x).dies = s.dies := rfl
@[simp] theorem State.setTx_chans (s : State) (m : Nat) (x : TxLane) : (s.setTx m x).chans = s.chans := rfl
@[simp] theorem State.setTx_quads (s : State) (m : Nat) (x : TxLane) : (s.setTx m x).quads = s.quads := rfl
@[simp] theorem State.setTx_ingress (s : State) (m : Nat) (x : TxLane) : (s.setTx m x).ingress = s.ingress := rfl
@[simp] theorem State.setTx_girth (s : State) (m : Nat) (x : TxLane) : (s.setTx m x).girth = s.girth := rfl
@[simp] theorem State.setTx_matrix (s : State) (m : Nat) (x : TxLane) : (s.setTx m x).matrix = s.matrix := rfl
@[simp] theorem State.setTx_supervisor (s : State) (m : Nat) (x : TxLane) : (s.setTx m x).supervisor = s.supervisor := rfl
@[simp] theorem State.setTx_bridle (s : State) (m : Nat) (x : TxLane) : (s.setTx m x).bridle = s.bridle := rfl
@[simp] theorem State.setTx_latigo (s : State) (m : Nat) (x : TxLane) : (s.setTx m x).latigo = s.latigo := rfl
@[simp] theorem State.setTx_flash (s : State) (m : Nat) (x : TxLane) : (s.setTx m x).flash = s.flash := rfl
@[simp] theorem State.setTx_fabric (s : State) (m : Nat) (x : TxLane) : (s.setTx m x).fabric = s.fabric := rfl
@[simp] theorem State.setTx_packer (s : State) (m : Nat) (x : TxLane) : (s.setTx m x).packer = s.packer := rfl
@[simp] theorem State.setTx_stirrup (s : State) (m : Nat) (x : TxLane) : (s.setTx m x).stirrup = s.stirrup := rfl
@[simp] theorem State.setTx_skive (s : State) (m : Nat) (x : TxLane) : (s.setTx m x).skive = s.skive := rfl
@[simp] theorem State.setTx_tree (s : State) (m : Nat) (x : TxLane) : (s.setTx m x).tree = s.tree := rfl
@[simp] theorem State.setTx_stitch (s : State) (m : Nat) (x : TxLane) : (s.setTx m x).stitch = s.stitch := rfl
@[simp] theorem State.setTx_harness (s : State) (m : Nat) (x : TxLane) : (s.setTx m x).harness = s.harness := rfl
@[simp] theorem State.setTx_burnish (s : State) (m : Nat) (x : TxLane) : (s.setTx m x).burnish = s.burnish := rfl
@[simp] theorem State.setTx_rosette (s : State) (m : Nat) (x : TxLane) : (s.setTx m x).rosette = s.rosette := rfl
@[simp] theorem State.setTx_tack (s : State) (m : Nat) (x : TxLane) : (s.setTx m x).tack = s.tack := rfl
@[simp] theorem State.setTx_line (s : State) (m : Nat) (x : TxLane) : (s.setTx m x).line = s.line := rfl
@[simp] theorem State.setTx_freeCtr (s : State) (m : Nat) (x : TxLane) : (s.setTx m x).freeCtr = s.freeCtr := rfl
@[simp] theorem State.setTx_pending (s : State) (m : Nat) (x : TxLane) : (s.setTx m x).pending = s.pending := rfl

/-! ### State.wireBlock -/

@[simp] theorem State.wireBlock_mode (s : State) (m : Nat) (ctl : Bool) (w : Word64) : (s.wireBlock m ctl w).mode = s.mode := rfl
@[simp] theorem State.wireBlock_frc (s : State) (m : Nat) (ctl : Bool) (w : Word64) : (s.wireBlock m ctl w).frc = s.frc := rfl
@[simp] theorem State.wireBlock_regs (s : State) (m : Nat) (ctl : Bool) (w : Word64) : (s.wireBlock m ctl w).regs = s.regs := rfl
@[simp] theorem State.wireBlock_dies (s : State) (m : Nat) (ctl : Bool) (w : Word64) : (s.wireBlock m ctl w).dies = s.dies := rfl
@[simp] theorem State.wireBlock_chans (s : State) (m : Nat) (ctl : Bool) (w : Word64) : (s.wireBlock m ctl w).chans = s.chans := rfl
@[simp] theorem State.wireBlock_quads (s : State) (m : Nat) (ctl : Bool) (w : Word64) : (s.wireBlock m ctl w).quads = s.quads := rfl
@[simp] theorem State.wireBlock_ingress (s : State) (m : Nat) (ctl : Bool) (w : Word64) : (s.wireBlock m ctl w).ingress = s.ingress := rfl
@[simp] theorem State.wireBlock_girth (s : State) (m : Nat) (ctl : Bool) (w : Word64) : (s.wireBlock m ctl w).girth = s.girth := rfl
@[simp] theorem State.wireBlock_matrix (s : State) (m : Nat) (ctl : Bool) (w : Word64) : (s.wireBlock m ctl w).matrix = s.matrix := rfl
@[simp] theorem State.wireBlock_supervisor (s : State) (m : Nat) (ctl : Bool) (w : Word64) : (s.wireBlock m ctl w).supervisor = s.supervisor := rfl
@[simp] theorem State.wireBlock_bridle (s : State) (m : Nat) (ctl : Bool) (w : Word64) : (s.wireBlock m ctl w).bridle = s.bridle := rfl
@[simp] theorem State.wireBlock_latigo (s : State) (m : Nat) (ctl : Bool) (w : Word64) : (s.wireBlock m ctl w).latigo = s.latigo := rfl
@[simp] theorem State.wireBlock_flash (s : State) (m : Nat) (ctl : Bool) (w : Word64) : (s.wireBlock m ctl w).flash = s.flash := rfl
@[simp] theorem State.wireBlock_fabric (s : State) (m : Nat) (ctl : Bool) (w : Word64) : (s.wireBlock m ctl w).fabric = s.fabric := rfl
@[simp] theorem State.wireBlock_packer (s : State) (m : Nat) (ctl : Bool) (w : Word64) : (s.wireBlock m ctl w).packer = s.packer := rfl
@[simp] theorem State.wireBlock_stirrup (s : State) (m : Nat) (ctl : Bool) (w : Word64) : (s.wireBlock m ctl w).stirrup = s.stirrup := rfl
@[simp] theorem State.wireBlock_skive (s : State) (m : Nat) (ctl : Bool) (w : Word64) : (s.wireBlock m ctl w).skive = s.skive := rfl
@[simp] theorem State.wireBlock_tree (s : State) (m : Nat) (ctl : Bool) (w : Word64) : (s.wireBlock m ctl w).tree = s.tree := rfl
@[simp] theorem State.wireBlock_stitch (s : State) (m : Nat) (ctl : Bool) (w : Word64) : (s.wireBlock m ctl w).stitch = s.stitch := rfl
@[simp] theorem State.wireBlock_harness (s : State) (m : Nat) (ctl : Bool) (w : Word64) : (s.wireBlock m ctl w).harness = s.harness := rfl
@[simp] theorem State.wireBlock_burnish (s : State) (m : Nat) (ctl : Bool) (w : Word64) : (s.wireBlock m ctl w).burnish = s.burnish := rfl
@[simp] theorem State.wireBlock_rosette (s : State) (m : Nat) (ctl : Bool) (w : Word64) : (s.wireBlock m ctl w).rosette = s.rosette := rfl
@[simp] theorem State.wireBlock_tack (s : State) (m : Nat) (ctl : Bool) (w : Word64) : (s.wireBlock m ctl w).tack = s.tack := rfl
@[simp] theorem State.wireBlock_line (s : State) (m : Nat) (ctl : Bool) (w : Word64) : (s.wireBlock m ctl w).line = s.line := rfl
@[simp] theorem State.wireBlock_freeCtr (s : State) (m : Nat) (ctl : Bool) (w : Word64) : (s.wireBlock m ctl w).freeCtr = s.freeCtr := rfl
@[simp] theorem State.wireBlock_pending (s : State) (m : Nat) (ctl : Bool) (w : Word64) : (s.wireBlock m ctl w).pending = s.pending := rfl

/-! ### State.mark -/

@[simp] theorem State.mark_mode (s : State) (k : Nat) (d : Int) : (s.mark k d).mode = s.mode := rfl
@[simp] theorem State.mark_frc (s : State) (k : Nat) (d : Int) : (s.mark k d).frc = s.frc := rfl
@[simp] theorem State.mark_regs (s : State) (k : Nat) (d : Int) : (s.mark k d).regs = s.regs := rfl
@[simp] theorem State.mark_dies (s : State) (k : Nat) (d : Int) : (s.mark k d).dies = s.dies := rfl
@[simp] theorem State.mark_chans (s : State) (k : Nat) (d : Int) : (s.mark k d).chans = s.chans := rfl
@[simp] theorem State.mark_quads (s : State) (k : Nat) (d : Int) : (s.mark k d).quads = s.quads := rfl
@[simp] theorem State.mark_ingress (s : State) (k : Nat) (d : Int) : (s.mark k d).ingress = s.ingress := rfl
@[simp] theorem State.mark_matrix (s : State) (k : Nat) (d : Int) : (s.mark k d).matrix = s.matrix := rfl
@[simp] theorem State.mark_supervisor (s : State) (k : Nat) (d : Int) : (s.mark k d).supervisor = s.supervisor := rfl
@[simp] theorem State.mark_bridle (s : State) (k : Nat) (d : Int) : (s.mark k d).bridle = s.bridle := rfl
@[simp] theorem State.mark_latigo (s : State) (k : Nat) (d : Int) : (s.mark k d).latigo = s.latigo := rfl
@[simp] theorem State.mark_flash (s : State) (k : Nat) (d : Int) : (s.mark k d).flash = s.flash := rfl
@[simp] theorem State.mark_fabric (s : State) (k : Nat) (d : Int) : (s.mark k d).fabric = s.fabric := rfl
@[simp] theorem State.mark_packer (s : State) (k : Nat) (d : Int) : (s.mark k d).packer = s.packer := rfl
@[simp] theorem State.mark_stirrup (s : State) (k : Nat) (d : Int) : (s.mark k d).stirrup = s.stirrup := rfl
@[simp] theorem State.mark_skive (s : State) (k : Nat) (d : Int) : (s.mark k d).skive = s.skive := rfl
@[simp] theorem State.mark_tree (s : State) (k : Nat) (d : Int) : (s.mark k d).tree = s.tree := rfl
@[simp] theorem State.mark_stitch (s : State) (k : Nat) (d : Int) : (s.mark k d).stitch = s.stitch := rfl
@[simp] theorem State.mark_harness (s : State) (k : Nat) (d : Int) : (s.mark k d).harness = s.harness := rfl
@[simp] theorem State.mark_burnish (s : State) (k : Nat) (d : Int) : (s.mark k d).burnish = s.burnish := rfl
@[simp] theorem State.mark_rosette (s : State) (k : Nat) (d : Int) : (s.mark k d).rosette = s.rosette := rfl
@[simp] theorem State.mark_tack (s : State) (k : Nat) (d : Int) : (s.mark k d).tack = s.tack := rfl
@[simp] theorem State.mark_wire (s : State) (k : Nat) (d : Int) : (s.mark k d).wire = s.wire := rfl
@[simp] theorem State.mark_line (s : State) (k : Nat) (d : Int) : (s.mark k d).line = s.line := rfl
@[simp] theorem State.mark_freeCtr (s : State) (k : Nat) (d : Int) : (s.mark k d).freeCtr = s.freeCtr := rfl
@[simp] theorem State.mark_pending (s : State) (k : Nat) (d : Int) : (s.mark k d).pending = s.pending := rfl

end Sys2Proof.Machine
end

