-- ==== Sys2Proof/Laws/Raise.lean ====
section
/-! SUPPORT. What raising a source can do: everything it leaves alone, said once for the whole chain of its actions. -/

set_option Elab.async false

namespace Sys2Proof.Machine

/-- Whether the raising of a source writes a register. -/
def raises (r : Reg) : Bool := raiseRegs.contains r

theorem not_mem_of_raises {r : Reg} (h : raises r = false) : r ∉ raiseRegs := by
  simpa [raises] using h

/-- What the actions of a raising leave alone. -/
structure RaiseFrame (s t : State) : Prop where
  mode : t.mode = s.mode
  frc : t.frc = s.frc
  dies : t.dies = s.dies
  chans : t.chans = s.chans
  quads : t.quads = s.quads
  ingress : t.ingress = s.ingress
  girth : t.girth = s.girth
  supervisor : t.supervisor = s.supervisor
  flash : t.flash = s.flash
  fabric : t.fabric = s.fabric
  packer : t.packer = s.packer
  stirrup : t.stirrup = s.stirrup
  skive : t.skive = s.skive
  tree : t.tree = s.tree
  stitch : t.stitch = s.stitch
  harness : t.harness = s.harness
  burnish : t.burnish = s.burnish
  rosette : t.rosette = s.rosette
  tack : t.tack = s.tack
  wire : t.wire = s.wire
  line : t.line = s.line
  freeCtr : t.freeCtr = s.freeCtr
  pending : t.pending = s.pending
  latigo : t.latigo = { s.latigo with queue := t.latigo.queue, saveDue := t.latigo.saveDue }
  bridle : t.bridle = { s.bridle with fbDue := t.bridle.fbDue, test := t.bridle.test, testOk := t.bridle.testOk }
  regs : ∀ r i, r ∉ raiseRegs → t.reg r i = s.reg r i

theorem RaiseFrame.rfl' (s : State) : RaiseFrame s s := by
  constructor <;> first | rfl | (intros; rfl)

theorem RaiseFrame.trans {s t u : State} (h : RaiseFrame s t) (k : RaiseFrame t u) : RaiseFrame s u where
  mode := k.mode.trans h.mode
  frc := k.frc.trans h.frc
  dies := k.dies.trans h.dies
  chans := k.chans.trans h.chans
  quads := k.quads.trans h.quads
  ingress := k.ingress.trans h.ingress
  girth := k.girth.trans h.girth
  supervisor := k.supervisor.trans h.supervisor
  flash := k.flash.trans h.flash
  fabric := k.fabric.trans h.fabric
  packer := k.packer.trans h.packer
  stirrup := k.stirrup.trans h.stirrup
  skive := k.skive.trans h.skive
  tree := k.tree.trans h.tree
  stitch := k.stitch.trans h.stitch
  harness := k.harness.trans h.harness
  burnish := k.burnish.trans h.burnish
  rosette := k.rosette.trans h.rosette
  tack := k.tack.trans h.tack
  wire := k.wire.trans h.wire
  line := k.line.trans h.line
  freeCtr := k.freeCtr.trans h.freeCtr
  pending := k.pending.trans h.pending
  latigo := by rw [k.latigo, h.latigo]
  bridle := by rw [k.bridle, h.bridle]
  regs := fun r i hr => by rw [k.regs r i hr, h.regs r i hr]

/-- Writing one of the raising's own registers. -/
theorem RaiseFrame.setReg {s t : State} (h : RaiseFrame s t) {r : Reg} (hr : r ∈ raiseRegs) {i : Nat} (w : Word32) :
    RaiseFrame s (t.setReg r i w) := by
  refine h.trans ?_
  constructor <;> try rfl
  intro q j hq
  apply State.reg_setReg_ne
  apply Reg.key_ne
  intro e
  rw [Reg.ctorIdx_inj e] at hq
  exact hq hr

theorem RaiseFrame.put {s t : State} (h : RaiseFrame s t) {f : Fld} (hr : f.reg ∈ raiseRegs) (v : Nat) {i : Nat} :
    RaiseFrame s (t.put f v i) := by
  unfold State.put; exact h.setReg hr _

theorem RaiseFrame.putB {s t : State} (h : RaiseFrame s t) {f : Fld} (hr : f.reg ∈ raiseRegs) (v : Bool) {i : Nat} :
    RaiseFrame s (t.putB f v i) := by
  unfold State.putB; exact h.put hr _

theorem RaiseFrame.inc {s t : State} (h : RaiseFrame s t) {f : Fld} (hr : f.reg ∈ raiseRegs) {i : Nat} (n : Nat) :
    RaiseFrame s (t.inc f i n) := by
  unfold State.inc; exact h.put hr _

/-- Changing the matrix. -/
theorem RaiseFrame.matrix {s t : State} (h : RaiseFrame s t) (m : Matrix) : RaiseFrame s { t with matrix := m } :=
  h.trans (by constructor <;> first | rfl | (intros; rfl))

/-- The raising's registers other than those of the trip. -/
def noteRegs : List Reg := [.EVM_CNT, .EVM_LAST, .EVM_PEND, .EVM_CNTG, .EVM_STAT, .LAT_CNT1]

/-- A property that the actions of a raising keep, whatever they are: writes of the raising's registers other than the counts and
those of the trip, the matrix, the request queue, and the Bridle's lock. -/
structure RaiseClosed (P : State → Prop) : Prop where
  reg : ∀ t r i w, P t → r ∈ noteRegs → r ≠ .EVM_CNT → P (t.setReg r i w)
  matrix : ∀ (t : State) m, P t → P { t with matrix := m }
  queue : ∀ (t : State) q, P t → P { t with latigo := { t.latigo with queue := q } }
  lock : ∀ (t : State) c, P t → P (t.bridleLock c).1

variable {P : State → Prop}

theorem RaiseClosed.put (h : RaiseClosed P) {t : State} (ht : P t) {f : Fld} (hr : f.reg ∈ noteRegs) (hn : f.reg ≠ .EVM_CNT)
    (v : Nat) {i : Nat} : P (t.put f v i) := by
  unfold State.put; exact h.reg _ _ _ _ ht hr hn

theorem RaiseClosed.putB (h : RaiseClosed P) {t : State} (ht : P t) {f : Fld} (hr : f.reg ∈ noteRegs) (hn : f.reg ≠ .EVM_CNT)
    (v : Bool) {i : Nat} : P (t.putB f v i) := by
  unfold State.putB; exact h.put ht hr hn _

theorem RaiseClosed.inc (h : RaiseClosed P) {t : State} (ht : P t) {f : Fld} (hr : f.reg ∈ noteRegs) (hn : f.reg ≠ .EVM_CNT)
    (n : Nat) {i : Nat} : P (t.inc f i n) := by
  unfold State.inc; exact h.put ht hr hn _

theorem RaiseClosed.driveEventN (h : RaiseClosed P) {t : State} (ht : P t) : P t.driveEventN := by
  unfold State.driveEventN
  repeat' split
  · exact ht
  · exact h.putB (h.matrix _ _ ht) (by decide) (by decide) _
  · exact h.putB (h.matrix _ _ ht) (by decide) (by decide) _
  · exact h.putB (h.matrix _ _ ht) (by decide) (by decide) _
  · exact ht
  · exact h.putB ht (by decide) (by decide) _

theorem RaiseClosed.logEntry (h : RaiseClosed P) {t : State} (ht : P t) (id data : Nat) (rp : Bool) :
    P (t.logEntry id data rp).1 := by
  unfold State.logEntry
  repeat' split
  all_goals first
    | exact ht
    | exact h.matrix _ _ ht

theorem RaiseClosed.queueProgram (h : RaiseClosed P) {t : State} (ht : P t) (n : Nat) : P (t.queueProgram n).1 := by
  unfold State.queueProgram
  repeat' split
  · exact h.inc ht (by decide) (by decide) _
  · exact h.queue _ _ ht
  · exact h.inc ht (by decide) (by decide) _

theorem RaiseClosed.queueEvent (h : RaiseClosed P) {t : State} (ht : P t) (n id : Nat) : P (t.queueEvent n id).1 := by
  have hput {u : State} (hu : P u) (q : List Nat) (m : Matrix) :
      P { u with latigo := { u.latigo with queue := q }, matrix := m } := h.matrix _ m (h.queue _ q hu)
  have hm := h.inc ht (f := .LAT_CNT1_Q_MERGED) (by decide) (by decide) 1 (i := 0)
  have hr := h.inc ht (f := .LAT_CNT1_Q_REFUSED) (by decide) (by decide) 1 (i := 0)
  unfold State.queueEvent
  extract_lets
  repeat' split
  all_goals first
    | exact hput hm _ _
    | exact hput ht _ _
    | exact hput hr _ _

theorem RaiseClosed.showLast (h : RaiseClosed P) {t : State} (ht : P t) (id : Nat) : P (t.showLast id) := by
  unfold State.showLast
  exact h.put (h.matrix _ _ ht) (by decide) (by decide) _

/-- One round of a raising, its further raisings keeping the property. -/
theorem RaiseClosed.raiseStep (h : RaiseClosed P) {n : Nat}
    (ih : ∀ t, P t → ∀ id, id = 543 ∨ id = 532 ∨ id = 516 → ∀ data rp, P (State.raiseN n t id data rp))
    (t : State) (id : Nat) (ha : t.alive = true) (h0 : P (t.inc .EVM_CNT_COUNT id)) (data : Nat) (rp : Bool) :
    P (State.raiseN (n + 1) t id data rp) := by
  unfold State.raiseN
  split
  · rename_i hn; rw [ha] at hn; cases hn
  have h1 : P ((t.inc .EVM_CNT_COUNT id).showLast id) := h.showLast h0 id
  generalize (t.inc .EVM_CNT_COUNT id).showLast id = t1 at h1 ⊢
  simp only
  split
  · exact h1
  have h2 : P ((t1.put .EVM_PEND_PEND (withBit (t1.get .EVM_PEND_PEND (id / 32)) (id % 32) true) (id / 32)).noteRaised id) :=
    h.matrix _ _ (h.put h1 (by decide) (by decide) _)
  generalize (t1.put .EVM_PEND_PEND (withBit (t1.get .EVM_PEND_PEND (id / 32)) (id % 32) true) (id / 32)).noteRaised id = t2
    at h2 ⊢
  have h3 : P (if t2.flag .EVM_CFG_LOG id then
      match t2.logEntry id data rp with
      | (s1, true) => s1
      | (s1, false) => State.raiseN n (s1.inc .EVM_CNTG_LOG_LOST) 543 0 false
    else t2) := by
    have hl := h.logEntry h2 id data rp
    split
    · split
      · rename_i e; rw [e] at hl; exact hl
      · rename_i e
        rw [e] at hl
        exact ih _ (h.inc (f := .EVM_CNTG_LOG_LOST) hl (by decide) (by decide) 1 (i := 0)) _ (by omega) _ _
    · exact h2
  generalize (if t2.flag .EVM_CFG_LOG id then
      match t2.logEntry id data rp with
      | (s1, true) => s1
      | (s1, false) => State.raiseN n (s1.inc .EVM_CNTG_LOG_LOST) 543 0 false
    else t2) = t3 at h3 ⊢
  have h4 := h.driveEventN h3
  generalize t3.driveEventN = t4 at h4 ⊢
  have h5 : P (if t4.flag .EVM_CFG_PROG_EN id then
      match t4.queueEvent (t4.get .EVM_CFG_PROG id) id with
      | (s1, true) => s1
      | (s1, false) => State.raiseN n s1 532 0 false
    else t4) := by
    have hl := h.queueEvent h4 (t4.get .EVM_CFG_PROG id) id
    split
    · split
      · rename_i e; rw [e] at hl; exact hl
      · rename_i e; rw [e] at hl; exact ih _ hl _ (by omega) _ _
    · exact h4
  generalize (if t4.flag .EVM_CFG_PROG_EN id then
      match t4.queueEvent (t4.get .EVM_CFG_PROG id) id with
      | (s1, true) => s1
      | (s1, false) => State.raiseN n s1 532 0 false
    else t4) = t5 at h5 ⊢
  have hl := h.lock _ 0xA h5
  split
  · split
    · rename_i e; rw [e] at hl; exact ih _ hl _ (by omega) _ _
    · rename_i e; rw [e] at hl; exact hl
  · exact h5

/-- A property that the actions keep holds after a raising when increasing the counts concerned keeps it. -/
theorem RaiseClosed.raiseN (h : RaiseClosed P)
    (hc : ∀ t, P t → ∀ id, id = 543 ∨ id = 532 ∨ id = 516 → P (t.inc .EVM_CNT_COUNT id)) (fuel : Nat) :
    ∀ (t : State) (id : Nat), P t → P (t.inc .EVM_CNT_COUNT id) → ∀ data rp, P (State.raiseN fuel t id data rp) := by
  induction fuel with
  | zero => intro t id ht _ data rp; exact ht
  | succ n ih =>
    intro t id h0 h1 data rp
    cases ha : t.alive with
    | true => exact h.raiseStep (fun t ht id hi => ih t id ht (hc t ht id hi)) t id ha h1 data rp
    | false => unfold State.raiseN; simpa [ha] using h0

/-- While the module is alive, the raised source's count is increased in any case. -/
theorem RaiseClosed.raiseOnce (h : RaiseClosed P)
    (hc : ∀ t, P t → ∀ id, id = 543 ∨ id = 532 ∨ id = 516 → P (t.inc .EVM_CNT_COUNT id)) (n : Nat) (t : State) (id : Nat)
    (ha : t.alive = true) (h0 : P (t.inc .EVM_CNT_COUNT id)) (data : Nat) (rp : Bool) :
    P (State.raiseN (n + 1) t id data rp) :=
  h.raiseStep (fun t ht id hi => h.raiseN hc n t id ht (hc t ht id hi)) t id ha h0 data rp

theorem RaiseFrame.queue {s t : State} (h : RaiseFrame s t) (q : List Nat) :
    RaiseFrame s { t with latigo := { t.latigo with queue := q } } :=
  h.trans (by constructor <;> first | rfl | (intros; rfl))

theorem RaiseFrame.save {s t : State} (h : RaiseFrame s t) (x : Bool) :
    RaiseFrame s { t with latigo := { t.latigo with saveDue := x } } :=
  h.trans (by constructor <;> first | rfl | (intros; rfl))

theorem RaiseFrame.outputs {s t : State} (h : RaiseFrame s t) (d x : List (Option Nat)) (k : List Bool) :
    RaiseFrame s { t with bridle := { t.bridle with fbDue := d, test := x, testOk := k } } :=
  h.trans (by constructor <;> first | rfl | (intros; rfl))

theorem RaiseFrame.bridleSafe {s t : State} (h : RaiseFrame s t) : RaiseFrame s t.bridleSafe := by
  unfold State.bridleSafe
  simp only [List.range, List.range.loop, List.foldl]
  exact RaiseFrame.putB (RaiseFrame.putB (RaiseFrame.put (RaiseFrame.put (RaiseFrame.put (RaiseFrame.put (h.outputs _ _ _) (by decide) _)
    (by decide) _) (by decide) _) (by decide) _) (by decide) _) (by decide) _

/-- The latched trip (R405, R408): outputs low, requests 0, LOCKOUT. -/
theorem RaiseFrame.bridleLock {s t : State} (h : RaiseFrame s t) (c : Nat) : RaiseFrame s (t.bridleLock c).1 := by
  unfold State.bridleLock
  split
  · exact h
  · exact RaiseFrame.save (RaiseFrame.inc (RaiseFrame.put (RaiseFrame.put h.bridleSafe (by decide) _) (by decide) _) (by decide) _) _

theorem noteRegs_raise {r : Reg} (h : r ∈ noteRegs) : r ∈ raiseRegs := by
  revert h
  cases r <;> decide

theorem RaiseFrame.closed (s : State) : RaiseClosed (RaiseFrame s) where
  reg := fun _ _ _ w h hr _ => h.setReg (noteRegs_raise hr) w
  matrix := fun _ m h => h.matrix m
  queue := fun _ q h => h.queue q
  lock := fun _ c h => h.bridleLock c

theorem RaiseFrame.raiseN (fuel : Nat) {s t : State} (h : RaiseFrame s t) (id data : Nat) (rp : Bool) :
    RaiseFrame s (State.raiseN fuel t id data rp) :=
  (RaiseFrame.closed s).raiseN
    (fun _ ht _ _ => RaiseFrame.inc ht (by decide) 1) fuel t id h (RaiseFrame.inc h (by decide) 1) data rp

/-- Everything a raising can do. -/
theorem State.raise_frame (s : State) (id data : Nat) : RaiseFrame s (s.raise id data) :=
  RaiseFrame.raiseN 4 (RaiseFrame.rfl' s) id data false

theorem State.raiseReplay_frame (s : State) (id data : Nat) : RaiseFrame s (s.raiseReplay id data) :=
  RaiseFrame.raiseN 4 (RaiseFrame.rfl' s) id data true

theorem State.bridleTrip_frame (s : State) (c : Nat) : RaiseFrame s (s.bridleTrip c) := by
  have h := (RaiseFrame.rfl' s).bridleLock c
  unfold State.bridleTrip
  split
  · rename_i e; rw [e] at h; exact h.trans (State.raise_frame _ _ _)
  · rename_i e; rw [e] at h; exact h

theorem State.requestProgram_frame (s : State) (n : Nat) : RaiseFrame s (s.requestProgram n).1 := by
  have h := (RaiseFrame.closed s).queueProgram (RaiseFrame.rfl' s) n
  unfold State.requestProgram
  split
  · rename_i e; rw [e] at h; exact h
  · rename_i e; rw [e] at h; exact h.trans (State.raise_frame _ _ _)

/-! ### The fields -/

@[simp] theorem State.raise_mode (s : State) (id data : Nat) : (s.raise id data).mode = s.mode := (s.raise_frame id data).mode
@[simp] theorem State.raise_frc (s : State) (id data : Nat) : (s.raise id data).frc = s.frc := (s.raise_frame id data).frc
@[simp] theorem State.raise_dies (s : State) (id data : Nat) : (s.raise id data).dies = s.dies := (s.raise_frame id data).dies
@[simp] theorem State.raise_chans (s : State) (id data : Nat) : (s.raise id data).chans = s.chans := (s.raise_frame id data).chans
@[simp] theorem State.raise_quads (s : State) (id data : Nat) : (s.raise id data).quads = s.quads := (s.raise_frame id data).quads
@[simp] theorem State.raise_ingress (s : State) (id data : Nat) : (s.raise id data).ingress = s.ingress := (s.raise_frame id data).ingress
@[simp] theorem State.raise_girth (s : State) (id data : Nat) : (s.raise id data).girth = s.girth := (s.raise_frame id data).girth
@[simp] theorem State.raise_supervisor (s : State) (id data : Nat) : (s.raise id data).supervisor = s.supervisor := (s.raise_frame id data).supervisor
@[simp] theorem State.raise_flash (s : State) (id data : Nat) : (s.raise id data).flash = s.flash := (s.raise_frame id data).flash
@[simp] theorem State.raise_fabric (s : State) (id data : Nat) : (s.raise id data).fabric = s.fabric := (s.raise_frame id data).fabric
@[simp] theorem State.raise_packer (s : State) (id data : Nat) : (s.raise id data).packer = s.packer := (s.raise_frame id data).packer
@[simp] theorem State.raise_stirrup (s : State) (id data : Nat) : (s.raise id data).stirrup = s.stirrup := (s.raise_frame id data).stirrup
@[simp] theorem State.raise_skive (s : State) (id data : Nat) : (s.raise id data).skive = s.skive := (s.raise_frame id data).skive
@[simp] theorem State.raise_tree (s : State) (id data : Nat) : (s.raise id data).tree = s.tree := (s.raise_frame id data).tree
@[simp] theorem State.raise_stitch (s : State) (id data : Nat) : (s.raise id data).stitch = s.stitch := (s.raise_frame id data).stitch
@[simp] theorem State.raise_harness (s : State) (id data : Nat) : (s.raise id data).harness = s.harness := (s.raise_frame id data).harness
@[simp] theorem State.raise_burnish (s : State) (id data : Nat) : (s.raise id data).burnish = s.burnish := (s.raise_frame id data).burnish
@[simp] theorem State.raise_rosette (s : State) (id data : Nat) : (s.raise id data).rosette = s.rosette := (s.raise_frame id data).rosette
@[simp] theorem State.raise_tack (s : State) (id data : Nat) : (s.raise id data).tack = s.tack := (s.raise_frame id data).tack
@[simp] theorem State.raise_wire (s : State) (id data : Nat) : (s.raise id data).wire = s.wire := (s.raise_frame id data).wire
@[simp] theorem State.raise_line (s : State) (id data : Nat) : (s.raise id data).line = s.line := (s.raise_frame id data).line
@[simp] theorem State.raise_freeCtr (s : State) (id data : Nat) : (s.raise id data).freeCtr = s.freeCtr := (s.raise_frame id data).freeCtr
@[simp] theorem State.raise_pending (s : State) (id data : Nat) : (s.raise id data).pending = s.pending := (s.raise_frame id data).pending
@[simp] theorem State.raiseReplay_mode (s : State) (id data : Nat) : (s.raiseReplay id data).mode = s.mode :=
  (s.raiseReplay_frame id data).mode
@[simp] theorem State.raiseReplay_frc (s : State) (id data : Nat) : (s.raiseReplay id data).frc = s.frc :=
  (s.raiseReplay_frame id data).frc
@[simp] theorem State.raiseReplay_dies (s : State) (id data : Nat) : (s.raiseReplay id data).dies = s.dies :=
  (s.raiseReplay_frame id data).dies
@[simp] theorem State.raiseReplay_chans (s : State) (id data : Nat) : (s.raiseReplay id data).chans = s.chans :=
  (s.raiseReplay_frame id data).chans
@[simp] theorem State.raiseReplay_quads (s : State) (id data : Nat) : (s.raiseReplay id data).quads = s.quads :=
  (s.raiseReplay_frame id data).quads
@[simp] theorem State.raiseReplay_ingress (s : State) (id data : Nat) : (s.raiseReplay id data).ingress = s.ingress :=
  (s.raiseReplay_frame id data).ingress
@[simp] theorem State.raiseReplay_girth (s : State) (id data : Nat) : (s.raiseReplay id data).girth = s.girth :=
  (s.raiseReplay_frame id data).girth
@[simp] theorem State.raiseReplay_supervisor (s : State) (id data : Nat) : (s.raiseReplay id data).supervisor = s.supervisor :=
  (s.raiseReplay_frame id data).supervisor
@[simp] theorem State.raiseReplay_flash (s : State) (id data : Nat) : (s.raiseReplay id data).flash = s.flash :=
  (s.raiseReplay_frame id data).flash
@[simp] theorem State.raiseReplay_fabric (s : State) (id data : Nat) : (s.raiseReplay id data).fabric = s.fabric :=
  (s.raiseReplay_frame id data).fabric
@[simp] theorem State.raiseReplay_packer (s : State) (id data : Nat) : (s.raiseReplay id data).packer = s.packer :=
  (s.raiseReplay_frame id data).packer
@[simp] theorem State.raiseReplay_stirrup (s : State) (id data : Nat) : (s.raiseReplay id data).stirrup = s.stirrup :=
  (s.raiseReplay_frame id data).stirrup
@[simp] theorem State.raiseReplay_skive (s : State) (id data : Nat) : (s.raiseReplay id data).skive = s.skive :=
  (s.raiseReplay_frame id data).skive
@[simp] theorem State.raiseReplay_tree (s : State) (id data : Nat) : (s.raiseReplay id data).tree = s.tree :=
  (s.raiseReplay_frame id data).tree
@[simp] theorem State.raiseReplay_stitch (s : State) (id data : Nat) : (s.raiseReplay id data).stitch = s.stitch :=
  (s.raiseReplay_frame id data).stitch
@[simp] theorem State.raiseReplay_harness (s : State) (id data : Nat) : (s.raiseReplay id data).harness = s.harness :=
  (s.raiseReplay_frame id data).harness
@[simp] theorem State.raiseReplay_burnish (s : State) (id data : Nat) : (s.raiseReplay id data).burnish = s.burnish :=
  (s.raiseReplay_frame id data).burnish
@[simp] theorem State.raiseReplay_rosette (s : State) (id data : Nat) : (s.raiseReplay id data).rosette = s.rosette :=
  (s.raiseReplay_frame id data).rosette
@[simp] theorem State.raiseReplay_tack (s : State) (id data : Nat) : (s.raiseReplay id data).tack = s.tack :=
  (s.raiseReplay_frame id data).tack
@[simp] theorem State.raiseReplay_wire (s : State) (id data : Nat) : (s.raiseReplay id data).wire = s.wire :=
  (s.raiseReplay_frame id data).wire
@[simp] theorem State.raiseReplay_line (s : State) (id data : Nat) : (s.raiseReplay id data).line = s.line :=
  (s.raiseReplay_frame id data).line
@[simp] theorem State.raiseReplay_freeCtr (s : State) (id data : Nat) : (s.raiseReplay id data).freeCtr = s.freeCtr :=
  (s.raiseReplay_frame id data).freeCtr
@[simp] theorem State.raiseReplay_pending (s : State) (id data : Nat) : (s.raiseReplay id data).pending = s.pending :=
  (s.raiseReplay_frame id data).pending
@[simp] theorem State.bridleTrip_mode (s : State) (c : Nat) : (s.bridleTrip c).mode = s.mode := (s.bridleTrip_frame c).mode
@[simp] theorem State.bridleTrip_frc (s : State) (c : Nat) : (s.bridleTrip c).frc = s.frc := (s.bridleTrip_frame c).frc
@[simp] theorem State.bridleTrip_dies (s : State) (c : Nat) : (s.bridleTrip c).dies = s.dies := (s.bridleTrip_frame c).dies
@[simp] theorem State.bridleTrip_chans (s : State) (c : Nat) : (s.bridleTrip c).chans = s.chans := (s.bridleTrip_frame c).chans
@[simp] theorem State.bridleTrip_quads (s : State) (c : Nat) : (s.bridleTrip c).quads = s.quads := (s.bridleTrip_frame c).quads
@[simp] theorem State.bridleTrip_ingress (s : State) (c : Nat) : (s.bridleTrip c).ingress = s.ingress := (s.bridleTrip_frame c).ingress
@[simp] theorem State.bridleTrip_girth (s : State) (c : Nat) : (s.bridleTrip c).girth = s.girth := (s.bridleTrip_frame c).girth
@[simp] theorem State.bridleTrip_supervisor (s : State) (c : Nat) : (s.bridleTrip c).supervisor = s.supervisor := (s.bridleTrip_frame c).supervisor
@[simp] theorem State.bridleTrip_flash (s : State) (c : Nat) : (s.bridleTrip c).flash = s.flash := (s.bridleTrip_frame c).flash
@[simp] theorem State.bridleTrip_fabric (s : State) (c : Nat) : (s.bridleTrip c).fabric = s.fabric := (s.bridleTrip_frame c).fabric
@[simp] theorem State.bridleTrip_packer (s : State) (c : Nat) : (s.bridleTrip c).packer = s.packer := (s.bridleTrip_frame c).packer
@[simp] theorem State.bridleTrip_stirrup (s : State) (c : Nat) : (s.bridleTrip c).stirrup = s.stirrup := (s.bridleTrip_frame c).stirrup
@[simp] theorem State.bridleTrip_skive (s : State) (c : Nat) : (s.bridleTrip c).skive = s.skive := (s.bridleTrip_frame c).skive
@[simp] theorem State.bridleTrip_tree (s : State) (c : Nat) : (s.bridleTrip c).tree = s.tree := (s.bridleTrip_frame c).tree
@[simp] theorem State.bridleTrip_stitch (s : State) (c : Nat) : (s.bridleTrip c).stitch = s.stitch := (s.bridleTrip_frame c).stitch
@[simp] theorem State.bridleTrip_harness (s : State) (c : Nat) : (s.bridleTrip c).harness = s.harness := (s.bridleTrip_frame c).harness
@[simp] theorem State.bridleTrip_burnish (s : State) (c : Nat) : (s.bridleTrip c).burnish = s.burnish := (s.bridleTrip_frame c).burnish
@[simp] theorem State.bridleTrip_rosette (s : State) (c : Nat) : (s.bridleTrip c).rosette = s.rosette := (s.bridleTrip_frame c).rosette
@[simp] theorem State.bridleTrip_tack (s : State) (c : Nat) : (s.bridleTrip c).tack = s.tack := (s.bridleTrip_frame c).tack
@[simp] theorem State.bridleTrip_wire (s : State) (c : Nat) : (s.bridleTrip c).wire = s.wire := (s.bridleTrip_frame c).wire
@[simp] theorem State.bridleTrip_line (s : State) (c : Nat) : (s.bridleTrip c).line = s.line := (s.bridleTrip_frame c).line
@[simp] theorem State.bridleTrip_freeCtr (s : State) (c : Nat) : (s.bridleTrip c).freeCtr = s.freeCtr := (s.bridleTrip_frame c).freeCtr
@[simp] theorem State.bridleTrip_pending (s : State) (c : Nat) : (s.bridleTrip c).pending = s.pending := (s.bridleTrip_frame c).pending
@[simp] theorem State.requestProgram_mode (s : State) (n : Nat) : (s.requestProgram n).1.mode = s.mode := (s.requestProgram_frame n).mode
@[simp] theorem State.requestProgram_frc (s : State) (n : Nat) : (s.requestProgram n).1.frc = s.frc := (s.requestProgram_frame n).frc
@[simp] theorem State.requestProgram_dies (s : State) (n : Nat) : (s.requestProgram n).1.dies = s.dies := (s.requestProgram_frame n).dies
@[simp] theorem State.requestProgram_chans (s : State) (n : Nat) : (s.requestProgram n).1.chans = s.chans := (s.requestProgram_frame n).chans
@[simp] theorem State.requestProgram_quads (s : State) (n : Nat) : (s.requestProgram n).1.quads = s.quads := (s.requestProgram_frame n).quads
@[simp] theorem State.requestProgram_ingress (s : State) (n : Nat) : (s.requestProgram n).1.ingress = s.ingress := (s.requestProgram_frame n).ingress
@[simp] theorem State.requestProgram_girth (s : State) (n : Nat) : (s.requestProgram n).1.girth = s.girth := (s.requestProgram_frame n).girth
@[simp] theorem State.requestProgram_supervisor (s : State) (n : Nat) : (s.requestProgram n).1.supervisor = s.supervisor := (s.requestProgram_frame n).supervisor
@[simp] theorem State.requestProgram_flash (s : State) (n : Nat) : (s.requestProgram n).1.flash = s.flash := (s.requestProgram_frame n).flash
@[simp] theorem State.requestProgram_fabric (s : State) (n : Nat) : (s.requestProgram n).1.fabric = s.fabric := (s.requestProgram_frame n).fabric
@[simp] theorem State.requestProgram_packer (s : State) (n : Nat) : (s.requestProgram n).1.packer = s.packer := (s.requestProgram_frame n).packer
@[simp] theorem State.requestProgram_stirrup (s : State) (n : Nat) : (s.requestProgram n).1.stirrup = s.stirrup := (s.requestProgram_frame n).stirrup
@[simp] theorem State.requestProgram_skive (s : State) (n : Nat) : (s.requestProgram n).1.skive = s.skive := (s.requestProgram_frame n).skive
@[simp] theorem State.requestProgram_tree (s : State) (n : Nat) : (s.requestProgram n).1.tree = s.tree := (s.requestProgram_frame n).tree
@[simp] theorem State.requestProgram_stitch (s : State) (n : Nat) : (s.requestProgram n).1.stitch = s.stitch := (s.requestProgram_frame n).stitch
@[simp] theorem State.requestProgram_harness (s : State) (n : Nat) : (s.requestProgram n).1.harness = s.harness := (s.requestProgram_frame n).harness
@[simp] theorem State.requestProgram_burnish (s : State) (n : Nat) : (s.requestProgram n).1.burnish = s.burnish := (s.requestProgram_frame n).burnish
@[simp] theorem State.requestProgram_rosette (s : State) (n : Nat) : (s.requestProgram n).1.rosette = s.rosette := (s.requestProgram_frame n).rosette
@[simp] theorem State.requestProgram_tack (s : State) (n : Nat) : (s.requestProgram n).1.tack = s.tack := (s.requestProgram_frame n).tack
@[simp] theorem State.requestProgram_wire (s : State) (n : Nat) : (s.requestProgram n).1.wire = s.wire := (s.requestProgram_frame n).wire
@[simp] theorem State.requestProgram_line (s : State) (n : Nat) : (s.requestProgram n).1.line = s.line := (s.requestProgram_frame n).line
@[simp] theorem State.requestProgram_freeCtr (s : State) (n : Nat) : (s.requestProgram n).1.freeCtr = s.freeCtr := (s.requestProgram_frame n).freeCtr
@[simp] theorem State.requestProgram_pending (s : State) (n : Nat) : (s.requestProgram n).1.pending = s.pending := (s.requestProgram_frame n).pending

/-- A field outside the raising's registers. -/
@[simp] theorem State.raise_get (s : State) (id data : Nat) (f : Fld) (i : Nat) (hf : raises f.reg = false) :
    (s.raise id data).get f i = s.get f i := by
  rw [State.get, State.get, (s.raise_frame id data).regs _ _ (not_mem_of_raises hf)]

@[simp] theorem State.raiseReplay_get (s : State) (id data : Nat) (f : Fld) (i : Nat) (hf : raises f.reg = false) :
    (s.raiseReplay id data).get f i = s.get f i := by
  rw [State.get, State.get, (s.raiseReplay_frame id data).regs _ _ (not_mem_of_raises hf)]

@[simp] theorem State.bridleTrip_get (s : State) (c : Nat) (f : Fld) (i : Nat) (hf : raises f.reg = false) :
    (s.bridleTrip c).get f i = s.get f i := by
  rw [State.get, State.get, (s.bridleTrip_frame c).regs _ _ (not_mem_of_raises hf)]

@[simp] theorem State.requestProgram_get (s : State) (n : Nat) (f : Fld) (i : Nat) (hf : raises f.reg = false) :
    (s.requestProgram n).1.get f i = s.get f i := by
  rw [State.get, State.get, (s.requestProgram_frame n).regs _ _ (not_mem_of_raises hf)]

/-! ### The count of a source (R460) -/

/-- The sources that the actions of a raising may raise. -/
def chained (id : Nat) : Bool := id == 543 || id == 532 || id == 516

/-- The lock leaves the counts alone. -/
theorem State.bridleLock_cnt (s : State) (c j : Nat) : (s.bridleLock c).1.reg .EVM_CNT j = s.reg .EVM_CNT j := by
  have hp : ∀ (t : State) (f : Fld) v i, f.reg.ctorIdx ≠ Reg.EVM_CNT.ctorIdx → (t.put f v i).reg .EVM_CNT j = t.reg .EVM_CNT j :=
    fun t f v i hf => State.reg_setReg_ne _ _ (Reg.key_ne (Ne.symm hf))
  have hb : s.bridleSafe.reg .EVM_CNT j = s.reg .EVM_CNT j := by
    unfold State.bridleSafe State.putB
    simp only [List.range, List.range.loop, List.foldl]
    rw [hp _ _ _ _ (by decide), hp _ _ _ _ (by decide), hp _ _ _ _ (by decide), hp _ _ _ _ (by decide), hp _ _ _ _ (by decide),
      hp _ _ _ _ (by decide)]
    rfl
  unfold State.bridleLock
  split
  · rfl
  · rw [← hb]
    have hi : ∀ (t : State) (f : Fld), f.reg.ctorIdx ≠ Reg.EVM_CNT.ctorIdx → (t.inc f).reg .EVM_CNT j = t.reg .EVM_CNT j :=
      fun t f hf => hp t f _ _ hf
    have hs : ∀ (t : State) x, State.reg { t with latigo := { t.latigo with saveDue := x } } .EVM_CNT j = t.reg .EVM_CNT j :=
      fun _ _ => rfl
    simp only [hs]
    rw [hi _ _ (by decide), hp _ _ _ _ (by decide), hp _ _ _ _ (by decide)]

/-- The count of a source that no action raises. -/
theorem countClosed (j c : Nat) : RaiseClosed (fun t => t.get .EVM_CNT_COUNT j = c) where
  reg := fun t r i w h _ hn => by
    rw [← h]
    show fieldOf ((t.setReg r i w).reg .EVM_CNT j).toNat _ _ = fieldOf (t.reg .EVM_CNT j).toNat _ _
    rw [State.reg_setReg_ne]
    exact Reg.key_ne (fun e => hn (Reg.ctorIdx_inj e.symm))
  matrix := fun _ _ h => h
  queue := fun _ _ h => h
  lock := fun t c h => by
    rw [← h]
    show fieldOf ((t.bridleLock c).1.reg .EVM_CNT j).toNat _ _ = fieldOf (t.reg .EVM_CNT j).toNat _ _
    rw [t.bridleLock_cnt c j]

/-- Raising a source leaves the count of every other one alone, but for the three that its actions may raise. -/
theorem State.raise_count_ne (s : State) {id j : Nat} (data : Nat) (h : id ≠ j)
    (hc : chained j = false) : (s.raise id data).get .EVM_CNT_COUNT j = s.get .EVM_CNT_COUNT j := by
  have hne : ∀ (t : State) (k : Nat), k ≠ j → (t.inc .EVM_CNT_COUNT k).get .EVM_CNT_COUNT j = t.get .EVM_CNT_COUNT j :=
    fun t k hk => State.get_put_elem t .EVM_CNT_COUNT .EVM_CNT_COUNT _ rfl hk
  refine (countClosed j _).raiseN ?_ 4 s id rfl (hne _ _ h) data false
  intro t ht k hk
  refine (hne _ _ ?_).trans ht
  rintro rfl
  rcases hk with rfl | rfl | rfl <;> simp [chained] at hc

/-- A source that no action raises counts each raising once; the count wraps (R7, R460). -/
theorem State.raise_count (s : State) {id : Nat} (data : Nat) (ha : s.alive = true)
    (hc : chained id = false) : (s.raise id data).get .EVM_CNT_COUNT id = (s.get .EVM_CNT_COUNT id + 1) % 65536 := by
  have hne : ∀ (t : State) (k : Nat), k ≠ id → (t.inc .EVM_CNT_COUNT k).get .EVM_CNT_COUNT id = t.get .EVM_CNT_COUNT id :=
    fun t k hk => State.get_put_elem t .EVM_CNT_COUNT .EVM_CNT_COUNT _ rfl hk
  have hself : ∀ t : State, (t.inc .EVM_CNT_COUNT id).get .EVM_CNT_COUNT id = (t.get .EVM_CNT_COUNT id + 1) % 65536 :=
    fun t => State.get_put_self t .EVM_CNT_COUNT _ id rfl
  have hk : ∀ t : State, t.get .EVM_CNT_COUNT id = (s.get .EVM_CNT_COUNT id + 1) % 65536 → ∀ k, k = 543 ∨ k = 532 ∨ k = 516 →
      (t.inc .EVM_CNT_COUNT k).get .EVM_CNT_COUNT id = (s.get .EVM_CNT_COUNT id + 1) % 65536 := by
    intro t ht k hk
    refine (hne _ _ ?_).trans ht
    rintro rfl
    rcases hk with rfl | rfl | rfl <;> simp [chained] at hc
  exact (countClosed id _).raiseOnce hk 3 s id ha (hself s) data false

end Sys2Proof.Machine
end

