-- ==== Sys2Proof/Laws/Keeps.lean ====
section
/-! SUPPORT. What a command can write, said once. A footprint is a set of bits: a part of the state by its place in `State`, a register
by 32 and its number. `Keeps P m` says that the property P survives every write that footprint m allows; each operation of the machine
then has one lemma, with its footprint: a property that survives the footprint's writes survives the operation. -/

set_option Elab.async false

namespace Sys2Proof.Machine

theorem setAt_length {α : Type} {l : List α} {i n : Nat} {v : α} (h : l.length = n) : (setAt l i v).length = n := by
  rw [← h]; exact List.length_set

theorem map_length {α β : Type} {l : List α} {f : α → β} {n : Nat} (h : l.length = n) : (l.map f).length = n := by
  rw [← h]; exact List.length_map f

/-! ### Lists of fixed length: an update keeps their number of entries when it keeps each -/

theorem Girth.shaped_of {a b : Girth} (h0 : a.qual.length = 2 → b.qual.length = 2) :
    a.shaped = true → b.shaped = true := by
  intro h
  simp only [Girth.shaped, decide_eq_true_eq] at h ⊢
  simp_all

theorem Supervisor.shaped_of {a b : Supervisor} (h0 : a.railOut.length = 4 → b.railOut.length = 4) :
    a.shaped = true → b.shaped = true := by
  intro h
  simp only [Supervisor.shaped, decide_eq_true_eq] at h ⊢
  simp_all

theorem Harness.shaped_of {a b : Harness} (h0 : a.minor.length = 3 → b.minor.length = 3) (h1 : a.streams.length = 2 → b.streams.length = 2) (h2 : a.resume.length = 2 → b.resume.length = 2) (h3 : a.acount.length = 2 → b.acount.length = 2) (h4 : a.groupAt.length = 2 → b.groupAt.length = 2) (h5 : a.sideCnt.length = 2 → b.sideCnt.length = 2) (h6 : a.echoCnt.length = 2 → b.echoCnt.length = 2) (h7 : a.frameCnt.length = 2 → b.frameCnt.length = 2) :
    a.shaped = true → b.shaped = true := by
  intro h
  simp only [Harness.shaped, Bool.and_eq_true, decide_eq_true_eq] at h ⊢
  simp_all

theorem Bridle.shaped_of {a b : Bridle} (h0 : a.runs.length = 5 → b.runs.length = 5) (h1 : a.discs.length = 4 → b.discs.length = 4) (h2 : a.sums.length = 16 → b.sums.length = 16) (h3 : a.clearAt.length = 4 → b.clearAt.length = 4) (h4 : a.fbDue.length = 2 → b.fbDue.length = 2) (h5 : a.test.length = 2 → b.test.length = 2) (h6 : a.testOk.length = 2 → b.testOk.length = 2) (h7 : a.frames.length = 4 → b.frames.length = 4) :
    a.shaped = true → b.shaped = true := by
  intro h
  simp only [Bridle.shaped, Bool.and_eq_true, decide_eq_true_eq] at h ⊢
  simp_all

theorem Tack.shaped_of {a b : Tack} (h0 : a.visits.length = 2 → b.visits.length = 2) :
    a.shaped = true → b.shaped = true := by
  intro h
  simp only [Tack.shaped, decide_eq_true_eq] at h ⊢
  simp_all

theorem Skive.shaped_of {a b : Skive} (h0 : a.freeAt.length = 16 → b.freeAt.length = 16) (h1 : a.fails.length = 16 → b.fails.length = 16) (h2 : a.returned.length = 16 → b.returned.length = 16) :
    a.shaped = true → b.shaped = true := by
  intro h
  simp only [Skive.shaped, Bool.and_eq_true, decide_eq_true_eq] at h ⊢
  simp_all

theorem Stirrup.shaped_of {a b : Stirrup} (h0 : a.ctxs.length = 4 → b.ctxs.length = 4) (h1 : a.ctxFree.length = 4 → b.ctxFree.length = 4) :
    a.shaped = true → b.shaped = true := by
  intro h
  simp only [Stirrup.shaped, Bool.and_eq_true, decide_eq_true_eq] at h ⊢
  simp_all

theorem Rosette.shaped_of {a b : Rosette} (h0 : a.sets.length = 24 → b.sets.length = 24) :
    a.shaped = true → b.shaped = true := by
  intro h
  simp only [Rosette.shaped, decide_eq_true_eq] at h ⊢
  simp_all

theorem Fabric.shaped_of {a b : Fabric} (h0 : a.shadows.length = 3 → b.shadows.length = 3) :
    a.shaped = true → b.shaped = true := by
  intro h
  simp only [Fabric.shaped, decide_eq_true_eq] at h ⊢
  simp_all

theorem Latigo.shaped_of {a b : Latigo} (h0 : a.logPage.length = 2 → b.logPage.length = 2) :
    a.shaped = true → b.shaped = true := by
  intro h
  simp only [Latigo.shaped, decide_eq_true_eq] at h ⊢
  simp_all

/-- P survives every write that footprint `m` allows: a register, a die, a channel, a quadrant, an ingress queue, a Burnish die, a Tree
block, the raising of a source and the Bridle's lock, the flash operations, any register as a write or a read by an address does it, the clearing of a die, the fill, RESET, and any other part of the state that has its bit. -/
structure Keeps (P : State → Prop) (m : Nat) : Prop where
  setReg : ∀ (t : State) (r : Reg) (i : Nat) (w : Word32), m.testBit (32 + r.ctorIdx) = true → P t → P (t.setReg r i w)
  dieClear : m.testBit 2 = true → ∀ (t : State) f, P t → P (t.dieClear f)
  setDie : m.testBit 3 = true → ∀ (t : State) f d, P t → P (t.setDie f d)
  setChan : m.testBit 4 = true → ∀ (t : State) g (c : Chan), ((t.chan g).banks.length = 4 → c.banks.length = 4) → P t → P (t.setChan g c)
  setQuad : m.testBit 5 = true → ∀ (t : State) f d, P t → P (t.setQuad f d)
  setIng : m.testBit 6 = true → ∀ (t : State) f d, P t → P (t.setIng f d)
  raiseN : m.testBit 29 = true → ∀ n (t : State) id data rp, P t → P (State.raiseN n t id data rp)
  bridleLock : m.testBit 29 = true → ∀ (t : State) c, P t → P (t.bridleLock c).1
  writePlain : m.testBit 30 = true → ∀ (t : State) r i d, P t → P (t.writePlain r i d)
  clearRc : m.testBit 30 = true → ∀ (t : State) r i, P t → P (t.clearRc r i)
  erase : m.testBit 12 = true → ∀ (t : State) dev n, P t → P (t.editFlash dev (fun d => d.erase n))
  program : m.testBit 12 = true → ∀ (t : State) dev n bs, P t → P (t.editFlash dev (fun d => d.program n bs))
  probe : m.testBit 12 = true → ∀ (t : State) dev, P t → P (t.editFlash dev Flash.probe)
  setBur : m.testBit 20 = true → ∀ (t : State) f d, P t → P (t.setBur f d)
  enterReset : m.testBit 26 = true → ∀ (t : State) c, P t → P (t.enterReset c)
  fill : m.testBit 27 = true → ∀ t : State, P t → P { t with tree := { t.tree with blocks := [] }, quads := [] }
  setBlock : m.testBit 17 = true → ∀ (t : State) i b, P t → P (t.setBlock i b)
  parts : ∀ (t : State) md fr gi ma su br la fa pa st sk tr sti ha ro ta wi li fc pe, P t →
    (m.testBit 0 = true ∨ md = t.mode) → (m.testBit 1 = true ∨ fr = t.frc) → (m.testBit 7 = true ∨ gi = t.girth) →
    (m.testBit 8 = true ∨ ma = t.matrix) → (m.testBit 9 = true ∨ su = t.supervisor) → (m.testBit 10 = true ∨ br = t.bridle) →
    (m.testBit 11 = true ∨ la = t.latigo) → (m.testBit 13 = true ∨ fa = t.fabric) → (m.testBit 14 = true ∨ pa = t.packer) →
    (m.testBit 15 = true ∨ st = t.stirrup) → (m.testBit 16 = true ∨ sk = t.skive) →
    ((m.testBit 17 = true ∨ tr = t.tree) ∧ tr.blocks = t.tree.blocks) → (m.testBit 18 = true ∨ sti = t.stitch) →
    (m.testBit 19 = true ∨ ha = t.harness) → (m.testBit 21 = true ∨ ro = t.rosette) → (m.testBit 22 = true ∨ ta = t.tack) →
    (m.testBit 28 = true ∨ wi = t.wire) → (m.testBit 23 = true ∨ li = t.line) → (m.testBit 24 = true ∨ fc = t.freeCtr) → (m.testBit 25 = true ∨ pe = t.pending) →
    (t.girth.shaped = true → gi.shaped = true) → (t.supervisor.shaped = true → su.shaped = true) →
    (t.harness.shaped = true → ha.shaped = true) → (t.bridle.shaped = true → br.shaped = true) → (t.tack.shaped = true → ta.shaped = true) → (t.skive.shaped = true → sk.shaped = true) →
    (t.stirrup.shaped = true → st.shaped = true) → (t.rosette.shaped = true → ro.shaped = true) → (t.fabric.shaped = true → fa.shaped = true) → (t.latigo.shaped = true → la.shaped = true) →
    P ⟨md, fr, t.regs, t.dies, t.chans, t.quads, t.ingress, gi, ma, su, br, la, t.flash, fa, pa, st, sk, tr, sti, ha, t.burnish, ro, ta, wi,
      li, fc, pe⟩

variable {P : State → Prop} {m : Nat}

/-- A smaller footprint. -/
theorem Keeps.mono (h : Keeps P m) {k : Nat} (hk : k &&& m = k) : Keeps P k := by
  have hb : ∀ i, k.testBit i = true → m.testBit i = true := by
    intro i hi
    rw [← hk, Nat.testBit_and, Bool.and_eq_true] at hi
    exact hi.2
  have ho : ∀ {i} {q : Prop}, (k.testBit i = true ∨ q) → (m.testBit i = true ∨ q) := fun h => h.imp_left (hb _)
  exact
    { setReg := fun t r i w hi => h.setReg t r i w (hb _ hi)
      dieClear := fun hi => h.dieClear (hb _ hi)
      setDie := fun hi => h.setDie (hb _ hi)
      setChan := fun hi => h.setChan (hb _ hi)
      setQuad := fun hi => h.setQuad (hb _ hi)
      setIng := fun hi => h.setIng (hb _ hi)
      raiseN := fun hi => h.raiseN (hb _ hi)
      bridleLock := fun hi => h.bridleLock (hb _ hi)
      writePlain := fun hi => h.writePlain (hb _ hi)
      clearRc := fun hi => h.clearRc (hb _ hi)
      erase := fun hi => h.erase (hb _ hi)
      program := fun hi => h.program (hb _ hi)
      probe := fun hi => h.probe (hb _ hi)
      setBur := fun hi => h.setBur (hb _ hi)
      enterReset := fun hi => h.enterReset (hb _ hi)
      fill := fun hi => h.fill (hb _ hi)
      setBlock := fun hi => h.setBlock (hb _ hi)
      parts := fun t _ _ _ _ _ _ _ _ _ _ _ _ _ _ _ _ _ _ _ _ ht a1 a2 a3 a4 a5 a6 a7 a8 a9 a10 a11 a12 a13 a14 a15 a16 a17 a18 a19 a20 c1 c2
          b1 b2 b3 b4 b5 b6 b7 b8 =>
        h.parts t _ _ _ _ _ _ _ _ _ _ _ _ _ _ _ _ _ _ _ _ ht (ho a1) (ho a2) (ho a3) (ho a4) (ho a5) (ho a6) (ho a7) (ho a8) (ho a9)
          (ho a10) (ho a11) (a12.imp_left ho) (ho a13) (ho a14) (ho a15) (ho a16) (ho a17) (ho a18) (ho a19) (ho a20) c1 c2 b1 b2 b3 b4 b5 b6
          b7 b8 }

theorem Keeps.put (h : Keeps P m) {s : State} {f : Fld} {v i : Nat} (hm : m.testBit (32 + f.reg.ctorIdx) = true) (hs : P s) :
    P (s.put f v i) := h.setReg _ _ _ _ hm hs

theorem Keeps.putB (h : Keeps P m) {s : State} {f : Fld} {b : Bool} {i : Nat} (hm : m.testBit (32 + f.reg.ctorIdx) = true) (hs : P s) :
    P (s.putB f b i) := h.put hm hs

theorem Keeps.inc (h : Keeps P m) {s : State} {f : Fld} {i n : Nat} (hm : m.testBit (32 + f.reg.ctorIdx) = true) (hs : P s) :
    P (s.inc f i n) := h.put hm hs

theorem Keeps.putS (h : Keeps P m) {s : State} {f : Fld} {v : Int} {i : Nat} (hm : m.testBit (32 + f.reg.ctorIdx) = true) (hs : P s) :
    P (s.putS f v i) := h.put hm hs

theorem Keeps.take (h : Keeps P m) {s : State} {f : Fld} {w : Word32} {i : Nat} (hm : m.testBit (32 + f.reg.ctorIdx) = true) (hs : P s) :
    P (s.take f w i) := h.put hm hs

/-- The parts of the state that have no writer of their own. -/
theorem Keeps.upd (h : Keeps P m) {t : State} {md fr gi ma su br la fa pa st sk tr sti ha ro ta wi li fc pe} (ht : P t)
    (a1 : m.testBit 0 = true ∨ md = t.mode := by first | with_reducible exact Or.inr rfl | with_unfolding_all exact Or.inl rfl)
    (a2 : m.testBit 1 = true ∨ fr = t.frc := by first | with_reducible exact Or.inr rfl | with_unfolding_all exact Or.inl rfl)
    (a3 : m.testBit 7 = true ∨ gi = t.girth := by first | with_reducible exact Or.inr rfl | with_unfolding_all exact Or.inl rfl)
    (a4 : m.testBit 8 = true ∨ ma = t.matrix := by first | with_reducible exact Or.inr rfl | with_unfolding_all exact Or.inl rfl)
    (a5 : m.testBit 9 = true ∨ su = t.supervisor := by first | with_reducible exact Or.inr rfl | with_unfolding_all exact Or.inl rfl)
    (a6 : m.testBit 10 = true ∨ br = t.bridle := by first | with_reducible exact Or.inr rfl | with_unfolding_all exact Or.inl rfl)
    (a7 : m.testBit 11 = true ∨ la = t.latigo := by first | with_reducible exact Or.inr rfl | with_unfolding_all exact Or.inl rfl)
    (a8 : m.testBit 13 = true ∨ fa = t.fabric := by first | with_reducible exact Or.inr rfl | with_unfolding_all exact Or.inl rfl)
    (a9 : m.testBit 14 = true ∨ pa = t.packer := by first | with_reducible exact Or.inr rfl | with_unfolding_all exact Or.inl rfl)
    (a10 : m.testBit 15 = true ∨ st = t.stirrup := by first | with_reducible exact Or.inr rfl | with_unfolding_all exact Or.inl rfl)
    (a11 : m.testBit 16 = true ∨ sk = t.skive := by first | with_reducible exact Or.inr rfl | with_unfolding_all exact Or.inl rfl)
    (a12 : (m.testBit 17 = true ∨ tr = t.tree) ∧ tr.blocks = t.tree.blocks := by
      first | with_reducible exact ⟨Or.inr rfl, rfl⟩ | with_unfolding_all exact ⟨Or.inl rfl, rfl⟩)
    (a13 : m.testBit 18 = true ∨ sti = t.stitch := by first | with_reducible exact Or.inr rfl | with_unfolding_all exact Or.inl rfl)
    (a14 : m.testBit 19 = true ∨ ha = t.harness := by first | with_reducible exact Or.inr rfl | with_unfolding_all exact Or.inl rfl)
    (a15 : m.testBit 21 = true ∨ ro = t.rosette := by first | with_reducible exact Or.inr rfl | with_unfolding_all exact Or.inl rfl)
    (a16 : m.testBit 22 = true ∨ ta = t.tack := by first | with_reducible exact Or.inr rfl | with_unfolding_all exact Or.inl rfl)
    (a20 : m.testBit 28 = true ∨ wi = t.wire := by first | with_reducible exact Or.inr rfl | with_unfolding_all exact Or.inl rfl)
    (a17 : m.testBit 23 = true ∨ li = t.line := by first | with_reducible exact Or.inr rfl | with_unfolding_all exact Or.inl rfl)
    (a18 : m.testBit 24 = true ∨ fc = t.freeCtr := by first | with_reducible exact Or.inr rfl | with_unfolding_all exact Or.inl rfl)
    (a19 : m.testBit 25 = true ∨ pe = t.pending := by first | with_reducible exact Or.inr rfl | with_unfolding_all exact Or.inl rfl)
    (c1 : t.girth.shaped = true → gi.shaped = true := by
      first | with_reducible exact id | (apply Girth.shaped_of <;> first | with_reducible exact id | with_reducible exact fun hx => setAt_length hx | with_reducible exact fun hx => map_length hx | with_unfolding_all exact fun _ => rfl | with_reducible exact fun _ => setAt_length rfl | with_unfolding_all exact id | (split <;> with_unfolding_all exact id)))
    (c2 : t.supervisor.shaped = true → su.shaped = true := by
      first | with_reducible exact id | (apply Supervisor.shaped_of <;> first | with_reducible exact id | with_reducible exact fun hx => setAt_length hx | with_reducible exact fun hx => map_length hx | with_unfolding_all exact fun _ => rfl | with_reducible exact fun _ => setAt_length rfl | with_unfolding_all exact id | (split <;> with_unfolding_all exact id)))
    (b1 : t.harness.shaped = true → ha.shaped = true := by
      first | with_reducible exact id | (apply Harness.shaped_of <;> first | with_reducible exact id | with_reducible exact fun hx => setAt_length hx | with_reducible exact fun hx => map_length hx | with_unfolding_all exact fun _ => rfl | with_reducible exact fun _ => setAt_length rfl | with_unfolding_all exact id | (split <;> with_unfolding_all exact id)))
    (b2 : t.bridle.shaped = true → br.shaped = true := by
      first | with_reducible exact id | (apply Bridle.shaped_of <;> first | with_reducible exact id | with_reducible exact fun hx => setAt_length hx | with_reducible exact fun hx => map_length hx | with_unfolding_all exact fun _ => rfl | with_reducible exact fun _ => setAt_length rfl | with_unfolding_all exact id | (split <;> with_unfolding_all exact id)))
    (b3 : t.tack.shaped = true → ta.shaped = true := by
      first | with_reducible exact id | (apply Tack.shaped_of <;> first | with_reducible exact id | with_reducible exact fun hx => setAt_length hx | with_reducible exact fun hx => map_length hx | with_unfolding_all exact fun _ => rfl | with_reducible exact fun _ => setAt_length rfl | with_unfolding_all exact id | (split <;> with_unfolding_all exact id)))
    (b4 : t.skive.shaped = true → sk.shaped = true := by
      first | with_reducible exact id | (apply Skive.shaped_of <;> first | with_reducible exact id | with_reducible exact fun hx => setAt_length hx | with_reducible exact fun hx => map_length hx | with_unfolding_all exact fun _ => rfl | with_reducible exact fun _ => setAt_length rfl | with_unfolding_all exact id | (split <;> with_unfolding_all exact id)))
    (b5 : t.stirrup.shaped = true → st.shaped = true := by
      first | with_reducible exact id | (apply Stirrup.shaped_of <;> first | with_reducible exact id | with_reducible exact fun hx => setAt_length hx | with_reducible exact fun hx => map_length hx | with_unfolding_all exact fun _ => rfl | with_reducible exact fun _ => setAt_length rfl | with_unfolding_all exact id | (split <;> with_unfolding_all exact id)))
    (b6 : t.rosette.shaped = true → ro.shaped = true := by
      first | with_reducible exact id | (apply Rosette.shaped_of <;> first | with_reducible exact id | with_reducible exact fun hx => setAt_length hx | with_reducible exact fun hx => map_length hx | with_unfolding_all exact fun _ => rfl | with_reducible exact fun _ => setAt_length rfl | with_unfolding_all exact id | (split <;> with_unfolding_all exact id)))
    (b7 : t.fabric.shaped = true → fa.shaped = true := by
      first | with_reducible exact id | (apply Fabric.shaped_of <;> first | with_reducible exact id | with_reducible exact fun hx => setAt_length hx | with_reducible exact fun hx => map_length hx | with_unfolding_all exact fun _ => rfl | with_reducible exact fun _ => setAt_length rfl | with_unfolding_all exact id | (split <;> with_unfolding_all exact id)))
    (b8 : t.latigo.shaped = true → la.shaped = true := by
      first | with_reducible exact id | (apply Latigo.shaped_of <;> first | with_reducible exact id | with_reducible exact fun hx => setAt_length hx | with_reducible exact fun hx => map_length hx | with_unfolding_all exact fun _ => rfl | with_reducible exact fun _ => setAt_length rfl | with_unfolding_all exact id | (split <;> with_unfolding_all exact id))) :
    P ⟨md, fr, t.regs, t.dies, t.chans, t.quads, t.ingress, gi, ma, su, br, la, t.flash, fa, pa, st, sk, tr, sti, ha, t.burnish, ro, ta, wi,
      li, fc, pe⟩ :=
  h.parts t _ _ _ _ _ _ _ _ _ _ _ _ _ _ _ _ _ _ _ _ ht a1 a2 a3 a4 a5 a6 a7 a8 a9 a10 a11 a12 a13 a14 a15 a16 a20 a17 a18 a19 c1 c2 b1 b2 b3 b4
    b5 b6 b7 b8

/-- A run over a list keeps what each step keeps. -/
theorem keeps_foldl {α : Type} {f : State → α → State} {l : List α} {s : State} (hf : ∀ t a, P t → P (f t a)) (hs : P s) :
    P (l.foldl f s) := by
  induction l generalizing s with
  | nil => exact hs
  | cons a l ih => exact ih (hf s a hs)

theorem keeps_foldl_fst {α β : Type} {f : State × β → α → State × β} {l : List α} {p : State × β}
    (hf : ∀ q a, P q.1 → P (f q a).1) (hs : P p.1) : P (l.foldl f p).1 := by
  induction l generalizing p with
  | nil => exact hs
  | cons a l ih => exact ih (hf p a hs)

/-- The Bridle's lock keeps what its writes keep. -/
theorem keeps_bridleLock (hr : ∀ (t : State) r i w, P t → P (t.setReg r i w))
    (ho : ∀ (t : State) d e, P t → P { t with bridle := { t.bridle with fbDue := [d, e], test := [none, none], testOk := [false, false] } })
    (hl : ∀ (t : State), P t → P { t with latigo := { t.latigo with saveDue := true } }) {s : State} (hs : P s) (c : Nat) :
    P (s.bridleLock c).1 := by
  have hp : ∀ (t : State) f v i, P t → P (t.put f v i) := fun t _ _ _ h => hr t _ _ _ h
  have hb : ∀ (t : State) f v i, P t → P (t.putB f v i) := fun t _ _ _ h => hp t _ _ _ h
  have hi : ∀ (t : State) f, P t → P (t.inc f) := fun t _ h => hp t _ _ _ h
  have hsafe : P s.bridleSafe := by
    unfold State.bridleSafe
    exact hb _ _ _ _ (hb _ _ _ _ (keeps_foldl (fun t b ht => hp t _ _ _ ht) (ho s _ _ hs)))
  unfold State.bridleLock
  split
  · exact hs
  · exact hl _ (hi _ _ (hp _ _ _ _ (hp _ _ _ _ hsafe)))

theorem keeps_ite {c : Prop} [Decidable c] {s t : State} (hs : P s) (ht : P t) : P (if c then s else t) := by
  split <;> assumption

theorem keeps_of_fst {α : Type} {p : State × α} {t : State} {a : α} (e : p = (t, a)) (h : P p.1) : P t := by
  rw [e] at h; exact h

theorem keeps_of_snd {α : Type} {p : α × State} {t : State} {a : α} (e : p = (a, t)) (h : P p.2) : P t := by
  rw [e] at h; exact h

/-- Every next state of an outcome has the property. -/
def Next (P : State → Prop) (o : Host.Outcome State Fault Refusal) : Prop := ∀ t, o = .next t → P t

theorem next_next {s : State} (hs : P s) : Next P (.next s) := fun _ e => by cases e; exact hs

theorem next_fault {x : Fault} : Next P (.fault x) := fun _ e => nomatch e

theorem next_refused {x : Refusal} : Next P (.refused x) := fun _ e => nomatch e

theorem next_when {c : Bool} {s : State} {f : State → State} (hs : P s) (hf : P (f s)) : Next P (when' c s f) :=
  next_next (keeps_ite hf hs)

end Sys2Proof.Machine
end

