-- ==== Sys2Proof/Laws/KeepOps.lean ====
section
/-! SUPPORT. What the operations of Machine/Ops.lean keep. -/

set_option linter.unusedTactic false
set_option linter.unreachableTactic false

set_option Elab.async false

namespace Sys2Proof.Machine

variable {P : State → Prop} {m : Nat}

theorem State.draw_keeps (h : Keeps P 0x1000000) {s : State} (hs : P s) :
    P (State.draw s).2 := by
  unfold State.draw
  repeat' first
    | with_reducible assumption
    | extract_lets
    | fail_if_no_progress with_reducible refine h.upd ?_

theorem State.noteRaised_keeps (h : Keeps P 0x100) {s : State} (hs : P s) (a1) :
    P (State.noteRaised s a1) := by
  unfold State.noteRaised
  repeat' first
    | with_reducible assumption
    | extract_lets
    | with_reducible apply keeps_ite
    | fail_if_no_progress with_reducible refine h.upd ?_
    | split

theorem State.clearShadows_keeps (h : Keeps P 0x2000) {s : State} (hs : P s) :
    P (State.clearShadows s) := by
  unfold State.clearShadows
  repeat' first
    | with_reducible assumption
    | extract_lets
    | fail_if_no_progress with_reducible refine h.upd ?_

theorem State.raise_keeps (h : Keeps P 0x20000000) {s : State} (hs : P s) (a1 a2) :
    P (State.raise s a1 a2) := by
  unfold State.raise
  repeat' first
    | with_reducible assumption
    | rfl
    | with_reducible apply h.raiseN rfl

theorem State.raiseReplay_keeps (h : Keeps P 0x20000000) {s : State} (hs : P s) (a1 a2) :
    P (State.raiseReplay s a1 a2) := by
  unfold State.raiseReplay
  repeat' first
    | with_reducible assumption
    | rfl
    | with_reducible apply h.raiseN rfl

theorem access'_keeps (h : Keeps P 0x2000) {s : State} (hs : P s) {c f} (hf : ∀ t, P t → P (f t)) : Next P (access' c s f) := by
  unfold access'
  exact next_when hs (hf _ (State.clearShadows_keeps h hs))

theorem State.setTx_keeps (h : Keeps P 0x10000000) {s : State} (hs : P s) (a1 a2) :
    P (State.setTx s a1 a2) := by
  unfold State.setTx
  repeat' first
    | with_reducible assumption
    | extract_lets
    | fail_if_no_progress with_reducible refine h.upd ?_

theorem State.item_keeps (h : Keeps P 0x4000) {s : State} (hs : P s) (a1 a2) :
    P (State.item s a1 a2) := by
  unfold State.item
  repeat' first
    | with_reducible assumption
    | extract_lets
    | fail_if_no_progress with_reducible refine h.upd ?_

theorem State.logEntry_keeps (h : Keeps P 0x100) {s : State} (hs : P s) (a1 a2 a3) :
    P (State.logEntry s a1 a2 a3).1 := by
  unfold State.logEntry
  repeat' first
    | with_reducible assumption
    | extract_lets
    | with_reducible apply keeps_ite
    | fail_if_no_progress with_reducible refine h.upd ?_
    | with_reducible refine keeps_of_fst (by assumption) ?_
    | with_reducible refine keeps_of_snd (by assumption) ?_
    | split
    | dsimp +zetaDelta only

theorem State.bridleSafe_keeps (h : Keeps P 0x440000000000000000000000000000000000000000000000000000000000000000000400) {s : State} (hs : P s) :
    P (State.bridleSafe s) := by
  unfold State.bridleSafe
  repeat' first
    | with_reducible assumption
    | rfl
    | with_reducible apply h.putB
    | with_reducible apply h.put
    | extract_lets
    | with_reducible apply keeps_ite
    | (with_reducible apply keeps_foldl; intro _ _ _)
    | (with_reducible apply keeps_foldl_fst; intro _ _ _)
    | fail_if_no_progress with_reducible refine h.upd ?_
    | split

theorem State.queueEvent_keeps (h : Keeps P 0x20000000000000000000000000000000000000000000000000000000000000000000000000900) {s : State} (hs : P s) (a1 a2) :
    P (State.queueEvent s a1 a2).1 := by
  unfold State.queueEvent
  repeat' first
    | with_reducible assumption
    | rfl
    | with_reducible apply h.inc
    | extract_lets
    | with_reducible apply keeps_ite
    | fail_if_no_progress with_reducible refine h.upd ?_
    | with_reducible refine keeps_of_fst (by assumption) ?_
    | with_reducible refine keeps_of_snd (by assumption) ?_
    | split
    | dsimp +zetaDelta only

theorem State.queueProgram_keeps (h : Keeps P 0x20000000000000000000000000000000000000000000000000000000000000000000000000800) {s : State} (hs : P s) (a1) :
    P (State.queueProgram s a1).1 := by
  unfold State.queueProgram
  repeat' first
    | with_reducible assumption
    | rfl
    | with_reducible apply h.inc
    | extract_lets
    | with_reducible apply keeps_ite
    | fail_if_no_progress with_reducible refine h.upd ?_
    | split

theorem State.driveEventN_keeps (h : Keeps P 0x4000000000000000000000000000000000000000000000000000000000000000000000000000100) {s : State} (hs : P s) :
    P (State.driveEventN s) := by
  unfold State.driveEventN
  repeat' first
    | with_reducible assumption
    | rfl
    | with_reducible apply h.putB
    | extract_lets
    | with_reducible apply keeps_ite
    | fail_if_no_progress with_reducible refine h.upd ?_
    | with_reducible refine keeps_of_fst (by assumption) ?_
    | with_reducible refine keeps_of_snd (by assumption) ?_
    | split
    | dsimp +zetaDelta only

theorem State.showLast_keeps (h : Keeps P 0x20000000000000000000000000000000000000000000000000000000000000000000000000000100) {s : State} (hs : P s) (a1) :
    P (State.showLast s a1) := by
  unfold State.showLast
  repeat' first
    | with_reducible assumption
    | rfl
    | with_reducible apply h.put
    | extract_lets
    | with_reducible apply keeps_ite
    | fail_if_no_progress with_reducible refine h.upd ?_
    | split

theorem State.wireBlock_keeps (h : Keeps P 0x10000000) {s : State} (hs : P s) (a1 a2 a3) :
    P (State.wireBlock s a1 a2 a3) := by
  unfold State.wireBlock
  repeat' first
    | with_reducible assumption
    | with_reducible apply State.setTx_keeps h
    | extract_lets
    | fail_if_no_progress with_reducible refine h.upd ?_

theorem State.send_keeps (h : Keeps P 0x10800000) {s : State} (hs : P s) (a1) :
    P (State.send s a1) := by
  have h1 := h.mono (k := 0x10000000) (by decide)
  unfold State.send
  repeat' first
    | with_reducible assumption
    | with_reducible apply State.wireBlock_keeps h1
    | extract_lets
    | (with_reducible apply keeps_foldl; intro _ _ _)
    | (with_reducible apply keeps_foldl_fst; intro _ _ _)
    | fail_if_no_progress with_reducible refine h.upd ?_

theorem State.prbsBlock_keeps (h : Keeps P 0x10000000) {s : State} (hs : P s) (a1) :
    P (State.prbsBlock s a1) := by
  unfold State.prbsBlock
  repeat' first
    | with_reducible assumption
    | with_reducible apply State.wireBlock_keeps h
    | with_reducible apply State.setTx_keeps h
    | extract_lets
    | fail_if_no_progress with_reducible refine h.upd ?_

theorem State.requestProgram_keeps (h : Keeps P 0x20000000000000000000000000000000000000000000000000000000000000000000020000800) {s : State} (hs : P s) (a1) :
    P (State.requestProgram s a1).1 := by
  have h1 := h.mono (k := 0x20000000000000000000000000000000000000000000000000000000000000000000000000800) (by decide)
  have h2 := h.mono (k := 0x20000000) (by decide)
  unfold State.requestProgram
  repeat' first
    | with_reducible assumption
    | with_reducible apply State.queueProgram_keeps h1
    | with_reducible apply State.raise_keeps h2
    | extract_lets
    | fail_if_no_progress with_reducible refine h.upd ?_
    | with_reducible refine keeps_of_fst (by assumption) ?_
    | with_reducible refine keeps_of_snd (by assumption) ?_
    | split
    | dsimp +zetaDelta only

theorem State.bridleTrip_keeps (h : Keeps P 0x440000000000000000000000000000000000000000000000000000000000000020000400) {s : State} (hs : P s) (a1) :
    P (State.bridleTrip s a1) := by
  have h1 := h.mono (k := 0x20000000) (by decide)
  unfold State.bridleTrip
  repeat' first
    | with_reducible assumption
    | rfl
    | with_reducible apply State.raise_keeps h1
    | with_reducible apply h.bridleLock rfl
    | extract_lets
    | fail_if_no_progress with_reducible refine h.upd ?_
    | with_reducible refine keeps_of_fst (by assumption) ?_
    | with_reducible refine keeps_of_snd (by assumption) ?_
    | split
    | dsimp +zetaDelta only

end Sys2Proof.Machine
end

