-- ==== Sys2Proof/Laws/KeepTreeMem.lean ====
section
/-! SUPPORT. What the operations of Machine/TreeMem.lean keep. -/

set_option linter.unusedTactic false
set_option linter.unreachableTactic false

set_option Elab.async false

namespace Sys2Proof.Machine

variable {P : State → Prop} {m : Nat}

theorem State.treeMark_keeps (h : Keeps P 0x20000) {s : State} (hs : P s) (a1) :
    P (State.treeMark s a1) := by
  unfold State.treeMark
  repeat' first
    | with_reducible assumption
    | extract_lets
    | with_reducible apply keeps_ite
    | fail_if_no_progress with_reducible refine h.upd ?_
    | split

theorem State.strike_keeps (h : Keeps P 0x20000) {s : State} (hs : P s) (a1 a2) :
    P (State.strike s a1 a2) := by
  unfold State.strike
  repeat' first
    | with_reducible assumption
    | with_reducible apply h.setBlock rfl
    | with_reducible apply keeps_ite
    | (with_reducible apply keeps_foldl; intro _ _ _)
    | (with_reducible apply keeps_foldl_fst; intro _ _ _)
    | split

theorem State.setStale_keeps (h : Keeps P 0x20000) {s : State} (hs : P s) (a1 a2) :
    P (State.setStale s a1 a2) := by
  unfold State.setStale
  repeat' first
    | with_reducible assumption
    | with_reducible apply h.setBlock rfl
    | extract_lets
    | with_reducible apply keeps_ite
    | split

theorem State.treeLog_keeps (h : Keeps P 0x1c000000000000000000000000000000000000000000020000000) {s : State} (hs : P s) (a1 a2) :
    P (State.treeLog s a1 a2) := by
  have h1 := h.mono (k := 0x20000000) (by decide)
  unfold State.treeLog
  repeat' first
    | with_reducible assumption
    | rfl
    | with_reducible apply State.raise_keeps h1
    | with_reducible apply h.put
    | with_reducible apply h.putB
    | with_reducible apply h.inc
    | extract_lets
    | with_reducible apply keeps_ite
    | split

theorem State.rowCorrected_keeps (h : Keeps P 0x100000000000000000000000000000000000000000000020020000) {s : State} (hs : P s) (a1) :
    P (State.rowCorrected s a1) := by
  have h1 := h.mono (k := 0x20000000) (by decide)
  unfold State.rowCorrected
  repeat' first
    | with_reducible assumption
    | rfl
    | with_reducible apply State.raise_keeps h1
    | with_reducible apply h.put
    | extract_lets
    | with_reducible apply keeps_ite
    | fail_if_no_progress with_reducible refine h.upd ?_
    | split

theorem State.poisonBlock_keeps (h : Keeps P 0x20000) {s : State} (hs : P s) (a1) :
    P (State.poisonBlock s a1) := by
  unfold State.poisonBlock
  repeat' first
    | with_reducible assumption
    | with_reducible apply State.setStale_keeps h
    | with_reducible apply h.setBlock rfl

theorem State.mapLost_keeps (h : Keeps P 0x1d000000000000000000000000000000000000000000020020000) {s : State} (hs : P s) (a1) :
    P (State.mapLost s a1) := by
  have h1 := h.mono (k := 0x20000000) (by decide)
  have h2 := h.mono (k := 0x1c000000000000000000000000000000000000000000020000000) (by decide)
  unfold State.mapLost
  repeat' first
    | with_reducible assumption
    | rfl
    | with_reducible apply State.raise_keeps h1
    | with_reducible apply State.treeLog_keeps h2
    | with_reducible apply h.setBlock rfl
    | with_reducible apply h.inc
    | extract_lets

theorem State.checkMap_keeps (h : Keeps P 0x11d100000000000000000000000000000000000000000020020000) {s : State} (hs : P s) (a1 a2) :
    P (State.checkMap s a1 a2) := by
  have h1 := h.mono (k := 0x100000000000000000000000000000000000000000000020020000) (by decide)
  have h2 := h.mono (k := 0x1d000000000000000000000000000000000000000000020020000) (by decide)
  unfold State.checkMap
  repeat' first
    | with_reducible assumption
    | rfl
    | with_reducible apply State.rowCorrected_keeps h1
    | with_reducible apply State.mapLost_keeps h2
    | with_reducible apply h.inc
    | with_reducible apply h.setBlock rfl
    | extract_lets
    | with_reducible apply keeps_ite
    | fail_if_no_progress with_reducible refine h.upd ?_
    | with_reducible refine keeps_of_fst (by assumption) ?_
    | with_reducible refine keeps_of_snd (by assumption) ?_
    | split
    | dsimp +zetaDelta only

theorem State.treeWrite_keeps (h : Keeps P 0x11d100000000000000000000000000000000000000000020020000) {s : State} (hs : P s) (a1 a2) :
    P (State.treeWrite s a1 a2) := by
  have h1 := h.mono (k := 0x20000) (by decide)
  unfold State.treeWrite
  repeat' first
    | with_reducible assumption
    | with_reducible apply State.setStale_keeps h1
    | with_reducible apply State.checkMap_keeps h
    | with_reducible apply h.setBlock rfl

theorem State.treeStore_keeps (h : Keeps P 0x11d100000000000000000000000000000000000000000020020000) {s : State} (hs : P s) (a1 a2 a3) :
    P (State.treeStore s a1 a2 a3) := by
  have h1 := h.mono (k := 0x20000) (by decide)
  unfold State.treeStore
  repeat' first
    | with_reducible assumption
    | with_reducible apply State.treeMark_keeps h1
    | with_reducible apply State.treeWrite_keeps h
    | extract_lets
    | with_reducible apply keeps_ite
    | fail_if_no_progress with_reducible refine h.upd ?_
    | split

theorem State.readBlock_keeps (h : Keeps P 0x11db00000000000000000000000000000000000000000020020000) {s : State} (hs : P s) (a1) :
    P (State.readBlock s a1).1 := by
  have h1 := h.mono (k := 0x11d100000000000000000000000000000000000000000020020000) (by decide)
  have h2 := h.mono (k := 0x100000000000000000000000000000000000000000000020020000) (by decide)
  unfold State.readBlock
  repeat' first
    | with_reducible assumption
    | rfl
    | with_reducible apply State.checkMap_keeps h1
    | with_reducible apply State.rowCorrected_keeps h2
    | with_reducible apply h.inc
    | with_reducible apply h.setBlock rfl
    | extract_lets
    | with_reducible apply keeps_ite
    | fail_if_no_progress with_reducible refine h.upd ?_
    | with_reducible refine keeps_of_fst (by assumption) ?_
    | with_reducible refine keeps_of_snd (by assumption) ?_
    | split
    | dsimp +zetaDelta only

theorem State.treeBytes_keeps (h : Keeps P 0x11d100000000000000000000000000000000000000000020020000) {s : State} (hs : P s) (a1 a2 a3) :
    P (State.treeBytes s a1 a2 a3) := by
  have h1 := h.mono (k := 0x20000) (by decide)
  unfold State.treeBytes
  repeat' first
    | with_reducible assumption
    | with_reducible apply State.checkMap_keeps h
    | with_reducible apply State.setStale_keeps h1
    | with_reducible apply h.setBlock rfl
    | extract_lets
    | with_reducible apply keeps_ite
    | split

theorem State.treeFetch_keeps (h : Keeps P 0x11db00000000000000000000000000000000000000000020020000) {s : State} (hs : P s) (a1) :
    P (State.treeFetch s a1).1 := by
  have h1 := h.mono (k := 0x1d000000000000000000000000000000000000000000020020000) (by decide)
  have h2 := h.mono (k := 0x20000000) (by decide)
  have h3 := h.mono (k := 0x1c000000000000000000000000000000000000000000020000000) (by decide)
  have h4 := h.mono (k := 0x20000) (by decide)
  unfold State.treeFetch
  repeat' first
    | with_reducible assumption
    | rfl
    | with_reducible apply State.readBlock_keeps h
    | with_reducible apply State.mapLost_keeps h1
    | with_reducible apply State.raise_keeps h2
    | with_reducible apply State.treeLog_keeps h3
    | with_reducible apply State.poisonBlock_keeps h4
    | with_reducible apply h.inc
    | extract_lets
    | with_reducible apply keeps_ite
    | fail_if_no_progress with_reducible refine h.upd ?_
    | with_reducible refine keeps_of_fst (by assumption) ?_
    | with_reducible refine keeps_of_snd (by assumption) ?_
    | split
    | dsimp +zetaDelta only

end Sys2Proof.Machine
end

