-- ==== Sys2Proof/Laws/KeepGirth.lean ====
section
/-! SUPPORT. What the operations of Machine/Girth.lean keep. -/

set_option linter.unusedTactic false
set_option linter.unreachableTactic false

set_option Elab.async false

namespace Sys2Proof.Machine

variable {P : State → Prop} {m : Nat}

theorem State.strobeRebase_keeps (h : Keeps P 0x80) {s : State} (hs : P s) :
    P (State.strobeRebase s) := by
  unfold State.strobeRebase
  extract_lets g
  have hg : ∀ (l : List Bool) (x : Girth), (l.foldl (fun g hold => { g.rebased s.frc with rate := if hold then s.holdRate else 0 }) x).qual = x.qual := by
    intro l
    induction l with
    | nil => intro x; rfl
    | cons b l ih => intro x; rw [List.foldl_cons, ih]; rfl
  exact h.upd hs (c1 := Girth.shaped_of (by intro hx; show g.qual.length = 2; rw [show g.qual = s.girth.qual from hg _ _]; exact hx))

theorem State.tmoRepeat_keeps (h : Keeps P 0x880000) {s : State} (hs : P s) (a1 a2 a3) :
    P (State.tmoRepeat s a1 a2 a3) := by
  unfold State.tmoRepeat
  repeat' first
    | with_reducible assumption
    | extract_lets
    | with_reducible apply keeps_ite
    | fail_if_no_progress with_reducible refine h.upd ?_
    | with_reducible refine keeps_of_fst (by assumption) ?_
    | with_reducible refine keeps_of_snd (by assumption) ?_
    | split
    | dsimp +zetaDelta only

theorem State.tmoEnded_keeps (h : Keeps P 0x880000) {s : State} (hs : P s) (a1 a2) :
    P (State.tmoEnded s a1 a2) := by
  unfold State.tmoEnded
  repeat' first
    | with_reducible assumption
    | with_reducible apply State.tmoRepeat_keeps h

theorem State.mark_keeps (h : Keeps P 0x80) {s : State} (hs : P s) (a1 a2) :
    P (State.mark s a1 a2) := by
  unfold State.mark
  repeat' first
    | with_reducible assumption
    | extract_lets
    | fail_if_no_progress with_reducible refine h.upd ?_

theorem State.girSnap_keeps (h : Keeps P 0xffe000000000000000000000000000000000000000) {s : State} (hs : P s) :
    P (State.girSnap s) := by
  unfold State.girSnap
  repeat' first
    | with_reducible assumption
    | rfl
    | with_reducible apply h.put
    | extract_lets

theorem State.slewStart_keeps (h : Keeps P 0x2000000080000000000000000000000000020000080) {s : State} (hs : P s) (a1) :
    P (State.slewStart s a1) := by
  have h1 := h.mono (k := 0x20000000) (by decide)
  have h2 := h.mono (k := 0x80) (by decide)
  unfold State.slewStart
  repeat' first
    | with_reducible assumption
    | rfl
    | with_reducible apply State.raise_keeps h1
    | with_reducible apply State.mark_keeps h2
    | with_reducible apply h.putB
    | with_reducible apply h.inc
    | extract_lets
    | with_reducible apply keeps_ite
    | fail_if_no_progress with_reducible refine h.upd ?_
    | split

theorem State.syncUsed_keeps (h : Keeps P 0x1000000000000000000000000000000000000000080) {s : State} (hs : P s) :
    P (State.syncUsed s) := by
  unfold State.syncUsed
  repeat' first
    | with_reducible assumption
    | rfl
    | with_reducible apply h.inc
    | extract_lets
    | fail_if_no_progress with_reducible refine h.upd ?_

theorem State.tmoHeard_keeps (h : Keeps P 0x880000) {s : State} (hs : P s) (a1) :
    P (State.tmoHeard s a1) := by
  unfold State.tmoHeard
  repeat' first
    | with_reducible assumption
    | with_reducible apply State.tmoEnded_keeps h

theorem execRootPllRelock_keeps (h : Keeps P 0x80000000000000000000000000000000080) {s : State} (hs : P s) :
    Next P (execRootPllRelock s) := by
  have h1 := h.mono (k := 0x80) (by decide)
  unfold execRootPllRelock
  repeat' first
    | with_reducible assumption
    | rfl
    | with_reducible apply next_when
    | with_reducible apply State.mark_keeps h1
    | with_reducible apply h.putB

theorem State.tmoUpdate_keeps (h : Keeps P 0x20000000000000000000000000000000000020080000) {s : State} (hs : P s) :
    P (State.tmoUpdate s) := by
  have h1 := h.mono (k := 0x20000000) (by decide)
  unfold State.tmoUpdate
  repeat' first
    | with_reducible assumption
    | rfl
    | with_reducible apply State.raise_keeps h1
    | with_reducible apply h.putB
    | extract_lets
    | with_reducible apply keeps_ite
    | fail_if_no_progress with_reducible refine h.upd ?_
    | split

theorem execSyncTimeout_keeps (h : Keeps P 0x20000080) {s : State} (hs : P s) :
    Next P (execSyncTimeout s) := by
  have h1 := h.mono (k := 0x20000000) (by decide)
  unfold execSyncTimeout
  repeat' first
    | with_reducible assumption
    | with_reducible apply next_when
    | with_reducible apply State.raise_keeps h1
    | extract_lets
    | fail_if_no_progress with_reducible refine h.upd ?_

theorem State.pendSync_keeps (h : Keeps P 0x80) {s : State} (hs : P s) (a1) :
    P (State.pendSync s a1) := by
  unfold State.pendSync
  repeat' first
    | with_reducible assumption
    | extract_lets
    | fail_if_no_progress with_reducible refine h.upd ?_

theorem State.undoAlt_keeps (h : Keeps P 0x4000000000000000000000000000000000000000080) {s : State} (hs : P s) :
    P (State.undoAlt s) := by
  unfold State.undoAlt
  repeat' first
    | with_reducible assumption
    | rfl
    | with_reducible apply h.put
    | extract_lets
    | with_reducible apply keeps_ite
    | fail_if_no_progress with_reducible refine h.upd ?_
    | with_reducible refine keeps_of_fst (by assumption) ?_
    | with_reducible refine keeps_of_snd (by assumption) ?_
    | split
    | dsimp +zetaDelta only

theorem State.tmoSwitch_keeps (h : Keeps P 0x20000000000000000000000000000000000020080000) {s : State} (hs : P s) (a1) :
    P (State.tmoSwitch s a1) := by
  have h1 := h.mono (k := 0x20000000) (by decide)
  unfold State.tmoSwitch
  repeat' first
    | with_reducible assumption
    | rfl
    | with_reducible apply State.raise_keeps h1
    | with_reducible apply State.tmoUpdate_keeps h
    | with_reducible apply h.putB
    | extract_lets
    | with_reducible apply keeps_ite
    | fail_if_no_progress with_reducible refine h.upd ?_
    | split

theorem State.dropAtStrobe_keeps (h : Keeps P 0x1000000000000000000000000000000000000000080) {s : State} (hs : P s) :
    P (State.dropAtStrobe s) := by
  unfold State.dropAtStrobe
  repeat' first
    | with_reducible assumption
    | rfl
    | with_reducible apply h.inc
    | extract_lets
    | with_reducible apply keeps_ite
    | fail_if_no_progress with_reducible refine h.upd ?_
    | with_reducible refine keeps_of_fst (by assumption) ?_
    | with_reducible refine keeps_of_snd (by assumption) ?_
    | split
    | dsimp +zetaDelta only

theorem State.farBack_keeps (h : Keeps P 0x80000) {s : State} (hs : P s) (a1 a2) :
    P (State.farBack s a1 a2) := by
  unfold State.farBack
  repeat' first
    | with_reducible assumption
    | extract_lets
    | with_reducible apply keeps_ite
    | (with_reducible apply keeps_foldl; intro _ _ _)
    | (with_reducible apply keeps_foldl_fst; intro _ _ _)
    | fail_if_no_progress with_reducible refine h.upd ?_
    | split

theorem State.toTmiRef_keeps (h : Keeps P 0x20000000080000000000000000000000000020080080) {s : State} (hs : P s) :
    P (State.toTmiRef s) := by
  have h1 := h.mono (k := 0x20000000000000000000000000000000000020080000) (by decide)
  have h2 := h.mono (k := 0x80) (by decide)
  unfold State.toTmiRef
  repeat' first
    | with_reducible assumption
    | rfl
    | with_reducible apply State.tmoSwitch_keeps h1
    | with_reducible apply State.mark_keeps h2
    | with_reducible apply h.put

theorem State.breakCand_keeps (h : Keeps P 0x20000080) {s : State} (hs : P s) :
    P (State.breakCand s) := by
  have h1 := h.mono (k := 0x20000000) (by decide)
  unfold State.breakCand
  repeat' first
    | with_reducible assumption
    | with_reducible apply State.raise_keeps h1
    | extract_lets
    | with_reducible apply keeps_ite
    | fail_if_no_progress with_reducible refine h.upd ?_
    | with_reducible refine keeps_of_fst (by assumption) ?_
    | with_reducible refine keeps_of_snd (by assumption) ?_
    | split
    | dsimp +zetaDelta only

theorem State.echoItem_keeps (h : Keeps P 0x4000) {s : State} (hs : P s) (a1 a2 a3 a4 a5 a6 a7) :
    P (State.echoItem s a1 a2 a3 a4 a5 a6 a7) := by
  unfold State.echoItem
  repeat' first
    | with_reducible assumption
    | with_reducible apply State.item_keeps h
    | extract_lets

theorem State.putXtal_keeps (h : Keeps P 0x30000000000000000000000000000000000000) {s : State} (hs : P s) (a1) :
    P (State.putXtal s a1) := by
  unfold State.putXtal
  repeat' first
    | with_reducible assumption
    | rfl
    | with_reducible apply h.put

theorem State.applyTheta_keeps (h : Keeps P 0x1000000000000000000000000000000000020000080) {s : State} (hs : P s) (a1) :
    P (State.applyTheta s a1) := by
  have h1 := h.mono (k := 0x80) (by decide)
  have h2 := h.mono (k := 0x1000000000000000000000000000000000000000080) (by decide)
  have h3 := h.mono (k := 0x20000000) (by decide)
  unfold State.applyTheta
  repeat' first
    | with_reducible assumption
    | rfl
    | with_reducible apply State.pendSync_keeps h1
    | with_reducible apply State.syncUsed_keeps h2
    | with_reducible apply State.raise_keeps h3
    | with_reducible apply h.inc
    | with_reducible apply keeps_ite
    | split

theorem State.putInputOk_keeps (h : Keeps P 0x80000000000000000000000000000000080) {s : State} (hs : P s) (a1 a2) :
    P (State.putInputOk s a1 a2) := by
  unfold State.putInputOk
  repeat' first
    | with_reducible assumption
    | rfl
    | with_reducible apply h.putB
    | extract_lets
    | with_reducible apply keeps_ite
    | fail_if_no_progress with_reducible refine h.upd ?_
    | split

theorem State.strobeSlew_keeps (h : Keeps P 0x80000000000000000000000000020000080) {s : State} (hs : P s) :
    P (State.strobeSlew s) := by
  have h1 := h.mono (k := 0x20000000) (by decide)
  have h2 := h.mono (k := 0x80) (by decide)
  unfold State.strobeSlew
  repeat' first
    | with_reducible assumption
    | rfl
    | with_reducible apply State.raise_keeps h1
    | with_reducible apply State.mark_keeps h2
    | with_reducible apply h.putB
    | extract_lets
    | with_reducible apply keeps_ite
    | fail_if_no_progress with_reducible refine h.upd ?_
    | split

theorem State.toAltRef_keeps (h : Keeps P 0x24000000080000000000000000000000000020080080) {s : State} (hs : P s) :
    P (State.toAltRef s) := by
  have h1 := h.mono (k := 0x20000000000000000000000000000000000020080000) (by decide)
  have h2 := h.mono (k := 0x80) (by decide)
  unfold State.toAltRef
  repeat' first
    | with_reducible assumption
    | rfl
    | with_reducible apply State.tmoSwitch_keeps h1
    | with_reducible apply State.mark_keeps h2
    | with_reducible apply h.inc
    | with_reducible apply h.put

theorem State.echoReq_keeps (h : Keeps P 0x1000000000000000000000000000000000000020000080) {s : State} (hs : P s) (a1 a2 a3) :
    P (State.echoReq s a1 a2 a3) := by
  have h1 := h.mono (k := 0x20000000) (by decide)
  unfold State.echoReq
  repeat' first
    | with_reducible assumption
    | rfl
    | with_reducible apply State.raise_keeps h1
    | with_reducible apply h.inc
    | extract_lets
    | with_reducible apply keeps_ite
    | fail_if_no_progress with_reducible refine h.upd ?_
    | split

theorem State.enterHold_keeps (h : Keeps P 0x24000000080000000000000000000000000020080080) {s : State} (hs : P s) :
    P (State.enterHold s) := by
  have h1 := h.mono (k := 0x20000000000000000000000000000000000020080000) (by decide)
  have h2 := h.mono (k := 0x80) (by decide)
  have h3 := h.mono (k := 0x20000000) (by decide)
  unfold State.enterHold
  repeat' first
    | with_reducible assumption
    | rfl
    | with_reducible apply State.tmoUpdate_keeps h1
    | with_reducible apply State.mark_keeps h2
    | with_reducible apply State.raise_keeps h3
    | with_reducible apply h.put
    | with_reducible apply h.inc
    | extract_lets
    | with_reducible apply keeps_ite
    | fail_if_no_progress with_reducible refine h.upd ?_
    | split

theorem State.syncOther_keeps (h : Keeps P 0x1000000080000000000000000000000000020000080) {s : State} (hs : P s) (a1 a2 a3) :
    P (State.syncOther s a1 a2 a3) := by
  have h1 := h.mono (k := 0x20000080) (by decide)
  have h2 := h.mono (k := 0x20000000) (by decide)
  have h3 := h.mono (k := 0x1000000000000000000000000000000000020000080) (by decide)
  have h4 := h.mono (k := 0x80) (by decide)
  unfold State.syncOther
  repeat' first
    | with_reducible assumption
    | rfl
    | with_reducible apply State.breakCand_keeps h1
    | with_reducible apply State.raise_keeps h2
    | with_reducible apply State.applyTheta_keeps h3
    | with_reducible apply State.mark_keeps h4
    | with_reducible apply h.inc
    | with_reducible apply h.putB
    | with_reducible apply h.put
    | extract_lets
    | with_reducible apply keeps_ite
    | fail_if_no_progress with_reducible refine h.upd ?_
    | split

theorem State.stepNow_keeps (h : Keeps P 0x3000000080000000000000000000000000020000080) {s : State} (hs : P s) (a1) :
    P (State.stepNow s a1) := by
  have h1 := h.mono (k := 0x2000000080000000000000000000000000020000080) (by decide)
  have h2 := h.mono (k := 0x20000000) (by decide)
  have h3 := h.mono (k := 0x80) (by decide)
  unfold State.stepNow
  repeat' first
    | with_reducible assumption
    | rfl
    | with_reducible apply State.slewStart_keeps h1
    | with_reducible apply State.raise_keeps h2
    | with_reducible apply State.mark_keeps h3
    | with_reducible apply h.inc
    | with_reducible apply h.putB
    | extract_lets
    | with_reducible apply keeps_ite
    | fail_if_no_progress with_reducible refine h.upd ?_
    | split

theorem State.xtalCheck_keeps (h : Keeps P 0x80000000000000000000000000020000000) {s : State} (hs : P s) (a1) :
    P (State.xtalCheck s a1) := by
  have h1 := h.mono (k := 0x20000000) (by decide)
  unfold State.xtalCheck
  repeat' first
    | with_reducible assumption
    | rfl
    | with_reducible apply State.raise_keeps h1
    | with_reducible apply h.putB
    | with_reducible apply h.put
    | extract_lets
    | with_reducible apply keeps_ite
    | split

theorem execEchoReceive_keeps (h : Keeps P 0x8000000000000000000000000000000000000084000) {s : State} (hs : P s) (a0 a1 a2 a3) :
    Next P (execEchoReceive a0 a1 a2 a3 s) := by
  have h1 := h.mono (k := 0x80000) (by decide)
  have h2 := h.mono (k := 0x4000) (by decide)
  unfold execEchoReceive
  repeat' first
    | with_reducible assumption
    | rfl
    | with_reducible apply next_when
    | with_reducible apply State.farBack_keeps h1
    | with_reducible apply State.echoItem_keeps h2
    | with_reducible apply h.inc
    | extract_lets
    | with_reducible apply keeps_ite
    | split

theorem execPllUnlock_keeps (h : Keeps P 0x80000000000000000000000000020000000) {s : State} (hs : P s) :
    Next P (execPllUnlock s) := by
  have h1 := h.mono (k := 0x20000000) (by decide)
  unfold execPllUnlock
  repeat' first
    | with_reducible assumption
    | rfl
    | with_reducible apply next_when
    | with_reducible apply State.raise_keeps h1
    | with_reducible apply h.putB

theorem State.strobePend_keeps (h : Keeps P 0x3000000080000000000000000000000000020000080) {s : State} (hs : P s) :
    P (State.strobePend s) := by
  have h1 := h.mono (k := 0x2000000080000000000000000000000000020000080) (by decide)
  unfold State.strobePend
  repeat' first
    | with_reducible assumption
    | rfl
    | with_reducible apply State.stepNow_keeps h
    | with_reducible apply State.slewStart_keeps h1
    | with_reducible apply h.putB
    | extract_lets
    | with_reducible apply keeps_ite
    | fail_if_no_progress with_reducible refine h.upd ?_
    | with_reducible refine keeps_of_fst (by assumption) ?_
    | with_reducible refine keeps_of_snd (by assumption) ?_
    | split
    | dsimp +zetaDelta only

theorem State.strobeMarks_keeps (h : Keeps P 0x4080) {s : State} (hs : P s) :
    P (State.strobeMarks s) := by
  have h1 := h.mono (k := 0x4000) (by decide)
  unfold State.strobeMarks
  repeat' first
    | with_reducible assumption
    | with_reducible apply State.item_keeps h1
    | extract_lets
    | (with_reducible apply keeps_foldl; intro _ _ _)
    | (with_reducible apply keeps_foldl_fst; intro _ _ _)
    | fail_if_no_progress with_reducible refine h.upd ?_

theorem State.refLost_keeps (h : Keeps P 0x25000000080000000000000000000000000020080080) {s : State} (hs : P s) (a1) :
    P (State.refLost s a1) := by
  have h1 := h.mono (k := 0x80000000000000000000000000000000080) (by decide)
  have h2 := h.mono (k := 0x20000000) (by decide)
  have h3 := h.mono (k := 0x1000000000000000000000000000000000000000080) (by decide)
  have h4 := h.mono (k := 0x20000000080000000000000000000000000020080080) (by decide)
  have h5 := h.mono (k := 0x24000000080000000000000000000000000020080080) (by decide)
  have h6 := h.mono (k := 0x4000000000000000000000000000000000000000080) (by decide)
  unfold State.refLost
  repeat' first
    | with_reducible assumption
    | with_reducible apply State.putInputOk_keeps h1
    | with_reducible apply State.raise_keeps h2
    | with_reducible apply State.dropAtStrobe_keeps h3
    | with_reducible apply State.toTmiRef_keeps h4
    | with_reducible apply State.enterHold_keeps h5
    | with_reducible apply State.undoAlt_keeps h6
    | with_reducible apply State.toAltRef_keeps h5
    | extract_lets
    | with_reducible apply keeps_ite
    | fail_if_no_progress with_reducible refine h.upd ?_
    | split

theorem execEchoReq_keeps (h : Keeps P 0x1000000000000000000000000000000000000020880080) {s : State} (hs : P s) (a0 a1 a2 a3) :
    Next P (execEchoReq a0 a1 a2 a3 s) := by
  have h1 := h.mono (k := 0x880000) (by decide)
  have h2 := h.mono (k := 0x1000000000000000000000000000000000000020000080) (by decide)
  unfold execEchoReq
  repeat' first
    | with_reducible assumption
    | with_reducible apply next_when
    | with_reducible apply State.tmoRepeat_keeps h1
    | with_reducible apply State.echoReq_keeps h2
    | extract_lets

theorem State.strobeAge_keeps (h : Keeps P 0x30080000000000000000000000000020000080) {s : State} (hs : P s) (a1) :
    P (State.strobeAge s a1) := by
  have h1 := h.mono (k := 0x80000000000000000000000000020000000) (by decide)
  have h2 := h.mono (k := 0x30000000000000000000000000000000000000) (by decide)
  unfold State.strobeAge
  repeat' first
    | with_reducible assumption
    | with_reducible apply State.xtalCheck_keeps h1
    | with_reducible apply State.putXtal_keeps h2
    | extract_lets
    | with_reducible apply keeps_ite
    | fail_if_no_progress with_reducible refine h.upd ?_
    | split

theorem State.leaveHold_keeps (h : Keeps P 0x20000000080000000000000000000000000020080080) {s : State} (hs : P s) (a1) :
    P (State.leaveHold s a1) := by
  have h1 := h.mono (k := 0x20000000000000000000000000000000000020080000) (by decide)
  have h2 := h.mono (k := 0x80) (by decide)
  have h3 := h.mono (k := 0x20000000) (by decide)
  unfold State.leaveHold
  repeat' first
    | with_reducible assumption
    | rfl
    | with_reducible apply State.tmoSwitch_keeps h1
    | with_reducible apply State.mark_keeps h2
    | with_reducible apply State.raise_keeps h3
    | with_reducible apply h.put
    | extract_lets
    | fail_if_no_progress with_reducible refine h.upd ?_

theorem State.syncOwn_keeps (h : Keeps P 0x1000000000000000000000000000000000020000080) {s : State} (hs : P s) (a1 a2) :
    P (State.syncOwn s a1 a2) := by
  have h1 := h.mono (k := 0x20000000) (by decide)
  have h2 := h.mono (k := 0x1000000000000000000000000000000000000000080) (by decide)
  unfold State.syncOwn
  repeat' first
    | with_reducible assumption
    | rfl
    | with_reducible apply State.applyTheta_keeps h
    | with_reducible apply State.raise_keeps h1
    | with_reducible apply State.syncUsed_keeps h2
    | with_reducible apply h.inc
    | extract_lets
    | with_reducible apply keeps_ite
    | fail_if_no_progress with_reducible refine h.upd ?_
    | split

theorem State.strobeLearn_keeps (h : Keeps P 0x30080000000000000000000000000020000080) {s : State} (hs : P s) (a1) :
    P (State.strobeLearn s a1) := by
  have h1 := h.mono (k := 0x80000000000000000000000000020000000) (by decide)
  have h2 := h.mono (k := 0x30000000000000000000000000000000000000) (by decide)
  unfold State.strobeLearn
  repeat' first
    | with_reducible assumption
    | rfl
    | with_reducible apply State.xtalCheck_keeps h1
    | with_reducible apply State.putXtal_keeps h2
    | with_reducible apply h.putB
    | extract_lets
    | with_reducible apply keeps_ite
    | fail_if_no_progress with_reducible refine h.upd ?_
    | split

theorem execRefInputLost_keeps (h : Keeps P 0x25000000080000000000000000000000000020080080) {s : State} (hs : P s) (a0) :
    Next P (execRefInputLost a0 s) := by
  unfold execRefInputLost
  repeat' first
    | with_reducible assumption
    | with_reducible apply next_when
    | with_reducible apply State.refLost_keeps h

theorem State.refSelect_keeps (h : Keeps P 0x240000000c0000000000000000000000000020080080) {s : State} (hs : P s) :
    P (State.refSelect s) := by
  have h1 := h.mono (k := 0x24000000080000000000000000000000000020080080) (by decide)
  have h2 := h.mono (k := 0x20000000080000000000000000000000000020080080) (by decide)
  unfold State.refSelect
  repeat' first
    | with_reducible assumption
    | rfl
    | with_reducible apply State.enterHold_keeps h1
    | with_reducible apply State.leaveHold_keeps h2
    | with_reducible apply State.toTmiRef_keeps h2
    | with_reducible apply State.toAltRef_keeps h1
    | with_reducible apply h.inc
    | with_reducible apply keeps_ite
    | split

theorem State.writeGirCtrl_keeps (h : Keeps P 0x24ffe0000c0000000000000000000000000020080080) {s : State} (hs : P s) (a1) :
    P (State.writeGirCtrl s a1) := by
  have h1 := h.mono (k := 0xffe000000000000000000000000000000000000000) (by decide)
  have h2 := h.mono (k := 0x240000000c0000000000000000000000000020080080) (by decide)
  unfold State.writeGirCtrl
  repeat' first
    | with_reducible assumption
    | rfl
    | with_reducible apply State.girSnap_keeps h1
    | with_reducible apply State.refSelect_keeps h2
    | with_reducible apply h.take
    | extract_lets
    | with_reducible apply keeps_ite
    | fail_if_no_progress with_reducible refine h.upd ?_
    | split

theorem execForceHold_keeps (h : Keeps P 0x24ffe0000c0000000000000000000000000020082080) {s : State} (hs : P s) (a0) :
    Next P (execForceHold a0 s) := by
  have h1 := h.mono (k := 0x2000) (by decide)
  have h2 := h.mono (k := 0x24ffe0000c0000000000000000000000000020080080) (by decide)
  unfold execForceHold
  repeat' first
    | with_reducible assumption
    | (with_reducible apply access'_keeps h1 <;> [skip; intro _ _])
    | with_reducible apply State.writeGirCtrl_keeps h2

theorem State.sync_keeps (h : Keeps P 0x1001800080000000000000000000000000020000080) {s : State} (hs : P s) (a1 a2 a3 a4 a5) :
    P (State.sync s a1 a2 a3 a4 a5) := by
  have h1 := h.mono (k := 0x1000000000000000000000000000000000020000080) (by decide)
  have h2 := h.mono (k := 0x20000080) (by decide)
  have h3 := h.mono (k := 0x1000000080000000000000000000000000020000080) (by decide)
  unfold State.sync
  repeat' first
    | with_reducible assumption
    | rfl
    | with_reducible apply State.syncOwn_keeps h1
    | with_reducible apply State.breakCand_keeps h2
    | with_reducible apply State.syncOther_keeps h3
    | with_reducible apply h.putS
    | with_reducible apply h.put
    | extract_lets
    | with_reducible apply keeps_ite
    | split

theorem execSync_keeps (h : Keeps P 0x1001800080000000000000000000000000020880080) {s : State} (hs : P s) (a0 a1 a2 a3 a4) :
    Next P (execSync a0 a1 a2 a3 a4 s) := by
  have h1 := h.mono (k := 0x880000) (by decide)
  have h2 := h.mono (k := 0x1001800080000000000000000000000000020000080) (by decide)
  unfold execSync
  repeat' first
    | with_reducible assumption
    | with_reducible apply next_when
    | with_reducible apply State.tmoRepeat_keeps h1
    | with_reducible apply State.sync_keeps h2
    | extract_lets

theorem execGirSnap_keeps (h : Keeps P 0x24ffe0000c0000000000000000000000000020082080) {s : State} (hs : P s) (a0) :
    Next P (execGirSnap a0 s) := by
  have h1 := h.mono (k := 0x2000) (by decide)
  have h2 := h.mono (k := 0x24ffe0000c0000000000000000000000000020080080) (by decide)
  unfold execGirSnap
  repeat' first
    | with_reducible assumption
    | (with_reducible apply access'_keeps h1 <;> [skip; intro _ _])
    | with_reducible apply State.writeGirCtrl_keeps h2

theorem State.girthStrobe_keeps (h : Keeps P 0x3000030080000000000000000000000000020000080) {s : State} (hs : P s) (a1 a2) :
    P (State.girthStrobe s a1 a2) := by
  have h1 := h.mono (k := 0x30080000000000000000000000000020000080) (by decide)
  have h2 := h.mono (k := 0x80000000000000000000000000020000080) (by decide)
  have h3 := h.mono (k := 0x3000000080000000000000000000000000020000080) (by decide)
  have h4 := h.mono (k := 0x80) (by decide)
  unfold State.girthStrobe
  repeat' first
    | with_reducible assumption
    | with_reducible apply State.strobeLearn_keeps h1
    | with_reducible apply State.strobeSlew_keeps h2
    | with_reducible apply State.strobePend_keeps h3
    | with_reducible apply State.strobeAge_keeps h1
    | with_reducible apply State.strobeRebase_keeps h4
    | extract_lets
    | with_reducible apply keeps_ite
    | fail_if_no_progress with_reducible refine h.upd ?_
    | split

theorem State.refQualified_keeps (h : Keeps P 0x240000000c0000000000000000000000000020080080) {s : State} (hs : P s) (a1) :
    P (State.refQualified s a1) := by
  have h1 := h.mono (k := 0x80000000000000000000000000000000080) (by decide)
  unfold State.refQualified
  repeat' first
    | with_reducible assumption
    | with_reducible apply State.putInputOk_keeps h1
    | with_reducible apply State.refSelect_keeps h
    | extract_lets
    | fail_if_no_progress with_reducible refine h.upd ?_

theorem execRefInputQualified_keeps (h : Keeps P 0x240000000c0000000000000000000000000020080080) {s : State} (hs : P s) (a0) :
    Next P (execRefInputQualified a0 s) := by
  unfold execRefInputQualified
  repeat' first
    | with_reducible assumption
    | with_reducible apply next_when
    | with_reducible apply State.refQualified_keeps h

end Sys2Proof.Machine
end

