-- ==== Sys2Proof/Laws/KeepBridle.lean ====
section
/-! SUPPORT. What the operations of Machine/Bridle.lean keep. -/

set_option linter.unusedTactic false
set_option linter.unreachableTactic false

set_option Elab.async false

namespace Sys2Proof.Machine

variable {P : State → Prop} {m : Nat}

theorem State.countRuns_keeps (h : Keeps P 0x400) {s : State} (hs : P s) (a1) :
    P (State.countRuns s a1) := by
  have hl : s.bridle.runs.length = 5 → (((s.violations.zip (violationActive (s.get .BRD_STAT_STATE))).zip s.bridle.runs).map
      (fun p => if p.1.1 && p.1.2 then p.2 + 1 else 0)).length = 5 := by
    intro hx; simp [State.violations, violationActive, hx]
  exact h.upd hs (b2 := Bridle.shaped_of hl id id id id id id id)

theorem State.putLimits_keeps (h : Keeps P 0xffe000000000000000000000000000000000000000000000000000000000000000000000000) {s : State} (hs : P s) (a1) :
    P (State.putLimits s a1) := by
  have hr : ∀ r ∈ limRegs, Nat.testBit 0xffe000000000000000000000000000000000000000000000000000000000000000000000000 (32 + r.ctorIdx) = true := by decide
  unfold State.putLimits
  have : ∀ l : List (Reg × Nat), (∀ p ∈ l, p.1 ∈ limRegs) → ∀ t, P t → P (l.foldl (fun t p => t.setReg p.1 0 (BitVec.ofNat 32 p.2)) t) := by
    intro l
    induction l with
    | nil => intro _ t ht; exact ht
    | cons p l ih =>
      intro hl t ht
      exact ih (fun q hq => hl q (by simp [hq])) _ (h.setReg _ _ _ _ (hr _ (hl p (by simp))) ht)
  exact this _ (fun p hp => (List.of_mem_zip hp).1) _ hs

theorem execSunGuardRelease_keeps (h : Keeps P 0x40000000000000000000000000000000000000000000000000000000000000020000000) {s : State} (hs : P s) (a0) :
    Next P (execSunGuardRelease a0 s) := by
  have h1 := h.mono (k := 0x20000000) (by decide)
  unfold execSunGuardRelease
  repeat' first
    | with_reducible assumption
    | rfl
    | with_reducible apply next_when
    | with_reducible apply State.raise_keeps h1
    | with_reducible apply h.put
    | extract_lets
    | fail_if_no_progress with_reducible refine h.upd ?_
    | with_reducible refine keeps_of_fst (by assumption) ?_
    | with_reducible refine keeps_of_snd (by assumption) ?_
    | split
    | dsimp +zetaDelta only

theorem State.biasSet_keeps (h : Keeps P 0x400000000000000000000000000000000000000000000000000000000000000000000000) {s : State} (hs : P s) (a1) :
    P (State.biasSet s a1).1 := by
  unfold State.biasSet
  repeat' first
    | with_reducible assumption
    | rfl
    | with_reducible apply h.put

theorem State.setOutput_keeps (h : Keeps P 0x40000000000000000000000000000000000000000000000000000000000000000000400) {s : State} (hs : P s) (a1 a2) :
    P (State.setOutput s a1 a2) := by
  unfold State.setOutput
  repeat' first
    | with_reducible assumption
    | rfl
    | with_reducible apply h.putB
    | extract_lets
    | with_reducible apply keeps_ite
    | (with_reducible apply keeps_foldl; intro _ _ _)
    | (with_reducible apply keeps_foldl_fst; intro _ _ _)
    | fail_if_no_progress with_reducible refine h.upd ?_
    | with_reducible refine keeps_of_fst (by assumption) ?_
    | with_reducible refine keeps_of_snd (by assumption) ?_
    | split
    | exact id
    | exact fun _ => rfl
    | (intro hx; simpa [setAt] using hx)
    | (clear * -; decide +revert)
    | dsimp +zetaDelta only

theorem State.putDigest_keeps (h : Keeps P m) {s : State} (hs : P s) {f : Fld} (hf : m.testBit (32 + f.reg.ctorIdx) = true) {ws} :
    P (State.putDigest s f ws) := by
  unfold State.putDigest
  exact keeps_foldl (fun t _ ht => h.put hf ht) hs

theorem State.bootSection_keeps (h : Keeps P 0xffe040000000000000000000000000000000000000000000000000000000000000000000000) {s : State} (hs : P s) (a1) :
    P (State.bootSection s a1) := by
  have h1 := h.mono (k := 0xffe000000000000000000000000000000000000000000000000000000000000000000000000) (by decide)
  unfold State.bootSection
  repeat' first
    | with_reducible assumption
    | rfl
    | with_reducible apply State.putLimits_keeps h1
    | with_reducible apply h.putB
    | with_reducible apply h.put
    | extract_lets
    | with_reducible apply keeps_ite
    | split

theorem State.evalGuard_keeps (h : Keeps P 0x440000000000000000000000000000000000000000000000000000000000000020000400) {s : State} (hs : P s) (a1) :
    P (State.evalGuard s a1) := by
  have h1 := h.mono (k := 0x20000000) (by decide)
  unfold State.evalGuard
  repeat' first
    | with_reducible assumption
    | rfl
    | with_reducible apply State.raise_keeps h1
    | with_reducible apply h.put
    | extract_lets
    | with_reducible apply keeps_ite
    | fail_if_no_progress with_reducible refine h.upd ?_
    | split

theorem State.biasDown_keeps (h : Keeps P 0x40000000000000000000000000000000000000000000000000000000000000000000400) {s : State} (hs : P s) :
    P (State.biasDown s).1 := by
  unfold State.biasDown
  repeat' first
    | with_reducible assumption
    | rfl
    | with_reducible apply h.put
    | extract_lets
    | with_reducible apply keeps_ite
    | fail_if_no_progress with_reducible refine h.upd ?_
    | split

theorem execSummaryStale_keeps (h : Keeps P 0x440000000000000000000000000000000000000000000000000000000000000020000400) {s : State} (hs : P s) (a0) :
    Next P (execSummaryStale a0 s) := by
  unfold execSummaryStale
  repeat' first
    | with_reducible assumption
    | with_reducible apply next_when
    | with_reducible apply State.evalGuard_keeps h
    | extract_lets
    | fail_if_no_progress with_reducible refine h.upd ?_
    | with_reducible refine keeps_of_fst (by assumption) ?_
    | with_reducible refine keeps_of_snd (by assumption) ?_
    | split
    | dsimp +zetaDelta only

theorem State.showMonitors_keeps (h : Keeps P 0x240000000000000000000000000000000000000000000000000000000000000000000400) {s : State} (hs : P s) :
    P (State.showMonitors s) := by
  unfold State.showMonitors
  repeat' first
    | with_reducible assumption
    | rfl
    | with_reducible apply h.put
    | with_reducible apply h.putB
    | extract_lets
    | with_reducible apply keeps_ite
    | fail_if_no_progress with_reducible refine h.upd ?_
    | split

theorem execTestPulse_keeps (h : Keeps P 0x40000000000000000000000000000000000000000000000000000000000000000000400) {s : State} (hs : P s) (a0) :
    Next P (execTestPulse a0 s) := by
  unfold execTestPulse
  repeat' first
    | with_reducible assumption
    | with_reducible apply next_when
    | with_reducible apply State.setOutput_keeps h
    | extract_lets
    | fail_if_no_progress with_reducible refine h.upd ?_

theorem execKeyStuckClear_keeps (h : Keeps P 0x40000000000000000000000000000000000000000000000000000000000000000000000) {s : State} (hs : P s) :
    Next P (execKeyStuckClear s) := by
  unfold execKeyStuckClear
  repeat' first
    | with_reducible assumption
    | rfl
    | with_reducible apply next_when
    | with_reducible apply h.putB
    | extract_lets
    | fail_if_no_progress with_reducible refine h.upd ?_
    | with_reducible refine keeps_of_fst (by assumption) ?_
    | with_reducible refine keeps_of_snd (by assumption) ?_
    | split
    | dsimp +zetaDelta only

theorem execSummaryArrive_keeps (h : Keeps P 0x440000000000000000000000000000000000000000000000000000000000000020000400) {s : State} (hs : P s) (a0 a1 a2 a3) :
    Next P (execSummaryArrive a0 a1 a2 a3 s) := by
  unfold execSummaryArrive
  repeat' first
    | with_reducible assumption
    | with_reducible apply next_when
    | with_reducible apply State.evalGuard_keeps h
    | extract_lets
    | with_reducible apply keeps_ite
    | fail_if_no_progress with_reducible refine h.upd ?_
    | with_reducible refine keeps_of_fst (by assumption) ?_
    | with_reducible refine keeps_of_snd (by assumption) ?_
    | split
    | dsimp +zetaDelta only

theorem State.bridleOn_keeps (h : Keeps P 0x40000000000000000000000000000000000000000000000000000000000000000000400) {s : State} (hs : P s) :
    P (State.bridleOn s) := by
  unfold State.bridleOn
  repeat' first
    | with_reducible assumption
    | rfl
    | with_reducible apply h.putB
    | with_reducible apply h.put
    | extract_lets
    | with_reducible apply keeps_ite
    | fail_if_no_progress with_reducible refine h.upd ?_
    | split

theorem State.loseMonitor_keeps (h : Keeps P 0x100000000000000000000000000000000000000000000000000000000000000020000000) {s : State} (hs : P s) (a1) :
    P (State.loseMonitor s a1) := by
  have h1 := h.mono (k := 0x20000000) (by decide)
  unfold State.loseMonitor
  repeat' first
    | with_reducible assumption
    | rfl
    | with_reducible apply State.raise_keeps h1
    | with_reducible apply h.putB
    | with_reducible apply keeps_ite
    | split

theorem execSetpointRamp_keeps (h : Keeps P 0x400000000000000000000000000000000000000000000000000000000000000000000400) {s : State} (hs : P s) :
    Next P (execSetpointRamp s) := by
  unfold execSetpointRamp
  repeat' first
    | with_reducible assumption
    | rfl
    | with_reducible apply next_when
    | with_reducible apply h.put
    | extract_lets
    | with_reducible apply keeps_ite
    | (with_reducible apply keeps_foldl; intro _ _ _)
    | (with_reducible apply keeps_foldl_fst; intro _ _ _)
    | fail_if_no_progress with_reducible refine h.upd ?_
    | split

theorem execTestPulseEnd_keeps (h : Keeps P 0x40000000000000000000000000000000000000000000000000000000000000000000400) {s : State} (hs : P s) (a0) :
    Next P (execTestPulseEnd a0 s) := by
  unfold execTestPulseEnd
  repeat' first
    | with_reducible assumption
    | with_reducible apply next_when
    | with_reducible apply State.setOutput_keeps h
    | extract_lets
    | fail_if_no_progress with_reducible refine h.upd ?_
    | with_reducible refine keeps_of_fst (by assumption) ?_
    | with_reducible refine keeps_of_snd (by assumption) ?_
    | split
    | dsimp +zetaDelta only

theorem State.readmit_keeps (h : Keeps P 0x340000000000000000000000000000000000000000000000000000000000000000000400) {s : State} (hs : P s) :
    P (State.readmit s) := by
  have h1 := h.mono (k := 0x240000000000000000000000000000000000000000000000000000000000000000000400) (by decide)
  unfold State.readmit
  repeat' first
    | with_reducible assumption
    | rfl
    | with_reducible apply State.showMonitors_keeps h1
    | with_reducible apply h.putB
    | extract_lets
    | with_reducible apply keeps_ite
    | (with_reducible apply keeps_foldl; intro _ _ _)
    | (with_reducible apply keeps_foldl_fst; intro _ _ _)
    | split

theorem State.takeSample_keeps (h : Keeps P 0x100000000000000000000000000000000000000000000000000000000000000020000400) {s : State} (hs : P s) (a1 a2 a3 a4) :
    P (State.takeSample s a1 a2 a3 a4) := by
  have h1 := h.mono (k := 0x100000000000000000000000000000000000000000000000000000000000000020000000) (by decide)
  unfold State.takeSample
  repeat' first
    | with_reducible assumption
    | rfl
    | with_reducible apply State.loseMonitor_keeps h1
    | with_reducible apply h.putB
    | with_reducible apply h.put
    | extract_lets
    | with_reducible apply keeps_ite
    | (with_reducible apply keeps_foldl; intro _ _ _)
    | (with_reducible apply keeps_foldl_fst; intro _ _ _)
    | fail_if_no_progress with_reducible refine h.upd ?_
    | split

theorem execKeyStuck_keeps (h : Keeps P 0x40000000000000000000000000000000000000000000000000000000000000020000400) {s : State} (hs : P s) :
    Next P (execKeyStuck s) := by
  have h1 := h.mono (k := 0x20000000) (by decide)
  unfold execKeyStuck
  repeat' first
    | with_reducible assumption
    | rfl
    | with_reducible apply next_when
    | with_reducible apply State.raise_keeps h1
    | with_reducible apply h.putB
    | extract_lets
    | fail_if_no_progress with_reducible refine h.upd ?_

theorem State.bridleOff_keeps (h : Keeps P 0x440000000000000000000000000000000000000000000000000000000000000000000400) {s : State} (hs : P s) :
    P (State.bridleOff s) := by
  unfold State.bridleOff
  repeat' first
    | with_reducible assumption
    | rfl
    | with_reducible apply State.bridleSafe_keeps h
    | with_reducible apply h.put

theorem State.reloadDone_keeps (h : Keeps P 0x90000000040000000000000000000000000000000000000000000000000000000000000000000000004000) {s : State} (hs : P s) (a1 a2 a3 a4 a5) :
    P (State.reloadDone s a1 a2 a3 a4 a5) := by
  have h1 := h.mono (k := 0x4000) (by decide)
  unfold State.reloadDone
  repeat' first
    | with_reducible assumption
    | rfl
    | with_reducible apply State.putDigest_keeps h
    | with_reducible apply State.item_keeps h1
    | with_reducible apply h.inc
    | extract_lets

theorem State.biasOffNow_keeps (h : Keeps P 0x4c0000000000000000000000000000000000000000000000000000000000000000000400) {s : State} (hs : P s) :
    P (State.biasOffNow s).1 := by
  have h1 := h.mono (k := 0x440000000000000000000000000000000000000000000000000000000000000000000400) (by decide)
  unfold State.biasOffNow
  repeat' first
    | with_reducible assumption
    | rfl
    | with_reducible apply State.bridleSafe_keeps h1
    | with_reducible apply State.bridleOff_keeps h1
    | with_reducible apply h.put
    | with_reducible apply keeps_ite
    | split

theorem State.takeSection_keeps (h : Keeps P 0x90000000040ffe440000000000000000000000000000000000000000000000000000000000000020004400) {s : State} (hs : P s) :
    P (State.takeSection s) := by
  have h1 := h.mono (k := 0x90000000040000000000000000000000000000000000000000000000000000000000000000000000004000) (by decide)
  have h2 := h.mono (k := 0x440000000000000000000000000000000000000000000000000000000000000020000400) (by decide)
  have h3 := h.mono (k := 0xffe000000000000000000000000000000000000000000000000000000000000000000000000) (by decide)
  unfold State.takeSection
  repeat' first
    | with_reducible assumption
    | rfl
    | with_reducible apply State.reloadDone_keeps h1
    | with_reducible apply State.evalGuard_keeps h2
    | with_reducible apply State.putLimits_keeps h3
    | with_reducible apply h.putB
    | extract_lets
    | with_reducible apply keeps_ite
    | (with_reducible apply keeps_foldl; intro _ _ _)
    | (with_reducible apply keeps_foldl_fst; intro _ _ _)
    | fail_if_no_progress with_reducible refine h.upd ?_
    | with_reducible refine keeps_of_fst (by assumption) ?_
    | with_reducible refine keeps_of_snd (by assumption) ?_
    | split
    | dsimp +zetaDelta only

theorem State.biasOn_keeps (h : Keeps P 0x1040000000000000000000000000000000000000000000000000000000000000020000400) {s : State} (hs : P s) :
    P (State.biasOn s).1 := by
  have h1 := h.mono (k := 0x40000000000000000000000000000000000000000000000000000000000000000000400) (by decide)
  have h2 := h.mono (k := 0x20000000) (by decide)
  unfold State.biasOn
  repeat' first
    | with_reducible assumption
    | rfl
    | with_reducible apply State.bridleOn_keeps h1
    | with_reducible apply State.raise_keeps h2
    | with_reducible apply h.put
    | with_reducible apply h.inc
    | with_reducible apply keeps_ite
    | split

theorem State.keyPress_keeps (h : Keeps P 0x90000000040fff740000000000000000000000000000000000000000000000000000000000000020004400) {s : State} (hs : P s) :
    P (State.keyPress s) := by
  have h1 := h.mono (k := 0x340000000000000000000000000000000000000000000000000000000000000000000400) (by decide)
  have h2 := h.mono (k := 0x90000000040ffe440000000000000000000000000000000000000000000000000000000000000020004400) (by decide)
  have h3 := h.mono (k := 0x20000000) (by decide)
  unfold State.keyPress
  repeat' first
    | with_reducible assumption
    | rfl
    | with_reducible apply State.readmit_keeps h1
    | with_reducible apply State.takeSection_keeps h2
    | with_reducible apply State.raise_keeps h3
    | with_reducible apply h.put
    | with_reducible apply h.inc
    | extract_lets
    | with_reducible apply keeps_ite
    | split

theorem State.judgeDisc_keeps (h : Keeps P 0x100000000000000000000000000000000000000000000000000000000000000020000400) {s : State} (hs : P s) :
    P (State.judgeDisc s).1 := by
  have h1 := h.mono (k := 0x100000000000000000000000000000000000000000000000000000000000000020000000) (by decide)
  unfold State.judgeDisc
  repeat' first
    | with_reducible assumption
    | with_reducible apply State.loseMonitor_keeps h1
    | extract_lets
    | with_reducible apply keeps_ite
    | (with_reducible apply keeps_foldl; intro _ _ _)
    | (with_reducible apply keeps_foldl_fst; intro _ _ _)
    | fail_if_no_progress with_reducible refine h.upd ?_
    | with_reducible refine keeps_of_fst (by assumption) ?_
    | with_reducible refine keeps_of_snd (by assumption) ?_
    | split
    | dsimp +zetaDelta only

theorem execDescentTimeout_keeps (h : Keeps P 0x440000000000000000000000000000000000000000000000000000000000000000000400) {s : State} (hs : P s) :
    Next P (execDescentTimeout s) := by
  unfold execDescentTimeout
  repeat' first
    | with_reducible assumption
    | with_reducible apply next_when
    | with_reducible apply State.bridleOff_keeps h

theorem execKeyRelease_keeps (h : Keeps P 0x90000000040fff740000000000000000000000000000000000000000000000000000000000000020004400) {s : State} (hs : P s) (a0) :
    Next P (execKeyRelease a0 s) := by
  unfold execKeyRelease
  repeat' first
    | with_reducible assumption
    | with_reducible apply next_when
    | with_reducible apply State.keyPress_keeps h
    | extract_lets
    | with_reducible apply keeps_ite
    | fail_if_no_progress with_reducible refine h.upd ?_
    | split

theorem execBsetFrame_keeps (h : Keeps P 0x10800400) {s : State} (hs : P s) (a0) :
    Next P (execBsetFrame a0 s) := by
  have h1 := h.mono (k := 0x10800000) (by decide)
  unfold execBsetFrame
  repeat' first
    | with_reducible assumption
    | with_reducible apply next_when
    | with_reducible apply State.send_keeps h1
    | extract_lets
    | fail_if_no_progress with_reducible refine h.upd ?_

theorem State.bridleSample_keeps (h : Keeps P 0x740000000000000000000000000000000000000000000000000000000000000020000400) {s : State} (hs : P s) (a1 a2 a3 a4 a5) :
    P (State.bridleSample s a1 a2 a3 a4 a5) := by
  have h1 := h.mono (k := 0x100000000000000000000000000000000000000000000000000000000000000020000400) (by decide)
  have h2 := h.mono (k := 0x240000000000000000000000000000000000000000000000000000000000000000000400) (by decide)
  have h3 := h.mono (k := 0x400) (by decide)
  have h4 := h.mono (k := 0x440000000000000000000000000000000000000000000000000000000000000020000400) (by decide)
  have h5 := h.mono (k := 0x20000000) (by decide)
  have h6 := h.mono (k := 0x440000000000000000000000000000000000000000000000000000000000000000000400) (by decide)
  unfold State.bridleSample
  repeat' first
    | with_reducible assumption
    | with_reducible apply State.takeSample_keeps h1
    | with_reducible apply State.judgeDisc_keeps h1
    | with_reducible apply State.showMonitors_keeps h2
    | with_reducible apply State.countRuns_keeps h3
    | with_reducible apply State.bridleTrip_keeps h4
    | with_reducible apply State.raise_keeps h5
    | with_reducible apply State.bridleOff_keeps h6
    | extract_lets
    | with_reducible apply keeps_ite
    | (with_reducible apply keeps_foldl; intro _ _ _)
    | (with_reducible apply keeps_foldl_fst; intro _ _ _)
    | with_reducible refine keeps_of_fst (by assumption) ?_
    | with_reducible refine keeps_of_snd (by assumption) ?_
    | split

theorem execFeedbackCheck_keeps (h : Keeps P 0xc40000000000000000000000000000000000000000000000000000000000000020000400) {s : State} (hs : P s) (a0 a1) :
    Next P (execFeedbackCheck a0 a1 s) := by
  have h1 := h.mono (k := 0x440000000000000000000000000000000000000000000000000000000000000020000400) (by decide)
  have h2 := h.mono (k := 0x20000000) (by decide)
  unfold execFeedbackCheck
  repeat' first
    | with_reducible assumption
    | rfl
    | with_reducible apply next_when
    | with_reducible apply next_next
    | with_reducible exact next_fault
    | with_reducible exact next_refused
    | with_reducible apply State.bridleTrip_keeps h1
    | with_reducible apply State.raise_keeps h2
    | with_reducible apply h.putB
    | with_reducible apply h.inc
    | extract_lets
    | with_reducible apply keeps_ite
    | (with_reducible apply keeps_foldl; intro _ _ _)
    | (with_reducible apply keeps_foldl_fst; intro _ _ _)
    | fail_if_no_progress with_reducible refine h.upd ?_
    | with_reducible refine keeps_of_fst (by assumption) ?_
    | with_reducible refine keeps_of_snd (by assumption) ?_
    | split
    | exact id
    | exact fun _ => rfl
    | (intro hx; simpa [setAt] using hx)
    | (clear * -; decide +revert)
    | dsimp +zetaDelta only

theorem State.degUse_keeps (h : Keeps P 0x640000000000000000000000000000000000000000000000000000000000000020000400) {s : State} (hs : P s) (a1) :
    P (State.degUse s a1) := by
  have h1 := h.mono (k := 0x440000000000000000000000000000000000000000000000000000000000000020000400) (by decide)
  have h2 := h.mono (k := 0x20000000) (by decide)
  unfold State.degUse
  repeat' first
    | with_reducible assumption
    | rfl
    | with_reducible apply State.bridleTrip_keeps h1
    | with_reducible apply State.raise_keeps h2
    | with_reducible apply h.put
    | extract_lets
    | with_reducible apply keeps_ite
    | split

theorem execBridleSample_keeps (h : Keeps P 0x740000000000000000000000000000000000000000000000000000000000000020000400) {s : State} (hs : P s) (a0 a1 a2 a3 a4) :
    Next P (execBridleSample a0 a1 a2 a3 a4 s) := by
  unfold execBridleSample
  repeat' first
    | with_reducible assumption
    | with_reducible apply next_when
    | with_reducible apply State.bridleSample_keeps h
    | extract_lets
    | fail_if_no_progress with_reducible refine h.upd ?_

theorem execDegTick_keeps (h : Keeps P 0x640000000000000000000000000000000000000000000000000000000000000020000400) {s : State} (hs : P s) :
    Next P (execDegTick s) := by
  unfold execDegTick
  repeat' first
    | with_reducible assumption
    | with_reducible apply next_when
    | with_reducible apply State.degUse_keeps h
    | extract_lets
    | fail_if_no_progress with_reducible refine h.upd ?_

end Sys2Proof.Machine
end

