-- ==== Sys2Proof/Laws/KeepBlocks.lean ====
section
/-! SUPPORT. What the operations of Machine/Blocks.lean keep. -/

set_option linter.unusedTactic false
set_option linter.unreachableTactic false

set_option Elab.async false

namespace Sys2Proof.Machine

variable {P : State → Prop} {m : Nat}

theorem State.poisonFrames_keeps (h : Keeps P 0x80000) {s : State} (hs : P s) (a1 a2 a3 a4) :
    P (State.poisonFrames s a1 a2 a3 a4) := by
  unfold State.poisonFrames
  repeat' first
    | with_reducible assumption
    | extract_lets
    | with_reducible apply keeps_ite
    | fail_if_no_progress with_reducible refine h.upd ?_
    | split

theorem State.poisonForwarded_keeps (h : Keeps P 0xc0000) {s : State} (hs : P s) (a1 a2 a3) :
    P (State.poisonForwarded s a1 a2 a3) := by
  have h1 := h.mono (k := 0x80000) (by decide)
  unfold State.poisonForwarded
  repeat' first
    | with_reducible assumption
    | with_reducible apply State.poisonFrames_keeps h1
    | extract_lets
    | with_reducible apply keeps_ite
    | fail_if_no_progress with_reducible refine h.upd ?_
    | split

theorem State.poisonSlot_keeps (h : Keeps P 0xd4000) {s : State} (hs : P s) (a1 a2) :
    P (State.poisonSlot s a1 a2) := by
  have h1 := h.mono (k := 0x80000) (by decide)
  unfold State.poisonSlot
  repeat' first
    | with_reducible assumption
    | with_reducible apply State.poisonFrames_keeps h1
    | extract_lets
    | with_reducible apply keeps_ite
    | fail_if_no_progress with_reducible refine h.upd ?_
    | split

end Sys2Proof.Machine
end

