-- ==== Sys2Proof/Laws/KeepDies.lean ====
section
/-! SUPPORT. What the operations of Machine/Dies.lean keep. -/

set_option linter.unusedTactic false
set_option linter.unreachableTactic false

set_option Elab.async false

namespace Sys2Proof.Machine

variable {P : State → Prop} {m : Nat}

theorem State.retPut_keeps (h : Keeps P 0x80000) {s : State} (hs : P s) (a1 a2) :
    P (State.retPut s a1 a2) := by
  unfold State.retPut
  repeat' first
    | with_reducible assumption
    | extract_lets
    | fail_if_no_progress with_reducible refine h.upd ?_

theorem State.slotDieLeft_keeps (h : Keeps P 0x4000) {s : State} (hs : P s) (a1) :
    P (State.slotDieLeft s a1) := by
  unfold State.slotDieLeft
  repeat' first
    | with_reducible assumption
    | extract_lets
    | with_reducible apply keeps_ite
    | fail_if_no_progress with_reducible refine h.upd ?_
    | split

theorem State.slotDieGone_keeps (h : Keeps P 0x4000) {s : State} (hs : P s) (a1) :
    P (State.slotDieGone s a1) := by
  unfold State.slotDieGone
  repeat' first
    | with_reducible assumption
    | extract_lets
    | with_reducible apply keeps_ite
    | fail_if_no_progress with_reducible refine h.upd ?_
    | split

theorem State.csPush_keeps (h : Keeps P 0x20) {s : State} (hs : P s) (a1 a2) :
    P (State.csPush s a1 a2) := by
  unfold State.csPush
  repeat' first
    | with_reducible assumption
    | with_reducible apply h.setQuad rfl
    | extract_lets
    | fail_if_no_progress with_reducible refine h.upd ?_

theorem State.formPrim_keeps (h : Keeps P 0x20) {s : State} (hs : P s) (a1 a2) :
    P (State.formPrim s a1 a2) := by
  unfold State.formPrim
  repeat' first
    | with_reducible assumption
    | with_reducible apply State.csPush_keeps h
    | with_reducible apply h.setQuad rfl
    | extract_lets
    | fail_if_no_progress with_reducible refine h.upd ?_
    | with_reducible refine keeps_of_fst (by assumption) ?_
    | with_reducible refine keeps_of_snd (by assumption) ?_
    | split
    | dsimp +zetaDelta only

theorem State.raiseDie_keeps (h : Keeps P 0x100000000000000000000000000000000000000000000000000000000000000000000000000000028) {s : State} (hs : P s) (a1 a2 a3) :
    P (State.raiseDie s a1 a2 a3) := by
  have h1 := h.mono (k := 0x20) (by decide)
  unfold State.raiseDie
  repeat' first
    | with_reducible assumption
    | rfl
    | with_reducible apply State.csPush_keeps h1
    | with_reducible apply h.put
    | with_reducible apply h.setDie rfl
    | extract_lets
    | with_reducible apply keeps_ite
    | fail_if_no_progress with_reducible refine h.upd ?_
    | split

theorem State.replayHeld_keeps (h : Keeps P 0x28) {s : State} (hs : P s) (a1) :
    P (State.replayHeld s a1) := by
  have h1 := h.mono (k := 0x20) (by decide)
  unfold State.replayHeld
  repeat' first
    | with_reducible assumption
    | with_reducible apply State.csPush_keeps h1
    | with_reducible apply h.setDie rfl
    | extract_lets
    | with_reducible apply keeps_ite
    | (with_reducible apply keeps_foldl; intro _ _ _)
    | (with_reducible apply keeps_foldl_fst; intro _ _ _)
    | fail_if_no_progress with_reducible refine h.upd ?_
    | split

theorem State.formPrims_keeps (h : Keeps P 0x20) {s : State} (hs : P s) (a1) :
    P (State.formPrims s a1) := by
  unfold State.formPrims
  repeat' first
    | with_reducible assumption
    | with_reducible apply State.formPrim_keeps h
    | with_reducible apply h.setQuad rfl
    | extract_lets
    | with_reducible apply keeps_ite
    | (with_reducible apply keeps_foldl; intro _ _ _)
    | (with_reducible apply keeps_foldl_fst; intro _ _ _)
    | fail_if_no_progress with_reducible refine h.upd ?_
    | split

end Sys2Proof.Machine
end

