-- ==== Sys2Proof/Laws/KeepLanes.lean ====
section
/-! SUPPORT. What the operations of Machine/Lanes.lean keep. -/

set_option linter.unusedTactic false
set_option linter.unreachableTactic false

set_option Elab.async false

namespace Sys2Proof.Machine

variable {P : State → Prop} {m : Nat}

theorem State.setOutQ_keeps (h : Keeps P 0x80000) {s : State} (hs : P s) (a1 a2) :
    P (State.setOutQ s a1 a2) := by
  unfold State.setOutQ
  repeat' first
    | with_reducible assumption
    | extract_lets
    | with_reducible apply keeps_ite
    | fail_if_no_progress with_reducible refine h.upd ?_
    | split

theorem State.setStream_keeps (h : Keeps P 0x80000) {s : State} (hs : P s) (a1 a2) :
    P (State.setStream s a1 a2) := by
  unfold State.setStream
  repeat' first
    | with_reducible assumption
    | extract_lets
    | fail_if_no_progress with_reducible refine h.upd ?_

theorem State.putClock_keeps (h : Keeps P 0x80000) {s : State} (hs : P s) (a1 a2) :
    P (State.putClock s a1 a2) := by
  unfold State.putClock
  repeat' first
    | with_reducible assumption
    | extract_lets
    | fail_if_no_progress with_reducible refine h.upd ?_

theorem State.putAcount_keeps (h : Keeps P 0x80000) {s : State} (hs : P s) (a1 a2) :
    P (State.putAcount s a1 a2) := by
  unfold State.putAcount
  repeat' first
    | with_reducible assumption
    | extract_lets
    | fail_if_no_progress with_reducible refine h.upd ?_

theorem State.farClear_keeps (h : Keeps P 0x80000) {s : State} (hs : P s) (a1) :
    P (State.farClear s a1) := by
  unfold State.farClear
  repeat' first
    | with_reducible assumption
    | extract_lets
    | with_reducible apply keeps_ite
    | fail_if_no_progress with_reducible refine h.upd ?_
    | split

theorem State.countSent_keeps (h : Keeps P 0x80000) {s : State} (hs : P s) (a1) :
    P (State.countSent s a1) := by
  unfold State.countSent
  repeat' first
    | with_reducible assumption
    | extract_lets
    | with_reducible apply keeps_ite
    | fail_if_no_progress with_reducible refine h.upd ?_
    | split

theorem State.enterRun_keeps (h : Keeps P 0x1) {s : State} (hs : P s) :
    P (State.enterRun s) := by
  unfold State.enterRun
  repeat' first
    | with_reducible assumption
    | extract_lets
    | with_reducible apply keeps_ite
    | fail_if_no_progress with_reducible refine h.upd ?_
    | split

theorem State.countMinor_keeps (h : Keeps P 0x1a0000000000000000000000000000000000020080000) {s : State} (hs : P s) (a1 a2) :
    P (State.countMinor s a1 a2) := by
  have h1 := h.mono (k := 0x20000000) (by decide)
  unfold State.countMinor
  repeat' first
    | with_reducible assumption
    | rfl
    | with_reducible apply State.raise_keeps h1
    | with_reducible apply h.inc
    | with_reducible apply h.putB
    | extract_lets
    | with_reducible apply keeps_ite
    | (with_reducible apply keeps_foldl; intro _ _ _)
    | (with_reducible apply keeps_foldl_fst; intro _ _ _)
    | fail_if_no_progress with_reducible refine h.upd ?_
    | with_reducible refine keeps_of_fst (by assumption) ?_
    | with_reducible refine keeps_of_snd (by assumption) ?_
    | split
    | exact id
    | exact fun _ => rfl
    | (intro hx; simpa [setAt] using hx)
    | (clear * -; decide +revert)
    | dsimp +zetaDelta only

theorem State.laneSlip_keeps (h : Keeps P 0x10000000000000000000000000000000000000020000000) {s : State} (hs : P s) (a1) :
    P (State.laneSlip s a1) := by
  have h1 := h.mono (k := 0x20000000) (by decide)
  unfold State.laneSlip
  repeat' first
    | with_reducible assumption
    | rfl
    | with_reducible apply State.raise_keeps h1
    | with_reducible apply h.inc
    | with_reducible apply h.putB
    | with_reducible apply h.put
    | extract_lets
    | with_reducible apply keeps_ite
    | split

theorem execEventRaise_keeps (h : Keeps P 0x20000000) {s : State} (hs : P s) (a0 a1) :
    Next P (execEventRaise a0 a1 s) := by
  unfold execEventRaise
  repeat' first
    | with_reducible assumption
    | with_reducible apply next_when
    | with_reducible apply State.raise_keeps h

theorem execBadControlBlock_keeps (h : Keeps P 0x20800000000000000000000000000000000000020000000) {s : State} (hs : P s) (a0 a1) :
    Next P (execBadControlBlock a0 a1 s) := by
  have h1 := h.mono (k := 0x20000000) (by decide)
  unfold execBadControlBlock
  repeat' first
    | with_reducible assumption
    | rfl
    | with_reducible apply next_when
    | with_reducible apply State.raise_keeps h1
    | with_reducible apply h.inc
    | with_reducible apply keeps_ite
    | split

theorem State.portUp_keeps (h : Keeps P 0x20000000000000000400000000000000000020000000) {s : State} (hs : P s) (a1) :
    P (State.portUp s a1) := by
  have h1 := h.mono (k := 0x20000000) (by decide)
  unfold State.portUp
  repeat' first
    | with_reducible assumption
    | rfl
    | with_reducible apply State.raise_keeps h1
    | with_reducible apply h.put
    | extract_lets
    | with_reducible apply keeps_ite
    | (with_reducible apply keeps_foldl; intro _ _ _)
    | (with_reducible apply keeps_foldl_fst; intro _ _ _)
    | fail_if_no_progress with_reducible refine h.upd ?_
    | with_reducible refine keeps_of_fst (by assumption) ?_
    | with_reducible refine keeps_of_snd (by assumption) ?_
    | split
    | exact id
    | exact fun _ => rfl
    | (intro hx; simpa [setAt] using hx)
    | (clear * -; decide +revert)
    | dsimp +zetaDelta only

theorem execDieEventWord_keeps (h : Keeps P 0x20000000) {s : State} (hs : P s) (a0 a1) :
    Next P (execDieEventWord a0 a1 s) := by
  unfold execDieEventWord
  repeat' first
    | with_reducible assumption
    | with_reducible apply next_when
    | with_reducible apply State.raiseReplay_keeps h
    | with_reducible apply State.raise_keeps h
    | extract_lets
    | with_reducible apply keeps_ite
    | split

theorem State.laneEnable_keeps (h : Keeps P 0x18000000000000000000000000000000000000000000000) {s : State} (hs : P s) (a1) :
    P (State.laneEnable s a1) := by
  unfold State.laneEnable
  repeat' first
    | with_reducible assumption
    | rfl
    | with_reducible apply h.putB
    | with_reducible apply h.put
    | extract_lets
    | with_reducible apply keeps_ite
    | split

theorem State.tmiUnlock_keeps (h : Keeps P 0x20000000) {s : State} (hs : P s) (a1) :
    P (State.tmiUnlock s a1) := by
  unfold State.tmiUnlock
  repeat' first
    | with_reducible assumption
    | with_reducible apply State.raise_keeps h
    | with_reducible apply keeps_ite
    | split

theorem execSlip_keeps (h : Keeps P 0x10000000000000000000000000000000000000020002000) {s : State} (hs : P s) (a0) :
    Next P (execSlip a0 s) := by
  have h1 := h.mono (k := 0x2000) (by decide)
  have h2 := h.mono (k := 0x10000000000000000000000000000000000000020000000) (by decide)
  unfold execSlip
  repeat' first
    | with_reducible assumption
    | (with_reducible apply access'_keeps h1 <;> [skip; intro _ _])
    | with_reducible apply State.laneSlip_keeps h2

theorem State.builderFails_keeps (h : Keeps P 0x20000000000000000000000000000000000020080000) {s : State} (hs : P s) (a1) :
    P (State.builderFails s a1) := by
  have h1 := h.mono (k := 0x20000000) (by decide)
  have h2 := h.mono (k := 0x80000) (by decide)
  unfold State.builderFails
  repeat' first
    | with_reducible assumption
    | rfl
    | with_reducible apply State.raise_keeps h1
    | with_reducible apply State.setStream_keeps h2
    | with_reducible apply State.setOutQ_keeps h2
    | with_reducible apply h.putB
    | extract_lets
    | with_reducible apply keeps_ite
    | (with_reducible apply keeps_foldl; intro _ _ _)
    | (with_reducible apply keeps_foldl_fst; intro _ _ _)
    | fail_if_no_progress with_reducible refine h.upd ?_
    | with_reducible refine keeps_of_fst (by assumption) ?_
    | with_reducible refine keeps_of_snd (by assumption) ?_
    | split
    | exact id
    | exact fun _ => rfl
    | (intro hx; simpa [setAt] using hx)
    | (clear * -; decide +revert)
    | dsimp +zetaDelta only

theorem State.checkerCount_keeps (h : Keeps P 0x140000000000000000000000000000000000000020000000) {s : State} (hs : P s) (a1 a2 a3) :
    P (State.checkerCount s a1 a2 a3) := by
  have h1 := h.mono (k := 0x20000000) (by decide)
  unfold State.checkerCount
  repeat' first
    | with_reducible assumption
    | rfl
    | with_reducible apply State.raise_keeps h1
    | with_reducible apply h.inc
    | extract_lets
    | with_reducible apply keeps_ite
    | split

theorem State.borderLost_keeps (h : Keeps P 0x40000000000020008000) {s : State} (hs : P s) (a1) :
    P (State.borderLost s a1) := by
  have h1 := h.mono (k := 0x20000000) (by decide)
  unfold State.borderLost
  repeat' first
    | with_reducible assumption
    | rfl
    | with_reducible apply State.raise_keeps h1
    | with_reducible apply h.put
    | extract_lets
    | with_reducible apply keeps_ite
    | fail_if_no_progress with_reducible refine h.upd ?_
    | split

theorem State.eqAdapt_keeps (h : Keeps P 0x10000000000000000000000000000000000000020000000) {s : State} (hs : P s) (a1 a2 a3 a4 a5) :
    P (State.eqAdapt s a1 a2 a3 a4 a5) := by
  have h1 := h.mono (k := 0x20000000) (by decide)
  unfold State.eqAdapt
  repeat' first
    | with_reducible assumption
    | rfl
    | with_reducible apply State.raise_keeps h1
    | with_reducible apply h.putB
    | with_reducible apply h.put
    | extract_lets
    | with_reducible apply keeps_ite
    | split

theorem State.portDown_keeps (h : Keeps P 0x20000000000000000400000040000000000020088000) {s : State} (hs : P s) (a1 a2) :
    P (State.portDown s a1 a2) := by
  have h1 := h.mono (k := 0x80000) (by decide)
  have h2 := h.mono (k := 0x20000000) (by decide)
  have h3 := h.mono (k := 0x40000000000020008000) (by decide)
  unfold State.portDown
  repeat' first
    | with_reducible assumption
    | rfl
    | with_reducible apply State.putAcount_keeps h1
    | with_reducible apply State.raise_keeps h2
    | with_reducible apply State.borderLost_keeps h3
    | with_reducible apply h.put
    | extract_lets
    | with_reducible apply keeps_ite
    | (with_reducible apply keeps_foldl; intro _ _ _)
    | (with_reducible apply keeps_foldl_fst; intro _ _ _)
    | fail_if_no_progress with_reducible refine h.upd ?_
    | with_reducible refine keeps_of_fst (by assumption) ?_
    | with_reducible refine keeps_of_snd (by assumption) ?_
    | split
    | exact id
    | exact fun _ => rfl
    | (intro hx; simpa [setAt] using hx)
    | (clear * -; decide +revert)
    | dsimp +zetaDelta only

theorem execSlipRequest_keeps (h : Keeps P 0x10000000000000000000000000000000000000020000000) {s : State} (hs : P s) (a0) :
    Next P (execSlipRequest a0 s) := by
  have h1 := h.mono (k := 0x20000000) (by decide)
  unfold execSlipRequest
  repeat' first
    | with_reducible assumption
    | rfl
    | with_reducible apply next_when
    | with_reducible apply State.raise_keeps h1
    | with_reducible apply h.putB

theorem execPortUp_keeps (h : Keeps P 0x20000000000000000400000000000000000020000000) {s : State} (hs : P s) (a0 a1) :
    Next P (execPortUp a0 a1 s) := by
  unfold execPortUp
  repeat' first
    | with_reducible assumption
    | with_reducible apply next_when
    | with_reducible apply State.portUp_keeps h

theorem execTmiMessageDiscard_keeps (h : Keeps P 0x1800000000000000000000000000000000000020880000) {s : State} (hs : P s) (a0 a1 a3) :
    Next P (execTmiMessageDiscard a0 a1 s a3) := by
  have h1 := h.mono (k := 0x880000) (by decide)
  have h2 := h.mono (k := 0x20000000) (by decide)
  unfold execTmiMessageDiscard
  repeat' first
    | with_reducible assumption
    | rfl
    | with_reducible apply next_when
    | with_reducible apply State.tmoEnded_keeps h1
    | with_reducible apply State.raise_keeps h2
    | with_reducible apply h.inc
    | extract_lets
    | fail_if_no_progress with_reducible refine h.upd ?_
    | with_reducible refine keeps_of_fst (by assumption) ?_
    | with_reducible refine keeps_of_snd (by assumption) ?_
    | split
    | dsimp +zetaDelta only

theorem State.groupMode_keeps (h : Keeps P 0x20000000000000000000000000000000000000080000) {s : State} (hs : P s) :
    P (State.groupMode s) := by
  unfold State.groupMode
  repeat' first
    | with_reducible assumption
    | rfl
    | with_reducible apply h.putB
    | extract_lets
    | with_reducible apply keeps_ite
    | fail_if_no_progress with_reducible refine h.upd ?_
    | split

theorem State.writeShlCtrl_keeps (h : Keeps P 0x200000000000000000000000000000000000000000000000) {s : State} (hs : P s) (a1 a2) :
    P (State.writeShlCtrl s a1 a2) := by
  unfold State.writeShlCtrl
  repeat' first
    | with_reducible assumption
    | rfl
    | with_reducible apply h.take
    | with_reducible apply keeps_ite
    | split

theorem State.clockBack_keeps (h : Keeps P 0x410000000000080000000000000000000000000000080080) {s : State} (hs : P s) (a1) :
    P (State.clockBack s a1) := by
  have h1 := h.mono (k := 0x80000) (by decide)
  have h2 := h.mono (k := 0x80000000000000000000000000000000080) (by decide)
  unfold State.clockBack
  repeat' first
    | with_reducible assumption
    | rfl
    | with_reducible apply State.putClock_keeps h1
    | with_reducible apply State.putInputOk_keeps h2
    | with_reducible apply h.put
    | with_reducible apply h.putB
    | extract_lets
    | with_reducible apply keeps_ite
    | (with_reducible apply keeps_foldl; intro _ _ _)
    | (with_reducible apply keeps_foldl_fst; intro _ _ _)
    | split

theorem State.laneGone_keeps (h : Keeps P 0x20000000000000000000000000000000000020084000) {s : State} (hs : P s) (a1) :
    P (State.laneGone s a1) := by
  have h1 := h.mono (k := 0x4000) (by decide)
  have h2 := h.mono (k := 0x80000) (by decide)
  have h3 := h.mono (k := 0x20000000) (by decide)
  unfold State.laneGone
  repeat' first
    | with_reducible assumption
    | rfl
    | (unfold portFld; split <;> rfl)
    | with_reducible apply State.slotDieGone_keeps h1
    | with_reducible apply State.putAcount_keeps h2
    | with_reducible apply State.tmiUnlock_keeps h3
    | with_reducible apply h.put
    | extract_lets
    | with_reducible apply keeps_ite
    | (with_reducible apply keeps_foldl; intro _ _ _)
    | (with_reducible apply keeps_foldl_fst; intro _ _ _)
    | fail_if_no_progress with_reducible refine h.upd ?_
    | with_reducible refine keeps_of_fst (by assumption) ?_
    | with_reducible refine keeps_of_snd (by assumption) ?_
    | split
    | exact id
    | exact fun _ => rfl
    | (intro hx; simpa [setAt] using hx)
    | (clear * -; decide +revert)
    | dsimp +zetaDelta only

theorem execLaneClockReturn_keeps (h : Keeps P 0x410000000000080000000000000000000000000000080080) {s : State} (hs : P s) (a0) :
    Next P (execLaneClockReturn a0 s) := by
  unfold execLaneClockReturn
  repeat' first
    | with_reducible assumption
    | with_reducible apply next_when
    | with_reducible apply State.clockBack_keeps h

theorem State.lockLost_keeps (h : Keeps P 0x30020000000000000000000000000000000000020084000) {s : State} (hs : P s) (a1 a2) :
    P (State.lockLost s a1 a2) := by
  have h1 := h.mono (k := 0x20000000000000000000000000000000000020084000) (by decide)
  unfold State.lockLost
  repeat' first
    | with_reducible assumption
    | rfl
    | with_reducible apply State.laneGone_keeps h1
    | with_reducible apply h.inc
    | with_reducible apply h.put

theorem State.retLost_keeps (h : Keeps P 0x100000000000000000000000000000000c00000000000000000000000000000000000000000080028) {s : State} (hs : P s) (a1 a2) :
    P (State.retLost s a1 a2) := by
  have h1 := h.mono (k := 0x100000000000000000000000000000000000000000000000000000000000000000000000000000028) (by decide)
  unfold State.retLost
  repeat' first
    | with_reducible assumption
    | rfl
    | with_reducible apply State.raiseDie_keeps h1
    | with_reducible apply h.inc
    | with_reducible apply h.put
    | extract_lets
    | fail_if_no_progress with_reducible refine h.upd ?_

theorem State.laneUnlock_keeps (h : Keeps P 0x100000000000000000000000000000000c30020000000000000000000000000000000000020084028) {s : State} (hs : P s) (a1) :
    P (State.laneUnlock s a1) := by
  have h1 := h.mono (k := 0x30020000000000000000000000000000000000020084000) (by decide)
  have h2 := h.mono (k := 0x100000000000000000000000000000000c00000000000000000000000000000000000000000080028) (by decide)
  unfold State.laneUnlock
  repeat' first
    | with_reducible assumption
    | with_reducible apply State.lockLost_keeps h1
    | with_reducible apply State.retLost_keeps h2
    | with_reducible apply keeps_ite
    | split

theorem execPortDown_keeps (h : Keeps P 0x20000000000000000400000040000000000020088000) {s : State} (hs : P s) (a0 a1) :
    Next P (execPortDown a0 a1 s) := by
  unfold execPortDown
  repeat' first
    | with_reducible assumption
    | with_reducible apply next_when
    | with_reducible apply State.portDown_keeps h

theorem execEqAdapt_keeps (h : Keeps P 0x10000000000000000000000000000000000000020080000) {s : State} (hs : P s) (a0 a1 a2 a3) :
    Next P (execEqAdapt a0 a1 a2 a3 s) := by
  have h1 := h.mono (k := 0x10000000000000000000000000000000000000020000000) (by decide)
  unfold execEqAdapt
  repeat' first
    | with_reducible assumption
    | with_reducible apply next_when
    | with_reducible apply State.eqAdapt_keeps h1
    | extract_lets
    | with_reducible apply keeps_ite
    | fail_if_no_progress with_reducible refine h.upd ?_
    | split

theorem State.writeLoop_keeps (h : Keeps P m) {s : State} (hs : P s) {f g k : Fld} (hf : m.testBit (32 + f.reg.ctorIdx) = true)
    (hg : m.testBit (32 + g.reg.ctorIdx) = true) (hk : m.testBit (32 + k.reg.ctorIdx) = true) {b n w} : P (State.writeLoop s f g k b n w) := by
  unfold State.writeLoop
  repeat' first
    | assumption
    | with_reducible apply h.put
    | with_reducible apply h.putB
    | with_reducible apply h.take
    | extract_lets
    | with_reducible apply keeps_ite

theorem execLaneEnable_keeps (h : Keeps P 0x18000000000000000000000000000000000000000002000) {s : State} (hs : P s) (a0) :
    Next P (execLaneEnable a0 s) := by
  have h1 := h.mono (k := 0x2000) (by decide)
  have h2 := h.mono (k := 0x18000000000000000000000000000000000000000000000) (by decide)
  unfold execLaneEnable
  repeat' first
    | with_reducible assumption
    | (with_reducible apply access'_keeps h1 <;> [skip; intro _ _])
    | with_reducible apply State.laneEnable_keeps h2

theorem State.upLane_keeps (h : Keeps P 0x10080000) {s : State} (hs : P s) (a1 a2 a3) :
    P (State.upLane s a1 a2 a3) := by
  have h1 := h.mono (k := 0x10000000) (by decide)
  unfold State.upLane
  repeat' first
    | with_reducible assumption
    | with_reducible apply State.prbsBlock_keeps h1
    | with_reducible apply State.wireBlock_keeps h1
    | extract_lets
    | with_reducible apply keeps_ite
    | fail_if_no_progress with_reducible refine h.upd ?_
    | with_reducible refine keeps_of_fst (by assumption) ?_
    | with_reducible refine keeps_of_snd (by assumption) ?_
    | split
    | dsimp +zetaDelta only

theorem State.alignRow_keeps (h : Keeps P 0x20000000000000000400000040000000000020088000) {s : State} (hs : P s) (a1 a2 a3) :
    P (State.alignRow s a1 a2 a3) := by
  have h1 := h.mono (k := 0x80000) (by decide)
  have h2 := h.mono (k := 0x20000000) (by decide)
  unfold State.alignRow
  repeat' first
    | with_reducible assumption
    | rfl
    | with_reducible apply State.putAcount_keeps h1
    | with_reducible apply State.portDown_keeps h
    | with_reducible apply State.raise_keeps h2
    | with_reducible apply h.put
    | extract_lets
    | with_reducible apply keeps_ite
    | (with_reducible apply keeps_foldl; intro _ _ _)
    | (with_reducible apply keeps_foldl_fst; intro _ _ _)
    | fail_if_no_progress with_reducible refine h.upd ?_
    | with_reducible refine keeps_of_fst (by assumption) ?_
    | with_reducible refine keeps_of_snd (by assumption) ?_
    | split
    | exact id
    | exact fun _ => rfl
    | (intro hx; simpa [setAt] using hx)
    | (clear * -; decide +revert)
    | dsimp +zetaDelta only

theorem State.writeHarCtrl_keeps (h : Keeps P 0x30000000000000000000000000000000000020080000) {s : State} (hs : P s) (a1) :
    P (State.writeHarCtrl s a1) := by
  have h1 := h.mono (k := 0x20000000000000000000000000000000000020080000) (by decide)
  unfold State.writeHarCtrl
  repeat' first
    | with_reducible assumption
    | rfl
    | with_reducible apply State.tmoUpdate_keeps h1
    | with_reducible apply h.take
    | extract_lets
    | with_reducible apply keeps_ite
    | fail_if_no_progress with_reducible refine h.upd ?_
    | split

theorem execEventNHoldEnd_keeps (h : Keeps P 0x4000000000000000000000000000000000000000000000000000000000000000000000000000100) {s : State} (hs : P s) :
    Next P (execEventNHoldEnd s) := by
  unfold execEventNHoldEnd
  repeat' first
    | with_reducible assumption
    | with_reducible apply next_when
    | with_reducible apply State.driveEventN_keeps h
    | extract_lets
    | with_reducible apply keeps_ite
    | fail_if_no_progress with_reducible refine h.upd ?_
    | with_reducible refine keeps_of_fst (by assumption) ?_
    | with_reducible refine keeps_of_snd (by assumption) ?_
    | split
    | dsimp +zetaDelta only

theorem State.rxClockLost_keeps (h : Keeps P 0x30020000000000000000000000000000000000020084000) {s : State} (hs : P s) (a1) :
    P (State.rxClockLost s a1) := by
  unfold State.rxClockLost
  repeat' first
    | with_reducible assumption
    | rfl
    | with_reducible apply State.lockLost_keeps h
    | with_reducible apply h.put
    | extract_lets
    | fail_if_no_progress with_reducible refine h.upd ?_
    | with_reducible refine keeps_of_fst (by assumption) ?_
    | with_reducible refine keeps_of_snd (by assumption) ?_
    | split
    | dsimp +zetaDelta only

theorem State.putItem_keeps (h : Keeps P 0x10880000) {s : State} (hs : P s) (a1 a2 a3) :
    P (State.putItem s a1 a2 a3) := by
  have h1 := h.mono (k := 0x10800000) (by decide)
  have h2 := h.mono (k := 0x80000) (by decide)
  unfold State.putItem
  repeat' first
    | with_reducible assumption
    | with_reducible apply State.send_keeps h1
    | with_reducible apply State.setStream_keeps h2
    | extract_lets
    | fail_if_no_progress with_reducible refine h.upd ?_

theorem execLaneLockLoss_keeps (h : Keeps P 0x100000000000000000000000000000000c30020000000000000000000000000000000000020084028) {s : State} (hs : P s) (a0) :
    Next P (execLaneLockLoss a0 s) := by
  unfold execLaneLockLoss
  repeat' first
    | with_reducible assumption
    | with_reducible apply next_when
    | with_reducible apply State.laneUnlock_keeps h

theorem State.sendFrame_keeps (h : Keeps P 0x3a0000000000000000000000000000000000030880001) {s : State} (hs : P s) (a1 a2 a3 a4 a5 a6 a7 a8) :
    P (State.sendFrame s a1 a2 a3 a4 a5 a6 a7 a8) := by
  have h1 := h.mono (k := 0x10880000) (by decide)
  have h2 := h.mono (k := 0x80000) (by decide)
  have h3 := h.mono (k := 0x20000000) (by decide)
  have h4 := h.mono (k := 0x1a0000000000000000000000000000000000020080000) (by decide)
  have h5 := h.mono (k := 0x1) (by decide)
  have h6 := h.mono (k := 0x20000000000000000000000000000000000020080000) (by decide)
  unfold State.sendFrame
  repeat' first
    | with_reducible assumption
    | rfl
    | with_reducible apply State.putItem_keeps h1
    | with_reducible apply State.countSent_keeps h2
    | with_reducible apply State.raise_keeps h3
    | with_reducible apply State.countMinor_keeps h4
    | with_reducible apply State.enterRun_keeps h5
    | with_reducible apply State.builderFails_keeps h6
    | with_reducible apply State.setOutQ_keeps h2
    | with_reducible apply h.inc
    | extract_lets
    | with_reducible apply keeps_ite
    | fail_if_no_progress with_reducible refine h.upd ?_
    | with_reducible refine keeps_of_fst (by assumption) ?_
    | with_reducible refine keeps_of_snd (by assumption) ?_
    | split

theorem State.laneLock_keeps (h : Keeps P 0x410000000000000000000000000000000000000000000028) {s : State} (hs : P s) (a1) :
    P (State.laneLock s a1) := by
  have h1 := h.mono (k := 0x28) (by decide)
  unfold State.laneLock
  repeat' first
    | with_reducible assumption
    | rfl
    | with_reducible apply State.replayHeld_keeps h1
    | with_reducible apply h.put
    | extract_lets
    | with_reducible apply keeps_ite
    | split

theorem State.laneDisable_keeps (h : Keeps P 0x18020000000000000000000000000000000000020084000) {s : State} (hs : P s) (a1) :
    P (State.laneDisable s a1) := by
  have h1 := h.mono (k := 0x20000000000000000000000000000000000020084000) (by decide)
  have h2 := h.mono (k := 0x20000000) (by decide)
  unfold State.laneDisable
  repeat' first
    | with_reducible assumption
    | rfl
    | with_reducible apply State.laneGone_keeps h1
    | with_reducible apply State.raise_keeps h2
    | with_reducible apply h.put
    | with_reducible apply h.putB
    | extract_lets
    | with_reducible apply keeps_ite
    | split

theorem execAlignReceive_keeps (h : Keeps P 0x20000000000000000400000040000000000020088000) {s : State} (hs : P s) (a0 a1 a3) :
    Next P (execAlignReceive a0 a1 s a3) := by
  have h1 := h.mono (k := 0x80000) (by decide)
  unfold execAlignReceive
  repeat' first
    | with_reducible assumption
    | with_reducible apply next_when
    | with_reducible exact next_fault
    | with_reducible apply State.alignRow_keeps h
    | with_reducible apply State.farBack_keeps h1
    | with_reducible apply keeps_ite
    | split

theorem State.fwdClockLost_keeps (h : Keeps P 0x100000000000000000000000000000000c00000000000000000000000000000000000000000080028) {s : State} (hs : P s) (a1) :
    P (State.fwdClockLost s a1) := by
  have h1 := h.mono (k := 0x100000000000000000000000000000000000000000000000000000000000000000000000000000028) (by decide)
  unfold State.fwdClockLost
  repeat' first
    | with_reducible assumption
    | rfl
    | with_reducible apply State.raiseDie_keeps h1
    | with_reducible apply State.retLost_keeps h
    | with_reducible apply h.setDie rfl
    | with_reducible apply h.putB
    | with_reducible apply h.put
    | extract_lets
    | with_reducible apply keeps_ite
    | fail_if_no_progress with_reducible refine h.upd ?_
    | with_reducible refine keeps_of_fst (by assumption) ?_
    | with_reducible refine keeps_of_snd (by assumption) ?_
    | split
    | dsimp +zetaDelta only

theorem execLaneLock_keeps (h : Keeps P 0x410000000000000000000000000000000000000000000028) {s : State} (hs : P s) (a0) :
    Next P (execLaneLock a0 s) := by
  unfold execLaneLock
  repeat' first
    | with_reducible assumption
    | with_reducible apply next_when
    | with_reducible apply State.laneLock_keeps h

theorem execMirrorWrite_keeps (h : Keeps P 0x30000000000000000000000000000000000020082000) {s : State} (hs : P s) (a0) :
    Next P (execMirrorWrite a0 s) := by
  have h1 := h.mono (k := 0x2000) (by decide)
  have h2 := h.mono (k := 0x30000000000000000000000000000000000020080000) (by decide)
  unfold execMirrorWrite
  repeat' first
    | with_reducible assumption
    | (with_reducible apply access'_keeps h1 <;> [skip; intro _ _])
    | with_reducible apply State.writeHarCtrl_keeps h2

theorem execBuilderRestart_keeps (h : Keeps P 0x30000000000000000000000000000000000020082000) {s : State} (hs : P s) (a0) :
    Next P (execBuilderRestart a0 s) := by
  have h1 := h.mono (k := 0x2000) (by decide)
  have h2 := h.mono (k := 0x30000000000000000000000000000000000020080000) (by decide)
  unfold execBuilderRestart
  repeat' first
    | with_reducible assumption
    | (with_reducible apply access'_keeps h1 <;> [skip; intro _ _])
    | with_reducible apply State.writeHarCtrl_keeps h2

theorem State.sendSlotEnd_keeps (h : Keeps P 0x30880000) {s : State} (hs : P s) (a1 a2) :
    P (State.sendSlotEnd s a1 a2) := by
  have h1 := h.mono (k := 0x10880000) (by decide)
  have h2 := h.mono (k := 0x20000000) (by decide)
  unfold State.sendSlotEnd
  repeat' first
    | with_reducible assumption
    | with_reducible apply State.putItem_keeps h1
    | with_reducible apply State.raise_keeps h2
    | extract_lets
    | with_reducible apply keeps_ite
    | fail_if_no_progress with_reducible refine h.upd ?_
    | with_reducible refine keeps_of_fst (by assumption) ?_
    | with_reducible refine keeps_of_snd (by assumption) ?_
    | split
    | dsimp +zetaDelta only

theorem State.putPrio_keeps (h : Keeps P 0x10880000) {s : State} (hs : P s) (a1 a2 a3) :
    P (State.putPrio s a1 a2 a3) := by
  have h1 := h.mono (k := 0x10800000) (by decide)
  have h2 := h.mono (k := 0x80000) (by decide)
  unfold State.putPrio
  repeat' first
    | with_reducible assumption
    | with_reducible apply State.send_keeps h1
    | with_reducible apply State.setStream_keeps h2
    | extract_lets
    | with_reducible apply keeps_ite
    | fail_if_no_progress with_reducible refine h.upd ?_
    | split

theorem State.writeTxlCtrl_keeps (h : Keeps P 0x80000000000000000000000000000000000000000000000) {s : State} (hs : P s) (a1 a2) :
    P (State.writeTxlCtrl s a1 a2) := by
  unfold State.writeTxlCtrl
  repeat' first
    | with_reducible assumption
    | rfl
    | with_reducible apply State.writeLoop_keeps h

theorem execLaneDisable_keeps (h : Keeps P 0x18020000000000000000000000000000000000020086000) {s : State} (hs : P s) (a0) :
    Next P (execLaneDisable a0 s) := by
  have h1 := h.mono (k := 0x2000) (by decide)
  have h2 := h.mono (k := 0x18020000000000000000000000000000000000020084000) (by decide)
  unfold execLaneDisable
  repeat' first
    | with_reducible assumption
    | (with_reducible apply access'_keeps h1 <;> [skip; intro _ _])
    | with_reducible apply State.laneDisable_keeps h2

theorem State.sendRow_keeps (h : Keeps P 0x10080000) {s : State} (hs : P s) (a1 a2) :
    P (State.sendRow s a1 a2) := by
  have h1 := h.mono (k := 0x80000) (by decide)
  unfold State.sendRow
  repeat' first
    | with_reducible assumption
    | with_reducible apply State.setStream_keeps h1
    | with_reducible apply State.upLane_keeps h
    | extract_lets
    | (with_reducible apply keeps_foldl; intro _ _ _)
    | (with_reducible apply keeps_foldl_fst; intro _ _ _)
    | fail_if_no_progress with_reducible refine h.upd ?_

theorem State.writeRxlCtrl_keeps (h : Keeps P 0x18020000000000000000000000000000000000020084000) {s : State} (hs : P s) (a1 a2) :
    P (State.writeRxlCtrl s a1 a2) := by
  have h1 := h.mono (k := 0x80000) (by decide)
  have h2 := h.mono (k := 0x10000000000000000000000000000000000000020000000) (by decide)
  have h3 := h.mono (k := 0x18000000000000000000000000000000000000000000000) (by decide)
  unfold State.writeRxlCtrl
  repeat' first
    | with_reducible assumption
    | rfl
    | with_reducible apply State.writeLoop_keeps h
    | with_reducible apply State.farClear_keeps h1
    | with_reducible apply State.laneSlip_keeps h2
    | with_reducible apply State.laneEnable_keeps h3
    | with_reducible apply State.laneDisable_keeps h
    | with_reducible apply h.take
    | extract_lets
    | with_reducible apply keeps_ite
    | split

theorem State.echoSend_keeps (h : Keeps P 0x38000000000000000000000000000000000030884080) {s : State} (hs : P s) (a1 a2) :
    P (State.echoSend s a1 a2) := by
  have h1 := h.mono (k := 0x10880000) (by decide)
  have h2 := h.mono (k := 0x20000000) (by decide)
  have h3 := h.mono (k := 0x4000) (by decide)
  unfold State.echoSend
  repeat' first
    | with_reducible assumption
    | rfl
    | with_reducible apply State.putPrio_keeps h1
    | with_reducible apply State.raise_keeps h2
    | with_reducible apply State.echoItem_keeps h3
    | with_reducible apply h.inc
    | extract_lets
    | with_reducible apply keeps_ite
    | (with_reducible apply keeps_foldl; intro _ _ _)
    | (with_reducible apply keeps_foldl_fst; intro _ _ _)
    | fail_if_no_progress with_reducible refine h.upd ?_
    | split

theorem State.clockLost_keeps (h : Keeps P 0x100000000000000000000000000000000c300200000000800000000000000000000000000200840a8) {s : State} (hs : P s) (a1) :
    P (State.clockLost s a1) := by
  have h1 := h.mono (k := 0x80000) (by decide)
  have h2 := h.mono (k := 0x80000000000000000000000000000000080) (by decide)
  have h3 := h.mono (k := 0x30020000000000000000000000000000000000020084000) (by decide)
  have h4 := h.mono (k := 0x100000000000000000000000000000000c00000000000000000000000000000000000000000080028) (by decide)
  unfold State.clockLost
  repeat' first
    | with_reducible assumption
    | with_reducible apply State.putClock_keeps h1
    | with_reducible apply State.putInputOk_keeps h2
    | with_reducible apply State.rxClockLost_keeps h3
    | with_reducible apply State.fwdClockLost_keeps h4
    | extract_lets
    | with_reducible apply keeps_ite
    | (with_reducible apply keeps_foldl; intro _ _ _)
    | (with_reducible apply keeps_foldl_fst; intro _ _ _)
    | fail_if_no_progress with_reducible refine h.upd ?_
    | split

theorem execEchoSend_keeps (h : Keeps P 0x38000000000000000000000000000000000030884080) {s : State} (hs : P s) (a0) :
    Next P (execEchoSend a0 s) := by
  unfold execEchoSend
  repeat' first
    | with_reducible assumption
    | with_reducible apply next_when
    | with_reducible apply next_next
    | with_reducible apply State.echoSend_keeps h
    | extract_lets
    | fail_if_no_progress with_reducible refine h.upd ?_
    | with_reducible refine keeps_of_fst (by assumption) ?_
    | with_reducible refine keeps_of_snd (by assumption) ?_
    | split
    | dsimp +zetaDelta only

theorem execFrameSend_keeps (h : Keeps P 0x3b0000000000000000000000000000000000030880001) {s : State} (hs : P s) (a0 a1 a2 a3) :
    Next P (execFrameSend a0 a1 a2 a3 s) := by
  have h1 := h.mono (k := 0x3a0000000000000000000000000000000000030880001) (by decide)
  have h2 := h.mono (k := 0x80000) (by decide)
  have h3 := h.mono (k := 0x30880000) (by decide)
  unfold execFrameSend
  repeat' first
    | with_reducible assumption
    | with_reducible apply next_when
    | with_reducible apply State.sendFrame_keeps h1
    | with_reducible apply State.setOutQ_keeps h2
    | with_reducible apply State.sendSlotEnd_keeps h3
    | extract_lets
    | fail_if_no_progress with_reducible refine h.upd ?_
    | with_reducible refine keeps_of_fst (by assumption) ?_
    | with_reducible refine keeps_of_snd (by assumption) ?_
    | split
    | dsimp +zetaDelta only

theorem State.sendAlign_keeps (h : Keeps P 0x10880000) {s : State} (hs : P s) (a1) :
    P (State.sendAlign s a1) := by
  have h1 := h.mono (k := 0x10800000) (by decide)
  have h2 := h.mono (k := 0x10080000) (by decide)
  unfold State.sendAlign
  repeat' first
    | with_reducible assumption
    | with_reducible apply State.send_keeps h1
    | with_reducible apply State.sendRow_keeps h2
    | extract_lets

theorem execLoopWrite_keeps (h : Keeps P 0x98020000000000000000000000000000000000020086000) {s : State} (hs : P s) (a0 a1 a2) :
    Next P (execLoopWrite a0 a1 a2 s) := by
  have h1 := h.mono (k := 0x2000) (by decide)
  have h2 := h.mono (k := 0x80000000000000000000000000000000000000000000000) (by decide)
  have h3 := h.mono (k := 0x18020000000000000000000000000000000000020084000) (by decide)
  unfold execLoopWrite
  repeat' first
    | with_reducible assumption
    | (with_reducible apply access'_keeps h1 <;> [skip; intro _ _])
    | with_reducible apply State.writeTxlCtrl_keeps h2
    | with_reducible apply State.writeRxlCtrl_keeps h3
    | with_reducible apply keeps_ite
    | split

theorem State.sendBlocks_keeps (h : Keeps P 0x10080000) {s : State} (hs : P s) (a1) :
    P (State.sendBlocks s a1) := by
  have h1 := h.mono (k := 0x80000) (by decide)
  unfold State.sendBlocks
  repeat' first
    | with_reducible assumption
    | with_reducible apply State.setStream_keeps h1
    | with_reducible apply State.sendRow_keeps h
    | extract_lets
    | fail_if_no_progress with_reducible refine h.upd ?_

theorem execAlignRowSend_keeps (h : Keeps P 0x30000000000000000000000000000000000010880000) {s : State} (hs : P s) :
    Next P (execAlignRowSend s) := by
  have h1 := h.mono (k := 0x10880000) (by decide)
  unfold execAlignRowSend
  repeat' first
    | with_reducible assumption
    | with_reducible apply next_when
    | with_reducible apply State.sendAlign_keeps h1
    | with_reducible apply keeps_ite
    | (with_reducible apply keeps_foldl; intro _ _ _)
    | (with_reducible apply keeps_foldl_fst; intro _ _ _)
    | split

theorem execLaneClockLoss_keeps (h : Keeps P 0x100000000000000000000000000000000c300200000000800000000000000000000000000200840a8) {s : State} (hs : P s) (a0) :
    Next P (execLaneClockLoss a0 s) := by
  unfold execLaneClockLoss
  repeat' first
    | with_reducible assumption
    | with_reducible apply next_when
    | with_reducible apply State.clockLost_keeps h

end Sys2Proof.Machine
end

