-- ==== Sys2Proof/Laws/KeepStitch.lean ====
section
/-! SUPPORT. What the operations of Machine/Stitch.lean keep. -/

set_option linter.unusedTactic false
set_option linter.unreachableTactic false

set_option Elab.async false

namespace Sys2Proof.Machine

variable {P : State → Prop} {m : Nat}

theorem State.countRx_keeps (h : Keeps P 0x40000) {s : State} (hs : P s) (a1) :
    P (State.countRx s a1) := by
  unfold State.countRx
  repeat' first
    | with_reducible assumption
    | extract_lets
    | with_reducible apply keeps_ite
    | fail_if_no_progress with_reducible refine h.upd ?_
    | split

theorem State.editGroup_keeps (h : Keeps P 0x40000) {s : State} (hs : P s) (a1 a2) :
    P (State.editGroup s a1 a2) := by
  unfold State.editGroup
  repeat' first
    | with_reducible assumption
    | extract_lets
    | fail_if_no_progress with_reducible refine h.upd ?_

theorem State.showWindow_keeps (h : Keeps P 0x2000000000000000000000000000) {s : State} (hs : P s) :
    P (State.showWindow s) := by
  unfold State.showWindow
  repeat' first
    | with_reducible assumption
    | rfl
    | with_reducible apply h.put
    | extract_lets

theorem State.useWindow_keeps (h : Keeps P 0x2000000000000000000000040000) {s : State} (hs : P s) (a1) :
    P (State.useWindow s a1) := by
  have h1 := h.mono (k := 0x2000000000000000000000000000) (by decide)
  unfold State.useWindow
  repeat' first
    | with_reducible assumption
    | with_reducible apply State.showWindow_keeps h1
    | extract_lets
    | fail_if_no_progress with_reducible refine h.upd ?_

theorem State.queueGroup_keeps (h : Keeps P 0x30000000000000000000000000000000000000080000) {s : State} (hs : P s) (a1 a2 a3) :
    P (State.queueGroup s a1 a2 a3) := by
  have h1 := h.mono (k := 0x80000) (by decide)
  unfold State.queueGroup
  repeat' first
    | with_reducible assumption
    | with_reducible apply State.setOutQ_keeps h1
    | with_reducible apply keeps_ite
    | split

theorem State.ciEnable_keeps (h : Keeps P 0x600000000000000000000000000) {s : State} (hs : P s) (a1 a2) :
    P (State.ciEnable s a1 a2) := by
  unfold State.ciEnable
  repeat' first
    | with_reducible assumption
    | rfl
    | with_reducible apply h.putB
    | with_reducible apply h.put
    | extract_lets
    | with_reducible apply keeps_ite
    | (with_reducible apply keeps_foldl; intro _ _ _)
    | (with_reducible apply keeps_foldl_fst; intro _ _ _)
    | fail_if_no_progress with_reducible refine h.upd ?_
    | with_reducible refine keeps_of_fst (by assumption) ?_
    | with_reducible refine keeps_of_snd (by assumption) ?_
    | split
    | exact id
    | exact fun _ => rfl
    | (intro hx; simpa [setAt] using hx)
    | (clear * -; decide +revert)
    | dsimp +zetaDelta only

theorem execMergeDeadlineExpire_keeps (h : Keeps P 0x40000) {s : State} (hs : P s) :
    Next P (execMergeDeadlineExpire s) := by
  unfold execMergeDeadlineExpire
  repeat' first
    | with_reducible assumption
    | with_reducible apply next_when
    | extract_lets
    | with_reducible apply keeps_ite
    | fail_if_no_progress with_reducible refine h.upd ?_
    | split

theorem State.countSlip_keeps (h : Keeps P 0x300000000000000000000020000000) {s : State} (hs : P s) (a1) :
    P (State.countSlip s a1) := by
  have h1 := h.mono (k := 0x20000000) (by decide)
  unfold State.countSlip
  repeat' first
    | with_reducible assumption
    | rfl
    | with_reducible apply State.raise_keeps h1
    | with_reducible apply h.inc
    | extract_lets
    | fail_if_no_progress with_reducible refine h.upd ?_
    | with_reducible refine keeps_of_fst (by assumption) ?_
    | with_reducible refine keeps_of_snd (by assumption) ?_
    | split
    | dsimp +zetaDelta only

theorem State.giveBack_keeps (h : Keeps P 0x2000000000000000000000040000) {s : State} (hs : P s) (a1 a2) :
    P (State.giveBack s a1 a2) := by
  have h1 := h.mono (k := 0x2000000000000000000000000000) (by decide)
  unfold State.giveBack
  repeat' first
    | with_reducible assumption
    | with_reducible apply State.showWindow_keeps h1
    | extract_lets
    | (with_reducible apply keeps_foldl; intro _ _ _)
    | (with_reducible apply keeps_foldl_fst; intro _ _ _)
    | fail_if_no_progress with_reducible refine h.upd ?_

theorem State.ciSlotEnd_keeps (h : Keeps P 0x20400000000000000000000040000) {s : State} (hs : P s) (a1 a2 a3) :
    P (State.ciSlotEnd s a1 a2 a3) := by
  have h1 := h.mono (k := 0x40000) (by decide)
  unfold State.ciSlotEnd
  repeat' first
    | with_reducible assumption
    | rfl
    | with_reducible apply State.editGroup_keeps h1
    | with_reducible apply h.inc
    | with_reducible apply h.put
    | extract_lets
    | with_reducible apply keeps_ite
    | (with_reducible apply keeps_foldl; intro _ _ _)
    | (with_reducible apply keeps_foldl_fst; intro _ _ _)
    | fail_if_no_progress with_reducible refine h.upd ?_
    | with_reducible refine keeps_of_fst (by assumption) ?_
    | with_reducible refine keeps_of_snd (by assumption) ?_
    | split
    | exact id
    | exact fun _ => rfl
    | (intro hx; simpa [setAt] using hx)
    | (clear * -; decide +revert)
    | dsimp +zetaDelta only

theorem execCiPortEnable_keeps (h : Keeps P 0x600000000000000000000002000) {s : State} (hs : P s) (a0) :
    Next P (execCiPortEnable a0 s) := by
  have h1 := h.mono (k := 0x2000) (by decide)
  have h2 := h.mono (k := 0x600000000000000000000000000) (by decide)
  unfold execCiPortEnable
  repeat' first
    | with_reducible assumption
    | (with_reducible apply access'_keeps h1 <;> [skip; intro _ _])
    | with_reducible apply State.ciEnable_keeps h2

theorem State.putEmit_keeps (h : Keeps P 0x1800000000000000000000000000) {s : State} (hs : P s) (a1) :
    P (State.putEmit s a1) := by
  unfold State.putEmit
  repeat' first
    | with_reducible assumption
    | rfl
    | with_reducible apply h.put

theorem State.acceptBlock_keeps (h : Keeps P 0x86400000000000000000020040000) {s : State} (hs : P s) (a1 a2) :
    P (State.acceptBlock s a1 a2) := by
  have h1 := h.mono (k := 0x20000000) (by decide)
  have h2 := h.mono (k := 0x2000000000000000000000040000) (by decide)
  have h3 := h.mono (k := 0x40000) (by decide)
  unfold State.acceptBlock
  repeat' first
    | with_reducible assumption
    | rfl
    | with_reducible apply State.raise_keeps h1
    | with_reducible apply State.useWindow_keeps h2
    | with_reducible apply State.editGroup_keeps h3
    | with_reducible apply h.inc
    | with_reducible apply h.putB
    | extract_lets
    | with_reducible apply keeps_ite
    | fail_if_no_progress with_reducible refine h.upd ?_
    | split

theorem State.placeOwn_keeps (h : Keeps P 0x482400000000000000000020040000) {s : State} (hs : P s) (a1) :
    P (State.placeOwn s a1) := by
  have h1 := h.mono (k := 0x40000) (by decide)
  have h2 := h.mono (k := 0x2000000000000000000000040000) (by decide)
  have h3 := h.mono (k := 0x20000000) (by decide)
  have h4 := h.mono (k := 0x2000000000000000000000000000) (by decide)
  unfold State.placeOwn
  repeat' first
    | with_reducible assumption
    | rfl
    | with_reducible apply State.editGroup_keeps h1
    | with_reducible apply State.useWindow_keeps h2
    | with_reducible apply State.raise_keeps h3
    | with_reducible apply State.showWindow_keeps h4
    | with_reducible apply h.putB
    | with_reducible apply h.inc
    | extract_lets
    | with_reducible apply keeps_ite
    | fail_if_no_progress with_reducible refine h.upd ?_
    | split

theorem execCiSlotEndReceive_keeps (h : Keeps P 0x200000000000000204000000000000000000000c0000) {s : State} (hs : P s) (a0 a1 a2) :
    Next P (execCiSlotEndReceive a0 a1 a2 s) := by
  have h1 := h.mono (k := 0x20400000000000000000000040000) (by decide)
  have h2 := h.mono (k := 0x80000) (by decide)
  unfold execCiSlotEndReceive
  repeat' first
    | with_reducible assumption
    | with_reducible apply next_when
    | with_reducible apply State.ciSlotEnd_keeps h1
    | with_reducible apply State.farBack_keeps h2
    | extract_lets

theorem execCiPortDisable_keeps (h : Keeps P 0x600000000000000000000002000) {s : State} (hs : P s) (a0) :
    Next P (execCiPortDisable a0 s) := by
  have h1 := h.mono (k := 0x2000) (by decide)
  have h2 := h.mono (k := 0x600000000000000000000000000) (by decide)
  unfold execCiPortDisable
  repeat' first
    | with_reducible assumption
    | (with_reducible apply access'_keeps h1 <;> [skip; intro _ _])
    | with_reducible apply State.ciEnable_keeps h2

theorem State.showEmit_keeps (h : Keeps P 0x1800000000000000000000000000) {s : State} (hs : P s) :
    P (State.showEmit s) := by
  unfold State.showEmit
  repeat' first
    | with_reducible assumption
    | with_reducible apply State.putEmit_keeps h
    | extract_lets
    | fail_if_no_progress with_reducible refine h.upd ?_
    | with_reducible refine keeps_of_fst (by assumption) ?_
    | with_reducible refine keeps_of_snd (by assumption) ?_
    | split
    | dsimp +zetaDelta only

theorem State.farFrame_keeps (h : Keeps P 0x1080000) {s : State} (hs : P s) (a1 a2 a3 a4) :
    P (State.farFrame s a1 a2 a3 a4) := by
  have h1 := h.mono (k := 0x1000000) (by decide)
  have h2 := h.mono (k := 0x80000) (by decide)
  unfold State.farFrame
  repeat' first
    | with_reducible assumption
    | with_reducible apply State.draw_keeps h1
    | with_reducible apply State.farBack_keeps h2
    | extract_lets
    | with_reducible apply keeps_ite
    | split

theorem State.writeStiCtrl_keeps (h : Keeps P 0x600000000000000000000000000) {s : State} (hs : P s) (a1) :
    P (State.writeStiCtrl s a1) := by
  unfold State.writeStiCtrl
  repeat' first
    | with_reducible assumption
    | rfl
    | with_reducible apply State.ciEnable_keeps h
    | with_reducible apply h.take
    | extract_lets

theorem State.checkBlock_keeps (h : Keeps P 0xbe400000000000000000020040000) {s : State} (hs : P s) (a1 a2) :
    P (State.checkBlock s a1 a2) := by
  have h1 := h.mono (k := 0x20000000) (by decide)
  have h2 := h.mono (k := 0x86400000000000000000020040000) (by decide)
  unfold State.checkBlock
  repeat' first
    | with_reducible assumption
    | rfl
    | with_reducible apply State.raise_keeps h1
    | with_reducible apply State.acceptBlock_keeps h2
    | with_reducible apply h.inc
    | extract_lets
    | with_reducible apply keeps_ite
    | fail_if_no_progress with_reducible refine h.upd ?_
    | split

theorem State.freeWindow_keeps (h : Keeps P 0x2400000000000000000000040000) {s : State} (hs : P s) (a1 a2) :
    P (State.freeWindow s a1 a2) := by
  have h1 := h.mono (k := 0x2000000000000000000000040000) (by decide)
  unfold State.freeWindow
  repeat' first
    | with_reducible assumption
    | rfl
    | with_reducible apply State.giveBack_keeps h1
    | with_reducible apply h.putB
    | extract_lets
    | with_reducible apply keeps_ite
    | split

theorem State.ciFrame_keeps (h : Keeps P 0x4000000000000000be400000000000000000020040000) {s : State} (hs : P s) (a1 a2 a3 a4) :
    P (State.ciFrame s a1 a2 a3 a4) := by
  have h1 := h.mono (k := 0x20000000) (by decide)
  have h2 := h.mono (k := 0x40000) (by decide)
  have h3 := h.mono (k := 0xbe400000000000000000020040000) (by decide)
  unfold State.ciFrame
  repeat' first
    | with_reducible assumption
    | rfl
    | with_reducible apply State.raise_keeps h1
    | with_reducible apply State.countRx_keeps h2
    | with_reducible apply State.checkBlock_keeps h3
    | with_reducible apply h.inc
    | extract_lets
    | with_reducible apply keeps_ite
    | split

theorem execCiFrameReceive_keeps (h : Keeps P 0x4200000000000000be4000000000000000000210c0000) {s : State} (hs : P s) (a0 a1 a2 a3) :
    Next P (execCiFrameReceive a0 a1 a2 a3 s) := by
  have h1 := h.mono (k := 0x4000000000000000be400000000000000000020040000) (by decide)
  have h2 := h.mono (k := 0x1080000) (by decide)
  unfold execCiFrameReceive
  repeat' first
    | with_reducible assumption
    | with_reducible apply next_when
    | with_reducible apply State.ciFrame_keeps h1
    | with_reducible apply State.farFrame_keeps h2

theorem State.sendGroup_keeps (h : Keeps P 0x30000000000000043e000000000000000000200c0000) {s : State} (hs : P s) (a1) :
    P (State.sendGroup s a1) := by
  have h1 := h.mono (k := 0x20000000000000000000000000000000000000080000) (by decide)
  have h2 := h.mono (k := 0x20000000) (by decide)
  have h3 := h.mono (k := 0x30000000000000000000000000000000000000080000) (by decide)
  have h4 := h.mono (k := 0x1800000000000000000000000000) (by decide)
  have h5 := h.mono (k := 0x2400000000000000000000040000) (by decide)
  unfold State.sendGroup
  repeat' first
    | with_reducible assumption
    | rfl
    | with_reducible apply State.groupMode_keeps h1
    | with_reducible apply State.raise_keeps h2
    | with_reducible apply State.queueGroup_keeps h3
    | with_reducible apply State.showEmit_keeps h4
    | with_reducible apply State.freeWindow_keeps h5
    | with_reducible apply h.inc
    | extract_lets
    | with_reducible apply keeps_ite
    | fail_if_no_progress with_reducible refine h.upd ?_
    | split

theorem State.sendArc_keeps (h : Keeps P 0x30000000000000003c000000000000000000000c0000) {s : State} (hs : P s) (a1 a2) :
    P (State.sendArc s a1 a2) := by
  have h1 := h.mono (k := 0x20000000000000000000000000000000000000080000) (by decide)
  have h2 := h.mono (k := 0x30000000000000000000000000000000000000080000) (by decide)
  have h3 := h.mono (k := 0x40000) (by decide)
  have h4 := h.mono (k := 0x2400000000000000000000040000) (by decide)
  have h5 := h.mono (k := 0x1800000000000000000000000000) (by decide)
  unfold State.sendArc
  repeat' first
    | with_reducible assumption
    | with_reducible apply State.groupMode_keeps h1
    | with_reducible apply State.queueGroup_keeps h2
    | with_reducible apply State.editGroup_keeps h3
    | with_reducible apply State.freeWindow_keeps h4
    | with_reducible apply State.showEmit_keeps h5
    | extract_lets
    | with_reducible apply keeps_ite
    | fail_if_no_progress with_reducible refine h.upd ?_
    | split

theorem State.groupReady_keeps (h : Keeps P 0x30000000000000043e000000000000000000200c0000) {s : State} (hs : P s) :
    P (State.groupReady s) := by
  have h1 := h.mono (k := 0x30000000000000003c000000000000000000000c0000) (by decide)
  unfold State.groupReady
  repeat' first
    | with_reducible assumption
    | with_reducible apply State.sendArc_keeps h1
    | with_reducible apply State.sendGroup_keeps h
    | extract_lets
    | with_reducible apply keeps_ite
    | (with_reducible apply keeps_foldl; intro _ _ _)
    | (with_reducible apply keeps_foldl_fst; intro _ _ _)
    | fail_if_no_progress with_reducible refine h.upd ?_
    | with_reducible refine keeps_of_fst (by assumption) ?_
    | with_reducible refine keeps_of_snd (by assumption) ?_
    | split
    | dsimp +zetaDelta only

theorem execGroupReady_keeps (h : Keeps P 0x30000000000000043e000000000000000000200c0000) {s : State} (hs : P s) :
    Next P (execGroupReady s) := by
  unfold execGroupReady
  repeat' first
    | with_reducible assumption
    | with_reducible apply next_when
    | with_reducible apply State.groupReady_keeps h

end Sys2Proof.Machine
end

