-- ==== Sys2Proof/Laws/KeepQueues.lean ====
section
/-! SUPPORT. What the operations of Machine/Queues.lean keep. -/

set_option linter.unusedTactic false
set_option linter.unreachableTactic false

set_option Elab.async false

namespace Sys2Proof.Machine

variable {P : State → Prop} {m : Nat}

theorem State.ingressLoss_keeps (h : Keeps P 0x4000) {s : State} (hs : P s) (a1) :
    P (State.ingressLoss s a1) := by
  unfold State.ingressLoss
  repeat' first
    | with_reducible assumption
    | extract_lets
    | with_reducible apply keeps_ite
    | fail_if_no_progress with_reducible refine h.upd ?_
    | split

theorem State.crossRead_keeps (h : Keeps P 0x20000000000000000000000000000000000000000000004040) {s : State} (hs : P s) (a1) :
    P (State.crossRead s a1).1 := by
  have h1 := h.mono (k := 0x4000) (by decide)
  unfold State.crossRead
  repeat' first
    | with_reducible assumption
    | rfl
    | with_reducible apply State.ingressLoss_keeps h1
    | with_reducible apply h.setIng rfl
    | with_reducible apply h.inc
    | extract_lets
    | with_reducible apply keeps_ite
    | fail_if_no_progress with_reducible refine h.upd ?_
    | split

theorem State.crossWrite_keeps (h : Keeps P 0x40) {s : State} (hs : P s) (a1 a2 a3 a4) :
    P (State.crossWrite s a1 a2 a3 a4) := by
  unfold State.crossWrite
  repeat' first
    | with_reducible assumption
    | with_reducible apply h.setIng rfl
    | extract_lets
    | fail_if_no_progress with_reducible refine h.upd ?_

theorem State.land_keeps (h : Keeps P 0xc000000000000020) {s : State} (hs : P s) (a1) :
    P (State.land s a1) := by
  unfold State.land
  repeat' first
    | with_reducible assumption
    | rfl
    | with_reducible apply h.setQuad rfl
    | with_reducible apply h.inc
    | extract_lets
    | with_reducible apply keeps_ite
    | (with_reducible apply keeps_foldl; intro _ _ _)
    | (with_reducible apply keeps_foldl_fst; intro _ _ _)
    | fail_if_no_progress with_reducible refine h.upd ?_
    | split

theorem State.hqStat_keeps (h : Keeps P 0x200000000000000000000000000000000c000000001000020) {s : State} (hs : P s) (a1) :
    P (State.hqStat s a1) := by
  have h1 := h.mono (k := 0xc000000000000020) (by decide)
  have h2 := h.mono (k := 0x1000000) (by decide)
  unfold State.hqStat
  repeat' first
    | with_reducible assumption
    | rfl
    | with_reducible apply State.land_keeps h1
    | with_reducible apply State.draw_keeps h2
    | with_reducible apply h.put
    | with_reducible apply h.putB
    | extract_lets

theorem State.passMarkers_keeps (h : Keeps P 0x4040) {s : State} (hs : P s) (a1) :
    P (State.passMarkers s a1) := by
  unfold State.passMarkers
  repeat' first
    | with_reducible assumption
    | with_reducible apply h.setIng rfl
    | extract_lets
    | fail_if_no_progress with_reducible refine h.upd ?_
    | with_reducible refine keeps_of_fst (by assumption) ?_
    | with_reducible refine keeps_of_snd (by assumption) ?_
    | split
    | dsimp +zetaDelta only

theorem State.crossIn_keeps (h : Keeps P 0x20000000000000000000000000000000000000000000004040) {s : State} (hs : P s) (a1 a2 a3 a4) :
    P (State.crossIn s a1 a2 a3 a4).1 := by
  have h1 := h.mono (k := 0x40) (by decide)
  unfold State.crossIn
  repeat' first
    | with_reducible assumption
    | with_reducible apply State.crossRead_keeps h
    | with_reducible apply State.crossWrite_keeps h1

theorem State.hqDrop_keeps (h : Keeps P 0x8000000000000000000000000000000000000000000000020) {s : State} (hs : P s) (a1) :
    P (State.hqDrop s a1) := by
  unfold State.hqDrop
  repeat' first
    | with_reducible assumption
    | rfl
    | with_reducible apply h.inc
    | with_reducible apply h.setQuad rfl
    | extract_lets
    | with_reducible apply keeps_ite
    | fail_if_no_progress with_reducible refine h.upd ?_
    | split

theorem State.laneTake_keeps (h : Keeps P 0x20) {s : State} (hs : P s) (a1) :
    P (State.laneTake s a1) := by
  unfold State.laneTake
  repeat' first
    | with_reducible assumption
    | with_reducible apply h.setQuad rfl
    | extract_lets
    | fail_if_no_progress with_reducible refine h.upd ?_

theorem State.hqOverrun_keeps (h : Keeps P 0x10000000000000000000000000000000c000000000000000000000000000000000000000000000028) {s : State} (hs : P s) (a1 a2 a3) :
    P (State.hqOverrun s a1 a2 a3) := by
  have h1 := h.mono (k := 0x100000000000000000000000000000000000000000000000000000000000000000000000000000028) (by decide)
  unfold State.hqOverrun
  repeat' first
    | with_reducible assumption
    | rfl
    | with_reducible apply State.raiseDie_keeps h1
    | with_reducible apply h.setQuad rfl
    | with_reducible apply h.inc
    | extract_lets
    | with_reducible apply keeps_ite
    | fail_if_no_progress with_reducible refine h.upd ?_
    | split

theorem State.hqReadWord_keeps (h : Keeps P 0x20000010000000000000000000000000000000c000000000000000000000000000000000000000000000028) {s : State} (hs : P s) (a1 a2 a3) :
    P (State.hqReadWord s a1 a2 a3) := by
  have h1 := h.mono (k := 0x100000000000000000000000000000000000000000000000000000000000000000000000000000028) (by decide)
  have h2 := h.mono (k := 0x10000000000000000000000000000000c000000000000000000000000000000000000000000000028) (by decide)
  unfold State.hqReadWord
  repeat' first
    | with_reducible assumption
    | rfl
    | with_reducible apply State.raiseDie_keeps h1
    | with_reducible apply State.hqOverrun_keeps h2
    | with_reducible apply h.setQuad rfl
    | with_reducible apply h.inc
    | extract_lets
    | with_reducible apply keeps_ite
    | split

theorem State.laneIdle_keeps (h : Keeps P 0x10000020) {s : State} (hs : P s) (a1) :
    P (State.laneIdle s a1) := by
  have h1 := h.mono (k := 0x10000000) (by decide)
  have h2 := h.mono (k := 0x20) (by decide)
  unfold State.laneIdle
  repeat' first
    | with_reducible assumption
    | with_reducible apply State.wireBlock_keeps h1
    | with_reducible apply State.laneTake_keeps h2

theorem State.laneSend_keeps (h : Keeps P 0x10800020) {s : State} (hs : P s) (a1 a2 a3) :
    P (State.laneSend s a1 a2 a3) := by
  have h1 := h.mono (k := 0x10800000) (by decide)
  have h2 := h.mono (k := 0x20) (by decide)
  unfold State.laneSend
  repeat' first
    | with_reducible assumption
    | with_reducible apply State.send_keeps h1
    | with_reducible apply State.laneTake_keeps h2

theorem State.hqTake_keeps (h : Keeps P 0x10000000000000000000000000000000c000000000000000000000000000000000000000000000028) {s : State} (hs : P s) (a1 a2) :
    P (State.hqTake s a1 a2) := by
  have h1 := h.mono (k := 0x100000000000000000000000000000000000000000000000000000000000000000000000000000028) (by decide)
  unfold State.hqTake
  repeat' first
    | with_reducible assumption
    | rfl
    | with_reducible apply State.hqOverrun_keeps h
    | with_reducible apply State.raiseDie_keeps h1
    | with_reducible apply h.inc
    | with_reducible apply h.setQuad rfl
    | extract_lets
    | with_reducible apply keeps_ite
    | split

theorem State.ingPut_keeps (h : Keeps P 0x11d100000000000000000000000000000000000000000020020040) {s : State} (hs : P s) (a1 a2 a3 a4) :
    P (State.ingPut s a1 a2 a3 a4) := by
  have h1 := h.mono (k := 0x11d100000000000000000000000000000000000000000020020000) (by decide)
  unfold State.ingPut
  repeat' first
    | with_reducible assumption
    | with_reducible apply State.treeStore_keeps h1
    | with_reducible apply h.setIng rfl
    | extract_lets
    | fail_if_no_progress with_reducible refine h.upd ?_

theorem State.hqLane_keeps (h : Keeps P 0x10000000000000000000000000000000c000000000000000000000000000000000000000010800028) {s : State} (hs : P s) (a1 a2) :
    P (State.hqLane s a1 a2).1 := by
  have h1 := h.mono (k := 0x10000000) (by decide)
  have h2 := h.mono (k := 0x20) (by decide)
  have h3 := h.mono (k := 0x10000000000000000000000000000000c000000000000000000000000000000000000000000000028) (by decide)
  have h4 := h.mono (k := 0x10800020) (by decide)
  have h5 := h.mono (k := 0x10000020) (by decide)
  unfold State.hqLane
  repeat' first
    | with_reducible assumption
    | with_reducible apply State.prbsBlock_keeps h1
    | with_reducible apply State.laneTake_keeps h2
    | with_reducible apply State.hqTake_keeps h3
    | with_reducible apply State.laneSend_keeps h4
    | with_reducible apply State.laneIdle_keeps h5
    | with_reducible apply h.setQuad rfl
    | extract_lets
    | with_reducible apply keeps_ite
    | fail_if_no_progress with_reducible refine h.upd ?_
    | with_reducible refine keeps_of_fst (by assumption) ?_
    | with_reducible refine keeps_of_snd (by assumption) ?_
    | split
    | dsimp +zetaDelta only

theorem State.ingExtra_keeps (h : Keeps P 0x11d100000000000000000000000000000000000000000020020040) {s : State} (hs : P s) (a1) :
    P (State.ingExtra s a1) := by
  unfold State.ingExtra
  repeat' first
    | with_reducible assumption
    | with_reducible apply State.ingPut_keeps h
    | with_reducible apply h.setIng rfl
    | extract_lets
    | with_reducible apply keeps_ite
    | fail_if_no_progress with_reducible refine h.upd ?_
    | with_reducible refine keeps_of_fst (by assumption) ?_
    | with_reducible refine keeps_of_snd (by assumption) ?_
    | split
    | dsimp +zetaDelta only

theorem State.ingPop_keeps (h : Keeps P 0x11db00000000000000000000000000000000000000000020024040) {s : State} (hs : P s) (a1) :
    P (State.ingPop s a1).1 := by
  have h1 := h.mono (k := 0x11db00000000000000000000000000000000000000000020020000) (by decide)
  have h2 := h.mono (k := 0x20000) (by decide)
  have h3 := h.mono (k := 0x11d100000000000000000000000000000000000000000020020040) (by decide)
  have h4 := h.mono (k := 0x4000) (by decide)
  unfold State.ingPop
  repeat' first
    | with_reducible assumption
    | with_reducible apply State.treeFetch_keeps h1
    | with_reducible apply State.treeMark_keeps h2
    | with_reducible apply State.ingExtra_keeps h3
    | with_reducible apply State.ingressLoss_keeps h4
    | with_reducible apply h.setIng rfl
    | extract_lets
    | with_reducible apply keeps_ite
    | fail_if_no_progress with_reducible refine h.upd ?_
    | split

theorem State.hqRead_keeps (h : Keeps P 0x20000010000000000000000000000000000000c000000000000000000000000000000000000000010800028) {s : State} (hs : P s) (a1 a2 a3 a4) :
    P (State.hqRead s a1 a2 a3 a4).1 := by
  have h1 := h.mono (k := 0x20000010000000000000000000000000000000c000000000000000000000000000000000000000000000028) (by decide)
  have h2 := h.mono (k := 0x10000000000000000000000000000000c000000000000000000000000000000000000000010800028) (by decide)
  unfold State.hqRead
  repeat' first
    | with_reducible assumption
    | with_reducible apply State.hqReadWord_keeps h1
    | with_reducible apply State.hqLane_keeps h2
    | extract_lets
    | with_reducible apply keeps_ite
    | split

theorem State.hqCycle_keeps (h : Keeps P 0x20000010000000000000000000000000000000c00000000000000000000000000000000c000000010800028) {s : State} (hs : P s) (a1 a2 a3) :
    P (State.hqCycle s a1 a2 a3) := by
  have h1 := h.mono (k := 0xc000000000000020) (by decide)
  have h2 := h.mono (k := 0x10000000000000000000000000000000c000000000000000000000000000000000000000010800028) (by decide)
  have h3 := h.mono (k := 0x20000010000000000000000000000000000000c000000000000000000000000000000000000000010800028) (by decide)
  have h4 := h.mono (k := 0x10000020) (by decide)
  unfold State.hqCycle
  repeat' first
    | with_reducible assumption
    | with_reducible apply State.land_keeps h1
    | with_reducible apply State.hqLane_keeps h2
    | with_reducible apply State.hqRead_keeps h3
    | with_reducible apply State.laneIdle_keeps h4
    | with_reducible apply h.setQuad rfl
    | extract_lets
    | with_reducible apply keeps_ite
    | fail_if_no_progress with_reducible refine h.upd ?_
    | split

theorem execHitQueueRead_keeps (h : Keeps P 0x20000010000000000000000000000000000000c00000000000000000000000000000000c000000010800028) {s : State} (hs : P s) (a0 a1 a2) :
    Next P (execHitQueueRead a0 a1 a2 s) := by
  have h1 := h.mono (k := 0x20) (by decide)
  unfold execHitQueueRead
  repeat' first
    | with_reducible assumption
    | with_reducible apply next_when
    | with_reducible apply State.hqCycle_keeps h
    | with_reducible apply State.formPrims_keeps h1

theorem State.ingMove_keeps (h : Keeps P 0x11d100000000000000000000000000000000000000000020020040) {s : State} (hs : P s) (a1 a2 a3 a4) :
    P (State.ingMove s a1 a2 a3 a4) := by
  have h1 := h.mono (k := 0x11d100000000000000000000000000000000000000000020020000) (by decide)
  induction a4 generalizing s with
  | zero => exact hs
  | succ k ih =>
    unfold State.ingMove
    extract_lets q a x
    exact ih (State.treeStore_keeps h1 (h.setIng rfl _ _ _ hs) _ _ _)

theorem State.ingRemove_keeps (h : Keeps P 0x11d110000000000000000000000000000000000000000020024040) {s : State} (hs : P s) (a1) :
    P (State.ingRemove s a1) := by
  have h1 := h.mono (k := 0x11d100000000000000000000000000000000000000000020020040) (by decide)
  have h2 := h.mono (k := 0x4000) (by decide)
  unfold State.ingRemove
  repeat' first
    | with_reducible assumption
    | rfl
    | with_reducible apply State.ingMove_keeps h1
    | with_reducible apply State.ingressLoss_keeps h2
    | with_reducible apply h.setIng rfl
    | with_reducible apply h.inc
    | extract_lets
    | with_reducible apply keeps_ite
    | fail_if_no_progress with_reducible refine h.upd ?_
    | split

theorem State.ingSettle_keeps (h : Keeps P 0x11d110000000000000000000000000000000000000000020024040) {s : State} (hs : P s) (a1) :
    P (State.ingSettle s a1) := by
  have h1 := h.mono (k := 0x11d100000000000000000000000000000000000000000020020040) (by decide)
  unfold State.ingSettle
  repeat' first
    | with_reducible assumption
    | with_reducible apply State.ingExtra_keeps h1
    | with_reducible apply State.ingRemove_keeps h
    | extract_lets
    | with_reducible apply keeps_ite
    | fail_if_no_progress with_reducible refine h.upd ?_
    | with_reducible refine keeps_of_fst (by assumption) ?_
    | with_reducible refine keeps_of_snd (by assumption) ?_
    | split
    | dsimp +zetaDelta only

theorem State.ingPush_keeps (h : Keeps P 0x11d110000000000000000000000000000000000000000020024040) {s : State} (hs : P s) (a1 a2 a3) :
    P (State.ingPush s a1 a2 a3) := by
  have h1 := h.mono (k := 0x4040) (by decide)
  have h2 := h.mono (k := 0x11d100000000000000000000000000000000000000000020020040) (by decide)
  unfold State.ingPush
  repeat' first
    | with_reducible assumption
    | with_reducible apply State.ingSettle_keeps h
    | with_reducible apply State.passMarkers_keeps h1
    | with_reducible apply State.ingPut_keeps h2
    | with_reducible apply h.setIng rfl
    | extract_lets
    | with_reducible apply keeps_ite
    | fail_if_no_progress with_reducible refine h.upd ?_
    | split

theorem State.ingDrop_keeps (h : Keeps P 0x11d130000000000000000000000000000000000000000020024040) {s : State} (hs : P s) (a1) :
    P (State.ingDrop s a1) := by
  have h1 := h.mono (k := 0x11d110000000000000000000000000000000000000000020024040) (by decide)
  have h2 := h.mono (k := 0x11d100000000000000000000000000000000000000000020020040) (by decide)
  unfold State.ingDrop
  repeat' first
    | with_reducible assumption
    | rfl
    | with_reducible apply State.ingSettle_keeps h1
    | with_reducible apply State.ingExtra_keeps h2
    | with_reducible apply h.setIng rfl
    | with_reducible apply h.inc
    | extract_lets
    | with_reducible apply keeps_ite
    | fail_if_no_progress with_reducible refine h.upd ?_
    | with_reducible refine keeps_of_fst (by assumption) ?_
    | with_reducible refine keeps_of_snd (by assumption) ?_
    | split
    | dsimp +zetaDelta only

theorem execDropCommand_keeps (h : Keeps P 0x11d138000000000000000000000000000000000000000020024060) {s : State} (hs : P s) (a0 a1) :
    Next P (execDropCommand a0 a1 s) := by
  have h1 := h.mono (k := 0x8000000000000000000000000000000000000000000000020) (by decide)
  have h2 := h.mono (k := 0x11d130000000000000000000000000000000000000000020024040) (by decide)
  unfold execDropCommand
  repeat' first
    | with_reducible assumption
    | with_reducible apply next_when
    | with_reducible apply State.hqDrop_keeps h1
    | with_reducible apply State.ingDrop_keeps h2
    | with_reducible apply keeps_ite
    | split

end Sys2Proof.Machine
end

