-- ==== Sys2Proof/Laws/KeepStirrup.lean ====
section
/-! SUPPORT. What the operations of Machine/Stirrup.lean keep. -/

set_option linter.unusedTactic false
set_option linter.unreachableTactic false

set_option Elab.async false

namespace Sys2Proof.Machine

variable {P : State → Prop} {m : Nat}

theorem State.retHeard_keeps (h : Keeps P 0x80000) {s : State} (hs : P s) (a1 a2 a3) :
    P (State.retHeard s a1 a2 a3) := by
  unfold State.retHeard
  repeat' first
    | with_reducible assumption
    | extract_lets
    | with_reducible apply keeps_ite
    | fail_if_no_progress with_reducible refine h.upd ?_
    | split

theorem State.enterPrim_keeps (h : Keeps P 0x88000) {s : State} (hs : P s) (a1 a2) :
    P (State.enterPrim s a1 a2) := by
  unfold State.enterPrim
  repeat' first
    | with_reducible assumption
    | extract_lets
    | with_reducible apply keeps_ite
    | (with_reducible apply keeps_foldl; intro _ _ _)
    | (with_reducible apply keeps_foldl_fst; intro _ _ _)
    | fail_if_no_progress with_reducible refine h.upd ?_
    | split

theorem State.retTake_keeps (h : Keeps P 0x80000) {s : State} (hs : P s) (a1 a2) :
    P (State.retTake s a1 a2) := by
  unfold State.retTake
  repeat' first
    | with_reducible assumption
    | extract_lets
    | fail_if_no_progress with_reducible refine h.upd ?_

theorem State.takeWindow_keeps (h : Keeps P 0x88000) {s : State} (hs : P s) (a1 a2 a3 a4) :
    P (State.takeWindow s a1 a2 a3 a4) := by
  unfold State.takeWindow
  repeat' first
    | with_reducible assumption
    | extract_lets
    | with_reducible apply keeps_ite
    | (with_reducible apply keeps_foldl; intro _ _ _)
    | (with_reducible apply keeps_foldl_fst; intro _ _ _)
    | fail_if_no_progress with_reducible refine h.upd ?_
    | split

theorem State.autoRebase_keeps (h : Keeps P 0x8000) {s : State} (hs : P s) :
    P (State.autoRebase s) := by
  unfold State.autoRebase
  repeat' first
    | with_reducible assumption
    | extract_lets
    | fail_if_no_progress with_reducible refine h.upd ?_

theorem State.primitiveEnter_keeps (h : Keeps P 0x88000) {s : State} (hs : P s) (a1 a2) :
    P (State.primitiveEnter s a1 a2) := by
  unfold State.primitiveEnter
  repeat' first
    | with_reducible assumption
    | with_reducible apply State.enterPrim_keeps h
    | extract_lets
    | (with_reducible apply keeps_foldl; intro _ _ _)
    | (with_reducible apply keeps_foldl_fst; intro _ _ _)

theorem State.setSegs_keeps (h : Keeps P 0x8000) {s : State} (hs : P s) (a1) :
    P (State.setSegs s a1) := by
  unfold State.setSegs
  repeat' first
    | with_reducible assumption
    | extract_lets
    | fail_if_no_progress with_reducible refine h.upd ?_

theorem State.retTaken_keeps (h : Keeps P 0x80000) {s : State} (hs : P s) (a1 a2) :
    P (State.retTaken s a1 a2) := by
  unfold State.retTaken
  repeat' first
    | with_reducible assumption
    | extract_lets
    | fail_if_no_progress with_reducible refine h.upd ?_

theorem State.markFb_keeps (h : Keeps P 0x4000) {s : State} (hs : P s) :
    P (State.markFb s) := by
  unfold State.markFb
  repeat' first
    | with_reducible assumption
    | extract_lets
    | with_reducible apply keeps_ite
    | fail_if_no_progress with_reducible refine h.upd ?_
    | split

theorem State.fbEnter_keeps (h : Keeps P 0x804000000000002000c000) {s : State} (hs : P s) (a1) :
    P (State.fbEnter s a1) := by
  have h1 := h.mono (k := 0x20000000) (by decide)
  have h2 := h.mono (k := 0x4000) (by decide)
  unfold State.fbEnter
  repeat' first
    | with_reducible assumption
    | rfl
    | with_reducible apply State.raise_keeps h1
    | with_reducible apply State.markFb_keeps h2
    | with_reducible apply h.putB
    | with_reducible apply h.inc
    | extract_lets
    | with_reducible apply keeps_ite
    | fail_if_no_progress with_reducible refine h.upd ?_
    | split

theorem State.showCtx_keeps (h : Keeps P 0x40000000000000000000) {s : State} (hs : P s) :
    P (State.showCtx s) := by
  unfold State.showCtx
  repeat' first
    | with_reducible assumption
    | rfl
    | with_reducible apply h.put

theorem State.emptyALast_keeps (h : Keeps P 0x8000) {s : State} (hs : P s) :
    P (State.emptyALast s) := by
  unfold State.emptyALast
  repeat' first
    | with_reducible assumption
    | with_reducible apply State.autoRebase_keeps h
    | extract_lets
    | fail_if_no_progress with_reducible refine h.upd ?_

theorem execPrimitiveEnter_keeps (h : Keeps P 0x88000) {s : State} (hs : P s) (a0 a1) :
    Next P (execPrimitiveEnter a0 a1 s) := by
  unfold execPrimitiveEnter
  repeat' first
    | with_reducible assumption
    | with_reducible apply next_when
    | with_reducible apply State.primitiveEnter_keeps h

theorem State.showPend_keeps (h : Keeps P 0x40000000000000000000) {s : State} (hs : P s) :
    P (State.showPend s) := by
  unfold State.showPend
  repeat' first
    | with_reducible assumption
    | rfl
    | with_reducible apply h.put

theorem State.addSpan_keeps (h : Keeps P 0x20000000000000000000008000) {s : State} (hs : P s) (a1 a2) :
    P (State.addSpan s a1 a2) := by
  unfold State.addSpan
  repeat' first
    | with_reducible assumption
    | rfl
    | with_reducible apply h.inc
    | extract_lets
    | with_reducible apply keeps_ite
    | fail_if_no_progress with_reducible refine h.upd ?_
    | split

theorem State.countOutcome_keeps (h : Keeps P 0x1e00000000000020000000) {s : State} (hs : P s) (a1) :
    P (State.countOutcome s a1) := by
  have h1 := h.mono (k := 0x20000000) (by decide)
  unfold State.countOutcome
  repeat' first
    | with_reducible assumption
    | rfl
    | with_reducible apply State.raise_keeps h1
    | with_reducible apply h.inc
    | extract_lets
    | fail_if_no_progress with_reducible refine h.upd ?_
    | with_reducible refine keeps_of_fst (by assumption) ?_
    | with_reducible refine keeps_of_snd (by assumption) ?_
    | split
    | dsimp +zetaDelta only

theorem State.countMissing_keeps (h : Keeps P 0x2000000000000000000000) {s : State} (hs : P s) (a1 a2 a3) :
    P (State.countMissing s a1 a2 a3) := by
  unfold State.countMissing
  repeat' first
    | with_reducible assumption
    | rfl
    | with_reducible apply h.inc
    | with_reducible apply keeps_ite
    | split

theorem State.putSeg_keeps (h : Keeps P 0x8000) {s : State} (hs : P s) (a1) :
    P (State.putSeg s a1) := by
  unfold State.putSeg
  repeat' first
    | with_reducible assumption
    | with_reducible apply State.setSegs_keeps h
    | with_reducible apply keeps_ite
    | split

theorem State.releaseHeld_keeps (h : Keeps P 0x30000000000000000008000) {s : State} (hs : P s) (a1) :
    P (State.releaseHeld s a1) := by
  unfold State.releaseHeld
  repeat' first
    | with_reducible assumption
    | rfl
    | with_reducible apply h.inc
    | extract_lets
    | (with_reducible apply keeps_foldl; intro _ _ _)
    | (with_reducible apply keeps_foldl_fst; intro _ _ _)
    | fail_if_no_progress with_reducible refine h.upd ?_

theorem State.putCtx_keeps (h : Keeps P 0x40000000000000008000) {s : State} (hs : P s) (a1 a2) :
    P (State.putCtx s a1 a2) := by
  have h1 := h.mono (k := 0x40000000000000000000) (by decide)
  unfold State.putCtx
  repeat' first
    | with_reducible assumption
    | with_reducible apply State.showCtx_keeps h1
    | extract_lets
    | fail_if_no_progress with_reducible refine h.upd ?_

theorem State.mapNext_keeps (h : Keeps P 0x100000000000000000000000) {s : State} (hs : P s) :
    P (State.mapNext s) := by
  unfold State.mapNext
  repeat' first
    | with_reducible assumption
    | rfl
    | with_reducible apply h.inc
    | with_reducible apply keeps_ite
    | split

theorem State.readMapData_keeps (h : Keeps P 0x300000000000000000000000) {s : State} (hs : P s) :
    P (State.readMapData s).1 := by
  have h1 := h.mono (k := 0x100000000000000000000000) (by decide)
  unfold State.readMapData
  repeat' first
    | with_reducible assumption
    | rfl
    | with_reducible apply State.mapNext_keeps h1
    | with_reducible apply h.put
    | extract_lets

theorem State.fbStrobe_keeps (h : Keeps P 0x804000000000002000c000) {s : State} (hs : P s) :
    P (State.fbStrobe s) := by
  have h1 := h.mono (k := 0x20000000) (by decide)
  unfold State.fbStrobe
  repeat' first
    | with_reducible assumption
    | rfl
    | with_reducible apply State.fbEnter_keeps h
    | with_reducible apply State.raise_keeps h1
    | with_reducible apply h.putB
    | extract_lets
    | with_reducible apply keeps_ite
    | split

theorem execSideWordEnter_keeps (h : Keeps P 0x220000000000000000000080000000000000020088000) {s : State} (hs : P s) (a0 a1) :
    Next P (execSideWordEnter a0 a1 s) := by
  have h1 := h.mono (k := 0x80000) (by decide)
  have h2 := h.mono (k := 0x20000000) (by decide)
  unfold execSideWordEnter
  repeat' first
    | with_reducible assumption
    | rfl
    | with_reducible apply next_when
    | with_reducible apply State.farBack_keeps h1
    | with_reducible apply State.raise_keeps h2
    | with_reducible apply h.inc
    | extract_lets
    | with_reducible apply keeps_ite
    | fail_if_no_progress with_reducible refine h.upd ?_
    | split

theorem State.closeSeg_keeps (h : Keeps P 0xe0000000000000200dc000) {s : State} (hs : P s) (a1 a2) :
    P (State.closeSeg s a1 a2) := by
  have h1 := h.mono (k := 0x8000) (by decide)
  have h2 := h.mono (k := 0x4000) (by decide)
  have h3 := h.mono (k := 0xd4000) (by decide)
  have h4 := h.mono (k := 0x20000000) (by decide)
  unfold State.closeSeg
  repeat' first
    | with_reducible assumption
    | rfl
    | with_reducible apply State.setSegs_keeps h1
    | with_reducible apply State.item_keeps h2
    | with_reducible apply State.poisonSlot_keeps h3
    | with_reducible apply State.raise_keeps h4
    | with_reducible apply h.inc
    | extract_lets
    | with_reducible apply keeps_ite
    | fail_if_no_progress with_reducible refine h.upd ?_
    | split

theorem State.writeClass_keeps (h : Keeps P 0x60000000000020000000) {s : State} (hs : P s) (a1 a2) :
    P (State.writeClass s a1 a2) := by
  have h1 := h.mono (k := 0x20000000) (by decide)
  unfold State.writeClass
  repeat' first
    | with_reducible assumption
    | rfl
    | with_reducible apply State.raise_keeps h1
    | with_reducible apply h.put
    | with_reducible apply h.take
    | extract_lets
    | with_reducible apply keeps_ite
    | split

theorem State.closeIfDone_keeps (h : Keeps P 0xe0000000000000200dc000) {s : State} (hs : P s) (a1 a2) :
    P (State.closeIfDone s a1 a2) := by
  unfold State.closeIfDone
  repeat' first
    | with_reducible assumption
    | with_reducible apply State.closeSeg_keeps h
    | extract_lets
    | with_reducible apply keeps_ite
    | fail_if_no_progress with_reducible refine h.upd ?_
    | with_reducible refine keeps_of_fst (by assumption) ?_
    | with_reducible refine keeps_of_snd (by assumption) ?_
    | split
    | dsimp +zetaDelta only

theorem State.decideTrig_keeps (h : Keeps P 0x20001ec000000000002008c000) {s : State} (hs : P s) (a1 a2) :
    P (State.decideTrig s a1 a2) := by
  have h1 := h.mono (k := 0x1e00000000000020000000) (by decide)
  have h2 := h.mono (k := 0x4000) (by decide)
  have h3 := h.mono (k := 0x8000) (by decide)
  have h4 := h.mono (k := 0x20000000000000000000008000) (by decide)
  have h5 := h.mono (k := 0x40000000000000000000) (by decide)
  have h6 := h.mono (k := 0x88000) (by decide)
  unfold State.decideTrig
  repeat' first
    | with_reducible assumption
    | rfl
    | with_reducible apply State.countOutcome_keeps h1
    | with_reducible apply State.item_keeps h2
    | with_reducible apply State.autoRebase_keeps h3
    | with_reducible apply State.addSpan_keeps h4
    | with_reducible apply State.showCtx_keeps h5
    | with_reducible apply State.takeWindow_keeps h6
    | with_reducible apply h.inc
    | extract_lets
    | with_reducible apply keeps_ite
    | (with_reducible apply keeps_foldl; intro _ _ _)
    | (with_reducible apply keeps_foldl_fst; intro _ _ _)
    | fail_if_no_progress with_reducible refine h.upd ?_
    | split

theorem State.retEcho_keeps (h : Keeps P 0x10000000) {s : State} (hs : P s) (a1 a2 a3) :
    P (State.retEcho s a1 a2 a3) := by
  unfold State.retEcho
  repeat' first
    | with_reducible assumption
    | with_reducible apply State.wireBlock_keeps h
    | with_reducible apply keeps_ite
    | (with_reducible apply keeps_foldl; intro _ _ _)
    | (with_reducible apply keeps_foldl_fst; intro _ _ _)
    | split

theorem State.writeStrAuto_keeps (h : Keeps P 0x1000000000000008000) {s : State} (hs : P s) (a1) :
    P (State.writeStrAuto s a1) := by
  have h1 := h.mono (k := 0x8000) (by decide)
  unfold State.writeStrAuto
  repeat' first
    | with_reducible assumption
    | rfl
    | with_reducible apply State.autoRebase_keeps h1
    | with_reducible apply h.take

theorem execTriggerDecide_keeps (h : Keeps P 0x20001ec000000000002008c000) {s : State} (hs : P s) :
    Next P (execTriggerDecide s) := by
  have h1 := h.mono (k := 0x40000000000000000000) (by decide)
  unfold execTriggerDecide
  repeat' first
    | with_reducible assumption
    | with_reducible apply next_when
    | with_reducible apply next_next
    | with_reducible apply State.showPend_keeps h1
    | with_reducible apply State.decideTrig_keeps h
    | extract_lets
    | fail_if_no_progress with_reducible refine h.upd ?_
    | with_reducible refine keeps_of_fst (by assumption) ?_
    | with_reducible refine keeps_of_snd (by assumption) ?_
    | split
    | dsimp +zetaDelta only

theorem State.form_keeps (h : Keeps P 0x20001ec000000000002008c000) {s : State} (hs : P s) (a1 a2 a3 a4 a5) :
    P (State.form s a1 a2 a3 a4 a5) := by
  have h1 := h.mono (k := 0x40000000000000000000) (by decide)
  unfold State.form
  repeat' first
    | with_reducible assumption
    | with_reducible apply State.decideTrig_keeps h
    | with_reducible apply State.showPend_keeps h1
    | extract_lets
    | with_reducible apply keeps_ite
    | fail_if_no_progress with_reducible refine h.upd ?_
    | with_reducible refine keeps_of_fst (by assumption) ?_
    | with_reducible refine keeps_of_snd (by assumption) ?_
    | split
    | dsimp +zetaDelta only

theorem execStrClassWrite_keeps (h : Keeps P 0x60000000000020002000) {s : State} (hs : P s) (a0 a1) :
    Next P (execStrClassWrite a0 a1 s) := by
  have h1 := h.mono (k := 0x2000) (by decide)
  have h2 := h.mono (k := 0x60000000000020000000) (by decide)
  unfold execStrClassWrite
  repeat' first
    | with_reducible assumption
    | (with_reducible apply access'_keeps h1 <;> [skip; intro _ _])
    | with_reducible apply State.writeClass_keeps h2

theorem State.retBlock_keeps (h : Keeps P 0x10880000) {s : State} (hs : P s) (a1 a2 a3) :
    P (State.retBlock s a1 a2 a3) := by
  have h1 := h.mono (k := 0x10000000) (by decide)
  have h2 := h.mono (k := 0x80000) (by decide)
  have h3 := h.mono (k := 0x10800000) (by decide)
  unfold State.retBlock
  repeat' first
    | with_reducible assumption
    | with_reducible apply State.retEcho_keeps h1
    | with_reducible apply State.retHeard_keeps h2
    | with_reducible apply State.send_keeps h3

theorem State.retPrbs_keeps (h : Keeps P 0x10080000) {s : State} (hs : P s) (a1) :
    P (State.retPrbs s a1) := by
  have h1 := h.mono (k := 0x10000000) (by decide)
  have h2 := h.mono (k := 0x80000) (by decide)
  unfold State.retPrbs
  repeat' first
    | with_reducible assumption
    | with_reducible apply State.retEcho_keeps h1
    | with_reducible apply State.retHeard_keeps h2
    | with_reducible apply State.prbsBlock_keeps h1
    | extract_lets

theorem State.binEvaluate_keeps (h : Keeps P 0x20001ec000000000002008c000) {s : State} (hs : P s) (a1) :
    P (State.binEvaluate s a1) := by
  unfold State.binEvaluate
  repeat' first
    | with_reducible assumption
    | with_reducible apply State.form_keeps h
    | extract_lets
    | with_reducible apply keeps_ite
    | fail_if_no_progress with_reducible refine h.upd ?_
    | with_reducible refine keeps_of_fst (by assumption) ?_
    | with_reducible refine keeps_of_snd (by assumption) ?_
    | split
    | dsimp +zetaDelta only

theorem State.writeMapData_keeps (h : Keeps P 0x100000000000000000008000) {s : State} (hs : P s) (a1) :
    P (State.writeMapData s a1) := by
  have h1 := h.mono (k := 0x100000000000000000000000) (by decide)
  unfold State.writeMapData
  repeat' first
    | with_reducible assumption
    | with_reducible apply State.mapNext_keeps h1
    | extract_lets
    | fail_if_no_progress with_reducible refine h.upd ?_

theorem execTrig_keeps (h : Keeps P 0x20001ec000000000002088c000) {s : State} (hs : P s) (a0 a1 a2 a3 a4) :
    Next P (execTrig a0 a1 a2 a3 a4 s) := by
  have h1 := h.mono (k := 0x880000) (by decide)
  have h2 := h.mono (k := 0x20001ec000000000002008c000) (by decide)
  unfold execTrig
  repeat' first
    | with_reducible assumption
    | with_reducible apply next_when
    | with_reducible apply State.tmoEnded_keeps h1
    | with_reducible apply State.form_keeps h2
    | extract_lets
    | with_reducible apply keeps_ite
    | split

theorem execBinEvaluate_keeps (h : Keeps P 0x20001ec000000000002008c000) {s : State} (hs : P s) :
    Next P (execBinEvaluate s) := by
  unfold execBinEvaluate
  repeat' first
    | with_reducible assumption
    | with_reducible apply next_when
    | with_reducible apply State.binEvaluate_keeps h
    | extract_lets
    | fail_if_no_progress with_reducible refine h.upd ?_
    | with_reducible refine keeps_of_fst (by assumption) ?_
    | with_reducible refine keeps_of_snd (by assumption) ?_
    | split
    | dsimp +zetaDelta only

theorem execAutoTrigger_keeps (h : Keeps P 0x20001ec000000000002008c000) {s : State} (hs : P s) :
    Next P (execAutoTrigger s) := by
  unfold execAutoTrigger
  repeat' first
    | with_reducible assumption
    | with_reducible apply next_when
    | with_reducible apply State.form_keeps h
    | extract_lets
    | fail_if_no_progress with_reducible refine h.upd ?_

theorem State.calTrig_keeps (h : Keeps P 0x20001ec000000000002008c000) {s : State} (hs : P s) (a1 a2) :
    P (State.calTrig s a1 a2) := by
  unfold State.calTrig
  repeat' first
    | with_reducible assumption
    | with_reducible apply State.form_keeps h
    | extract_lets
    | with_reducible apply keeps_ite
    | split

theorem State.retIdle_keeps (h : Keeps P 0x10000000) {s : State} (hs : P s) (a1) :
    P (State.retIdle s a1) := by
  unfold State.retIdle
  repeat' first
    | with_reducible assumption
    | with_reducible apply State.retEcho_keeps h
    | with_reducible apply State.wireBlock_keeps h

theorem State.freezeSend_keeps (h : Keeps P 0x2000000000000000000000000000000000000030880000) {s : State} (hs : P s) (a1) :
    P (State.freezeSend s a1) := by
  have h1 := h.mono (k := 0x10880000) (by decide)
  have h2 := h.mono (k := 0x80000) (by decide)
  have h3 := h.mono (k := 0x20000000) (by decide)
  unfold State.freezeSend
  repeat' first
    | with_reducible assumption
    | rfl
    | with_reducible apply State.retBlock_keeps h1
    | with_reducible apply State.retTake_keeps h2
    | with_reducible apply State.raise_keeps h3
    | with_reducible apply h.inc
    | extract_lets
    | with_reducible apply keeps_ite
    | fail_if_no_progress with_reducible refine h.upd ?_
    | with_reducible refine keeps_of_fst (by assumption) ?_
    | with_reducible refine keeps_of_snd (by assumption) ?_
    | split
    | dsimp +zetaDelta only

theorem execFreezeSend_keeps (h : Keeps P 0x2000000000000000000000000000000000000030880000) {s : State} (hs : P s) (a0) :
    Next P (execFreezeSend a0 s) := by
  unfold execFreezeSend
  repeat' first
    | with_reducible assumption
    | with_reducible apply next_when
    | with_reducible apply State.freezeSend_keeps h

theorem execStrMapdataAccess_keeps (h : Keeps P 0x30000000000000000000a000) {s : State} (hs : P s) (a0 a1) :
    Next P (execStrMapdataAccess a0 a1 s) := by
  have h1 := h.mono (k := 0x2000) (by decide)
  have h2 := h.mono (k := 0x100000000000000000008000) (by decide)
  have h3 := h.mono (k := 0x300000000000000000000000) (by decide)
  unfold execStrMapdataAccess
  repeat' first
    | with_reducible assumption
    | (with_reducible apply access'_keeps h1 <;> [skip; intro _ _])
    | with_reducible apply State.writeMapData_keeps h2
    | with_reducible apply State.readMapData_keeps h3
    | with_reducible apply keeps_ite
    | split

theorem State.forceTrig_keeps (h : Keeps P 0x20001ec000000000002008c000) {s : State} (hs : P s) :
    P (State.forceTrig s) := by
  unfold State.forceTrig
  repeat' first
    | with_reducible assumption
    | with_reducible apply State.form_keeps h
    | extract_lets

theorem execSideSend_keeps (h : Keeps P 0x30000000000000000000000000000000000030880000) {s : State} (hs : P s) (a0) :
    Next P (execSideSend a0 s) := by
  have h1 := h.mono (k := 0x10880000) (by decide)
  have h2 := h.mono (k := 0x20000000) (by decide)
  unfold execSideSend
  repeat' first
    | with_reducible assumption
    | with_reducible apply next_when
    | with_reducible apply next_next
    | with_reducible apply State.putPrio_keeps h1
    | with_reducible apply State.raise_keeps h2
    | extract_lets
    | with_reducible apply keeps_ite
    | fail_if_no_progress with_reducible refine h.upd ?_
    | with_reducible refine keeps_of_fst (by assumption) ?_
    | with_reducible refine keeps_of_snd (by assumption) ?_
    | split
    | dsimp +zetaDelta only

theorem State.writeStrCtrl_keeps (h : Keeps P 0x20001ec020000000002008c000) {s : State} (hs : P s) (a1) :
    P (State.writeStrCtrl s a1) := by
  have h1 := h.mono (k := 0x8000) (by decide)
  have h2 := h.mono (k := 0x20001ec000000000002008c000) (by decide)
  unfold State.writeStrCtrl
  repeat' first
    | with_reducible assumption
    | rfl
    | with_reducible apply State.autoRebase_keeps h1
    | with_reducible apply State.forceTrig_keeps h2
    | with_reducible apply h.take
    | extract_lets
    | with_reducible apply keeps_ite
    | fail_if_no_progress with_reducible refine h.upd ?_
    | split

theorem execFbClear_keeps (h : Keeps P 0x20001ec020000000002008e000) {s : State} (hs : P s) (a0) :
    Next P (execFbClear a0 s) := by
  have h1 := h.mono (k := 0x2000) (by decide)
  have h2 := h.mono (k := 0x20001ec020000000002008c000) (by decide)
  unfold execFbClear
  repeat' first
    | with_reducible assumption
    | (with_reducible apply access'_keeps h1 <;> [skip; intro _ _])
    | with_reducible apply State.writeStrCtrl_keeps h2

theorem execStrForce_keeps (h : Keeps P 0x20001ec020000000002008e000) {s : State} (hs : P s) (a0) :
    Next P (execStrForce a0 s) := by
  have h1 := h.mono (k := 0x2000) (by decide)
  have h2 := h.mono (k := 0x20001ec020000000002008c000) (by decide)
  unfold execStrForce
  repeat' first
    | with_reducible assumption
    | (with_reducible apply access'_keeps h1 <;> [skip; intro _ _])
    | with_reducible apply State.writeStrCtrl_keeps h2

theorem State.releaseCtx_keeps (h : Keeps P 0x11d13000000000000000000000000000e0400000000000200fc040) {s : State} (hs : P s) (a1) :
    P (State.releaseCtx s a1) := by
  have h1 := h.mono (k := 0x11d130000000000000000000000000000000000000000020024040) (by decide)
  have h2 := h.mono (k := 0x40000000000000008000) (by decide)
  have h3 := h.mono (k := 0xe0000000000000200dc000) (by decide)
  unfold State.releaseCtx
  split
  · exact hs
  · extract_lets t1 t2 src t3 t4
    have q1 : P t1 := by
      apply keeps_foldl _ hs
      intro t n ht
      split
      · exact keeps_ite (State.ingDrop_keeps h1 ht _) ht
      · exact ht
    have q2 : P t2 := State.putCtx_keeps h2 q1 _ _
    have f3 : ∀ (u : State) (l : List Nat), l.length = u.stirrup.ctxFree.length → P u → P { u with stirrup := { u.stirrup with ctxFree := l } } :=
      fun u l hl hu => h.upd hu (a10 := Or.inl rfl) (b5 := Stirrup.shaped_of id (fun hx => hl.trans hx))
    have q3 : P t3 := f3 t2 _ (setAt_length rfl) q2
    have q4 : P t4 := keeps_foldl (fun t x ht => State.closeIfDone_keeps h3 ht _ _) q3
    have f4 : ∀ (u : State) (l : List (Nat × Nat)), P u → P { u with stirrup := { u.stirrup with dropped := l } } :=
      fun u l hu => h.upd hu (a10 := Or.inl rfl) (b5 := Stirrup.shaped_of id id)
    exact keeps_ite q4 (f4 t4 _ q4)

theorem State.arrived_keeps (h : Keeps P 0x11d13000000000000000000000000000e0400000000000200fc040) {s : State} (hs : P s) (a1 a2 a3 a4) :
    P (State.arrived s a1 a2 a3 a4) := by
  have h1 := h.mono (k := 0xe0000000000000200dc000) (by decide)
  have h2 := h.mono (k := 0x40000000000000008000) (by decide)
  unfold State.arrived
  repeat' first
    | with_reducible assumption
    | with_reducible apply State.closeIfDone_keeps h1
    | with_reducible apply State.putCtx_keeps h2
    | with_reducible apply State.releaseCtx_keeps h
    | extract_lets
    | with_reducible apply keeps_ite
    | fail_if_no_progress with_reducible refine h.upd ?_
    | with_reducible refine keeps_of_fst (by assumption) ?_
    | with_reducible refine keeps_of_snd (by assumption) ?_
    | split
    | dsimp +zetaDelta only

theorem State.ctxDieLeft_keeps (h : Keeps P 0x11d13000000000000000000000000000e0400000000000200fc040) {s : State} (hs : P s) (a1) :
    P (State.ctxDieLeft s a1) := by
  have h1 := h.mono (k := 0x11d130000000000000000000000000000000000000000020024040) (by decide)
  have h2 := h.mono (k := 0x40000000000000008000) (by decide)
  have h3 := h.mono (k := 0xe0000000000000200dc000) (by decide)
  have h4 := h.mono (k := 0x2000000000000000000000) (by decide)
  unfold State.ctxDieLeft
  repeat' first
    | with_reducible assumption
    | with_reducible apply State.ingDrop_keeps h1
    | with_reducible apply State.putCtx_keeps h2
    | with_reducible apply State.closeIfDone_keeps h3
    | with_reducible apply State.countMissing_keeps h4
    | with_reducible apply State.releaseCtx_keeps h
    | extract_lets
    | with_reducible apply keeps_ite
    | (with_reducible apply keeps_foldl; intro _ _ _)
    | (with_reducible apply keeps_foldl_fst; intro _ _ _)
    | fail_if_no_progress with_reducible refine h.upd ?_
    | with_reducible refine keeps_of_fst (by assumption) ?_
    | with_reducible refine keeps_of_snd (by assumption) ?_
    | split
    | dsimp +zetaDelta only

theorem execCtxTimeout_keeps (h : Keeps P 0x11d13000000000000000000000000000e0400000000000200fc040) {s : State} (hs : P s) (a0) :
    Next P (execCtxTimeout a0 s) := by
  unfold execCtxTimeout
  repeat' first
    | with_reducible assumption
    | with_reducible apply next_when
    | with_reducible apply next_next
    | with_reducible apply State.releaseCtx_keeps h
    | extract_lets
    | fail_if_no_progress with_reducible refine h.upd ?_
    | with_reducible refine keeps_of_fst (by assumption) ?_
    | with_reducible refine keeps_of_snd (by assumption) ?_
    | split
    | dsimp +zetaDelta only

theorem State.recordDone_keeps (h : Keeps P 0x11d13000000000000000000000000000e0400000000000200fc040) {s : State} (hs : P s) (a1 a2 a3) :
    P (State.recordDone s a1 a2 a3) := by
  have h1 := h.mono (k := 0x8000) (by decide)
  unfold State.recordDone
  repeat' first
    | with_reducible assumption
    | with_reducible apply State.putSeg_keeps h1
    | with_reducible apply State.arrived_keeps h
    | extract_lets
    | fail_if_no_progress with_reducible refine h.upd ?_
    | with_reducible refine keeps_of_fst (by assumption) ?_
    | with_reducible refine keeps_of_snd (by assumption) ?_
    | split
    | dsimp +zetaDelta only

theorem State.poolDrop_keeps (h : Keeps P 0x11d13000000000000000000000000000e0400000000000200fc040) {s : State} (hs : P s) (a1 a2 a3 a4 a5) :
    P (State.poolDrop s a1 a2 a3 a4 a5) := by
  have h1 := h.mono (k := 0x11d130000000000000000000000000000000000000000020024040) (by decide)
  have h2 := h.mono (k := 0xe0000000000000200dc000) (by decide)
  unfold State.poolDrop
  repeat' first
    | with_reducible assumption
    | rfl
    | with_reducible apply State.ingDrop_keeps h1
    | with_reducible apply State.closeSeg_keeps h2
    | with_reducible apply State.arrived_keeps h
    | with_reducible apply h.inc
    | extract_lets
    | with_reducible apply keeps_ite
    | fail_if_no_progress with_reducible refine h.upd ?_
    | with_reducible refine keeps_of_fst (by assumption) ?_
    | with_reducible refine keeps_of_snd (by assumption) ?_
    | split
    | dsimp +zetaDelta only

theorem State.refusalArrive_keeps (h : Keeps P 0x11d13000000000000000000000000000f0400000000000200fc040) {s : State} (hs : P s) (a1 a2) :
    P (State.refusalArrive s a1 a2) := by
  have h1 := h.mono (k := 0x20000000) (by decide)
  have h2 := h.mono (k := 0x11d13000000000000000000000000000e0400000000000200fc040) (by decide)
  unfold State.refusalArrive
  repeat' first
    | with_reducible assumption
    | rfl
    | with_reducible apply State.raise_keeps h1
    | with_reducible apply State.arrived_keeps h2
    | with_reducible apply h.inc
    | extract_lets
    | fail_if_no_progress with_reducible refine h.upd ?_
    | with_reducible refine keeps_of_fst (by assumption) ?_
    | with_reducible refine keeps_of_snd (by assumption) ?_
    | split
    | dsimp +zetaDelta only

theorem State.recordHeader_keeps (h : Keeps P 0x11d13000000000000000000000000003e0400000000000200fc040) {s : State} (hs : P s) (a1 a2) :
    P (State.recordHeader s a1 a2).1 := by
  have h1 := h.mono (k := 0x20000000) (by decide)
  have h2 := h.mono (k := 0x11d130000000000000000000000000000000000000000020024040) (by decide)
  have h3 := h.mono (k := 0x40000000000000008000) (by decide)
  have h4 := h.mono (k := 0x11d13000000000000000000000000000e0400000000000200fc040) (by decide)
  have h5 := h.mono (k := 0x804000000000002000c000) (by decide)
  have h6 := h.mono (k := 0x8000) (by decide)
  unfold State.recordHeader
  repeat' first
    | with_reducible assumption
    | rfl
    | with_reducible apply State.raise_keeps h1
    | with_reducible apply State.ingDrop_keeps h2
    | with_reducible apply State.putCtx_keeps h3
    | with_reducible apply State.poolDrop_keeps h4
    | with_reducible apply State.fbEnter_keeps h5
    | with_reducible apply State.putSeg_keeps h6
    | with_reducible apply h.inc
    | with_reducible apply h.put
    | extract_lets
    | with_reducible apply keeps_ite
    | fail_if_no_progress with_reducible refine h.upd ?_
    | with_reducible refine keeps_of_fst (by assumption) ?_
    | with_reducible refine keeps_of_snd (by assumption) ?_
    | split
    | dsimp +zetaDelta only

theorem execRefusalArrive_keeps (h : Keeps P 0x11d13000000000000000000000000000f0400000000000200fc040) {s : State} (hs : P s) (a0 a1) :
    Next P (execRefusalArrive a0 a1 s) := by
  unfold execRefusalArrive
  repeat' first
    | with_reducible assumption
    | with_reducible apply next_when
    | with_reducible apply State.refusalArrive_keeps h

theorem State.recordRead_keeps (h : Keeps P 0x11db3000000000000000000000000000e0400000000000200fc040) {s : State} (hs : P s) (a1 a2) :
    P (State.recordRead s a1 a2) := by
  have h1 := h.mono (k := 0x11db00000000000000000000000000000000000000000020024040) (by decide)
  have h2 := h.mono (k := 0x11d13000000000000000000000000000e0400000000000200fc040) (by decide)
  induction a2 generalizing s with
  | zero => exact hs
  | succ k ih =>
    unfold State.recordRead
    split
    · exact hs
    · have q := State.ingPop_keeps h1 hs a1
      split
      · rename_i e; rw [e] at q; exact ih q
      · rename_i e; rw [e] at q
        exact keeps_ite (State.recordDone_keeps h2 (h.setIng rfl _ _ _ q) _ _ _) (ih (h.setIng rfl _ _ _ q))

theorem State.recordArrive_keeps (h : Keeps P 0x11db3000000000000000000000000003e0400000000000200fc040) {s : State} (hs : P s) (a1) :
    P (State.recordArrive s a1) := by
  have h1 := h.mono (k := 0x4040) (by decide)
  have h2 := h.mono (k := 0x11d110000000000000000000000000000000000000000020024040) (by decide)
  have h3 := h.mono (k := 0x11db3000000000000000000000000000e0400000000000200fc040) (by decide)
  have h4 := h.mono (k := 0x11db00000000000000000000000000000000000000000020024040) (by decide)
  have h5 := h.mono (k := 0x11d13000000000000000000000000003e0400000000000200fc040) (by decide)
  unfold State.recordArrive
  repeat' first
    | with_reducible assumption
    | with_reducible apply State.passMarkers_keeps h1
    | with_reducible apply State.ingSettle_keeps h2
    | with_reducible apply State.recordRead_keeps h3
    | with_reducible apply State.ingPop_keeps h4
    | with_reducible apply State.recordHeader_keeps h5
    | with_reducible apply h.setIng rfl
    | extract_lets
    | with_reducible apply keeps_ite
    | fail_if_no_progress with_reducible refine h.upd ?_
    | with_reducible refine keeps_of_fst (by assumption) ?_
    | with_reducible refine keeps_of_snd (by assumption) ?_
    | split
    | dsimp +zetaDelta only

theorem execRecordArrive_keeps (h : Keeps P 0x11db3000000000000000000000000003e0400000000000200fc040) {s : State} (hs : P s) (a0) :
    Next P (execRecordArrive a0 s) := by
  unfold execRecordArrive
  repeat' first
    | with_reducible assumption
    | with_reducible apply next_when
    | with_reducible apply State.recordArrive_keeps h

end Sys2Proof.Machine
end

