-- ==== Sys2Proof/Laws/KeepPacker.lean ====
section
/-! SUPPORT. What the operations of Machine/Packer.lean keep. -/

set_option linter.unusedTactic false
set_option linter.unreachableTactic false

set_option Elab.async false

namespace Sys2Proof.Machine

variable {P : State → Prop} {m : Nat}

theorem State.editSlot_keeps (h : Keeps P 0x4000) {s : State} (hs : P s) (a1 a2) :
    P (State.editSlot s a1 a2) := by
  unfold State.editSlot
  repeat' first
    | with_reducible assumption
    | extract_lets
    | with_reducible apply keeps_ite
    | fail_if_no_progress with_reducible refine h.upd ?_
    | split

theorem State.noBlock_keeps (h : Keeps P 0x40000) {s : State} (hs : P s) (a1 a2) :
    P (State.noBlock s a1 a2) := by
  unfold State.noBlock
  repeat' first
    | with_reducible assumption
    | with_reducible apply State.editGroup_keeps h

theorem State.packHit_keeps (h : Keeps P 0x28000000000000000020004000) {s : State} (hs : P s) (a1 a2 a3 a4) :
    P (State.packHit s a1 a2 a3 a4) := by
  have h1 := h.mono (k := 0x20000000) (by decide)
  have h2 := h.mono (k := 0x4000) (by decide)
  unfold State.packHit
  repeat' first
    | with_reducible assumption
    | rfl
    | with_reducible apply State.raise_keeps h1
    | with_reducible apply State.editSlot_keeps h2
    | with_reducible apply h.inc
    | extract_lets
    | with_reducible apply keeps_ite
    | fail_if_no_progress with_reducible refine h.upd ?_
    | with_reducible refine keeps_of_fst (by assumption) ?_
    | with_reducible refine keeps_of_snd (by assumption) ?_
    | split
    | dsimp +zetaDelta only

theorem State.formBlock_keeps (h : Keeps P 0x100000000000000000000014000) {s : State} (hs : P s) (a1 a2 a3 a4 a5) :
    P (State.formBlock s a1 a2 a3 a4 a5) := by
  unfold State.formBlock
  repeat' first
    | with_reducible assumption
    | rfl
    | with_reducible apply h.inc
    | extract_lets
    | with_reducible apply keeps_ite
    | fail_if_no_progress with_reducible refine h.upd ?_
    | split

theorem State.convert_keeps (h : Keeps P 0x300000000000000000000020000000) {s : State} (hs : P s) (a1 a2) :
    P (State.convert s a1 a2).1 := by
  unfold State.convert
  repeat' first
    | with_reducible assumption
    | with_reducible apply State.countSlip_keeps h
    | extract_lets
    | fail_if_no_progress with_reducible refine h.upd ?_

theorem State.closeServices_keeps (h : Keeps P 0x10003000000000000000005c000) {s : State} (hs : P s) (a1 a2) :
    P (State.closeServices s a1 a2) := by
  have h1 := h.mono (k := 0x40000) (by decide)
  have h2 := h.mono (k := 0x100000000000000000000014000) (by decide)
  have h3 := h.mono (k := 0x30000000000000000008000) (by decide)
  unfold State.closeServices
  repeat' first
    | with_reducible assumption
    | with_reducible apply State.noBlock_keeps h1
    | with_reducible apply State.formBlock_keeps h2
    | with_reducible apply State.releaseHeld_keeps h3
    | extract_lets
    | with_reducible apply keeps_ite
    | (with_reducible apply keeps_foldl; intro _ _ _)
    | (with_reducible apply keeps_foldl_fst; intro _ _ _)
    | fail_if_no_progress with_reducible refine h.upd ?_
    | split

theorem execHitConvert_keeps (h : Keeps P 0x300000000000000000000020004000) {s : State} (hs : P s) (a0) :
    Next P (execHitConvert a0 s) := by
  have h1 := h.mono (k := 0x300000000000000000000020000000) (by decide)
  have h2 := h.mono (k := 0x4000) (by decide)
  unfold execHitConvert
  repeat' first
    | with_reducible assumption
    | with_reducible apply next_when
    | with_reducible apply next_next
    | with_reducible apply State.convert_keeps h1
    | with_reducible apply State.editSlot_keeps h2
    | extract_lets
    | fail_if_no_progress with_reducible refine h.upd ?_
    | with_reducible refine keeps_of_fst (by assumption) ?_
    | with_reducible refine keeps_of_snd (by assumption) ?_
    | split
    | dsimp +zetaDelta only

theorem State.convertAll_keeps (h : Keeps P 0x300000000000000000000020000000) {s : State} (hs : P s) (a1 a2) :
    P (State.convertAll s a1 a2).1 := by
  have h1 := h.mono (k := 0x300000000000000000000020000000) (by decide)
  induction a2 generalizing s with
  | nil => exact hs
  | cons x l ih =>
    unfold State.convertAll
    extract_lets p q
    refine ih (s := p.1) ?_
    by_cases hx : x.item.isSome = true
    · simpa [p, hx] using hs
    · simpa [p, hx] using State.convert_keeps h1 hs a1 x

theorem State.finishSlot_keeps (h : Keeps P 0x300108000000000000000020014000) {s : State} (hs : P s) (a1 a2 a3) :
    P (State.finishSlot s a1 a2 a3) := by
  have h1 := h.mono (k := 0x300000000000000000000020000000) (by decide)
  have h2 := h.mono (k := 0x100000000000000000000014000) (by decide)
  unfold State.finishSlot
  repeat' first
    | with_reducible assumption
    | rfl
    | with_reducible apply State.convertAll_keeps h1
    | with_reducible apply State.formBlock_keeps h2
    | with_reducible apply h.inc
    | extract_lets
    | with_reducible apply keeps_ite
    | fail_if_no_progress with_reducible refine h.upd ?_
    | split

theorem execHitGateEval_keeps (h : Keeps P 0x300108000000000000000020014000) {s : State} (hs : P s) :
    Next P (execHitGateEval s) := by
  unfold execHitGateEval
  repeat' first
    | with_reducible assumption
    | with_reducible apply next_when
    | with_reducible apply next_next
    | with_reducible apply State.finishSlot_keeps h
    | extract_lets
    | fail_if_no_progress with_reducible refine h.upd ?_
    | with_reducible refine keeps_of_fst (by assumption) ?_
    | with_reducible refine keeps_of_snd (by assumption) ?_
    | split
    | dsimp +zetaDelta only

theorem State.packHead_keeps (h : Keeps P 0x11db100000000000000000000000280000000000000000200f4040) {s : State} (hs : P s) (a1) :
    P (State.packHead s a1) := by
  have h1 := h.mono (k := 0x4040) (by decide)
  have h2 := h.mono (k := 0x11d110000000000000000000000000000000000000000020024040) (by decide)
  have h3 := h.mono (k := 0x11db00000000000000000000000000000000000000000020024040) (by decide)
  have h4 := h.mono (k := 0xd4000) (by decide)
  have h5 := h.mono (k := 0x28000000000000000020004000) (by decide)
  have h6 := h.mono (k := 0x4000) (by decide)
  unfold State.packHead
  repeat' first
    | with_reducible assumption
    | with_reducible apply State.passMarkers_keeps h1
    | with_reducible apply State.ingSettle_keeps h2
    | with_reducible apply State.ingPop_keeps h3
    | with_reducible apply State.poisonSlot_keeps h4
    | with_reducible apply State.packHit_keeps h5
    | with_reducible apply State.ingressLoss_keeps h6
    | extract_lets
    | with_reducible apply keeps_ite
    | fail_if_no_progress with_reducible refine h.upd ?_
    | with_reducible refine keeps_of_fst (by assumption) ?_
    | with_reducible refine keeps_of_snd (by assumption) ?_
    | split
    | dsimp +zetaDelta only

theorem execSlotPackHit_keeps (h : Keeps P 0x11db100000000000000000000000280000000000000000200f4040) {s : State} (hs : P s) (a0) :
    Next P (execSlotPackHit a0 s) := by
  unfold execSlotPackHit
  repeat' first
    | with_reducible assumption
    | with_reducible apply next_when
    | with_reducible apply State.packHead_keeps h

theorem State.drainLane_keeps (h : Keeps P 0x11db3000000000000000000000002803e0400000000000200fc040) {s : State} (hs : P s) (a1 a2 a3) :
    P (State.drainLane s a1 a2 a3) := by
  have h1 := h.mono (k := 0x11d110000000000000000000000000000000000000000020024040) (by decide)
  have h2 := h.mono (k := 0x4040) (by decide)
  have h3 := h.mono (k := 0x11db100000000000000000000000280000000000000000200f4040) (by decide)
  have h4 := h.mono (k := 0x11db3000000000000000000000000003e0400000000000200fc040) (by decide)
  induction a3 generalizing s with
  | zero => exact hs
  | succ k ih =>
    unfold State.drainLane
    extract_lets t1 t2
    have q1 : P t1 := State.passMarkers_keeps h2 (State.ingSettle_keeps h1 hs _) _
    have q2 : P t2 := keeps_ite (State.packHead_keeps h3 q1 _) (State.recordArrive_keeps h4 q1 _)
    exact keeps_ite (keeps_ite q2 (ih q2)) q1

theorem State.drainSlot_keeps (h : Keeps P 0x11db3000000000000000000000002803e0400000000000200fc040) {s : State} (hs : P s) (a1) :
    P (State.drainSlot s a1) := by
  unfold State.drainSlot
  repeat' first
    | with_reducible assumption
    | with_reducible apply State.drainLane_keeps h
    | (with_reducible apply keeps_foldl; intro _ _ _)
    | (with_reducible apply keeps_foldl_fst; intro _ _ _)

theorem State.closeSlot_keeps (h : Keeps P 0x11db300000000000000000003001bc03e0400000000000200fc040) {s : State} (hs : P s) (a1) :
    P (State.closeSlot s a1) := by
  have h1 := h.mono (k := 0x11db3000000000000000000000002803e0400000000000200fc040) (by decide)
  have h2 := h.mono (k := 0x20000000) (by decide)
  have h3 := h.mono (k := 0x4000) (by decide)
  have h4 := h.mono (k := 0x300108000000000000000020014000) (by decide)
  unfold State.closeSlot
  repeat' first
    | with_reducible assumption
    | rfl
    | with_reducible apply State.drainSlot_keeps h1
    | with_reducible apply State.raise_keeps h2
    | with_reducible apply State.editSlot_keeps h3
    | with_reducible apply State.finishSlot_keeps h4
    | with_reducible apply h.inc
    | with_reducible apply h.put
    | extract_lets
    | with_reducible apply keeps_ite
    | (with_reducible apply keeps_foldl; intro _ _ _)
    | (with_reducible apply keeps_foldl_fst; intro _ _ _)
    | fail_if_no_progress with_reducible refine h.upd ?_
    | with_reducible refine keeps_of_fst (by assumption) ?_
    | with_reducible refine keeps_of_snd (by assumption) ?_
    | split
    | dsimp +zetaDelta only

theorem execMarkerWaitExpire_keeps (h : Keeps P 0x11db300000000000000000003001bc03e0400000000000200fc040) {s : State} (hs : P s) :
    Next P (execMarkerWaitExpire s) := by
  unfold execMarkerWaitExpire
  repeat' first
    | with_reducible assumption
    | with_reducible apply next_when
    | with_reducible apply next_next
    | with_reducible apply State.closeSlot_keeps h
    | extract_lets
    | fail_if_no_progress with_reducible refine h.upd ?_
    | with_reducible refine keeps_of_fst (by assumption) ?_
    | with_reducible refine keeps_of_snd (by assumption) ?_
    | split
    | dsimp +zetaDelta only

theorem State.markerArrive_keeps (h : Keeps P 0x11db300000000000000000003001bc03e0400000000000200fc040) {s : State} (hs : P s) (a1 a2 a3) :
    P (State.markerArrive s a1 a2 a3) := by
  have h1 := h.mono (k := 0x11d110000000000000000000000000000000000000000020024040) (by decide)
  have h2 := h.mono (k := 0x4000) (by decide)
  unfold State.markerArrive
  repeat' first
    | with_reducible assumption
    | with_reducible apply State.ingPush_keeps h1
    | with_reducible apply State.editSlot_keeps h2
    | with_reducible apply State.closeSlot_keeps h
    | extract_lets
    | with_reducible apply keeps_ite
    | fail_if_no_progress with_reducible refine h.upd ?_
    | with_reducible refine keeps_of_fst (by assumption) ?_
    | with_reducible refine keeps_of_snd (by assumption) ?_
    | split
    | dsimp +zetaDelta only

theorem State.dataWord_keeps (h : Keeps P 0x11db300000000000000000003001bc03e0400000000000200fc040) {s : State} (hs : P s) (a1 a2 a3 a4) :
    P (State.dataWord s a1 a2 a3 a4) := by
  have h1 := h.mono (k := 0x20000000000000000000000000000000000000000000004040) (by decide)
  have h2 := h.mono (k := 0x11d110000000000000000000000000000000000000000020024040) (by decide)
  unfold State.dataWord
  repeat' first
    | with_reducible assumption
    | with_reducible apply State.crossIn_keeps h1
    | with_reducible apply State.markerArrive_keeps h
    | with_reducible apply State.ingPush_keeps h2
    | extract_lets
    | with_reducible apply keeps_ite
    | fail_if_no_progress with_reducible refine h.upd ?_
    | with_reducible refine keeps_of_fst (by assumption) ?_
    | with_reducible refine keeps_of_snd (by assumption) ?_
    | split
    | dsimp +zetaDelta only

theorem execMarkerArrive_keeps (h : Keeps P 0x11db300000000000000000003001bc03e0400000000000200fc040) {s : State} (hs : P s) (a0 a1 a3) :
    Next P (execMarkerArrive a0 a1 s a3) := by
  unfold execMarkerArrive
  repeat' first
    | with_reducible assumption
    | with_reducible apply next_when
    | with_reducible apply State.dataWord_keeps h

theorem execIngressPush_keeps (h : Keeps P 0x11db300000000000000000003001bc03e0400000000000200fc040) {s : State} (hs : P s) (a0 a1 a2 a4) :
    Next P (execIngressPush a0 a1 a2 s a4) := by
  unfold execIngressPush
  repeat' first
    | with_reducible assumption
    | with_reducible apply next_when
    | with_reducible apply State.dataWord_keeps h

end Sys2Proof.Machine
end

