-- ==== Sys2Proof/Laws/KeepTree.lean ====
section
/-! SUPPORT. What the operations of Machine/Tree.lean keep. -/

set_option linter.unusedTactic false
set_option linter.unreachableTactic false

set_option Elab.async false

namespace Sys2Proof.Machine

variable {P : State → Prop} {m : Nat}

theorem State.historyBad_keeps (h : Keeps P 0x10000) {s : State} (hs : P s) (a1) :
    P (State.historyBad s a1) := by
  unfold State.historyBad
  repeat' first
    | with_reducible assumption
    | extract_lets
    | fail_if_no_progress with_reducible refine h.upd ?_
    | with_reducible refine keeps_of_fst (by assumption) ?_
    | with_reducible refine keeps_of_snd (by assumption) ?_
    | split
    | dsimp +zetaDelta only

theorem State.copyRow_keeps (h : Keeps P 0x20000) {s : State} (hs : P s) (a1 a2) :
    P (State.copyRow s a1 a2) := by
  unfold State.copyRow
  repeat' first
    | with_reducible assumption
    | with_reducible apply h.setBlock rfl
    | extract_lets
    | with_reducible apply keeps_ite
    | (with_reducible apply keeps_foldl; intro _ _ _)
    | (with_reducible apply keeps_foldl_fst; intro _ _ _)
    | fail_if_no_progress with_reducible refine h.upd ?_
    | with_reducible refine keeps_of_fst (by assumption) ?_
    | with_reducible refine keeps_of_snd (by assumption) ?_
    | split
    | dsimp +zetaDelta only

theorem State.copyDone_keeps (h : Keeps P 0x22000000000000000000000000000000000000000000020020000) {s : State} (hs : P s) (a1 a2) :
    P (State.copyDone s a1 a2) := by
  have h1 := h.mono (k := 0x20000) (by decide)
  have h2 := h.mono (k := 0x20000000) (by decide)
  unfold State.copyDone
  repeat' first
    | with_reducible assumption
    | rfl
    | with_reducible apply State.copyRow_keeps h1
    | with_reducible apply State.raise_keeps h2
    | with_reducible apply h.inc
    | with_reducible apply h.putB
    | extract_lets
    | fail_if_no_progress with_reducible refine h.upd ?_

theorem State.repairStart_keeps (h : Keeps P 0x20000000000000000000000000000000000000000000020020000) {s : State} (hs : P s) (a1 a2) :
    P (State.repairStart s a1 a2) := by
  have h1 := h.mono (k := 0x20000000) (by decide)
  unfold State.repairStart
  repeat' first
    | with_reducible assumption
    | rfl
    | with_reducible apply State.raise_keeps h1
    | with_reducible apply h.putB
    | extract_lets
    | with_reducible apply keeps_ite
    | fail_if_no_progress with_reducible refine h.upd ?_
    | split

theorem State.poisonGranule_keeps (h : Keeps P 0xdc000) {s : State} (hs : P s) (a1) :
    P (State.poisonGranule s a1) := by
  have h1 := h.mono (k := 0xd4000) (by decide)
  unfold State.poisonGranule
  repeat' first
    | with_reducible assumption
    | with_reducible apply State.poisonSlot_keeps h1
    | extract_lets
    | with_reducible apply keeps_ite
    | (with_reducible apply keeps_foldl; intro _ _ _)
    | (with_reducible apply keeps_foldl_fst; intro _ _ _)
    | fail_if_no_progress with_reducible refine h.upd ?_
    | split

theorem State.scrubPass_keeps (h : Keeps P 0x2000000000000000000000000000000000000000000020020000) {s : State} (hs : P s) :
    P (State.scrubPass s) := by
  have h1 := h.mono (k := 0x20000000) (by decide)
  unfold State.scrubPass
  repeat' first
    | with_reducible assumption
    | rfl
    | with_reducible apply State.raise_keeps h1
    | with_reducible apply h.inc
    | extract_lets
    | with_reducible apply keeps_ite
    | fail_if_no_progress with_reducible refine h.upd ?_
    | split

theorem State.writeTreRepair_keeps (h : Keeps P 0x20000000000000000000000000000000000000000000020020000) {s : State} (hs : P s) (a1) :
    P (State.writeTreRepair s a1) := by
  unfold State.writeTreRepair
  repeat' first
    | with_reducible assumption
    | rfl
    | with_reducible apply State.repairStart_keeps h
    | with_reducible apply h.putB
    | with_reducible apply h.take
    | extract_lets
    | with_reducible apply keeps_ite
    | split

theorem State.poisonDesc_keeps (h : Keeps P 0xdc000) {s : State} (hs : P s) (a1) :
    P (State.poisonDesc s a1) := by
  have h1 := h.mono (k := 0xd4000) (by decide)
  unfold State.poisonDesc
  repeat' first
    | with_reducible assumption
    | with_reducible apply State.poisonSlot_keeps h1
    | extract_lets
    | with_reducible apply keeps_ite
    | (with_reducible apply keeps_foldl; intro _ _ _)
    | (with_reducible apply keeps_foldl_fst; intro _ _ _)
    | fail_if_no_progress with_reducible refine h.upd ?_
    | split

theorem State.carryFault_keeps (h : Keeps P 0xdc000) {s : State} (hs : P s) (a1 a2) :
    P (State.carryFault s a1 a2) := by
  have h1 := h.mono (k := 0x10000) (by decide)
  have h2 := h.mono (k := 0xd4000) (by decide)
  have h3 := h.mono (k := 0xc0000) (by decide)
  unfold State.carryFault
  repeat' first
    | with_reducible assumption
    | with_reducible apply State.poisonGranule_keeps h
    | with_reducible apply State.historyBad_keeps h1
    | with_reducible apply State.poisonSlot_keeps h2
    | with_reducible apply State.poisonDesc_keeps h
    | with_reducible apply State.poisonForwarded_keeps h3
    | extract_lets
    | fail_if_no_progress with_reducible refine h.upd ?_
    | with_reducible refine keeps_of_fst (by assumption) ?_
    | with_reducible refine keeps_of_snd (by assumption) ?_
    | split
    | dsimp +zetaDelta only

theorem execTreeRepair_keeps (h : Keeps P 0x20000000000000000000000000000000000000000000020022000) {s : State} (hs : P s) (a0) :
    Next P (execTreeRepair a0 s) := by
  have h1 := h.mono (k := 0x2000) (by decide)
  have h2 := h.mono (k := 0x20000000000000000000000000000000000000000000020020000) (by decide)
  unfold execTreeRepair
  repeat' first
    | with_reducible assumption
    | (with_reducible apply access'_keeps h1 <;> [skip; intro _ _])
    | with_reducible apply State.writeTreRepair_keeps h2

theorem State.scrubBlock_keeps (h : Keeps P 0x11dd00000000000000000000000000000000000000000020020000) {s : State} (hs : P s) (a1 a2 a3) :
    P (State.scrubBlock s a1 a2 a3) := by
  have h1 := h.mono (k := 0x11d100000000000000000000000000000000000000000020020000) (by decide)
  have h2 := h.mono (k := 0x1d000000000000000000000000000000000000000000020020000) (by decide)
  have h3 := h.mono (k := 0x20000000) (by decide)
  have h4 := h.mono (k := 0x1c000000000000000000000000000000000000000000020000000) (by decide)
  have h5 := h.mono (k := 0x20000) (by decide)
  have h6 := h.mono (k := 0x100000000000000000000000000000000000000000000020020000) (by decide)
  unfold State.scrubBlock
  repeat' first
    | with_reducible assumption
    | rfl
    | with_reducible apply State.checkMap_keeps h1
    | with_reducible apply State.mapLost_keeps h2
    | with_reducible apply State.raise_keeps h3
    | with_reducible apply State.treeLog_keeps h4
    | with_reducible apply State.poisonBlock_keeps h5
    | with_reducible apply State.setStale_keeps h5
    | with_reducible apply State.rowCorrected_keeps h6
    | with_reducible apply h.inc
    | with_reducible apply h.setBlock rfl
    | extract_lets
    | with_reducible apply keeps_ite
    | fail_if_no_progress with_reducible refine h.upd ?_
    | with_reducible refine keeps_of_fst (by assumption) ?_
    | with_reducible refine keeps_of_snd (by assumption) ?_
    | split
    | dsimp +zetaDelta only

theorem State.scrub_keeps (h : Keeps P 0x11fd80000000000000000000000000000000000000000020020000) {s : State} (hs : P s) (a1 a2) :
    P (State.scrub s a1 a2) := by
  have h1 := h.mono (k := 0x11dd00000000000000000000000000000000000000000020020000) (by decide)
  have h2 := h.mono (k := 0x2000000000000000000000000000000000000000000020020000) (by decide)
  unfold State.scrub
  repeat' first
    | with_reducible assumption
    | rfl
    | with_reducible apply State.scrubBlock_keeps h1
    | with_reducible apply State.scrubPass_keeps h2
    | with_reducible apply h.inc
    | extract_lets
    | with_reducible apply keeps_ite
    | fail_if_no_progress with_reducible refine h.upd ?_
    | split

theorem State.treeRead_keeps (h : Keeps P 0x11db000000000000000000000000000000000000000000200fc000) {s : State} (hs : P s) (a1 a2) :
    P (State.treeRead s a1 a2) := by
  have h1 := h.mono (k := 0x11db00000000000000000000000000000000000000000020020000) (by decide)
  have h2 := h.mono (k := 0xdc000) (by decide)
  unfold State.treeRead
  repeat' first
    | with_reducible assumption
    | with_reducible apply State.treeFetch_keeps h1
    | with_reducible apply State.carryFault_keeps h2
    | extract_lets
    | with_reducible apply keeps_ite
    | split

theorem execScrubVisit_keeps (h : Keeps P 0x11fd80000000000000000000000000000000000000000020020000) {s : State} (hs : P s) (a0 a1 a2 a3) :
    Next P (execScrubVisit a0 a1 a2 a3 s) := by
  have h1 := h.mono (k := 0x20000) (by decide)
  unfold execScrubVisit
  repeat' first
    | with_reducible assumption
    | with_reducible apply next_when
    | with_reducible apply State.scrub_keeps h
    | with_reducible apply State.strike_keeps h1
    | with_reducible apply State.treeMark_keeps h1
    | extract_lets

theorem State.runAcc_keeps (h : Keeps P 0x11db000000000000000000000000000000000000000000200fc000) {s : State} (hs : P s) (a1) :
    P (State.runAcc s a1) := by
  have h1 := h.mono (k := 0x11d100000000000000000000000000000000000000000020020000) (by decide)
  unfold State.runAcc
  repeat' first
    | with_reducible assumption
    | with_reducible apply State.treeRead_keeps h
    | with_reducible apply State.treeWrite_keeps h1
    | with_reducible apply State.treeBytes_keeps h1
    | with_reducible refine keeps_of_fst (by assumption) ?_
    | with_reducible refine keeps_of_snd (by assumption) ?_
    | split

theorem State.treeAccess_keeps (h : Keeps P 0x11db000000000000000000000000000000000000000000200fc000) {s : State} (hs : P s) (a1 a2) :
    P (State.treeAccess s a1 a2) := by
  have h1 := h.mono (k := 0x20000) (by decide)
  unfold State.treeAccess
  repeat' first
    | with_reducible assumption
    | with_reducible apply State.treeMark_keeps h1
    | with_reducible apply State.runAcc_keeps h
    | extract_lets
    | with_reducible apply keeps_ite
    | fail_if_no_progress with_reducible refine h.upd ?_
    | split

theorem State.runHeld_keeps (h : Keeps P 0x11db000000000000000000000000000000000000000000200fc000) {s : State} (hs : P s) :
    P (State.runHeld s) := by
  unfold State.runHeld
  repeat' first
    | with_reducible assumption
    | with_reducible apply State.runAcc_keeps h
    | extract_lets
    | (with_reducible apply keeps_foldl; intro _ _ _)
    | (with_reducible apply keeps_foldl_fst; intro _ _ _)
    | fail_if_no_progress with_reducible refine h.upd ?_

theorem execTreeFullWrite_keeps (h : Keeps P 0x11db000000000000000000000000000000000000000000200fc000) {s : State} (hs : P s) (a0 a1 a3) :
    Next P (execTreeFullWrite a0 a1 s a3) := by
  unfold execTreeFullWrite
  repeat' first
    | with_reducible assumption
    | with_reducible apply next_when
    | with_reducible apply State.treeAccess_keeps h

theorem execTreeRead_keeps (h : Keeps P 0x11db000000000000000000000000000000000000000000200fc000) {s : State} (hs : P s) (a0 a1 a2 a3 a5) :
    Next P (execTreeRead a0 a1 a2 a3 s a5) := by
  have h1 := h.mono (k := 0x20000) (by decide)
  unfold execTreeRead
  repeat' first
    | with_reducible assumption
    | with_reducible apply next_when
    | with_reducible apply State.treeAccess_keeps h
    | with_reducible apply State.strike_keeps h1

theorem execTreeByteWrite_keeps (h : Keeps P 0x11db000000000000000000000000000000000000000000200fc000) {s : State} (hs : P s) (a0 a1 a2 a4) :
    Next P (execTreeByteWrite a0 a1 a2 s a4) := by
  unfold execTreeByteWrite
  repeat' first
    | with_reducible assumption
    | with_reducible apply next_when
    | with_reducible apply State.treeAccess_keeps h

theorem State.nextRepair_keeps (h : Keeps P 0x20000000000000000000000000000000000000000000020020000) {s : State} (hs : P s) (a0) :
    P (State.nextRepair a0 s) := by
  have h1 := h.mono (k := 0x20000000000000000000000000000000000000000000020020000) (by decide)
  induction a0 generalizing s with
  | nil => exact h.upd hs
  | cons x l ih =>
    unfold State.nextRepair
    extract_lets t
    have ht : P t := State.repairStart_keeps h1 hs _ _
    split
    · exact h.upd ht
    · exact ih ht

theorem State.repairDone_keeps (h : Keeps P 0x13fb000000000000000000000000000000000000000000200fc000) {s : State} (hs : P s) (a1 a2) :
    P (State.repairDone s a1 a2) := by
  have h1 := h.mono (k := 0x11db000000000000000000000000000000000000000000200fc000) (by decide)
  have h2 := h.mono (k := 0x22000000000000000000000000000000000000000000020020000) (by decide)
  have h3 := h.mono (k := 0x20000) (by decide)
  have h4 := h.mono (k := 0x20000000000000000000000000000000000000000000020020000) (by decide)
  unfold State.repairDone
  repeat' first
    | with_reducible assumption
    | with_reducible apply State.runHeld_keeps h1
    | with_reducible apply State.copyDone_keeps h2
    | with_reducible apply State.treeMark_keeps h3
    | with_reducible apply State.nextRepair_keeps h4
    | extract_lets

end Sys2Proof.Machine
end

