-- ==== Sys2Proof/Laws/KeepSkive.lean ====
section
/-! SUPPORT. What the operations of Machine/Skive.lean keep. -/

set_option linter.unusedTactic false
set_option linter.unreachableTactic false

set_option Elab.async false

namespace Sys2Proof.Machine

variable {P : State → Prop} {m : Nat}

theorem State.engineReturns_keeps (h : Keeps P 0x10000) {s : State} (hs : P s) (a1) :
    P (State.engineReturns s a1) := by
  unfold State.engineReturns
  repeat' first
    | with_reducible assumption
    | extract_lets
    | with_reducible apply keeps_ite
    | fail_if_no_progress with_reducible refine h.upd ?_
    | split

theorem State.addBlock_keeps (h : Keeps P 0x10000) {s : State} (hs : P s) (a1 a2) :
    P (State.addBlock s a1 a2) := by
  unfold State.addBlock
  repeat' first
    | with_reducible assumption
    | extract_lets
    | fail_if_no_progress with_reducible refine h.upd ?_

theorem State.writeSkvStat_keeps (h : Keeps P 0x4000000000000000000000000010000) {s : State} (hs : P s) (a1) :
    P (State.writeSkvStat s a1) := by
  have h1 := h.mono (k := 0x10000) (by decide)
  unfold State.writeSkvStat
  repeat' first
    | with_reducible assumption
    | rfl
    | with_reducible apply State.engineReturns_keeps h1
    | with_reducible apply h.put
    | extract_lets
    | with_reducible apply keeps_ite
    | (with_reducible apply keeps_foldl; intro _ _ _)
    | (with_reducible apply keeps_foldl_fst; intro _ _ _)
    | fail_if_no_progress with_reducible refine h.upd ?_
    | split

theorem State.writeInsp_keeps (h : Keeps P 0x4000000000000000000000000000000000) {s : State} (hs : P s) (a1) :
    P (State.writeInsp s a1) := by
  unfold State.writeInsp
  repeat' first
    | with_reducible assumption
    | rfl
    | with_reducible apply h.putB
    | extract_lets
    | with_reducible apply keeps_ite
    | split

theorem State.judgeEngine_keeps (h : Keeps P 0x4000000000000000000000020010000) {s : State} (hs : P s) (a1 a2 a3) :
    P (State.judgeEngine s a1 a2 a3) := by
  have h1 := h.mono (k := 0x20000000) (by decide)
  unfold State.judgeEngine
  repeat' first
    | with_reducible assumption
    | rfl
    | with_reducible apply State.raise_keeps h1
    | with_reducible apply h.put
    | extract_lets
    | with_reducible apply keeps_ite
    | fail_if_no_progress with_reducible refine h.upd ?_
    | split

theorem execBacklogCheck_keeps (h : Keeps P 0x40000000000000000000000020010000) {s : State} (hs : P s) :
    Next P (execBacklogCheck s) := by
  have h1 := h.mono (k := 0x20000000) (by decide)
  unfold execBacklogCheck
  repeat' first
    | with_reducible assumption
    | rfl
    | with_reducible apply next_when
    | with_reducible apply next_next
    | with_reducible apply State.raise_keeps h1
    | with_reducible apply h.inc
    | extract_lets
    | with_reducible apply keeps_ite
    | fail_if_no_progress with_reducible refine h.upd ?_
    | with_reducible refine keeps_of_fst (by assumption) ?_
    | with_reducible refine keeps_of_snd (by assumption) ?_
    | split
    | dsimp +zetaDelta only

theorem State.assign_keeps (h : Keeps P 0x10000) {s : State} (hs : P s) (a1 a2 a3 a4 a5 a6 a7) :
    P (State.assign s a1 a2 a3 a4 a5 a6 a7) := by
  unfold State.assign
  repeat' first
    | with_reducible assumption
    | extract_lets
    | fail_if_no_progress with_reducible refine h.upd ?_

theorem State.inspDone_keeps (h : Keeps P 0x3c020000000000000000000000020000000) {s : State} (hs : P s) :
    P (State.inspDone s) := by
  have h1 := h.mono (k := 0x20000000) (by decide)
  unfold State.inspDone
  repeat' first
    | with_reducible assumption
    | rfl
    | with_reducible apply State.raise_keeps h1
    | with_reducible apply h.put
    | with_reducible apply h.putB
    | with_reducible apply h.inc
    | extract_lets
    | with_reducible apply keeps_ite
    | split

theorem State.inc64_keeps (h : Keeps P m) {s : State} (hs : P s) {f g : Fld} (hf : m.testBit (32 + f.reg.ctorIdx) = true)
    (hg : m.testBit (32 + g.reg.ctorIdx) = true) {n} : P (State.inc64 s f g n) := by
  unfold State.inc64
  extract_lets
  exact h.put hg (h.put hf hs)

theorem execEngineReturn_keeps (h : Keeps P 0x4000000000000000000000000012000) {s : State} (hs : P s) (a0) :
    Next P (execEngineReturn a0 s) := by
  have h1 := h.mono (k := 0x2000) (by decide)
  have h2 := h.mono (k := 0x4000000000000000000000000010000) (by decide)
  unfold execEngineReturn
  repeat' first
    | with_reducible assumption
    | (with_reducible apply access'_keeps h1 <;> [skip; intro _ _])
    | with_reducible apply State.writeSkvStat_keeps h2

theorem execInspGo_keeps (h : Keeps P 0x4000000000000000000000000000002000) {s : State} (hs : P s) (a0) :
    Next P (execInspGo a0 s) := by
  have h1 := h.mono (k := 0x2000) (by decide)
  have h2 := h.mono (k := 0x4000000000000000000000000000000000) (by decide)
  unfold execInspGo
  repeat' first
    | with_reducible assumption
    | (with_reducible apply access'_keeps h1 <;> [skip; intro _ _])
    | with_reducible apply State.writeInsp_keeps h2

theorem State.writeSkvCtrl_keeps (h : Keeps P 0x800000000000000000000000010000) {s : State} (hs : P s) (a1) :
    P (State.writeSkvCtrl s a1) := by
  have h1 := h.mono (k := 0x10000) (by decide)
  unfold State.writeSkvCtrl
  repeat' first
    | with_reducible assumption
    | rfl
    | with_reducible apply State.engineReturns_keeps h1
    | with_reducible apply h.take
    | extract_lets
    | with_reducible apply keeps_ite
    | (with_reducible apply keeps_foldl; intro _ _ _)
    | (with_reducible apply keeps_foldl_fst; intro _ _ _)
    | split

theorem execEngineEnableWrite_keeps (h : Keeps P 0x800000000000000000000000012000) {s : State} (hs : P s) (a0) :
    Next P (execEngineEnableWrite a0 s) := by
  have h1 := h.mono (k := 0x2000) (by decide)
  have h2 := h.mono (k := 0x800000000000000000000000010000) (by decide)
  unfold execEngineEnableWrite
  repeat' first
    | with_reducible assumption
    | (with_reducible apply access'_keeps h1 <;> [skip; intro _ _])
    | with_reducible apply State.writeSkvCtrl_keeps h2

theorem execInspDone_keeps (h : Keeps P 0x3c020000000000000000000000020000000) {s : State} (hs : P s) :
    Next P (execInspDone s) := by
  unfold execInspDone
  repeat' first
    | with_reducible assumption
    | with_reducible apply next_when
    | with_reducible apply State.inspDone_keeps h

theorem State.leaveSkive_keeps (h : Keeps P 0x600482400030000000000000020048000) {s : State} (hs : P s) (a1) :
    P (State.leaveSkive s a1) := by
  have h1 := h.mono (k := 0x30000000000000000008000) (by decide)
  have h2 := h.mono (k := 0x482400000000000000000020040000) (by decide)
  unfold State.leaveSkive
  repeat' first
    | with_reducible assumption
    | rfl
    | with_reducible apply State.inc64_keeps h
    | with_reducible apply State.releaseHeld_keeps h1
    | with_reducible apply State.placeOwn_keeps h2
    | extract_lets
    | with_reducible apply keeps_ite
    | split

theorem State.enterSkive_keeps (h : Keeps P 0x780482400030000000000000020058000) {s : State} (hs : P s) (a1 a2) :
    P (State.enterSkive s a1 a2) := by
  have h1 := h.mono (k := 0x600482400030000000000000020048000) (by decide)
  have h2 := h.mono (k := 0x10000) (by decide)
  unfold State.enterSkive
  repeat' first
    | with_reducible assumption
    | rfl
    | with_reducible apply State.leaveSkive_keeps h1
    | with_reducible apply State.inc64_keeps h
    | with_reducible apply State.assign_keeps h2
    | with_reducible apply State.addBlock_keeps h2
    | extract_lets
    | with_reducible apply keeps_ite
    | (with_reducible apply keeps_foldl; intro _ _ _)
    | (with_reducible apply keeps_foldl_fst; intro _ _ _)
    | fail_if_no_progress with_reducible refine h.upd ?_
    | with_reducible refine keeps_of_fst (by assumption) ?_
    | with_reducible refine keeps_of_snd (by assumption) ?_
    | split
    | exact id
    | exact fun _ => rfl
    | (intro hx; simpa [setAt] using hx)
    | (clear * -; decide +revert)
    | dsimp +zetaDelta only

theorem execBlockEnterSkive_keeps (h : Keeps P 0x780482400030000000000000020058000) {s : State} (hs : P s) :
    Next P (execBlockEnterSkive s) := by
  unfold execBlockEnterSkive
  repeat' first
    | with_reducible assumption
    | with_reducible apply next_when
    | with_reducible apply next_next
    | with_reducible apply State.enterSkive_keeps h
    | extract_lets
    | fail_if_no_progress with_reducible refine h.upd ?_
    | with_reducible refine keeps_of_fst (by assumption) ?_
    | with_reducible refine keeps_of_snd (by assumption) ?_
    | split
    | dsimp +zetaDelta only

theorem State.finishBlock_keeps (h : Keeps P 0x618482400030000000000000020058000) {s : State} (hs : P s) (a1) :
    P (State.finishBlock s a1) := by
  have h1 := h.mono (k := 0x20000000) (by decide)
  have h2 := h.mono (k := 0x600482400030000000000000020048000) (by decide)
  unfold State.finishBlock
  repeat' first
    | with_reducible assumption
    | rfl
    | with_reducible apply State.raise_keeps h1
    | with_reducible apply State.leaveSkive_keeps h2
    | with_reducible apply h.put
    | with_reducible apply h.inc
    | extract_lets
    | with_reducible apply keeps_ite
    | fail_if_no_progress with_reducible refine h.upd ?_
    | split

theorem execStoredPathLeave_keeps (h : Keeps P 0x600482400030000000000000020058000) {s : State} (hs : P s) :
    Next P (execStoredPathLeave s) := by
  have h1 := h.mono (k := 0x600482400030000000000000020048000) (by decide)
  unfold execStoredPathLeave
  repeat' first
    | with_reducible assumption
    | with_reducible apply next_when
    | with_reducible apply next_next
    | with_reducible apply State.leaveSkive_keeps h1
    | extract_lets
    | fail_if_no_progress with_reducible refine h.upd ?_
    | with_reducible refine keeps_of_fst (by assumption) ?_
    | with_reducible refine keeps_of_snd (by assumption) ?_
    | split
    | dsimp +zetaDelta only

theorem State.verifyPart_keeps (h : Keeps P 0x61c482400030000000000000020058000) {s : State} (hs : P s) (a1 a2 a3 a4) :
    P (State.verifyPart s a1 a2 a3 a4) := by
  have h1 := h.mono (k := 0x4000000000000000000000020010000) (by decide)
  have h2 := h.mono (k := 0x618482400030000000000000020058000) (by decide)
  unfold State.verifyPart
  repeat' first
    | with_reducible assumption
    | rfl
    | with_reducible apply State.judgeEngine_keeps h1
    | with_reducible apply State.finishBlock_keeps h2
    | with_reducible apply h.inc
    | with_reducible apply h.put
    | extract_lets
    | with_reducible apply keeps_ite
    | fail_if_no_progress with_reducible refine h.upd ?_
    | with_reducible refine keeps_of_fst (by assumption) ?_
    | with_reducible refine keeps_of_snd (by assumption) ?_
    | split
    | dsimp +zetaDelta only

theorem execPartVerifyDone_keeps (h : Keeps P 0x61c482400030000000000000020058000) {s : State} (hs : P s) (a0 a1 a2 a3) :
    Next P (execPartVerifyDone a0 a1 a2 a3 s) := by
  unfold execPartVerifyDone
  repeat' first
    | with_reducible assumption
    | with_reducible apply next_when
    | with_reducible apply next_next
    | with_reducible apply State.verifyPart_keeps h
    | extract_lets
    | fail_if_no_progress with_reducible refine h.upd ?_
    | with_reducible refine keeps_of_fst (by assumption) ?_
    | with_reducible refine keeps_of_snd (by assumption) ?_
    | split
    | dsimp +zetaDelta only

end Sys2Proof.Machine
end

