-- ==== Sys2Proof/Laws/KeepPixel.lean ====
section
/-! SUPPORT. What the operations of Machine/Pixel.lean keep. -/

set_option linter.unusedTactic false
set_option linter.unreachableTactic false

set_option Elab.async false

namespace Sys2Proof.Machine

variable {P : State → Prop} {m : Nat}

theorem State.scanMoved_keeps (h : Keeps P 0x100000) {s : State} (hs : P s) (a1) :
    P (State.scanMoved s a1) := by
  unfold State.scanMoved
  repeat' first
    | with_reducible assumption
    | with_reducible apply h.setBur rfl
    | extract_lets
    | with_reducible apply keeps_ite
    | fail_if_no_progress with_reducible refine h.upd ?_
    | with_reducible refine keeps_of_fst (by assumption) ?_
    | with_reducible refine keeps_of_snd (by assumption) ?_
    | split
    | dsimp +zetaDelta only

theorem State.markCells_keeps (h : Keeps P 0x10) {s : State} (hs : P s) (a1 a2 a3) :
    P (State.markCells s a1 a2 a3) := by
  unfold State.markCells
  repeat' first
    | with_reducible assumption
    | rfl
    | with_reducible exact id
    | with_reducible apply h.setChan rfl
    | extract_lets
    | with_reducible apply keeps_ite
    | fail_if_no_progress with_reducible refine h.upd ?_
    | split

theorem State.neighbours_keeps {s : State} {g k} (hk : ∀ t n b, P t → P (k t n b)) (hs : P s) : P (State.neighbours s g k) := by
  unfold State.neighbours
  extract_lets t
  have ht : P t := by
    unfold t
    split
    · exact hk _ _ _ hs
    · exact hs
  split
  · exact hk _ _ _ ht
  · exact ht

theorem State.setNbWindow_keeps (h : Keeps P 0x10) {s : State} (hs : P s) (a1 a2 a3) :
    P (State.setNbWindow s a1 a2 a3) := by
  unfold State.setNbWindow
  repeat' first
    | with_reducible assumption
    | rfl
    | with_reducible exact id
    | with_reducible apply h.setChan rfl
    | extract_lets
    | with_reducible apply keeps_ite
    | fail_if_no_progress with_reducible refine h.upd ?_
    | split

theorem State.injEnd_keeps (h : Keeps P 0x8) {s : State} (hs : P s) (a1 a2) :
    P (State.injEnd s a1 a2) := by
  unfold State.injEnd
  repeat' first
    | with_reducible assumption
    | with_reducible apply h.setDie rfl
    | extract_lets
    | fail_if_no_progress with_reducible refine h.upd ?_

theorem State.injectChan_keeps (h : Keeps P 0x10) {s : State} (hs : P s) (a1 a2) :
    P (State.injectChan s a1 a2) := by
  unfold State.injectChan
  repeat' first
    | with_reducible assumption
    | rfl
    | with_reducible exact id
    | with_reducible apply h.setChan rfl
    | extract_lets
    | with_reducible apply keeps_ite
    | fail_if_no_progress with_reducible refine h.upd ?_
    | split

theorem execNeighbourWindowEnd_keeps (h : Keeps P 0x10) {s : State} (hs : P s) (a0 a1 a2) :
    Next P (execNeighbourWindowEnd a0 a1 a2 s) := by
  unfold execNeighbourWindowEnd
  repeat' first
    | with_reducible assumption
    | with_reducible apply next_when
    | with_reducible apply next_next
    | with_reducible apply State.setNbWindow_keeps h
    | extract_lets
    | with_reducible apply keeps_ite
    | fail_if_no_progress with_reducible refine h.upd ?_
    | with_reducible refine keeps_of_fst (by assumption) ?_
    | with_reducible refine keeps_of_snd (by assumption) ?_
    | split
    | dsimp +zetaDelta only

theorem State.modeChange_keeps (h : Keeps P 0x10) {s : State} (hs : P s) (a1 a2) :
    P (State.modeChange s a1 a2) := by
  unfold State.modeChange
  repeat' first
    | with_reducible assumption
    | rfl
    | with_reducible exact id
    | with_reducible apply h.setChan rfl
    | extract_lets
    | with_reducible apply keeps_ite
    | fail_if_no_progress with_reducible refine h.upd ?_
    | split

theorem execRecoveryWindowEnd_keeps (h : Keeps P 0x20000000010) {s : State} (hs : P s) (a0 a1) :
    Next P (execRecoveryWindowEnd a0 a1 s) := by
  unfold execRecoveryWindowEnd
  repeat' first
    | with_reducible assumption
    | rfl
    | with_reducible exact id
    | with_reducible apply next_when
    | with_reducible apply next_next
    | with_reducible apply h.put
    | with_reducible apply h.setChan rfl
    | extract_lets
    | fail_if_no_progress with_reducible refine h.upd ?_
    | with_reducible refine keeps_of_fst (by assumption) ?_
    | with_reducible refine keeps_of_snd (by assumption) ?_
    | split
    | dsimp +zetaDelta only

theorem State.writePixOvr_keeps (h : Keeps P 0x20000000000) {s : State} (hs : P s) (a1 a2) :
    P (State.writePixOvr s a1 a2) := by
  unfold State.writePixOvr
  repeat' first
    | with_reducible assumption
    | rfl
    | with_reducible apply h.putB
    | with_reducible apply keeps_ite
    | split

theorem State.highOver_keeps (h : Keeps P 0x20000000010) {s : State} (hs : P s) (a1 a2) :
    P (State.highOver s a1 a2) := by
  have h1 := h.mono (k := 0x10) (by decide)
  unfold State.highOver
  repeat' first
    | with_reducible assumption
    | rfl
    | with_reducible apply State.markCells_keeps h1
    | with_reducible apply h.putB

theorem execAnodeSlewStep_keeps (h : Keeps P 0x400000010) {s : State} (hs : P s) (a0 a1) :
    Next P (execAnodeSlewStep a0 a1 s) := by
  unfold execAnodeSlewStep
  repeat' first
    | with_reducible assumption
    | rfl
    | with_reducible exact id
    | with_reducible apply next_when
    | with_reducible apply next_next
    | with_reducible exact next_fault
    | with_reducible exact next_refused
    | with_reducible apply h.setChan rfl
    | with_reducible apply h.put
    | extract_lets
    | with_reducible apply keeps_ite
    | (with_reducible apply keeps_foldl; intro _ _ _)
    | (with_reducible apply keeps_foldl_fst; intro _ _ _)
    | fail_if_no_progress with_reducible refine h.upd ?_
    | with_reducible refine keeps_of_fst (by assumption) ?_
    | with_reducible refine keeps_of_snd (by assumption) ?_
    | split
    | exact id
    | exact fun _ => rfl
    | (intro hx; simpa [setAt] using hx)
    | (clear * -; decide +revert)
    | dsimp +zetaDelta only

theorem State.injArmAt_keeps (h : Keeps P 0x200000000008) {s : State} (hs : P s) (a1 a2) :
    P (State.injArmAt s a1 a2) := by
  unfold State.injArmAt
  repeat' first
    | with_reducible assumption
    | rfl
    | with_reducible apply h.putB
    | with_reducible apply h.setDie rfl
    | extract_lets
    | fail_if_no_progress with_reducible refine h.upd ?_

theorem State.writePixTstat_keeps (h : Keeps P 0x8000000000) {s : State} (hs : P s) (a1 a2) :
    P (State.writePixTstat s a1 a2) := by
  unfold State.writePixTstat
  repeat' first
    | with_reducible assumption
    | rfl
    | with_reducible apply h.putB
    | extract_lets
    | with_reducible apply keeps_ite
    | split

theorem State.raiseChan_keeps (h : Keeps P 0x100000000000000000000000000000000000000000000000000000000000000000000000000000028) {s : State} (hs : P s) (a1 a2) :
    P (State.raiseChan s a1 a2) := by
  unfold State.raiseChan
  repeat' first
    | with_reducible assumption
    | with_reducible apply State.raiseDie_keeps h

theorem State.writePixdRcv_keeps (h : Keeps P 0x80000000000) {s : State} (hs : P s) (a1 a2) :
    P (State.writePixdRcv s a1 a2) := by
  unfold State.writePixdRcv
  repeat' first
    | with_reducible assumption
    | rfl
    | with_reducible apply h.take

theorem State.histBack_keeps (h : Keeps P 0xc04000000000000000000000000000000000000000000000000000000000000020) {s : State} (hs : P s) (a1) :
    P (State.histBack s a1) := by
  unfold State.histBack
  repeat' first
    | with_reducible assumption
    | rfl
    | with_reducible apply h.setQuad rfl
    | with_reducible apply h.put
    | extract_lets
    | with_reducible apply keeps_ite
    | fail_if_no_progress with_reducible refine h.upd ?_
    | with_reducible refine keeps_of_fst (by assumption) ?_
    | with_reducible refine keeps_of_snd (by assumption) ?_
    | split
    | dsimp +zetaDelta only

theorem State.showLoop_keeps (h : Keeps P 0x8001000000) {s : State} (hs : P s) (a1 a2) :
    P (State.showLoop s a1 a2) := by
  have h1 := h.mono (k := 0x1000000) (by decide)
  unfold State.showLoop
  repeat' first
    | with_reducible assumption
    | rfl
    | with_reducible apply State.draw_keeps h1
    | with_reducible apply h.putS
    | with_reducible apply h.put
    | extract_lets
    | with_reducible apply keeps_ite
    | split

theorem State.writePixTloop_keeps (h : Keeps P 0x2000000010) {s : State} (hs : P s) (a1 a2) :
    P (State.writePixTloop s a1 a2) := by
  have h1 := h.mono (k := 0x10) (by decide)
  unfold State.writePixTloop
  repeat' first
    | with_reducible assumption
    | rfl
    | with_reducible exact id
    | with_reducible apply State.modeChange_keeps h1
    | with_reducible apply h.take
    | with_reducible apply h.setChan rfl
    | extract_lets
    | with_reducible apply keeps_ite
    | fail_if_no_progress with_reducible refine h.upd ?_
    | split

theorem State.writePixdTdbase_keeps (h : Keeps P 0x40000000000) {s : State} (hs : P s) (a1 a2) :
    P (State.writePixdTdbase s a1 a2) := by
  unfold State.writePixdTdbase
  repeat' first
    | with_reducible assumption
    | rfl
    | with_reducible apply h.take

theorem State.writePixAnode_keeps (h : Keeps P 0x400000010) {s : State} (hs : P s) (a1 a2) :
    P (State.writePixAnode s a1 a2) := by
  unfold State.writePixAnode
  repeat' first
    | with_reducible assumption
    | rfl
    | with_reducible exact id
    | with_reducible apply h.setChan rfl
    | with_reducible apply h.take
    | extract_lets
    | with_reducible apply keeps_ite
    | fail_if_no_progress with_reducible refine h.upd ?_
    | split

theorem State.writePixdLoop_keeps (h : Keeps P 0x100000000000) {s : State} (hs : P s) (a1 a2) :
    P (State.writePixdLoop s a1 a2) := by
  unfold State.writePixdLoop
  repeat' first
    | with_reducible assumption
    | rfl
    | with_reducible apply h.take

theorem State.writePixTrgpol_keeps (h : Keeps P 0x9000000010) {s : State} (hs : P s) (a1 a2) :
    P (State.writePixTrgpol s a1 a2) := by
  unfold State.writePixTrgpol
  repeat' first
    | with_reducible assumption
    | rfl
    | with_reducible exact id
    | with_reducible apply h.putB
    | with_reducible apply h.take
    | with_reducible apply h.setChan rfl
    | extract_lets
    | with_reducible apply keeps_ite
    | fail_if_no_progress with_reducible refine h.upd ?_
    | split

theorem execOvrLong_keeps (h : Keeps P 0x100000000000000000000000000000000000000000000000000000000000000000000020000000038) {s : State} (hs : P s) (a0 a1) :
    Next P (execOvrLong a0 a1 s) := by
  have h1 := h.mono (k := 0x100000000000000000000000000000000000000000000000000000000000000000000000000000028) (by decide)
  unfold execOvrLong
  repeat' first
    | with_reducible assumption
    | rfl
    | with_reducible exact id
    | with_reducible apply next_when
    | with_reducible apply State.raiseChan_keeps h1
    | with_reducible apply h.putB
    | with_reducible apply h.setChan rfl
    | extract_lets
    | fail_if_no_progress with_reducible refine h.upd ?_

theorem State.writePixTdisc_keeps (h : Keeps P 0x800000000) {s : State} (hs : P s) (a1 a2) :
    P (State.writePixTdisc s a1 a2) := by
  unfold State.writePixTdisc
  repeat' first
    | with_reducible assumption
    | rfl
    | with_reducible apply h.take

theorem State.primitive_keeps (h : Keeps P 0x20) {s : State} (hs : P s) (a1) :
    P (State.primitive s a1) := by
  unfold State.primitive
  repeat' first
    | with_reducible assumption
    | with_reducible apply State.formPrims_keeps h
    | with_reducible apply h.setQuad rfl
    | extract_lets
    | fail_if_no_progress with_reducible refine h.upd ?_

theorem State.clampEval_keeps (h : Keeps P 0x100000000000000000000000000000000000000000000000000000000000000000000008000000028) {s : State} (hs : P s) (a1) :
    P (State.clampEval s a1) := by
  have h1 := h.mono (k := 0x100000000000000000000000000000000000000000000000000000000000000000000000000000028) (by decide)
  unfold State.clampEval
  repeat' first
    | with_reducible assumption
    | rfl
    | with_reducible apply State.raiseChan_keeps h1
    | with_reducible apply h.putB
    | extract_lets
    | with_reducible apply keeps_ite
    | split

theorem State.tagRcv_keeps (h : Keeps P 0xc04000000000000000000000000000000000000000000000000000000000000030) {s : State} (hs : P s) (a1) :
    P (State.tagRcv s a1) := by
  have h1 := h.mono (k := 0xc04000000000000000000000000000000000000000000000000000000000000020) (by decide)
  unfold State.tagRcv
  repeat' first
    | with_reducible assumption
    | rfl
    | with_reducible exact id
    | with_reducible apply State.histBack_keeps h1
    | with_reducible apply h.setChan rfl
    | with_reducible apply h.setQuad rfl
    | extract_lets
    | with_reducible apply keeps_ite
    | fail_if_no_progress with_reducible refine h.upd ?_
    | split

theorem State.injArm_keeps (h : Keeps P 0x200000000008) {s : State} (hs : P s) (a1) :
    P (State.injArm s a1) := by
  unfold State.injArm
  repeat' first
    | with_reducible assumption
    | with_reducible apply State.injArmAt_keeps h

theorem State.writePixInj_keeps (h : Keeps P 0x10000000000) {s : State} (hs : P s) (a1 a2) :
    P (State.writePixInj s a1 a2) := by
  unfold State.writePixInj
  repeat' first
    | with_reducible assumption
    | rfl
    | with_reducible apply h.take

theorem State.writePixTtarget_keeps (h : Keeps P 0x4000000000) {s : State} (hs : P s) (a1 a2) :
    P (State.writePixTtarget s a1 a2) := by
  unfold State.writePixTtarget
  repeat' first
    | with_reducible assumption
    | rfl
    | with_reducible apply h.take

theorem State.triggerFire_keeps (h : Keeps P 0x30) {s : State} (hs : P s) (a1) :
    P (State.triggerFire s a1) := by
  have h1 := h.mono (k := 0x20) (by decide)
  unfold State.triggerFire
  repeat' first
    | with_reducible assumption
    | rfl
    | with_reducible exact id
    | with_reducible apply State.primitive_keeps h1
    | with_reducible apply h.setChan rfl
    | extract_lets
    | with_reducible apply keeps_ite
    | fail_if_no_progress with_reducible refine h.upd ?_
    | split

theorem execAccLoad_keeps (h : Keeps P 0x2000002010) {s : State} (hs : P s) (a0 a1 a2) :
    Next P (execAccLoad a0 a1 a2 s) := by
  have h1 := h.mono (k := 0x2000) (by decide)
  have h2 := h.mono (k := 0x2000000010) (by decide)
  unfold execAccLoad
  repeat' first
    | with_reducible assumption
    | (with_reducible apply access'_keeps h1 <;> [skip; intro _ _])
    | with_reducible apply State.writePixTloop_keeps h2

theorem State.loopUpdate_keeps (h : Keeps P 0x8001000010) {s : State} (hs : P s) (a1 a2) :
    P (State.loopUpdate s a1 a2) := by
  have h1 := h.mono (k := 0x8001000000) (by decide)
  unfold State.loopUpdate
  repeat' first
    | with_reducible assumption
    | rfl
    | with_reducible exact id
    | with_reducible apply State.showLoop_keeps h1
    | with_reducible apply h.setChan rfl
    | extract_lets
    | with_reducible apply keeps_ite
    | fail_if_no_progress with_reducible refine h.upd ?_
    | split

theorem execTriggerDiscFire_keeps (h : Keeps P 0x30) {s : State} (hs : P s) (a0 a1 a3) :
    Next P (execTriggerDiscFire a0 a1 s a3) := by
  unfold execTriggerDiscFire
  repeat' first
    | with_reducible assumption
    | rfl
    | with_reducible exact id
    | with_reducible apply next_when
    | with_reducible apply State.triggerFire_keeps h
    | with_reducible apply h.setChan rfl
    | extract_lets
    | with_reducible apply keeps_ite
    | fail_if_no_progress with_reducible refine h.upd ?_
    | split

theorem State.ovrRelease_keeps (h : Keeps P 0xc04000000000000000000000000000000000000000000000000000020000000030) {s : State} (hs : P s) (a1) :
    P (State.ovrRelease s a1) := by
  have h1 := h.mono (k := 0x10) (by decide)
  have h2 := h.mono (k := 0xc04000000000000000000000000000000000000000000000000000000000000030) (by decide)
  unfold State.ovrRelease
  repeat' first
    | with_reducible assumption
    | rfl
    | with_reducible exact id
    | with_reducible apply State.markCells_keeps h1
    | with_reducible apply State.tagRcv_keeps h2
    | (with_reducible apply State.neighbours_keeps; intro _ _ _ _)
    | with_reducible apply State.setNbWindow_keeps h1
    | with_reducible apply h.putB
    | with_reducible apply h.put
    | with_reducible apply h.setChan rfl
    | extract_lets
    | with_reducible apply keeps_ite
    | fail_if_no_progress with_reducible refine h.upd ?_
    | split

theorem State.thresholdEval_keeps (h : Keeps P 0x100000000000000000000000000000000000000000000000000000000000000000000008000100028) {s : State} (hs : P s) (a1) :
    P (State.thresholdEval s a1) := by
  have h1 := h.mono (k := 0x100000) (by decide)
  have h2 := h.mono (k := 0x100000000000000000000000000000000000000000000000000000000000000000000008000000028) (by decide)
  unfold State.thresholdEval
  repeat' first
    | with_reducible assumption
    | rfl
    | with_reducible apply State.scanMoved_keeps h1
    | with_reducible apply State.clampEval_keeps h2
    | with_reducible apply h.put
    | with_reducible apply h.putB
    | extract_lets
    | with_reducible apply keeps_ite
    | split

theorem State.writePixdInj_keeps (h : Keeps P 0x200000000008) {s : State} (hs : P s) (a1 a2) :
    P (State.writePixdInj s a1 a2) := by
  have h1 := h.mono (k := 0x8) (by decide)
  unfold State.writePixdInj
  repeat' first
    | with_reducible assumption
    | rfl
    | with_reducible apply State.injArm_keeps h
    | with_reducible apply State.injEnd_keeps h1
    | with_reducible apply h.take
    | extract_lets
    | with_reducible apply keeps_ite
    | fail_if_no_progress with_reducible refine h.upd ?_
    | with_reducible refine keeps_of_fst (by assumption) ?_
    | with_reducible refine keeps_of_snd (by assumption) ?_
    | split
    | dsimp +zetaDelta only

theorem execOvrRelease_keeps (h : Keeps P 0xc04000000000000000000000000000000000000000000000000000020000000030) {s : State} (hs : P s) (a0 a1 a3) :
    Next P (execOvrRelease a0 a1 s a3) := by
  have h1 := h.mono (k := 0x20000000010) (by decide)
  unfold execOvrRelease
  repeat' first
    | with_reducible assumption
    | with_reducible apply next_when
    | with_reducible apply State.highOver_keeps h1
    | with_reducible apply State.ovrRelease_keeps h
    | extract_lets
    | with_reducible apply keeps_ite
    | split

theorem State.injFire_keeps (h : Keeps P 0x20001ec200000000002008c018) {s : State} (hs : P s) (a1 a2) :
    P (State.injFire s a1 a2) := by
  have h1 := h.mono (k := 0x10) (by decide)
  have h2 := h.mono (k := 0x8) (by decide)
  have h3 := h.mono (k := 0x20001ec000000000002008c000) (by decide)
  unfold State.injFire
  repeat' first
    | with_reducible assumption
    | with_reducible apply State.injectChan_keeps h1
    | with_reducible apply State.injEnd_keeps h2
    | with_reducible apply State.calTrig_keeps h3
    | with_reducible apply h.setDie rfl
    | extract_lets
    | with_reducible apply keeps_ite
    | (with_reducible apply keeps_foldl; intro _ _ _)
    | (with_reducible apply keeps_foldl_fst; intro _ _ _)
    | fail_if_no_progress with_reducible refine h.upd ?_
    | split

theorem State.ovrEnter_keeps (h : Keeps P 0x100000000000000c04000000000000000000000000000000000000000000000000000020000000038) {s : State} (hs : P s) (a1) :
    P (State.ovrEnter s a1) := by
  have h1 := h.mono (k := 0x10) (by decide)
  have h2 := h.mono (k := 0x100000000000000000000000000000000000000000000000000000000000000000000000000000028) (by decide)
  have h3 := h.mono (k := 0xc04000000000000000000000000000000000000000000000000000000000000030) (by decide)
  unfold State.ovrEnter
  repeat' first
    | with_reducible assumption
    | rfl
    | with_reducible exact id
    | with_reducible apply State.markCells_keeps h1
    | (with_reducible apply State.neighbours_keeps; intro _ _ _ _)
    | with_reducible apply State.setNbWindow_keeps h1
    | with_reducible apply State.raiseChan_keeps h2
    | with_reducible apply State.tagRcv_keeps h3
    | with_reducible apply h.setChan rfl
    | with_reducible apply h.inc
    | with_reducible apply h.putB
    | with_reducible apply h.put
    | extract_lets
    | with_reducible apply keeps_ite
    | fail_if_no_progress with_reducible refine h.upd ?_
    | split

theorem execPixTrgpolWrite_keeps (h : Keeps P 0x9000002010) {s : State} (hs : P s) (a0 a1 a2) :
    Next P (execPixTrgpolWrite a0 a1 a2 s) := by
  have h1 := h.mono (k := 0x2000) (by decide)
  have h2 := h.mono (k := 0x9000000010) (by decide)
  unfold execPixTrgpolWrite
  repeat' first
    | with_reducible assumption
    | (with_reducible apply access'_keeps h1 <;> [skip; intro _ _])
    | with_reducible apply State.writePixTrgpol_keeps h2

theorem State.chanPower_keeps (h : Keeps P 0xc04000000000000000000000000000000000000000000000000004020000000030) {s : State} (hs : P s) (a1 a2) :
    P (State.chanPower s a1 a2) := by
  have h1 := h.mono (k := 0x10) (by decide)
  have h2 := h.mono (k := 0xc04000000000000000000000000000000000000000000000000000020000000030) (by decide)
  have h3 := h.mono (k := 0x20000000010) (by decide)
  unfold State.chanPower
  repeat' first
    | with_reducible assumption
    | rfl
    | with_reducible exact id
    | with_reducible apply State.markCells_keeps h1
    | with_reducible apply State.ovrRelease_keeps h2
    | with_reducible apply State.highOver_keeps h3
    | with_reducible apply h.put
    | with_reducible apply h.setChan rfl
    | extract_lets
    | with_reducible apply keeps_ite
    | fail_if_no_progress with_reducible refine h.upd ?_
    | split

theorem execThresholdEval_keeps (h : Keeps P 0x100000000000000000000000000000000000000000000000000000000000000000000008000100028) {s : State} (hs : P s) (a0 a1) :
    Next P (execThresholdEval a0 a1 s) := by
  unfold execThresholdEval
  repeat' first
    | with_reducible assumption
    | with_reducible apply next_when
    | with_reducible apply State.thresholdEval_keeps h

theorem execOvrEnter_keeps (h : Keeps P 0x100000000000000c04000000000000000000000000000000000000000000000000000020000000038) {s : State} (hs : P s) (a0 a1 a3) :
    Next P (execOvrEnter a0 a1 s a3) := by
  have h1 := h.mono (k := 0x20000000010) (by decide)
  unfold execOvrEnter
  repeat' first
    | with_reducible assumption
    | with_reducible apply next_when
    | with_reducible apply State.highOver_keeps h1
    | with_reducible apply State.ovrEnter_keeps h
    | extract_lets
    | with_reducible apply keeps_ite
    | split

theorem execInjArm_keeps (h : Keeps P 0x200000002008) {s : State} (hs : P s) (a0 a1) :
    Next P (execInjArm a0 a1 s) := by
  have h1 := h.mono (k := 0x2000) (by decide)
  have h2 := h.mono (k := 0x200000000008) (by decide)
  unfold execInjArm
  repeat' first
    | with_reducible assumption
    | (with_reducible apply access'_keeps h1 <;> [skip; intro _ _])
    | with_reducible apply State.writePixdInj_keeps h2

theorem execInjRepClear_keeps (h : Keeps P 0x200000002008) {s : State} (hs : P s) (a0 a1) :
    Next P (execInjRepClear a0 a1 s) := by
  have h1 := h.mono (k := 0x2000) (by decide)
  have h2 := h.mono (k := 0x200000000008) (by decide)
  unfold execInjRepClear
  repeat' first
    | with_reducible assumption
    | (with_reducible apply access'_keeps h1 <;> [skip; intro _ _])
    | with_reducible apply State.writePixdInj_keeps h2

theorem State.writePixCtrl_keeps (h : Keeps P 0xc04000000000000000000000000000000000000000000000000004020200000030) {s : State} (hs : P s) (a1 a2) :
    P (State.writePixCtrl s a1 a2) := by
  have h1 := h.mono (k := 0xc04000000000000000000000000000000000000000000000000004020000000030) (by decide)
  unfold State.writePixCtrl
  repeat' first
    | with_reducible assumption
    | rfl
    | with_reducible apply State.chanPower_keeps h1
    | with_reducible apply h.take
    | extract_lets
    | with_reducible apply keeps_ite
    | split

end Sys2Proof.Machine
end

