-- ==== Sys2Proof/Laws/KeepAwl.lean ====
section
/-! SUPPORT. What the operations of Machine/Awl.lean keep. -/

set_option linter.unusedTactic false
set_option linter.unreachableTactic false

set_option Elab.async false

namespace Sys2Proof.Machine

variable {P : State → Prop} {m : Nat}

theorem State.calHit_keeps (h : Keeps P 0x100000) {s : State} (hs : P s) (a1 a2) :
    P (State.calHit s a1 a2) := by
  unfold State.calHit
  repeat' first
    | with_reducible assumption
    | with_reducible apply h.setBur rfl
    | extract_lets
    | with_reducible apply keeps_ite
    | fail_if_no_progress with_reducible refine h.upd ?_
    | with_reducible refine keeps_of_fst (by assumption) ?_
    | with_reducible refine keeps_of_snd (by assumption) ?_
    | split
    | dsimp +zetaDelta only

theorem execDeadTimeEnd_keeps (h : Keeps P 0x10) {s : State} (hs : P s) (a0 a1) :
    Next P (execDeadTimeEnd a0 a1 s) := by
  unfold execDeadTimeEnd
  repeat' first
    | with_reducible assumption
    | rfl
    | with_reducible exact id
    | with_reducible apply next_when
    | with_reducible apply h.setChan rfl
    | extract_lets
    | fail_if_no_progress with_reducible refine h.upd ?_

theorem State.modStage_keeps (h : Keeps P 0x20) {s : State} (hs : P s) (a1 a2 a3) :
    P (State.modStage s a1 a2 a3) := by
  unfold State.modStage
  repeat' first
    | with_reducible assumption
    | with_reducible apply h.setQuad rfl
    | extract_lets
    | with_reducible apply keeps_ite
    | fail_if_no_progress with_reducible refine h.upd ?_
    | split

theorem State.writeAwldCtrl_keeps (h : Keeps P 0x40000000000000) {s : State} (hs : P s) (a1 a2) :
    P (State.writeAwldCtrl s a1 a2) := by
  unfold State.writeAwldCtrl
  repeat' first
    | with_reducible assumption
    | rfl
    | with_reducible apply h.putB
    | with_reducible apply keeps_ite
    | split

theorem execAwlCommit_keeps (h : Keeps P 0x40000000002000) {s : State} (hs : P s) (a0 a1) :
    Next P (execAwlCommit a0 a1 s) := by
  have h1 := h.mono (k := 0x2000) (by decide)
  have h2 := h.mono (k := 0x40000000000000) (by decide)
  unfold execAwlCommit
  repeat' first
    | with_reducible assumption
    | (with_reducible apply access'_keeps h1 <;> [skip; intro _ _])
    | with_reducible apply State.writeAwldCtrl_keeps h2

theorem State.complete_keeps (h : Keeps P 0x100020) {s : State} (hs : P s) (a1 a2) :
    P (State.complete s a1 a2) := by
  have h1 := h.mono (k := 0x20) (by decide)
  have h2 := h.mono (k := 0x100000) (by decide)
  unfold State.complete
  repeat' first
    | with_reducible assumption
    | with_reducible apply State.modStage_keeps h1
    | with_reducible apply State.calHit_keeps h2
    | extract_lets
    | fail_if_no_progress with_reducible refine h.upd ?_
    | with_reducible refine keeps_of_fst (by assumption) ?_
    | with_reducible refine keeps_of_snd (by assumption) ?_
    | split
    | dsimp +zetaDelta only

theorem State.rampPut_keeps (h : Keeps P 0x20242000000000000) {s : State} (hs : P s) (a1) :
    P (State.rampPut s a1) := by
  unfold State.rampPut
  repeat' first
    | with_reducible assumption
    | rfl
    | with_reducible apply h.putS
    | with_reducible apply h.putB
    | extract_lets
    | with_reducible apply keeps_ite
    | (with_reducible apply keeps_foldl; intro _ _ _)
    | (with_reducible apply keeps_foldl_fst; intro _ _ _)
    | split

theorem State.creditAdd_keeps (h : Keeps P 0x4000000000010) {s : State} (hs : P s) (a1) :
    P (State.creditAdd s a1) := by
  unfold State.creditAdd
  repeat' first
    | with_reducible assumption
    | rfl
    | with_reducible exact id
    | with_reducible apply h.setChan rfl
    | with_reducible apply h.put
    | extract_lets
    | with_reducible apply keeps_ite
    | (with_reducible apply keeps_foldl; intro _ _ _)
    | (with_reducible apply keeps_foldl_fst; intro _ _ _)
    | fail_if_no_progress with_reducible refine h.upd ?_
    | with_reducible refine keeps_of_fst (by assumption) ?_
    | with_reducible refine keeps_of_snd (by assumption) ?_
    | split
    | exact id
    | exact fun _ => rfl
    | (intro hx; simpa [setAt] using hx)
    | (clear * -; decide +revert)
    | dsimp +zetaDelta only

theorem State.writeAwlOffs_keeps (h : Keeps P 0x2000000000000) {s : State} (hs : P s) (a1 a2) :
    P (State.writeAwlOffs s a1 a2) := by
  unfold State.writeAwlOffs
  repeat' first
    | with_reducible assumption
    | rfl
    | with_reducible apply h.take
    | extract_lets
    | with_reducible apply keeps_ite
    | (with_reducible apply keeps_foldl; intro _ _ _)
    | (with_reducible apply keeps_foldl_fst; intro _ _ _)
    | fail_if_no_progress with_reducible refine h.upd ?_
    | with_reducible refine keeps_of_fst (by assumption) ?_
    | with_reducible refine keeps_of_snd (by assumption) ?_
    | split
    | exact id
    | exact fun _ => rfl
    | (intro hx; simpa [setAt] using hx)
    | (clear * -; decide +revert)
    | dsimp +zetaDelta only

theorem State.ivlStart_keeps (h : Keeps P 0x10000000000030) {s : State} (hs : P s) (a1 a2) :
    P (State.ivlStart s a1 a2) := by
  have h1 := h.mono (k := 0x20) (by decide)
  unfold State.ivlStart
  repeat' first
    | with_reducible assumption
    | rfl
    | with_reducible exact id
    | with_reducible apply State.modStage_keeps h1
    | with_reducible apply h.inc
    | with_reducible apply h.setChan rfl
    | extract_lets
    | fail_if_no_progress with_reducible refine h.upd ?_
    | with_reducible refine keeps_of_fst (by assumption) ?_
    | with_reducible refine keeps_of_snd (by assumption) ?_
    | split
    | dsimp +zetaDelta only

theorem State.listHit_keeps (h : Keeps P 0x20) {s : State} (hs : P s) (a1 a2) :
    P (State.listHit s a1 a2) := by
  unfold State.listHit
  repeat' first
    | with_reducible assumption
    | with_reducible apply h.setQuad rfl
    | extract_lets
    | with_reducible apply keeps_ite
    | fail_if_no_progress with_reducible refine h.upd ?_
    | split

theorem State.writeAwldBias_keeps (h : Keeps P 0x80000000000000) {s : State} (hs : P s) (a1 a2) :
    P (State.writeAwldBias s a1 a2) := by
  unfold State.writeAwldBias
  repeat' first
    | with_reducible assumption
    | rfl
    | with_reducible apply h.take

theorem State.settleStage_keeps (h : Keeps P 0x800000000000020) {s : State} (hs : P s) (a1) :
    P (State.settleStage s a1) := by
  unfold State.settleStage
  repeat' first
    | with_reducible assumption
    | rfl
    | with_reducible apply h.setQuad rfl
    | with_reducible apply h.put
    | extract_lets
    | fail_if_no_progress with_reducible refine h.upd ?_

theorem State.writeAwlTapselNext_keeps (h : Keeps P 0x1000000000000) {s : State} (hs : P s) (a1 a2) :
    P (State.writeAwlTapselNext s a1 a2) := by
  unfold State.writeAwlTapselNext
  repeat' first
    | with_reducible assumption
    | rfl
    | with_reducible apply h.take
    | extract_lets
    | with_reducible apply keeps_ite
    | (with_reducible apply keeps_foldl; intro _ _ _)
    | (with_reducible apply keeps_foldl_fst; intro _ _ _)
    | fail_if_no_progress with_reducible refine h.upd ?_
    | with_reducible refine keeps_of_fst (by assumption) ?_
    | with_reducible refine keeps_of_snd (by assumption) ?_
    | split
    | exact id
    | exact fun _ => rfl
    | (intro hx; simpa [setAt] using hx)
    | (clear * -; decide +revert)
    | dsimp +zetaDelta only

theorem State.writeAwldRamp_keeps (h : Keeps P 0x100000000000000) {s : State} (hs : P s) (a1 a2) :
    P (State.writeAwldRamp s a1 a2) := by
  unfold State.writeAwldRamp
  repeat' first
    | with_reducible assumption
    | rfl
    | with_reducible apply h.take
    | extract_lets
    | with_reducible apply keeps_ite
    | (with_reducible apply keeps_foldl; intro _ _ _)
    | (with_reducible apply keeps_foldl_fst; intro _ _ _)
    | fail_if_no_progress with_reducible refine h.upd ?_
    | with_reducible refine keeps_of_fst (by assumption) ?_
    | with_reducible refine keeps_of_snd (by assumption) ?_
    | split
    | exact id
    | exact fun _ => rfl
    | (intro hx; simpa [setAt] using hx)
    | (clear * -; decide +revert)
    | dsimp +zetaDelta only

theorem State.epochApply_keeps (h : Keeps P 0x1000000000000000000000000000000000000000000000000000000000000000202c2800000000038) {s : State} (hs : P s) (a1) :
    P (State.epochApply s a1) := by
  have h1 := h.mono (k := 0x20242000000000000) (by decide)
  have h2 := h.mono (k := 0x100000000000000000000000000000000000000000000000000000000000000000000000000000028) (by decide)
  unfold State.epochApply
  repeat' first
    | with_reducible assumption
    | rfl
    | with_reducible exact id
    | with_reducible apply State.rampPut_keeps h1
    | with_reducible apply State.raiseDie_keeps h2
    | with_reducible apply h.put
    | with_reducible apply h.inc
    | with_reducible apply h.setChan rfl
    | with_reducible apply h.setDie rfl
    | with_reducible apply h.putB
    | extract_lets
    | (with_reducible apply keeps_foldl; intro _ _ _)
    | (with_reducible apply keeps_foldl_fst; intro _ _ _)
    | fail_if_no_progress with_reducible refine h.upd ?_

theorem State.ivlStop_keeps (h : Keeps P 0x18000000000030) {s : State} (hs : P s) (a1 a2) :
    P (State.ivlStop s a1 a2) := by
  have h1 := h.mono (k := 0x20) (by decide)
  unfold State.ivlStop
  repeat' first
    | with_reducible assumption
    | rfl
    | with_reducible exact id
    | with_reducible apply State.modStage_keeps h1
    | with_reducible apply h.inc
    | with_reducible apply h.setChan rfl
    | extract_lets
    | with_reducible apply keeps_ite
    | fail_if_no_progress with_reducible refine h.upd ?_
    | with_reducible refine keeps_of_fst (by assumption) ?_
    | with_reducible refine keeps_of_snd (by assumption) ?_
    | split
    | dsimp +zetaDelta only

theorem State.awlStrobe_keeps (h : Keeps P 0x1000000000000000000000000000000000000000000000000000000000000000202c2800000000038) {s : State} (hs : P s) (a1) :
    P (State.awlStrobe s a1).1 := by
  have h1 := h.mono (k := 0x20242000000000000) (by decide)
  unfold State.awlStrobe
  repeat' first
    | with_reducible assumption
    | with_reducible apply State.epochApply_keeps h
    | with_reducible apply State.rampPut_keeps h1
    | with_reducible apply h.setDie rfl
    | extract_lets
    | with_reducible apply keeps_ite
    | fail_if_no_progress with_reducible refine h.upd ?_
    | split

theorem execMarkerEntry_keeps (h : Keeps P 0x800000000000020) {s : State} (hs : P s) (a0) :
    Next P (execMarkerEntry a0 s) := by
  unfold execMarkerEntry
  repeat' first
    | with_reducible assumption
    | with_reducible apply next_when
    | with_reducible apply next_next
    | with_reducible apply State.settleStage_keeps h
    | with_reducible apply h.setQuad rfl
    | extract_lets
    | with_reducible apply keeps_ite
    | fail_if_no_progress with_reducible refine h.upd ?_
    | with_reducible refine keeps_of_fst (by assumption) ?_
    | with_reducible refine keeps_of_snd (by assumption) ?_
    | split
    | dsimp +zetaDelta only

theorem State.histCount_keeps (h : Keeps P 0xc04000000000000000000000000000000000000000000000000000000000000020) {s : State} (hs : P s) (a1 a2) :
    P (State.histCount s a1 a2) := by
  unfold State.histCount
  repeat' first
    | with_reducible assumption
    | rfl
    | with_reducible apply h.setQuad rfl
    | with_reducible apply h.inc
    | with_reducible apply h.put
    | extract_lets
    | with_reducible apply keeps_ite
    | fail_if_no_progress with_reducible refine h.upd ?_
    | split

theorem execTotSaturate_keeps (h : Keeps P 0x100030) {s : State} (hs : P s) (a0 a1) :
    Next P (execTotSaturate a0 a1 s) := by
  have h1 := h.mono (k := 0x100020) (by decide)
  unfold execTotSaturate
  repeat' first
    | with_reducible assumption
    | rfl
    | with_reducible exact id
    | with_reducible apply next_when
    | with_reducible apply next_next
    | with_reducible apply State.complete_keeps h1
    | with_reducible apply h.setChan rfl
    | extract_lets
    | fail_if_no_progress with_reducible refine h.upd ?_
    | with_reducible refine keeps_of_fst (by assumption) ?_
    | with_reducible refine keeps_of_snd (by assumption) ?_
    | split
    | dsimp +zetaDelta only

theorem State.histLead_keeps (h : Keeps P 0xc04000000000000000000000000000000000000000000000000000000000000020) {s : State} (hs : P s) (a1 a2) :
    P (State.histLead s a1 a2) := by
  unfold State.histLead
  repeat' first
    | with_reducible assumption
    | with_reducible apply State.histCount_keeps h
    | with_reducible apply h.setQuad rfl
    | extract_lets
    | with_reducible apply keeps_ite
    | fail_if_no_progress with_reducible refine h.upd ?_
    | split

theorem execCreditAdd_keeps (h : Keeps P 0x4000000000010) {s : State} (hs : P s) (a0 a1) :
    Next P (execCreditAdd a0 a1 s) := by
  unfold execCreditAdd
  repeat' first
    | with_reducible assumption
    | with_reducible apply next_when
    | with_reducible apply State.creditAdd_keeps h

theorem State.writeAwlCtrl_keeps (h : Keeps P 0x400000000000) {s : State} (hs : P s) (a1 a2) :
    P (State.writeAwlCtrl s a1 a2) := by
  unfold State.writeAwlCtrl
  repeat' first
    | with_reducible assumption
    | rfl
    | with_reducible apply h.take

theorem State.openHit_keeps (h : Keeps P 0x30) {s : State} (hs : P s) (a1 a2 a3) :
    P (State.openHit s a1 a2 a3) := by
  have h1 := h.mono (k := 0x20) (by decide)
  unfold State.openHit
  repeat' first
    | with_reducible assumption
    | rfl
    | with_reducible exact id
    | with_reducible apply State.listHit_keeps h1
    | with_reducible apply h.setChan rfl
    | extract_lets
    | with_reducible apply keeps_ite
    | fail_if_no_progress with_reducible refine h.upd ?_
    | split

theorem State.writeAwldIvl_keeps (h : Keeps P 0x400000000000000) {s : State} (hs : P s) (a1 a2) :
    P (State.writeAwldIvl s a1 a2) := by
  unfold State.writeAwldIvl
  repeat' first
    | with_reducible assumption
    | rfl
    | with_reducible apply h.take
    | extract_lets
    | with_reducible apply keeps_ite
    | (with_reducible apply keeps_foldl; intro _ _ _)
    | (with_reducible apply keeps_foldl_fst; intro _ _ _)
    | fail_if_no_progress with_reducible refine h.upd ?_
    | with_reducible refine keeps_of_fst (by assumption) ?_
    | with_reducible refine keeps_of_snd (by assumption) ?_
    | split
    | exact id
    | exact fun _ => rfl
    | (intro hx; simpa [setAt] using hx)
    | (clear * -; decide +revert)
    | dsimp +zetaDelta only

theorem execIntervalTimeout_keeps (h : Keeps P 0x808000000000030) {s : State} (hs : P s) (a0 a1) :
    Next P (execIntervalTimeout a0 a1 s) := by
  have h1 := h.mono (k := 0x800000000000020) (by decide)
  have h2 := h.mono (k := 0x20) (by decide)
  unfold execIntervalTimeout
  repeat' first
    | with_reducible assumption
    | rfl
    | with_reducible exact id
    | with_reducible apply next_when
    | with_reducible apply next_next
    | with_reducible apply State.settleStage_keeps h1
    | with_reducible apply State.modStage_keeps h2
    | with_reducible apply h.setChan rfl
    | with_reducible apply h.inc
    | extract_lets
    | fail_if_no_progress with_reducible refine h.upd ?_
    | with_reducible refine keeps_of_fst (by assumption) ?_
    | with_reducible refine keeps_of_snd (by assumption) ?_
    | split
    | dsimp +zetaDelta only

theorem State.writeAwldPhase_keeps (h : Keeps P 0x200000000000000) {s : State} (hs : P s) (a1 a2) :
    P (State.writeAwldPhase s a1 a2) := by
  unfold State.writeAwldPhase
  repeat' first
    | with_reducible assumption
    | rfl
    | with_reducible apply h.take
    | extract_lets
    | with_reducible apply keeps_ite
    | (with_reducible apply keeps_foldl; intro _ _ _)
    | (with_reducible apply keeps_foldl_fst; intro _ _ _)
    | fail_if_no_progress with_reducible refine h.upd ?_
    | with_reducible refine keeps_of_fst (by assumption) ?_
    | with_reducible refine keeps_of_snd (by assumption) ?_
    | split
    | exact id
    | exact fun _ => rfl
    | (intro hx; simpa [setAt] using hx)
    | (clear * -; decide +revert)
    | dsimp +zetaDelta only

theorem State.trailCapture_keeps (h : Keeps P 0xc04000000000000000000000000000000000000000000000000000000000100030) {s : State} (hs : P s) (a1 a2) :
    P (State.trailCapture s a1 a2) := by
  have h1 := h.mono (k := 0xc04000000000000000000000000000000000000000000000000000000000000020) (by decide)
  have h2 := h.mono (k := 0x100020) (by decide)
  unfold State.trailCapture
  repeat' first
    | with_reducible assumption
    | rfl
    | with_reducible exact id
    | with_reducible apply State.histCount_keeps h1
    | with_reducible apply State.complete_keeps h2
    | with_reducible apply h.setChan rfl
    | extract_lets
    | with_reducible apply keeps_ite
    | fail_if_no_progress with_reducible refine h.upd ?_
    | with_reducible refine keeps_of_fst (by assumption) ?_
    | with_reducible refine keeps_of_snd (by assumption) ?_
    | split
    | dsimp +zetaDelta only

theorem execTrailCapture_keeps (h : Keeps P 0xc04000000000000000000000000000000000000000000000000000000000100030) {s : State} (hs : P s) (a0 a1 a2 a4) :
    Next P (execTrailCapture a0 a1 a2 s a4) := by
  unfold execTrailCapture
  repeat' first
    | with_reducible assumption
    | with_reducible apply next_when
    | with_reducible apply State.trailCapture_keeps h
    | extract_lets

theorem State.ivlEntry_keeps (h : Keeps P 0x18000000000030) {s : State} (hs : P s) (a1 a2) :
    P (State.ivlEntry s a1 a2) := by
  have h1 := h.mono (k := 0x10000000000030) (by decide)
  unfold State.ivlEntry
  repeat' first
    | with_reducible assumption
    | with_reducible apply State.ivlStart_keeps h1
    | with_reducible apply State.ivlStop_keeps h
    | with_reducible apply keeps_ite
    | split

theorem execEntryToQueue_keeps (h : Keeps P 0x800000000000020) {s : State} (hs : P s) (a0) :
    Next P (execEntryToQueue a0 s) := by
  unfold execEntryToQueue
  repeat' first
    | with_reducible assumption
    | with_reducible apply next_when
    | with_reducible apply next_next
    | with_reducible apply State.settleStage_keeps h
    | with_reducible apply h.setQuad rfl
    | extract_lets
    | with_reducible apply keeps_ite
    | fail_if_no_progress with_reducible refine h.upd ?_
    | with_reducible refine keeps_of_fst (by assumption) ?_
    | with_reducible refine keeps_of_snd (by assumption) ?_
    | split
    | dsimp +zetaDelta only

theorem execCompletionEntry_keeps (h : Keeps P 0x100000000000000000000000000000000000000000000000000000000000000000818000000000038) {s : State} (hs : P s) (a0 a1) :
    Next P (execCompletionEntry a0 a1 s) := by
  have h1 := h.mono (k := 0x800000000000020) (by decide)
  have h2 := h.mono (k := 0x18000000000030) (by decide)
  have h3 := h.mono (k := 0x20) (by decide)
  have h4 := h.mono (k := 0x100000000000000000000000000000000000000000000000000000000000000000000000000000028) (by decide)
  unfold execCompletionEntry
  repeat' first
    | with_reducible assumption
    | rfl
    | with_reducible apply next_when
    | with_reducible apply next_next
    | with_reducible apply State.settleStage_keeps h1
    | with_reducible apply State.ivlEntry_keeps h2
    | with_reducible apply State.modStage_keeps h3
    | with_reducible apply State.raiseDie_keeps h4
    | with_reducible apply h.setQuad rfl
    | with_reducible apply h.inc
    | extract_lets
    | with_reducible apply keeps_ite
    | fail_if_no_progress with_reducible refine h.upd ?_
    | with_reducible refine keeps_of_fst (by assumption) ?_
    | with_reducible refine keeps_of_snd (by assumption) ?_
    | split
    | dsimp +zetaDelta only

theorem State.leadCapture_keeps (h : Keeps P 0xc04000000000000000000000000000000000000000000000000004000000000030) {s : State} (hs : P s) (a1 a2) :
    P (State.leadCapture s a1 a2) := by
  have h1 := h.mono (k := 0x4000000000010) (by decide)
  have h2 := h.mono (k := 0x30) (by decide)
  have h3 := h.mono (k := 0xc04000000000000000000000000000000000000000000000000000000000000020) (by decide)
  unfold State.leadCapture
  repeat' first
    | with_reducible assumption
    | rfl
    | with_reducible exact id
    | with_reducible apply State.creditAdd_keeps h1
    | with_reducible apply State.openHit_keeps h2
    | with_reducible apply State.histLead_keeps h3
    | with_reducible apply h.inc
    | with_reducible apply h.put
    | with_reducible apply h.setQuad rfl
    | with_reducible apply h.setChan rfl
    | extract_lets
    | with_reducible apply keeps_ite
    | (with_reducible apply keeps_foldl; intro _ _ _)
    | (with_reducible apply keeps_foldl_fst; intro _ _ _)
    | fail_if_no_progress with_reducible refine h.upd ?_
    | with_reducible refine keeps_of_fst (by assumption) ?_
    | with_reducible refine keeps_of_snd (by assumption) ?_
    | split
    | exact id
    | exact fun _ => rfl
    | (intro hx; simpa [setAt] using hx)
    | (clear * -; decide +revert)
    | dsimp +zetaDelta only

theorem execLeadCapture_keeps (h : Keeps P 0xc04000000000000000000000000000000000000000000000000004000000000030) {s : State} (hs : P s) (a0 a1 a2 a3) :
    Next P (execLeadCapture a0 a1 a2 a3 s) := by
  unfold execLeadCapture
  repeat' first
    | with_reducible assumption
    | with_reducible apply next_when
    | with_reducible apply State.leadCapture_keeps h
    | extract_lets

end Sys2Proof.Machine
end

