-- ==== Sys2Proof/Laws/KeepRing.lean ====
section
/-! SUPPORT. What the operations of Machine/Ring.lean keep. -/

set_option linter.unusedTactic false
set_option linter.unreachableTactic false

set_option Elab.async false

namespace Sys2Proof.Machine

variable {P : State → Prop} {m : Nat}

theorem State.setBank_keeps (h : Keeps P 0x10) {s : State} (hs : P s) (a1 a2 a3) :
    P (State.setBank s a1 a2 a3) := by
  unfold State.setBank
  repeat' first
    | with_reducible assumption
    | rfl
    | with_reducible exact id
    | with_reducible apply h.setChan rfl
    | extract_lets
    | with_reducible apply keeps_ite
    | (with_reducible apply keeps_foldl; intro _ _ _)
    | (with_reducible apply keeps_foldl_fst; intro _ _ _)
    | fail_if_no_progress with_reducible refine h.upd ?_
    | with_reducible refine keeps_of_fst (by assumption) ?_
    | with_reducible refine keeps_of_snd (by assumption) ?_
    | split
    | exact id
    | exact fun _ => rfl
    | (intro hx; simpa [setAt] using hx)
    | (clear * -; decide +revert)
    | dsimp +zetaDelta only

theorem State.aperRecord_keeps (h : Keeps P 0x100000) {s : State} (hs : P s) (a1 a2) :
    P (State.aperRecord s a1 a2) := by
  unfold State.aperRecord
  repeat' first
    | with_reducible assumption
    | with_reducible apply h.setBur rfl
    | extract_lets
    | with_reducible apply keeps_ite
    | fail_if_no_progress with_reducible refine h.upd ?_
    | with_reducible refine keeps_of_fst (by assumption) ?_
    | with_reducible refine keeps_of_snd (by assumption) ?_
    | split
    | dsimp +zetaDelta only

theorem execTransferEnd_keeps (h : Keeps P 0x10) {s : State} (hs : P s) (a0 a1 a2) :
    Next P (execTransferEnd a0 a1 a2 s) := by
  unfold execTransferEnd
  repeat' first
    | with_reducible assumption
    | with_reducible apply next_when
    | with_reducible apply next_next
    | with_reducible apply State.setBank_keeps h
    | extract_lets
    | fail_if_no_progress with_reducible refine h.upd ?_
    | with_reducible refine keeps_of_fst (by assumption) ?_
    | with_reducible refine keeps_of_snd (by assumption) ?_
    | split
    | dsimp +zetaDelta only

theorem State.recordPush_keeps (h : Keeps P 0x30) {s : State} (hs : P s) (a1 a2) :
    P (State.recordPush s a1 a2) := by
  have h1 := h.mono (k := 0x10) (by decide)
  unfold State.recordPush
  repeat' first
    | with_reducible assumption
    | with_reducible apply State.setBank_keeps h1
    | with_reducible apply h.setQuad rfl
    | extract_lets
    | fail_if_no_progress with_reducible refine h.upd ?_
    | with_reducible refine keeps_of_fst (by assumption) ?_
    | with_reducible refine keeps_of_snd (by assumption) ?_
    | split
    | dsimp +zetaDelta only

theorem State.ringSettle_keeps (h : Keeps P 0x2000000000000010) {s : State} (hs : P s) (a1) :
    P (State.ringSettle s a1) := by
  unfold State.ringSettle
  repeat' first
    | with_reducible assumption
    | rfl
    | with_reducible exact id
    | with_reducible apply h.put
    | with_reducible apply h.putB
    | with_reducible apply h.setChan rfl
    | extract_lets
    | with_reducible apply keeps_ite
    | fail_if_no_progress with_reducible refine h.upd ?_
    | with_reducible refine keeps_of_fst (by assumption) ?_
    | with_reducible refine keeps_of_snd (by assumption) ?_
    | split
    | dsimp +zetaDelta only

theorem State.rebase_keeps (h : Keeps P 0x18) {s : State} (hs : P s) (a1 a2) :
    P (State.rebase s a1 a2) := by
  unfold State.rebase
  repeat' first
    | with_reducible assumption
    | rfl
    | with_reducible exact id
    | with_reducible apply h.setDie rfl
    | with_reducible apply h.setChan rfl
    | extract_lets
    | with_reducible apply keeps_ite
    | (with_reducible apply keeps_foldl; intro _ _ _)
    | (with_reducible apply keeps_foldl_fst; intro _ _ _)
    | fail_if_no_progress with_reducible refine h.upd ?_
    | with_reducible refine keeps_of_fst (by assumption) ?_
    | with_reducible refine keeps_of_snd (by assumption) ?_
    | split
    | dsimp +zetaDelta only

theorem State.ringRestart_keeps (h : Keeps P 0x2000000000000010) {s : State} (hs : P s) (a1) :
    P (State.ringRestart s a1) := by
  unfold State.ringRestart
  repeat' first
    | with_reducible assumption
    | rfl
    | with_reducible exact id
    | with_reducible apply State.ringSettle_keeps h
    | with_reducible apply h.setChan rfl
    | extract_lets
    | fail_if_no_progress with_reducible refine h.upd ?_

theorem State.writeRngdPush_keeps (h : Keeps P 0x40000000000000000) {s : State} (hs : P s) (a1 a2) :
    P (State.writeRngdPush s a1 a2) := by
  unfold State.writeRngdPush
  repeat' first
    | with_reducible assumption
    | rfl
    | with_reducible apply h.take
    | extract_lets
    | with_reducible apply keeps_ite
    | (with_reducible apply keeps_foldl; intro _ _ _)
    | (with_reducible apply keeps_foldl_fst; intro _ _ _)
    | fail_if_no_progress with_reducible refine h.upd ?_
    | with_reducible refine keeps_of_fst (by assumption) ?_
    | with_reducible refine keeps_of_snd (by assumption) ?_
    | split
    | exact id
    | exact fun _ => rfl
    | (intro hx; simpa [setAt] using hx)
    | (clear * -; decide +revert)
    | dsimp +zetaDelta only

theorem execRecordPush_keeps (h : Keeps P 0x30) {s : State} (hs : P s) (a0) :
    Next P (execRecordPush a0 s) := by
  unfold execRecordPush
  repeat' first
    | with_reducible assumption
    | with_reducible apply next_when
    | with_reducible apply next_next
    | with_reducible apply State.recordPush_keeps h
    | extract_lets
    | fail_if_no_progress with_reducible refine h.upd ?_
    | with_reducible refine keeps_of_fst (by assumption) ?_
    | with_reducible refine keeps_of_snd (by assumption) ?_
    | split
    | dsimp +zetaDelta only

theorem State.writeRngdAper_keeps (h : Keeps P 0x20000000000000000) {s : State} (hs : P s) (a1 a2) :
    P (State.writeRngdAper s a1 a2) := by
  unfold State.writeRngdAper
  repeat' first
    | with_reducible assumption
    | rfl
    | with_reducible apply h.take

theorem State.conversionEnd_keeps (h : Keeps P 0x100000000000000000000000000000000000000000000000000000000000000100000000000100038) {s : State} (hs : P s) (a1 a2 a3 a4 a5 a6) :
    P (State.conversionEnd s a1 a2 a3 a4 a5 a6) := by
  have h1 := h.mono (k := 0x100000000000000000000000000000000000000000000000000000000000000000000000000000028) (by decide)
  have h2 := h.mono (k := 0x10) (by decide)
  have h3 := h.mono (k := 0x100000) (by decide)
  unfold State.conversionEnd
  repeat' first
    | with_reducible assumption
    | rfl
    | with_reducible apply State.raiseChan_keeps h1
    | with_reducible apply State.setBank_keeps h2
    | with_reducible apply State.aperRecord_keeps h3
    | with_reducible apply h.put
    | with_reducible apply h.inc
    | with_reducible apply h.setQuad rfl
    | extract_lets
    | with_reducible apply keeps_ite
    | fail_if_no_progress with_reducible refine h.upd ?_
    | split

theorem execRecWaitExpire_keeps (h : Keeps P 0x20) {s : State} (hs : P s) (a0) :
    Next P (execRecWaitExpire a0 s) := by
  unfold execRecWaitExpire
  repeat' first
    | with_reducible assumption
    | with_reducible apply next_when
    | with_reducible apply next_next
    | with_reducible apply h.setQuad rfl
    | extract_lets
    | fail_if_no_progress with_reducible refine h.upd ?_
    | with_reducible refine keeps_of_fst (by assumption) ?_
    | with_reducible refine keeps_of_snd (by assumption) ?_
    | split
    | dsimp +zetaDelta only

theorem State.freezeRefuse_keeps (h : Keeps P 0x100000000000000000000000000000000000000000000000000000000000000084000000000000028) {s : State} (hs : P s) (a1 a2 a3) :
    P (State.freezeRefuse s a1 a2 a3) := by
  have h1 := h.mono (k := 0x100000000000000000000000000000000000000000000000000000000000000000000000000000028) (by decide)
  have h2 := h.mono (k := 0x20) (by decide)
  unfold State.freezeRefuse
  repeat' first
    | with_reducible assumption
    | rfl
    | with_reducible apply State.raiseChan_keeps h1
    | with_reducible apply State.csPush_keeps h2
    | with_reducible apply h.inc
    | extract_lets
    | with_reducible apply keeps_ite
    | split

theorem State.cutPush_keeps (h : Keeps P 0x20) {s : State} (hs : P s) (a1) :
    P (State.cutPush s a1) := by
  unfold State.cutPush
  repeat' first
    | with_reducible assumption
    | with_reducible apply h.setQuad rfl
    | extract_lets
    | with_reducible apply keeps_ite
    | fail_if_no_progress with_reducible refine h.upd ?_
    | split

theorem State.freezeDecode_keeps (h : Keeps P 0x100000000000000000000000000000000000000000000000000000000000000084000000000000038) {s : State} (hs : P s) (a1 a2 a3) :
    P (State.freezeDecode s a1 a2 a3) := by
  have h1 := h.mono (k := 0x100000000000000000000000000000000000000000000000000000000000000084000000000000028) (by decide)
  unfold State.freezeDecode
  repeat' first
    | with_reducible assumption
    | rfl
    | with_reducible exact id
    | with_reducible apply State.freezeRefuse_keeps h1
    | with_reducible apply h.setChan rfl
    | extract_lets
    | with_reducible apply keeps_ite
    | (with_reducible apply keeps_foldl; intro _ _ _)
    | (with_reducible apply keeps_foldl_fst; intro _ _ _)
    | fail_if_no_progress with_reducible refine h.upd ?_
    | split

theorem execRingFull_keeps (h : Keeps P 0x2000000000000010) {s : State} (hs : P s) (a0 a1) :
    Next P (execRingFull a0 a1 s) := by
  unfold execRingFull
  repeat' first
    | with_reducible assumption
    | rfl
    | with_reducible apply next_when
    | with_reducible apply next_next
    | with_reducible apply State.ringSettle_keeps h
    | with_reducible apply h.putB
    | extract_lets
    | fail_if_no_progress with_reducible refine h.upd ?_
    | with_reducible refine keeps_of_fst (by assumption) ?_
    | with_reducible refine keeps_of_snd (by assumption) ?_
    | split
    | dsimp +zetaDelta only

theorem State.ringClear_keeps (h : Keeps P 0x30) {s : State} (hs : P s) (a1) :
    P (State.ringClear s a1) := by
  have h1 := h.mono (k := 0x20) (by decide)
  unfold State.ringClear
  repeat' first
    | with_reducible assumption
    | rfl
    | with_reducible exact id
    | with_reducible apply State.cutPush_keeps h1
    | with_reducible apply h.setChan rfl
    | extract_lets
    | with_reducible apply keeps_ite
    | (with_reducible apply keeps_foldl; intro _ _ _)
    | (with_reducible apply keeps_foldl_fst; intro _ _ _)
    | fail_if_no_progress with_reducible refine h.upd ?_
    | with_reducible refine keeps_of_fst (by assumption) ?_
    | with_reducible refine keeps_of_snd (by assumption) ?_
    | split
    | exact id
    | exact fun _ => rfl
    | (intro hx; simpa [setAt] using hx)
    | (clear * -; decide +revert)
    | dsimp +zetaDelta only

theorem State.badWord_keeps (h : Keeps P 0x100000000000000000000000000000000800000000000000000000000000000000000000000000028) {s : State} (hs : P s) (a1) :
    P (State.badWord s a1) := by
  have h1 := h.mono (k := 0x100000000000000000000000000000000000000000000000000000000000000000000000000000028) (by decide)
  unfold State.badWord
  repeat' first
    | with_reducible assumption
    | rfl
    | with_reducible apply State.raiseDie_keeps h1
    | with_reducible apply h.inc

theorem State.freezeApply_keeps (h : Keeps P 0x100000000000000000000000000000000000000000000000000000000000000084000000000000038) {s : State} (hs : P s) (a1 a2) :
    P (State.freezeApply s a1 a2) := by
  have h1 := h.mono (k := 0x100000000000000000000000000000000000000000000000000000000000000084000000000000028) (by decide)
  have h2 := h.mono (k := 0x10) (by decide)
  unfold State.freezeApply
  repeat' first
    | with_reducible assumption
    | rfl
    | with_reducible exact id
    | with_reducible apply State.freezeRefuse_keeps h1
    | with_reducible apply State.setBank_keeps h2
    | with_reducible apply h.setChan rfl
    | extract_lets
    | with_reducible apply keeps_ite
    | fail_if_no_progress with_reducible refine h.upd ?_
    | with_reducible refine keeps_of_fst (by assumption) ?_
    | with_reducible refine keeps_of_snd (by assumption) ?_
    | split
    | dsimp +zetaDelta only

theorem State.writeRngCtrl_keeps (h : Keeps P 0x2000000000000010) {s : State} (hs : P s) (a1 a2) :
    P (State.writeRngCtrl s a1 a2) := by
  unfold State.writeRngCtrl
  repeat' first
    | with_reducible assumption
    | with_reducible apply State.ringRestart_keeps h
    | with_reducible apply keeps_ite
    | split

theorem execConversionEnd_keeps (h : Keeps P 0x100000000000000000000000000000000000000000000000000000000000000100000000000100038) {s : State} (hs : P s) (a0 a1 a2 a3 a4 a5) :
    Next P (execConversionEnd a0 a1 a2 a3 a4 a5 s) := by
  unfold execConversionEnd
  repeat' first
    | with_reducible assumption
    | with_reducible apply next_when
    | with_reducible apply next_next
    | with_reducible exact next_fault
    | with_reducible apply State.conversionEnd_keeps h
    | extract_lets
    | with_reducible apply keeps_ite
    | fail_if_no_progress with_reducible refine h.upd ?_
    | with_reducible refine keeps_of_fst (by assumption) ?_
    | with_reducible refine keeps_of_snd (by assumption) ?_
    | split
    | dsimp +zetaDelta only

theorem State.restartAll_keeps (h : Keeps P 0x2000000000000010) {s : State} (hs : P s) (a1) :
    P (State.restartAll s a1) := by
  unfold State.restartAll
  repeat' first
    | with_reducible assumption
    | with_reducible apply State.ringRestart_keeps h
    | (with_reducible apply keeps_foldl; intro _ _ _)
    | (with_reducible apply keeps_foldl_fst; intro _ _ _)

theorem execRngRestart_keeps (h : Keeps P 0x2000000000002010) {s : State} (hs : P s) (a0 a1 a2) :
    Next P (execRngRestart a0 a1 a2 s) := by
  have h1 := h.mono (k := 0x2000) (by decide)
  have h2 := h.mono (k := 0x2000000000000010) (by decide)
  unfold execRngRestart
  repeat' first
    | with_reducible assumption
    | (with_reducible apply access'_keeps h1 <;> [skip; intro _ _])
    | with_reducible apply State.writeRngCtrl_keeps h2

theorem State.writeRngdCtrl_keeps (h : Keeps P 0x12000000000000010) {s : State} (hs : P s) (a1 a2) :
    P (State.writeRngdCtrl s a1 a2) := by
  have h1 := h.mono (k := 0x2000000000000010) (by decide)
  unfold State.writeRngdCtrl
  repeat' first
    | with_reducible assumption
    | rfl
    | with_reducible apply State.restartAll_keeps h1
    | with_reducible apply h.take
    | extract_lets
    | with_reducible apply keeps_ite
    | split

theorem execFreezeApply_keeps (h : Keeps P 0x100000000000000000000000000000000000000000000000000000000000000084000000000000038) {s : State} (hs : P s) (a0 a1) :
    Next P (execFreezeApply a0 a1 s) := by
  unfold execFreezeApply
  repeat' first
    | with_reducible assumption
    | with_reducible apply next_when
    | with_reducible apply next_next
    | with_reducible apply State.freezeApply_keeps h
    | extract_lets
    | fail_if_no_progress with_reducible refine h.upd ?_
    | with_reducible refine keeps_of_fst (by assumption) ?_
    | with_reducible refine keeps_of_snd (by assumption) ?_
    | split
    | dsimp +zetaDelta only

theorem State.dropFrz0_keeps (h : Keeps P 0x100000000000000000000000000000000800000000000000000000000000000000000000000000028) {s : State} (hs : P s) (a1) :
    P (State.dropFrz0 s a1) := by
  unfold State.dropFrz0
  repeat' first
    | with_reducible assumption
    | with_reducible apply State.badWord_keeps h
    | with_reducible apply h.setDie rfl
    | extract_lets
    | fail_if_no_progress with_reducible refine h.upd ?_
    | with_reducible refine keeps_of_fst (by assumption) ?_
    | with_reducible refine keeps_of_snd (by assumption) ?_
    | split
    | dsimp +zetaDelta only

theorem execFreezeDecode_keeps (h : Keeps P 0x100000000000000000000000000000000800000000000000000000000000000084000000000080038) {s : State} (hs : P s) (a0 a1) :
    Next P (execFreezeDecode a0 a1 s) := by
  have h1 := h.mono (k := 0x80000) (by decide)
  have h2 := h.mono (k := 0x100000000000000000000000000000000000000000000000000000000000000084000000000000038) (by decide)
  have h3 := h.mono (k := 0x100000000000000000000000000000000800000000000000000000000000000000000000000000028) (by decide)
  unfold execFreezeDecode
  repeat' first
    | with_reducible assumption
    | with_reducible apply next_when
    | with_reducible apply State.retTaken_keeps h1
    | with_reducible apply State.freezeDecode_keeps h2
    | with_reducible apply State.badWord_keeps h3
    | with_reducible apply State.dropFrz0_keeps h3
    | with_reducible apply h.setDie rfl
    | extract_lets
    | with_reducible apply keeps_ite
    | fail_if_no_progress with_reducible refine h.upd ?_
    | with_reducible refine keeps_of_fst (by assumption) ?_
    | with_reducible refine keeps_of_snd (by assumption) ?_
    | split
    | dsimp +zetaDelta only

theorem execRestartAll_keeps (h : Keeps P 0x12000000000002010) {s : State} (hs : P s) (a0 a1) :
    Next P (execRestartAll a0 a1 s) := by
  have h1 := h.mono (k := 0x2000) (by decide)
  have h2 := h.mono (k := 0x12000000000000010) (by decide)
  unfold execRestartAll
  repeat' first
    | with_reducible assumption
    | (with_reducible apply access'_keeps h1 <;> [skip; intro _ _])
    | with_reducible apply State.writeRngdCtrl_keeps h2

theorem execFrz0_keeps (h : Keeps P 0x100000000000000000000000000000000800000000000000000000000000000000000000000080028) {s : State} (hs : P s) (a0 a1) :
    Next P (execFrz0 a0 a1 s) := by
  have h1 := h.mono (k := 0x100000000000000000000000000000000800000000000000000000000000000000000000000000028) (by decide)
  have h2 := h.mono (k := 0x80000) (by decide)
  unfold execFrz0
  repeat' first
    | with_reducible assumption
    | with_reducible apply next_when
    | with_reducible apply State.dropFrz0_keeps h1
    | with_reducible apply State.retTaken_keeps h2
    | with_reducible apply h.setDie rfl
    | extract_lets
    | fail_if_no_progress with_reducible refine h.upd ?_

end Sys2Proof.Machine
end

