-- ==== Sys2Proof/Laws/KeepStrop.lean ====
section
/-! SUPPORT. What the operations of Machine/Strop.lean keep. -/

set_option linter.unusedTactic false
set_option linter.unreachableTactic false

set_option Elab.async false

namespace Sys2Proof.Machine

variable {P : State → Prop} {m : Nat}

theorem State.setStrop_keeps (h : Keeps P 0x10) {s : State} (hs : P s) (a1 a2) :
    P (State.setStrop s a1 a2) := by
  unfold State.setStrop
  repeat' first
    | with_reducible assumption
    | rfl
    | with_reducible exact id
    | with_reducible apply h.setChan rfl
    | extract_lets
    | fail_if_no_progress with_reducible refine h.upd ?_

theorem State.stropReset_keeps (h : Keeps P 0x2800000000000000000000000000000000000000000000000000010) {s : State} (hs : P s) (a1) :
    P (State.stropReset s a1) := by
  have h1 := h.mono (k := 0x10) (by decide)
  unfold State.stropReset
  repeat' first
    | with_reducible assumption
    | rfl
    | with_reducible apply State.setStrop_keeps h1
    | with_reducible apply h.inc
    | with_reducible apply h.putB
    | extract_lets
    | fail_if_no_progress with_reducible refine h.upd ?_

theorem State.chanFir_keeps (h : Keeps P 0x10) {s : State} (hs : P s) (a1 a2 a3 a4) :
    P (State.chanFir s a1 a2 a3 a4) := by
  unfold State.chanFir
  repeat' first
    | with_reducible assumption
    | with_reducible apply State.setStrop_keeps h
    | extract_lets
    | with_reducible apply keeps_ite
    | fail_if_no_progress with_reducible refine h.upd ?_
    | split

theorem State.stropRequest_keeps (h : Keeps P 0x10) {s : State} (hs : P s) (a1) :
    P (State.stropRequest s a1) := by
  unfold State.stropRequest
  repeat' first
    | with_reducible assumption
    | with_reducible apply State.setStrop_keeps h
    | extract_lets
    | with_reducible apply keeps_ite
    | fail_if_no_progress with_reducible refine h.upd ?_
    | split

theorem State.fadeStart_keeps (h : Keeps P 0x18000000000000000000000000000000000000000000000000000008) {s : State} (hs : P s) (a1 a2) :
    P (State.fadeStart s a1 a2) := by
  unfold State.fadeStart
  repeat' first
    | with_reducible assumption
    | rfl
    | with_reducible apply h.put
    | with_reducible apply h.putB
    | with_reducible apply h.setDie rfl
    | extract_lets
    | fail_if_no_progress with_reducible refine h.upd ?_

theorem State.ambientCollect_keeps (h : Keeps P 0x40000000000000000000004000) {s : State} (hs : P s) (a1 a2) :
    P (State.ambientCollect s a1 a2) := by
  have h1 := h.mono (k := 0x4000) (by decide)
  unfold State.ambientCollect
  repeat' first
    | with_reducible assumption
    | rfl
    | with_reducible apply State.item_keeps h1
    | with_reducible apply h.inc
    | extract_lets
    | with_reducible apply keeps_ite
    | fail_if_no_progress with_reducible refine h.upd ?_
    | with_reducible refine keeps_of_fst (by assumption) ?_
    | with_reducible refine keeps_of_snd (by assumption) ?_
    | split
    | dsimp +zetaDelta only

theorem State.cicOutput_keeps (h : Keeps P 0x10) {s : State} (hs : P s) (a1 a2) :
    P (State.cicOutput s a1 a2) := by
  unfold State.cicOutput
  repeat' first
    | with_reducible assumption
    | with_reducible apply State.setStrop_keeps h
    | extract_lets
    | fail_if_no_progress with_reducible refine h.upd ?_

theorem State.stropRequestAll_keeps (h : Keeps P 0x10) {s : State} (hs : P s) (a1) :
    P (State.stropRequestAll s a1) := by
  unfold State.stropRequestAll
  repeat' first
    | with_reducible assumption
    | with_reducible apply State.stropRequest_keeps h
    | (with_reducible apply keeps_foldl; intro _ _ _)
    | (with_reducible apply keeps_foldl_fst; intro _ _ _)

theorem State.fadeStep_keeps (h : Keeps P 0x18000000000000000000000000000000000000000000000000000008) {s : State} (hs : P s) (a1 a2 a3 a4) :
    P (State.fadeStep s a1 a2 a3 a4) := by
  unfold State.fadeStep
  repeat' first
    | with_reducible assumption
    | rfl
    | with_reducible apply State.fadeStart_keeps h
    | with_reducible apply h.setDie rfl
    | with_reducible apply h.put
    | with_reducible apply h.putB
    | extract_lets
    | with_reducible apply keeps_ite
    | fail_if_no_progress with_reducible refine h.upd ?_
    | split

theorem State.writeStpOffs_keeps (h : Keeps P 0x400000000000000000000000000000000000000000000000000000) {s : State} (hs : P s) (a1 a2) :
    P (State.writeStpOffs s a1 a2) := by
  unfold State.writeStpOffs
  repeat' first
    | with_reducible assumption
    | rfl
    | with_reducible apply h.take

theorem State.writeStpCtrl_keeps (h : Keeps P 0x200000000000000000000000000000000000000000000000000010) {s : State} (hs : P s) (a1 a2) :
    P (State.writeStpCtrl s a1 a2) := by
  have h1 := h.mono (k := 0x10) (by decide)
  unfold State.writeStpCtrl
  repeat' first
    | with_reducible assumption
    | rfl
    | with_reducible apply State.setStrop_keeps h1
    | with_reducible apply State.stropRequest_keeps h1
    | with_reducible apply h.take
    | extract_lets
    | with_reducible apply keeps_ite
    | fail_if_no_progress with_reducible refine h.upd ?_
    | split

theorem execAmbientCollect_keeps (h : Keeps P 0x40000000000000000000004000) {s : State} (hs : P s) (a0 a1) :
    Next P (execAmbientCollect a0 a1 s) := by
  unfold execAmbientCollect
  repeat' first
    | with_reducible assumption
    | with_reducible apply next_when
    | with_reducible apply State.ambientCollect_keeps h

theorem execStropResetApply_keeps (h : Keeps P 0x2800000000000000000000000000000000000000000000000000010) {s : State} (hs : P s) (a0 a1) :
    Next P (execStropResetApply a0 a1 s) := by
  unfold execStropResetApply
  repeat' first
    | with_reducible assumption
    | with_reducible apply next_when
    | with_reducible apply State.stropReset_keeps h

theorem State.flicker_keeps (h : Keeps P 0x1000000000000000000000000000000000000000000000000000030) {s : State} (hs : P s) (a1 a2 a3 a4) :
    P (State.flicker s a1 a2 a3 a4) := by
  have h1 := h.mono (k := 0x10) (by decide)
  have h2 := h.mono (k := 0x20) (by decide)
  unfold State.flicker
  repeat' first
    | with_reducible assumption
    | rfl
    | with_reducible apply State.setStrop_keeps h1
    | with_reducible apply State.csPush_keeps h2
    | with_reducible apply h.put
    | extract_lets
    | with_reducible apply keeps_ite
    | fail_if_no_progress with_reducible refine h.upd ?_
    | split

theorem execStpSync_keeps (h : Keeps P 0x200000000000000000000000000000000000000000000000002010) {s : State} (hs : P s) (a0 a1 a2) :
    Next P (execStpSync a0 a1 a2 s) := by
  have h1 := h.mono (k := 0x2000) (by decide)
  have h2 := h.mono (k := 0x200000000000000000000000000000000000000000000000000010) (by decide)
  unfold execStpSync
  repeat' first
    | with_reducible assumption
    | (with_reducible apply access'_keeps h1 <;> [skip; intro _ _])
    | with_reducible apply State.writeStpCtrl_keeps h2

theorem State.dieSummary_keeps (h : Keeps P 0x60000000000000000000000000000000000000000000000000000020) {s : State} (hs : P s) (a1 a2) :
    P (State.dieSummary s a1 a2) := by
  have h1 := h.mono (k := 0x20) (by decide)
  unfold State.dieSummary
  repeat' first
    | with_reducible assumption
    | rfl
    | with_reducible apply State.csPush_keeps h1
    | with_reducible apply h.putB
    | with_reducible apply h.put
    | extract_lets
    | (with_reducible apply keeps_foldl; intro _ _ _)
    | (with_reducible apply keeps_foldl_fst; intro _ _ _)

theorem State.writeStpdCtrl_keeps (h : Keeps P 0x4000000000000000000000000000000000000000000000000000010) {s : State} (hs : P s) (a1 a2) :
    P (State.writeStpdCtrl s a1 a2) := by
  have h1 := h.mono (k := 0x10) (by decide)
  unfold State.writeStpdCtrl
  repeat' first
    | with_reducible assumption
    | rfl
    | with_reducible apply State.stropRequestAll_keeps h1
    | with_reducible apply h.take
    | extract_lets
    | with_reducible apply keeps_ite
    | split

theorem execStpPresetWrite_keeps (h : Keeps P 0x200000000000000000000000000000000000000000000000002010) {s : State} (hs : P s) (a0 a1 a2) :
    Next P (execStpPresetWrite a0 a1 a2 s) := by
  have h1 := h.mono (k := 0x2000) (by decide)
  have h2 := h.mono (k := 0x200000000000000000000000000000000000000000000000000010) (by decide)
  unfold execStpPresetWrite
  repeat' first
    | with_reducible assumption
    | (with_reducible apply access'_keeps h1 <;> [skip; intro _ _])
    | with_reducible apply State.writeStpCtrl_keeps h2

theorem execCic1Output_keeps (h : Keeps P 0x10) {s : State} (hs : P s) (a0 a1 a2) :
    Next P (execCic1Output a0 a1 a2 s) := by
  unfold execCic1Output
  repeat' first
    | with_reducible assumption
    | with_reducible apply next_when
    | with_reducible apply State.cicOutput_keeps h
    | extract_lets

theorem execStpEnable_keeps (h : Keeps P 0x200000000000000000000000000000000000000000000000002010) {s : State} (hs : P s) (a0 a1 a2) :
    Next P (execStpEnable a0 a1 a2 s) := by
  have h1 := h.mono (k := 0x2000) (by decide)
  have h2 := h.mono (k := 0x200000000000000000000000000000000000000000000000000010) (by decide)
  unfold execStpEnable
  repeat' first
    | with_reducible assumption
    | (with_reducible apply access'_keeps h1 <;> [skip; intro _ _])
    | with_reducible apply State.writeStpCtrl_keeps h2

theorem State.bankRequest_keeps (h : Keeps P 0x100000000000000000000000018000000000000000000000000000000000000000000000000000028) {s : State} (hs : P s) (a1 a2) :
    P (State.bankRequest s a1 a2) := by
  have h1 := h.mono (k := 0x100000000000000000000000000000000000000000000000000000000000000000000000000000028) (by decide)
  have h2 := h.mono (k := 0x18000000000000000000000000000000000000000000000000000008) (by decide)
  unfold State.bankRequest
  repeat' first
    | with_reducible assumption
    | rfl
    | with_reducible apply State.raiseDie_keeps h1
    | with_reducible apply State.fadeStart_keeps h2
    | with_reducible apply h.put
    | with_reducible apply h.putB
    | with_reducible apply h.inc
    | extract_lets
    | with_reducible apply keeps_ite
    | split

theorem State.writeCoef_keeps (h : Keeps P 0x188000000000000000000000000000000000000000000000000000000) {s : State} (hs : P s) (a1 a2 a3 a4) :
    P (State.writeCoef s a1 a2 a3 a4) := by
  unfold State.writeCoef
  repeat' first
    | with_reducible assumption
    | rfl
    | with_reducible apply h.putB
    | with_reducible apply h.take
    | with_reducible apply keeps_ite
    | split

theorem State.firOutput_keeps (h : Keeps P 0x78000000000000000000000000000000000000000000000000000038) {s : State} (hs : P s) (a1) :
    P (State.firOutput s a1) := by
  have h1 := h.mono (k := 0x10) (by decide)
  have h2 := h.mono (k := 0x60000000000000000000000000000000000000000000000000000020) (by decide)
  have h3 := h.mono (k := 0x18000000000000000000000000000000000000000000000000000008) (by decide)
  unfold State.firOutput
  repeat' first
    | with_reducible assumption
    | with_reducible apply State.chanFir_keeps h1
    | with_reducible apply State.dieSummary_keeps h2
    | with_reducible apply State.fadeStep_keeps h3
    | with_reducible apply h.setDie rfl
    | extract_lets
    | with_reducible apply keeps_ite
    | (with_reducible apply keeps_foldl; intro _ _ _)
    | (with_reducible apply keeps_foldl_fst; intro _ _ _)
    | fail_if_no_progress with_reducible refine h.upd ?_
    | split

theorem execSyncAll_keeps (h : Keeps P 0x4000000000000000000000000000000000000000000000000002010) {s : State} (hs : P s) (a0 a1) :
    Next P (execSyncAll a0 a1 s) := by
  have h1 := h.mono (k := 0x2000) (by decide)
  have h2 := h.mono (k := 0x4000000000000000000000000000000000000000000000000000010) (by decide)
  unfold execSyncAll
  repeat' first
    | with_reducible assumption
    | (with_reducible apply access'_keeps h1 <;> [skip; intro _ _])
    | with_reducible apply State.writeStpdCtrl_keeps h2

theorem execCoefWrite_keeps (h : Keeps P 0x188000000000000000000000000000000000000000000000000002000) {s : State} (hs : P s) (a0 a1 a2 a3) :
    Next P (execCoefWrite a0 a1 a2 a3 s) := by
  have h1 := h.mono (k := 0x2000) (by decide)
  have h2 := h.mono (k := 0x188000000000000000000000000000000000000000000000000000000) (by decide)
  unfold execCoefWrite
  repeat' first
    | with_reducible assumption
    | (with_reducible apply access'_keeps h1 <;> [skip; intro _ _])
    | with_reducible apply State.writeCoef_keeps h2

theorem State.writeStpdBank_keeps (h : Keeps P 0x100000000000000000000000018000000000000000000000000000000000000000000000000000028) {s : State} (hs : P s) (a1 a2) :
    P (State.writeStpdBank s a1 a2) := by
  unfold State.writeStpdBank
  repeat' first
    | with_reducible assumption
    | rfl
    | with_reducible apply State.bankRequest_keeps h
    | with_reducible apply h.putB
    | extract_lets
    | with_reducible apply keeps_ite
    | split

theorem State.levelEmit_keeps (h : Keeps P 0x100000000000000000000000003800000000000000000000000000000000000000000008001000038) {s : State} (hs : P s) (a1) :
    P (State.levelEmit s a1) := by
  have h1 := h.mono (k := 0x20) (by decide)
  have h2 := h.mono (k := 0x100000000000000000000000000000000000000000000000000000000000000000000000000000028) (by decide)
  have h3 := h.mono (k := 0x1000000000000000000000000000000000000000000000000000030) (by decide)
  have h4 := h.mono (k := 0x8001000010) (by decide)
  have h5 := h.mono (k := 0x10) (by decide)
  unfold State.levelEmit
  repeat' first
    | with_reducible assumption
    | rfl
    | with_reducible apply State.csPush_keeps h1
    | with_reducible apply State.raiseChan_keeps h2
    | with_reducible apply State.flicker_keeps h3
    | with_reducible apply State.loopUpdate_keeps h4
    | with_reducible apply State.setStrop_keeps h5
    | with_reducible apply h.put
    | with_reducible apply h.putB
    | with_reducible apply h.inc
    | extract_lets
    | with_reducible apply keeps_ite
    | fail_if_no_progress with_reducible refine h.upd ?_
    | split

theorem execBankRequest_keeps (h : Keeps P 0x100000000000000000000000018000000000000000000000000000000000000000000000000002028) {s : State} (hs : P s) (a0 a1) :
    Next P (execBankRequest a0 a1 s) := by
  have h1 := h.mono (k := 0x2000) (by decide)
  have h2 := h.mono (k := 0x100000000000000000000000018000000000000000000000000000000000000000000000000000028) (by decide)
  unfold execBankRequest
  repeat' first
    | with_reducible assumption
    | (with_reducible apply access'_keeps h1 <;> [skip; intro _ _])
    | with_reducible apply State.writeStpdBank_keeps h2

theorem execLevelEmit_keeps (h : Keeps P 0x100000000000000000000000003800000000000000000000000000000000000000000008001000038) {s : State} (hs : P s) (a0 a1) :
    Next P (execLevelEmit a0 a1 s) := by
  unfold execLevelEmit
  repeat' first
    | with_reducible assumption
    | with_reducible apply next_when
    | with_reducible apply State.levelEmit_keeps h
    | extract_lets

theorem execAmbientWordSend_keeps (h : Keeps P 0x10800020) {s : State} (hs : P s) (a0) :
    Next P (execAmbientWordSend a0 s) := by
  have h1 := h.mono (k := 0x20) (by decide)
  unfold execAmbientWordSend
  repeat' first
    | with_reducible assumption
    | with_reducible apply next_when
    | with_reducible apply next_next
    | with_reducible apply State.formPrims_keeps h1
    | with_reducible apply State.laneSend_keeps h
    | with_reducible apply h.setQuad rfl
    | extract_lets
    | fail_if_no_progress with_reducible refine h.upd ?_
    | with_reducible refine keeps_of_fst (by assumption) ?_
    | with_reducible refine keeps_of_snd (by assumption) ?_
    | split
    | dsimp +zetaDelta only

end Sys2Proof.Machine
end

