-- ==== Sys2Proof/Laws/KeepLink.lean ====
section
/-! SUPPORT. What the operations of Machine/Link.lean keep. -/

set_option linter.unusedTactic false
set_option linter.unreachableTactic false

set_option Elab.async false

namespace Sys2Proof.Machine

variable {P : State → Prop} {m : Nat}

theorem execShathenLinkLost_keeps (h : Keeps P 0x20084000) {s : State} (hs : P s) (a0) :
    Next P (execShathenLinkLost a0 s) := by
  have h1 := h.mono (k := 0x20000000) (by decide)
  have h2 := h.mono (k := 0x4000) (by decide)
  unfold execShathenLinkLost
  repeat' first
    | with_reducible assumption
    | with_reducible apply next_when
    | with_reducible apply next_next
    | with_reducible apply State.raise_keeps h1
    | with_reducible apply State.slotDieGone_keeps h2
    | extract_lets
    | fail_if_no_progress with_reducible refine h.upd ?_
    | with_reducible refine keeps_of_fst (by assumption) ?_
    | with_reducible refine keeps_of_snd (by assumption) ?_
    | split
    | dsimp +zetaDelta only

theorem State.putLatency_keeps (h : Keeps P 0x4000000000000000000000000000000000000001000000) {s : State} (hs : P s) (a1 a2) :
    P (State.putLatency s a1 a2) := by
  have h1 := h.mono (k := 0x1000000) (by decide)
  unfold State.putLatency
  repeat' first
    | with_reducible assumption
    | rfl
    | with_reducible apply State.draw_keeps h1
    | with_reducible apply h.putS
    | with_reducible apply h.put
    | extract_lets
    | with_reducible apply keeps_ite
    | split

theorem State.tset_keeps (h : Keeps P 0x400000000000000000000000000000000000000000000018) {s : State} (hs : P s) (a1 a2) :
    P (State.tset s a1 a2) := by
  have h1 := h.mono (k := 0x18) (by decide)
  have h2 := h.mono (k := 0x10) (by decide)
  unfold State.tset
  repeat' first
    | with_reducible assumption
    | rfl
    | with_reducible apply State.rebase_keeps h1
    | with_reducible apply State.stropRequestAll_keeps h2
    | with_reducible apply h.putB
    | extract_lets
    | with_reducible apply keeps_ite
    | split

theorem execShathenAlignSend_keeps (h : Keeps P 0x10800028) {s : State} (hs : P s) (a0 a1) :
    Next P (execShathenAlignSend a0 a1 s) := by
  have h1 := h.mono (k := 0x20) (by decide)
  have h2 := h.mono (k := 0x10800020) (by decide)
  unfold execShathenAlignSend
  repeat' first
    | with_reducible assumption
    | with_reducible apply next_when
    | with_reducible apply State.formPrims_keeps h1
    | with_reducible apply State.laneSend_keeps h2
    | with_reducible apply h.setDie rfl
    | extract_lets
    | fail_if_no_progress with_reducible refine h.upd ?_

theorem State.shathenAlignReceive_keeps (h : Keeps P 0x4000000000000000000000000000000000000021084000) {s : State} (hs : P s) (a1 a2 a3) :
    P (State.shathenAlignReceive s a1 a2 a3) := by
  have h1 := h.mono (k := 0x4000000000000000000000000000000000000001000000) (by decide)
  have h2 := h.mono (k := 0x20000000) (by decide)
  have h3 := h.mono (k := 0x4000) (by decide)
  unfold State.shathenAlignReceive
  repeat' first
    | with_reducible assumption
    | with_reducible apply State.putLatency_keeps h1
    | with_reducible apply State.raise_keeps h2
    | with_reducible apply State.slotDieGone_keeps h3
    | extract_lets
    | with_reducible apply keeps_ite
    | fail_if_no_progress with_reducible refine h.upd ?_
    | split

theorem execReturnOpUndefined_keeps (h : Keeps P 0x100000000000000000000000000000000800000000000000000000000000000000000000000080028) {s : State} (hs : P s) (a0 a1) :
    Next P (execReturnOpUndefined a0 a1 s) := by
  have h1 := h.mono (k := 0x100000000000000000000000000000000800000000000000000000000000000000000000000000028) (by decide)
  have h2 := h.mono (k := 0x80000) (by decide)
  unfold execReturnOpUndefined
  repeat' first
    | with_reducible assumption
    | with_reducible apply next_when
    | with_reducible apply State.badWord_keeps h1
    | with_reducible apply State.dropFrz0_keeps h1
    | with_reducible apply State.retTaken_keeps h2

theorem execCsWordSend_keeps (h : Keeps P 0x10800020) {s : State} (hs : P s) (a0) :
    Next P (execCsWordSend a0 s) := by
  have h1 := h.mono (k := 0x20) (by decide)
  unfold execCsWordSend
  repeat' first
    | with_reducible assumption
    | with_reducible apply next_when
    | with_reducible apply next_next
    | with_reducible apply State.formPrims_keeps h1
    | with_reducible apply State.laneSend_keeps h
    | with_reducible apply h.setQuad rfl
    | extract_lets
    | fail_if_no_progress with_reducible refine h.upd ?_
    | with_reducible refine keeps_of_fst (by assumption) ?_
    | with_reducible refine keeps_of_snd (by assumption) ?_
    | split
    | dsimp +zetaDelta only

theorem execTset_keeps (h : Keeps P 0x100000000000000000000000000000000c00000000000000000000000000000000000000000080038) {s : State} (hs : P s) (a0 a1) :
    Next P (execTset a0 a1 s) := by
  have h1 := h.mono (k := 0x400000000000000000000000000000000000000000000018) (by decide)
  have h2 := h.mono (k := 0x100000000000000000000000000000000800000000000000000000000000000000000000000000028) (by decide)
  have h3 := h.mono (k := 0x80000) (by decide)
  unfold execTset
  repeat' first
    | with_reducible assumption
    | with_reducible apply next_when
    | with_reducible apply State.tset_keeps h1
    | with_reducible apply State.dropFrz0_keeps h2
    | with_reducible apply State.retTaken_keeps h3

theorem execShathenAlignReceive_keeps (h : Keeps P 0x24800000000000000000000000000000000000021084000) {s : State} (hs : P s) (a0 a1 a2) :
    Next P (execShathenAlignReceive a0 a1 a2 s) := by
  have h1 := h.mono (k := 0x20000000) (by decide)
  have h2 := h.mono (k := 0x4000000000000000000000000000000000000021084000) (by decide)
  unfold execShathenAlignReceive
  repeat' first
    | with_reducible assumption
    | rfl
    | with_reducible apply next_when
    | with_reducible apply State.raise_keeps h1
    | with_reducible apply State.shathenAlignReceive_keeps h2
    | with_reducible apply h.inc
    | with_reducible apply keeps_ite
    | split

theorem State.dieLeave_keeps (h : Keeps P 0x11d13000000000000000000000000000e0400000000000200fc078) {s : State} (hs : P s) (a1) :
    P (State.dieLeave s a1) := by
  have h1 := h.mono (k := 0x30) (by decide)
  have h2 := h.mono (k := 0x8) (by decide)
  have h3 := h.mono (k := 0x11d13000000000000000000000000000e0400000000000200fc040) (by decide)
  unfold State.dieLeave
  repeat' first
    | with_reducible assumption
    | with_reducible apply State.ringClear_keeps h1
    | with_reducible apply State.injEnd_keeps h2
    | with_reducible apply State.ctxDieLeft_keeps h3
    | extract_lets
    | with_reducible apply keeps_ite
    | split

end Sys2Proof.Machine
end

