-- ==== Sys2Proof/Laws/KeepBurnish.lean ====
section
/-! SUPPORT. What the operations of Machine/Burnish.lean keep. -/

set_option linter.unusedTactic false
set_option linter.unreachableTactic false

set_option Elab.async false

namespace Sys2Proof.Machine

variable {P : State → Prop} {m : Nat}

theorem State.whole_keeps (h : Keeps P 0x1000000) {s : State} (hs : P s) (a1 a2) :
    P (State.whole s a1 a2).2 := by
  unfold State.whole
  repeat' first
    | with_reducible assumption
    | with_reducible apply State.draw_keeps h
    | extract_lets
    | with_reducible apply keeps_ite
    | split

theorem State.scanError_keeps (h : Keeps P 0x1000000) {s : State} (hs : P s) (a1 a2 a3) :
    P (State.scanError s a1 a2 a3).2 := by
  unfold State.scanError
  repeat' first
    | with_reducible assumption
    | with_reducible apply State.draw_keeps h
    | extract_lets
    | fail_if_no_progress with_reducible refine h.upd ?_
    | with_reducible refine keeps_of_fst (by assumption) ?_
    | with_reducible refine keeps_of_snd (by assumption) ?_
    | split
    | dsimp +zetaDelta only

theorem State.oweAdapt_keeps (h : Keeps P 0x80000) {s : State} (hs : P s) (a1) :
    P (State.oweAdapt s a1) := by
  unfold State.oweAdapt
  repeat' first
    | with_reducible assumption
    | extract_lets
    | fail_if_no_progress with_reducible refine h.upd ?_

theorem State.injFired_keeps (h : Keeps P 0x100000) {s : State} (hs : P s) (a1) :
    P (State.injFired s a1) := by
  unfold State.injFired
  repeat' first
    | with_reducible assumption
    | with_reducible apply h.setBur rfl
    | extract_lets
    | fail_if_no_progress with_reducible refine h.upd ?_
    | with_reducible refine keeps_of_fst (by assumption) ?_
    | with_reducible refine keeps_of_snd (by assumption) ?_
    | split
    | dsimp +zetaDelta only

theorem State.qualOf_keeps (h : Keeps P 0x1000000) {s : State} (hs : P s) (a1 a2) :
    P (State.qualOf s a1 a2).2 := by
  unfold State.qualOf
  repeat' first
    | with_reducible assumption
    | with_reducible apply State.whole_keeps h
    | extract_lets
    | (with_reducible apply keeps_foldl; intro _ _ _)
    | (with_reducible apply keeps_foldl_fst; intro _ _ _)

theorem State.scanCharge_keeps (h : Keeps P 0x10001000000) {s : State} (hs : P s) (a1 a2 a3) :
    P (State.scanCharge s a1 a2 a3) := by
  have h1 := h.mono (k := 0x1000000) (by decide)
  unfold State.scanCharge
  repeat' first
    | with_reducible assumption
    | rfl
    | with_reducible apply State.whole_keeps h1
    | with_reducible apply State.draw_keeps h1
    | with_reducible apply h.put
    | extract_lets
    | with_reducible apply keeps_ite
    | split

theorem State.nearest_keeps (h : Keeps P 0x1000000) {s : State} (hs : P s) (a1 a2) :
    P (State.nearest s a1 a2).2 := by
  unfold State.nearest
  repeat' first
    | with_reducible assumption
    | with_reducible apply State.draw_keeps h
    | extract_lets
    | with_reducible apply keeps_ite
    | split

theorem State.phResult_keeps (h : Keeps P 0x100000) {s : State} (hs : P s) (a1 a2) :
    P (State.phResult s a1 a2) := by
  unfold State.phResult
  repeat' first
    | with_reducible assumption
    | with_reducible apply h.setBur rfl
    | extract_lets
    | fail_if_no_progress with_reducible refine h.upd ?_

theorem State.injEnded_keeps (h : Keeps P 0x200000) {s : State} (hs : P s) (a1) :
    P (State.injEnded s a1) := by
  unfold State.injEnded
  repeat' first
    | with_reducible assumption
    | extract_lets
    | with_reducible apply keeps_ite
    | fail_if_no_progress with_reducible refine h.upd ?_
    | split

theorem State.ambClear_keeps (h : Keeps P 0x10) {s : State} (hs : P s) (a1) :
    P (State.ambClear s a1) := by
  unfold State.ambClear
  repeat' first
    | with_reducible assumption
    | rfl
    | with_reducible exact id
    | with_reducible apply h.setChan rfl
    | extract_lets
    | with_reducible apply keeps_ite
    | (with_reducible apply keeps_foldl; intro _ _ _)
    | (with_reducible apply keeps_foldl_fst; intro _ _ _)
    | fail_if_no_progress with_reducible refine h.upd ?_
    | split

theorem State.injCharges_keeps (h : Keeps P 0x10001000000) {s : State} (hs : P s) (a1 a2) :
    P (State.injCharges s a1 a2) := by
  unfold State.injCharges
  repeat' first
    | with_reducible assumption
    | rfl
    | with_reducible apply State.scanCharge_keeps h
    | with_reducible apply h.put
    | with_reducible apply keeps_ite
    | (with_reducible apply keeps_foldl; intro _ _ _)
    | (with_reducible apply keeps_foldl_fst; intro _ _ _)
    | split

theorem State.showQual_keeps (h : Keeps P 0x1000000000000000000000000000000000000000000000000020000000000000) {s : State} (hs : P s) :
    P (State.showQual s) := by
  unfold State.showQual
  repeat' first
    | with_reducible assumption
    | rfl
    | with_reducible apply h.put
    | extract_lets
    | (with_reducible apply keeps_foldl; intro _ _ _)
    | (with_reducible apply keeps_foldl_fst; intro _ _ _)

theorem State.histClear_keeps (h : Keeps P 0xc04000000000000000000000000000000000000000000000000000000000000020) {s : State} (hs : P s) (a1) :
    P (State.histClear s a1) := by
  unfold State.histClear
  repeat' first
    | with_reducible assumption
    | rfl
    | with_reducible apply h.put
    | with_reducible apply h.setQuad rfl
    | extract_lets
    | (with_reducible apply keeps_foldl; intro _ _ _)
    | (with_reducible apply keeps_foldl_fst; intro _ _ _)
    | fail_if_no_progress with_reducible refine h.upd ?_

theorem State.calRequest_keeps (h : Keeps P 0x100000) {s : State} (hs : P s) (a1 a2) :
    P (State.calRequest s a1 a2) := by
  unfold State.calRequest
  repeat' first
    | with_reducible assumption
    | with_reducible apply h.setBur rfl
    | extract_lets
    | fail_if_no_progress with_reducible refine h.upd ?_

theorem State.calAbort_keeps (h : Keeps P 0x400000000000000000000000000000000000000000000000000000020300018) {s : State} (hs : P s) (a1) :
    P (State.calAbort s a1) := by
  have h1 := h.mono (k := 0x200000) (by decide)
  have h2 := h.mono (k := 0x10) (by decide)
  have h3 := h.mono (k := 0x20000000) (by decide)
  unfold State.calAbort
  repeat' first
    | with_reducible assumption
    | rfl
    | with_reducible apply State.injEnded_keeps h1
    | with_reducible apply State.ambClear_keeps h2
    | with_reducible apply State.raise_keeps h3
    | with_reducible apply h.setBur rfl
    | with_reducible apply h.setDie rfl
    | with_reducible apply h.inc
    | extract_lets
    | (with_reducible apply keeps_foldl; intro _ _ _)
    | (with_reducible apply keeps_foldl_fst; intro _ _ _)
    | fail_if_no_progress with_reducible refine h.upd ?_

theorem State.showThr_keeps (h : Keeps P 0x1000000000000000000000000000000000000000000000000000000000000000) {s : State} (hs : P s) :
    P (State.showThr s) := by
  unfold State.showThr
  repeat' first
    | with_reducible assumption
    | rfl
    | with_reducible apply h.put
    | extract_lets
    | (with_reducible apply keeps_foldl; intro _ _ _)
    | (with_reducible apply keeps_foldl_fst; intro _ _ _)

theorem State.histNext_keeps (h : Keeps P 0xc04000000000000000000000000000000000000000000000000000000000100020) {s : State} (hs : P s) (a1 a2) :
    P (State.histNext s a1 a2) := by
  have h1 := h.mono (k := 0xc04000000000000000000000000000000000000000000000000000000000000020) (by decide)
  unfold State.histNext
  repeat' first
    | with_reducible assumption
    | rfl
    | with_reducible apply State.histClear_keeps h1
    | with_reducible apply h.put
    | with_reducible apply h.setBur rfl
    | extract_lets
    | fail_if_no_progress with_reducible refine h.upd ?_
    | with_reducible refine keeps_of_fst (by assumption) ?_
    | with_reducible refine keeps_of_snd (by assumption) ?_
    | split
    | dsimp +zetaDelta only

theorem State.calRequests_keeps (h : Keeps P 0x100000) {s : State} (hs : P s) (a1 a2) :
    P (State.calRequests s a1 a2) := by
  unfold State.calRequests
  repeat' first
    | with_reducible assumption
    | with_reducible apply State.calRequest_keeps h
    | (with_reducible apply keeps_foldl; intro _ _ _)
    | (with_reducible apply keeps_foldl_fst; intro _ _ _)

theorem State.writeHsel_keeps (h : Keeps P 0xc04000000000000000000000000000000000000000000000000000000000000020) {s : State} (hs : P s) (a1 a2) :
    P (State.writeHsel s a1 a2) := by
  unfold State.writeHsel
  repeat' first
    | with_reducible assumption
    | rfl
    | with_reducible apply State.histClear_keeps h
    | with_reducible apply h.take
    | extract_lets
    | (with_reducible apply keeps_foldl; intro _ _ _)
    | (with_reducible apply keeps_foldl_fst; intro _ _ _)

theorem State.calRecord_keeps (h : Keeps P 0x100000000000000000000000000000000000000000000000000000000104000) {s : State} (hs : P s) (a1) :
    P (State.calRecord s a1) := by
  have h1 := h.mono (k := 0x4000) (by decide)
  unfold State.calRecord
  repeat' first
    | with_reducible assumption
    | rfl
    | with_reducible apply State.item_keeps h1
    | with_reducible apply h.put
    | with_reducible apply h.setBur rfl
    | extract_lets
    | with_reducible apply keeps_ite
    | fail_if_no_progress with_reducible refine h.upd ?_
    | split

theorem State.cdChannel_keeps (h : Keeps P 0x100000000000000000400000000000000000000000000000000000000000000000020000021100028) {s : State} (hs : P s) (a1 a2 a3) :
    P (State.cdChannel s a1 a2 a3) := by
  have h1 := h.mono (k := 0x1000000) (by decide)
  have h2 := h.mono (k := 0x20000000) (by decide)
  have h3 := h.mono (k := 0x100000000000000000000000000000000000000000000000000000000000000000000000000000028) (by decide)
  unfold State.cdChannel
  repeat' first
    | with_reducible assumption
    | rfl
    | with_reducible apply State.qualOf_keeps h1
    | with_reducible apply State.raise_keeps h2
    | with_reducible apply State.raiseDie_keeps h3
    | with_reducible apply h.setBur rfl
    | with_reducible apply h.inc
    | with_reducible apply h.put
    | extract_lets
    | with_reducible apply keeps_ite
    | (with_reducible apply keeps_foldl; intro _ _ _)
    | (with_reducible apply keeps_foldl_fst; intro _ _ _)
    | fail_if_no_progress with_reducible refine h.upd ?_
    | with_reducible refine keeps_of_fst (by assumption) ?_
    | with_reducible refine keeps_of_snd (by assumption) ?_
    | split
    | exact id
    | exact fun _ => rfl
    | (intro hx; simpa [setAt] using hx)
    | (clear * -; decide +revert)
    | dsimp +zetaDelta only

theorem State.injProgram_keeps (h : Keeps P 0x210001100008) {s : State} (hs : P s) (a1 a2 a3) :
    P (State.injProgram s a1 a2 a3) := by
  have h1 := h.mono (k := 0x10001000000) (by decide)
  have h2 := h.mono (k := 0x200000000008) (by decide)
  unfold State.injProgram
  repeat' first
    | with_reducible assumption
    | rfl
    | with_reducible apply State.injCharges_keeps h1
    | with_reducible apply State.injArmAt_keeps h2
    | with_reducible apply h.setBur rfl
    | with_reducible apply h.putB
    | with_reducible apply h.put
    | extract_lets
    | fail_if_no_progress with_reducible refine h.upd ?_

theorem State.runEnds_keeps (h : Keeps P 0x200000000000000000000000000000000000000000000000000000000300000) {s : State} (hs : P s) (a1 a2) :
    P (State.runEnds s a1 a2) := by
  have h1 := h.mono (k := 0x200000) (by decide)
  unfold State.runEnds
  repeat' first
    | with_reducible assumption
    | rfl
    | with_reducible apply State.injEnded_keeps h1
    | with_reducible apply h.inc
    | with_reducible apply h.setBur rfl
    | extract_lets
    | fail_if_no_progress with_reducible refine h.upd ?_

theorem State.calPrim_keeps (h : Keeps P 0x100000) {s : State} (hs : P s) (a1) :
    P (State.calPrim s a1).1 := by
  unfold State.calPrim
  repeat' first
    | with_reducible assumption
    | with_reducible apply State.calRequests_keeps h

theorem execCalMaxintExpire_keeps (h : Keeps P 0x100000) {s : State} (hs : P s) (a0 a1) :
    Next P (execCalMaxintExpire a0 a1 s) := by
  unfold execCalMaxintExpire
  repeat' first
    | with_reducible assumption
    | with_reducible apply next_when
    | with_reducible apply State.calRequest_keeps h
    | extract_lets

theorem State.putOpen_keeps (h : Keeps P m) (hM : 0x1000000 &&& m = 0x1000000) {s : State} (hs : P s) {f : Fld}
    (hf : m.testBit (32 + f.reg.ctorIdx) = true) {v i} : P (State.putOpen s f v i) := by
  unfold State.putOpen
  have h1 := h.mono hM
  repeat' first
    | assumption
    | with_reducible apply h.put
    | with_reducible apply h.putS
    | with_reducible apply State.draw_keeps h1
    | extract_lets
    | with_reducible apply keeps_ite
    | with_reducible refine keeps_of_snd (by assumption) ?_
    | split

theorem State.injStart_keeps (h : Keeps P 0x210001100008) {s : State} (hs : P s) (a1) :
    P (State.injStart s a1) := by
  unfold State.injStart
  repeat' first
    | with_reducible assumption
    | with_reducible apply State.injProgram_keeps h
    | with_reducible apply h.setBur rfl
    | extract_lets
    | fail_if_no_progress with_reducible refine h.upd ?_

theorem State.injOffset_keeps (h : Keeps P 0x3000000000000000000000000000000000000000000000000000000000001000000) {s : State} (hs : P s) (a1 a2) :
    P (State.injOffset s a1 a2) := by
  have h1 := h.mono (k := 0x1000000) (by decide)
  unfold State.injOffset
  repeat' first
    | with_reducible assumption
    | rfl
    | with_reducible apply State.nearest_keeps h1
    | with_reducible apply State.putOpen_keeps h
    | with_reducible apply h.putB
    | extract_lets
    | with_reducible apply keeps_ite
    | split

theorem State.offsNext_keeps (h : Keeps P 0x2000001000000) {s : State} (hs : P s) (a1) :
    P (State.offsNext s a1) := by
  have h1 := h.mono (k := 0x1000000) (by decide)
  unfold State.offsNext
  repeat' first
    | with_reducible assumption
    | rfl
    | with_reducible apply State.nearest_keeps h1
    | with_reducible apply State.putOpen_keeps h
    | extract_lets

theorem State.aperOffset_keeps (h : Keeps P 0x80000000000000000000000000000000000000000000000000000000001000000) {s : State} (hs : P s) (a1 a2) :
    P (State.aperOffset s a1 a2) := by
  have h1 := h.mono (k := 0x1000000) (by decide)
  unfold State.aperOffset
  repeat' first
    | with_reducible assumption
    | rfl
    | with_reducible apply State.nearest_keeps h1
    | with_reducible apply State.putOpen_keeps h
    | extract_lets
    | with_reducible apply keeps_ite
    | (with_reducible apply keeps_foldl; intro _ _ _)
    | (with_reducible apply keeps_foldl_fst; intro _ _ _)
    | split

theorem State.cdEnd_keeps (h : Keeps P 0x100000000000000001600000000000000000000000000000000000000000000000020000021300028) {s : State} (hs : P s) (a1) :
    P (State.cdEnd s a1) := by
  have h1 := h.mono (k := 0x100000000000000000400000000000000000000000000000000000000000000000020000021100028) (by decide)
  have h2 := h.mono (k := 0x200000000000000000000000000000000000000000000000000000000300000) (by decide)
  have h3 := h.mono (k := 0x1000000000000000000000000000000000000000000000000020000000000000) (by decide)
  unfold State.cdEnd
  repeat' first
    | with_reducible assumption
    | with_reducible apply State.cdChannel_keeps h1
    | with_reducible apply State.runEnds_keeps h2
    | with_reducible apply State.showQual_keeps h3
    | with_reducible apply h.setBur rfl
    | extract_lets
    | with_reducible apply keeps_ite
    | (with_reducible apply keeps_foldl; intro _ _ _)
    | (with_reducible apply keeps_foldl_fst; intro _ _ _)
    | fail_if_no_progress with_reducible refine h.upd ?_
    | split

theorem State.writeBurRun_keeps (h : Keeps P 0x100000) {s : State} (hs : P s) (a1) :
    P (State.writeBurRun s a1) := by
  unfold State.writeBurRun
  repeat' first
    | with_reducible assumption
    | with_reducible apply State.calRequests_keeps h

theorem State.tempUpdate_keeps (h : Keeps P 0x100000000000000302004000000000000000000000000000000000000000000000000000000100028) {s : State} (hs : P s) (a1 a2) :
    P (State.tempUpdate s a1 a2) := by
  have h1 := h.mono (k := 0x100000000000000000000000000000000000000000000000000000000000000000000000000000028) (by decide)
  have h2 := h.mono (k := 0x100000) (by decide)
  unfold State.tempUpdate
  repeat' first
    | with_reducible assumption
    | rfl
    | with_reducible apply State.raiseDie_keeps h1
    | with_reducible apply State.calRequest_keeps h2
    | with_reducible apply h.putB
    | with_reducible apply h.put
    | with_reducible apply h.setBur rfl
    | extract_lets
    | with_reducible apply keeps_ite
    | (with_reducible apply keeps_foldl; intro _ _ _)
    | (with_reducible apply keeps_foldl_fst; intro _ _ _)
    | fail_if_no_progress with_reducible refine h.upd ?_
    | split

theorem State.injScanEnd_keeps (h : Keeps P 0x2000800000000000000000000000000000000000000000000000000000801000000) {s : State} (hs : P s) (a1 a2) :
    P (State.injScanEnd s a1 a2) := by
  have h1 := h.mono (k := 0x1000000) (by decide)
  unfold State.injScanEnd
  repeat' first
    | with_reducible assumption
    | rfl
    | with_reducible apply State.scanError_keeps h1
    | with_reducible apply State.nearest_keeps h1
    | with_reducible apply State.putOpen_keeps h
    | with_reducible apply State.whole_keeps h1
    | with_reducible apply h.inc
    | with_reducible apply h.putB
    | extract_lets
    | with_reducible apply keeps_ite
    | (with_reducible apply keeps_foldl; intro _ _ _)
    | (with_reducible apply keeps_foldl_fst; intro _ _ _)
    | fail_if_no_progress with_reducible refine h.upd ?_
    | with_reducible refine keeps_of_fst (by assumption) ?_
    | with_reducible refine keeps_of_snd (by assumption) ?_
    | split
    | exact id
    | exact fun _ => rfl
    | (intro hx; simpa [setAt] using hx)
    | (clear * -; decide +revert)
    | dsimp +zetaDelta only

theorem execTempStale_keeps (h : Keeps P 0x100000000000000002000000000000000000000000000000000000000000000000000000000000028) {s : State} (hs : P s) (a0) :
    Next P (execTempStale a0 s) := by
  have h1 := h.mono (k := 0x100000000000000000000000000000000000000000000000000000000000000000000000000000028) (by decide)
  unfold execTempStale
  repeat' first
    | with_reducible assumption
    | rfl
    | with_reducible apply next_when
    | with_reducible apply State.raiseDie_keeps h1
    | with_reducible apply h.putB
    | with_reducible apply keeps_ite
    | split

theorem State.calCommit_keeps (h : Keeps P 0x100000000000000000000000000000000000000000000020283000001100000) {s : State} (hs : P s) (a1) :
    P (State.calCommit s a1) := by
  have h1 := h.mono (k := 0x2000001000000) (by decide)
  unfold State.calCommit
  repeat' first
    | with_reducible assumption
    | rfl
    | with_reducible apply State.offsNext_keeps h1
    | with_reducible apply State.putOpen_keeps h
    | with_reducible apply h.put
    | with_reducible apply h.setBur rfl
    | extract_lets
    | with_reducible apply keeps_ite
    | (with_reducible apply keeps_foldl; intro _ _ _)
    | (with_reducible apply keeps_foldl_fst; intro _ _ _)
    | fail_if_no_progress with_reducible refine h.upd ?_
    | with_reducible refine keeps_of_fst (by assumption) ?_
    | with_reducible refine keeps_of_snd (by assumption) ?_
    | split
    | dsimp +zetaDelta only

theorem State.ambOffset_keeps (h : Keeps P 0x400000000000000000000000000000000000000000000001000010) {s : State} (hs : P s) (a1) :
    P (State.ambOffset s a1) := by
  have h1 := h.mono (k := 0x1000000) (by decide)
  have h2 := h.mono (k := 0x10) (by decide)
  unfold State.ambOffset
  repeat' first
    | with_reducible assumption
    | rfl
    | with_reducible apply State.whole_keeps h1
    | with_reducible apply State.stropRequest_keeps h2
    | with_reducible apply State.putOpen_keeps h
    | extract_lets

theorem State.phMeasure_keeps (h : Keeps P 0x8200000000000000000000000000000000000000000000000000000001380000) {s : State} (hs : P s) (a1 a2 a3) :
    P (State.phMeasure s a1 a2 a3) := by
  have h1 := h.mono (k := 0x1000000) (by decide)
  have h2 := h.mono (k := 0x200000000000000000000000000000000000000000000000000000000300000) (by decide)
  have h3 := h.mono (k := 0x80000) (by decide)
  have h4 := h.mono (k := 0x100000) (by decide)
  unfold State.phMeasure
  repeat' first
    | with_reducible assumption
    | rfl
    | with_reducible apply State.nearest_keeps h1
    | with_reducible apply State.putOpen_keeps h
    | with_reducible apply State.runEnds_keeps h2
    | with_reducible apply State.oweAdapt_keeps h3
    | with_reducible apply State.phResult_keeps h4
    | with_reducible apply h.setBur rfl
    | extract_lets
    | with_reducible apply keeps_ite
    | fail_if_no_progress with_reducible refine h.upd ?_
    | split

theorem execCalRunRequest_keeps (h : Keeps P 0x102000) {s : State} (hs : P s) (a0) :
    Next P (execCalRunRequest a0 s) := by
  have h1 := h.mono (k := 0x2000) (by decide)
  have h2 := h.mono (k := 0x100000) (by decide)
  unfold execCalRunRequest
  repeat' first
    | with_reducible assumption
    | (with_reducible apply access'_keeps h1 <;> [skip; intro _ _])
    | with_reducible apply State.writeBurRun_keeps h2

theorem execTempUpdate_keeps (h : Keeps P 0x100000000000000302004000000000000000000000000000000000000000000000000000000100028) {s : State} (hs : P s) (a0 a1) :
    Next P (execTempUpdate a0 a1 s) := by
  unfold execTempUpdate
  repeat' first
    | with_reducible assumption
    | with_reducible apply next_when
    | with_reducible apply State.tempUpdate_keeps h

theorem execCalCommit_keeps (h : Keeps P 0x100000000000000000000000000000000000000000000020283000001100000) {s : State} (hs : P s) (a0) :
    Next P (execCalCommit a0 s) := by
  unfold execCalCommit
  repeat' first
    | with_reducible assumption
    | with_reducible apply next_when
    | with_reducible apply State.calCommit_keeps h
    | extract_lets

theorem State.cdMaybeEnd_keeps (h : Keeps P 0x100000000000000001600000000000000000000000000000000000000000000000020000021300028) {s : State} (hs : P s) (a1) :
    P (State.cdMaybeEnd s a1) := by
  unfold State.cdMaybeEnd
  repeat' first
    | with_reducible assumption
    | with_reducible apply State.cdEnd_keeps h
    | with_reducible apply keeps_ite
    | split

theorem State.injStrobe_keeps (h : Keeps P 0x2000800000000000000000000000000000000000000000000000000210801100008) {s : State} (hs : P s) (a1) :
    P (State.injStrobe s a1) := by
  have h1 := h.mono (k := 0x210001100008) (by decide)
  have h2 := h.mono (k := 0x2000800000000000000000000000000000000000000000000000000000801000000) (by decide)
  unfold State.injStrobe
  repeat' first
    | with_reducible assumption
    | with_reducible apply State.injProgram_keeps h1
    | with_reducible apply State.injScanEnd_keeps h2
    | with_reducible apply h.setBur rfl
    | extract_lets
    | with_reducible apply keeps_ite
    | (with_reducible apply keeps_foldl; intro _ _ _)
    | (with_reducible apply keeps_foldl_fst; intro _ _ _)
    | fail_if_no_progress with_reducible refine h.upd ?_
    | with_reducible refine keeps_of_fst (by assumption) ?_
    | with_reducible refine keeps_of_snd (by assumption) ?_
    | split
    | dsimp +zetaDelta only

theorem State.injRunEnd_keeps (h : Keeps P 0x3081200000000400000000000000000000000000000000000000000000001300018) {s : State} (hs : P s) (a1 a2) :
    P (State.injRunEnd s a1 a2) := by
  have h1 := h.mono (k := 0x3000000000000000000000000000000000000000000000000000000000001000000) (by decide)
  have h2 := h.mono (k := 0x80000000000000000000000000000000000000000000000000000000001000000) (by decide)
  have h3 := h.mono (k := 0x400000000000000000000000000000000000000000000001000010) (by decide)
  have h4 := h.mono (k := 0x200000000000000000000000000000000000000000000000000000000300000) (by decide)
  have h5 := h.mono (k := 0x1000000000000000000000000000000000000000000000000000000000000000) (by decide)
  unfold State.injRunEnd
  repeat' first
    | with_reducible assumption
    | with_reducible apply State.injOffset_keeps h1
    | with_reducible apply State.aperOffset_keeps h2
    | with_reducible apply State.ambOffset_keeps h3
    | with_reducible apply State.runEnds_keeps h4
    | with_reducible apply State.showThr_keeps h5
    | with_reducible apply h.setBur rfl
    | with_reducible apply h.setDie rfl
    | extract_lets
    | with_reducible apply keeps_ite
    | (with_reducible apply keeps_foldl; intro _ _ _)
    | (with_reducible apply keeps_foldl_fst; intro _ _ _)
    | fail_if_no_progress with_reducible refine h.upd ?_
    | with_reducible refine keeps_of_fst (by assumption) ?_
    | with_reducible refine keeps_of_snd (by assumption) ?_
    | split
    | dsimp +zetaDelta only

theorem State.cdStart_keeps (h : Keeps P 0x100000000000000c05600000000000000000000000000000000000000000000000020000021300028) {s : State} (hs : P s) (a1) :
    P (State.cdStart s a1) := by
  have h1 := h.mono (k := 0x100000000000000001600000000000000000000000000000000000000000000000020000021300028) (by decide)
  have h2 := h.mono (k := 0xc04000000000000000000000000000000000000000000000000000000000100020) (by decide)
  unfold State.cdStart
  repeat' first
    | with_reducible assumption
    | with_reducible apply State.cdMaybeEnd_keeps h1
    | with_reducible apply State.histNext_keeps h2
    | with_reducible apply h.setBur rfl
    | extract_lets
    | (with_reducible apply keeps_foldl; intro _ _ _)
    | (with_reducible apply keeps_foldl_fst; intro _ _ _)
    | fail_if_no_progress with_reducible refine h.upd ?_

theorem State.calStart_keeps (h : Keeps P 0x100000000000000f05600000000000000000000000000000000000000000000000020210021300028) {s : State} (hs : P s) (a1 a2) :
    P (State.calStart s a1 a2) := by
  have h1 := h.mono (k := 0x100000000000000c05600000000000000000000000000000000000000000000000020000021300028) (by decide)
  have h2 := h.mono (k := 0x210001100008) (by decide)
  unfold State.calStart
  repeat' first
    | with_reducible assumption
    | rfl
    | (unfold tLast; split <;> rfl)
    | with_reducible apply State.cdStart_keeps h1
    | with_reducible apply State.injStart_keeps h2
    | with_reducible apply h.setBur rfl
    | with_reducible apply h.put
    | extract_lets
    | fail_if_no_progress with_reducible refine h.upd ?_
    | with_reducible refine keeps_of_fst (by assumption) ?_
    | with_reducible refine keeps_of_snd (by assumption) ?_
    | split
    | dsimp +zetaDelta only

theorem execInjRunEnd_keeps (h : Keeps P 0x3081200000000400000000000000000000000000000000000000000000001300018) {s : State} (hs : P s) (a0 a1 a2) :
    Next P (execInjRunEnd a0 a1 a2 s) := by
  unfold execInjRunEnd
  repeat' first
    | with_reducible assumption
    | with_reducible apply next_when
    | with_reducible exact next_fault
    | with_reducible apply State.injRunEnd_keeps h
    | with_reducible apply keeps_ite
    | split

theorem execHistogramTimeout_keeps (h : Keeps P 0x100000000000000c05e00000000000000000000000000000000000000000000000020000021300028) {s : State} (hs : P s) (a0) :
    Next P (execHistogramTimeout a0 s) := by
  have h1 := h.mono (k := 0x100000000000000001600000000000000000000000000000000000000000000000020000021300028) (by decide)
  have h2 := h.mono (k := 0xc04000000000000000000000000000000000000000000000000000000000100020) (by decide)
  unfold execHistogramTimeout
  repeat' first
    | with_reducible assumption
    | rfl
    | with_reducible apply next_when
    | with_reducible apply State.cdMaybeEnd_keeps h1
    | with_reducible apply State.histNext_keeps h2
    | with_reducible apply h.inc
    | extract_lets

theorem execFirOutput_keeps (h : Keeps P 0x78000000000000000000000000000000000000000000000000000038) {s : State} (hs : P s) (a0) :
    Next P (execFirOutput a0 s) := by
  have h1 := h.mono (k := 0x10) (by decide)
  unfold execFirOutput
  repeat' first
    | with_reducible assumption
    | with_reducible apply next_when
    | with_reducible apply State.firOutput_keeps h
    | with_reducible apply State.ambClear_keeps h1
    | with_reducible apply h.setDie rfl
    | extract_lets
    | with_reducible apply keeps_ite
    | fail_if_no_progress with_reducible refine h.upd ?_
    | split

theorem execHistogramDone_keeps (h : Keeps P 0x100000000000000c05600000000000000000000000000000000000000000000000020000021300028) {s : State} (hs : P s) (a0) :
    Next P (execHistogramDone a0 s) := by
  have h1 := h.mono (k := 0x100000000000000001600000000000000000000000000000000000000000000000020000021300028) (by decide)
  have h2 := h.mono (k := 0xc04000000000000000000000000000000000000000000000000000000000100020) (by decide)
  unfold execHistogramDone
  repeat' first
    | with_reducible assumption
    | with_reducible apply next_when
    | with_reducible apply State.cdMaybeEnd_keeps h1
    | with_reducible apply State.histNext_keeps h2
    | with_reducible apply h.setBur rfl
    | extract_lets
    | fail_if_no_progress with_reducible refine h.upd ?_

theorem State.calStarts_keeps (h : Keeps P 0x100000000000000f05600000000000000000000000000000000000000000000000020210021300028) {s : State} (hs : P s) (a1) :
    P (State.calStarts s a1) := by
  unfold State.calStarts
  repeat' first
    | with_reducible assumption
    | with_reducible apply State.calStart_keeps h
    | with_reducible apply keeps_ite
    | (with_reducible apply keeps_foldl; intro _ _ _)
    | (with_reducible apply keeps_foldl_fst; intro _ _ _)
    | split

theorem execInjFire_keeps (h : Keeps P 0x20001ec200000000002018c018) {s : State} (hs : P s) (a0) :
    Next P (execInjFire a0 s) := by
  have h1 := h.mono (k := 0x100000) (by decide)
  have h2 := h.mono (k := 0x20001ec200000000002008c018) (by decide)
  unfold execInjFire
  repeat' first
    | with_reducible assumption
    | with_reducible apply next_when
    | with_reducible apply next_next
    | with_reducible apply State.injFired_keeps h1
    | with_reducible apply State.injFire_keeps h2
    | extract_lets
    | fail_if_no_progress with_reducible refine h.upd ?_
    | with_reducible refine keeps_of_fst (by assumption) ?_
    | with_reducible refine keeps_of_snd (by assumption) ?_
    | split
    | dsimp +zetaDelta only

theorem execCalRunStart_keeps (h : Keeps P 0x100000000000000f05600000000000000000000000000000000000000000000000020210021300028) {s : State} (hs : P s) (a0) :
    Next P (execCalRunStart a0 s) := by
  unfold execCalRunStart
  repeat' first
    | with_reducible assumption
    | with_reducible apply next_when
    | with_reducible apply State.calStarts_keeps h

end Sys2Proof.Machine
end

