-- ==== Sys2Proof/Laws/KeepRosette.lean ====
section
/-! SUPPORT. What the operations of Machine/Rosette.lean keep. -/

set_option linter.unusedTactic false
set_option linter.unreachableTactic false

set_option Elab.async false

namespace Sys2Proof.Machine

variable {P : State → Prop} {m : Nat}

theorem State.sinksCut_keeps (h : Keeps P 0x200000) {s : State} (hs : P s) :
    P (State.sinksCut s) := by
  unfold State.sinksCut
  repeat' first
    | with_reducible assumption
    | extract_lets
    | fail_if_no_progress with_reducible refine h.upd ?_

theorem State.cutNow_keeps (h : Keeps P 0x200000) {s : State} (hs : P s) :
    P (State.cutNow s) := by
  unfold State.cutNow
  repeat' first
    | with_reducible assumption
    | with_reducible apply State.sinksCut_keeps h
    | extract_lets
    | with_reducible apply keeps_ite
    | fail_if_no_progress with_reducible refine h.upd ?_
    | split

theorem State.sinkOn_keeps (h : Keeps P 0x200000) {s : State} (hs : P s) (a1 a2 a3) :
    P (State.sinkOn s a1 a2 a3) := by
  unfold State.sinkOn
  repeat' first
    | with_reducible assumption
    | extract_lets
    | fail_if_no_progress with_reducible refine h.upd ?_

theorem State.factor_keeps (h : Keeps P 0x1000000) {s : State} (hs : P s) (a1 a2) :
    P (State.factor s a1 a2).2 := by
  unfold State.factor
  repeat' first
    | with_reducible assumption
    | with_reducible apply State.draw_keeps h
    | extract_lets
    | with_reducible apply keeps_ite
    | split

theorem execOnTimeEnd_keeps (h : Keeps P 0x200000) {s : State} (hs : P s) (a0) :
    Next P (execOnTimeEnd a0 s) := by
  unfold execOnTimeEnd
  repeat' first
    | with_reducible assumption
    | with_reducible apply next_when
    | with_reducible apply next_next
    | extract_lets
    | fail_if_no_progress with_reducible refine h.upd ?_
    | with_reducible refine keeps_of_fst (by assumption) ?_
    | with_reducible refine keeps_of_snd (by assumption) ?_
    | split
    | dsimp +zetaDelta only

theorem execDimmedDcOn_keeps (h : Keeps P 0x200000) {s : State} (hs : P s) (a0) :
    Next P (execDimmedDcOn a0 s) := by
  unfold execDimmedDcOn
  repeat' first
    | with_reducible assumption
    | with_reducible apply next_when
    | with_reducible apply State.sinkOn_keeps h
    | extract_lets

theorem State.armTrain_keeps (h : Keeps P 0x200000) {s : State} (hs : P s) (a1) :
    P (State.armTrain s a1) := by
  unfold State.armTrain
  repeat' first
    | with_reducible assumption
    | extract_lets
    | with_reducible apply keeps_ite
    | fail_if_no_progress with_reducible refine h.upd ?_
    | split

theorem State.sinkCut_keeps (h : Keeps P 0x200000) {s : State} (hs : P s) (a1) :
    P (State.sinkCut s a1) := by
  unfold State.sinkCut
  repeat' first
    | with_reducible assumption
    | extract_lets
    | fail_if_no_progress with_reducible refine h.upd ?_

theorem State.lampFail_keeps (h : Keeps P 0x8000000000000000000000000000000000000000000000000000000000020200000) {s : State} (hs : P s) (a1) :
    P (State.lampFail s a1) := by
  have h1 := h.mono (k := 0x20000000) (by decide)
  unfold State.lampFail
  repeat' first
    | with_reducible assumption
    | rfl
    | with_reducible apply State.raise_keeps h1
    | with_reducible apply h.put
    | with_reducible apply h.putB
    | extract_lets
    | with_reducible apply keeps_ite
    | fail_if_no_progress with_reducible refine h.upd ?_
    | split

theorem State.proofStrobe_keeps (h : Keeps P 0x200000) {s : State} (hs : P s) (a1) :
    P (State.proofStrobe s a1) := by
  unfold State.proofStrobe
  repeat' first
    | with_reducible assumption
    | extract_lets
    | with_reducible apply keeps_ite
    | fail_if_no_progress with_reducible refine h.upd ?_
    | split

theorem State.diagnose_keeps (h : Keeps P 0x22008000000000000000000000000000000000000000000000000000000000020200000) {s : State} (hs : P s) (a1 a2 a3 a4) :
    P (State.diagnose s a1 a2 a3 a4) := by
  have h1 := h.mono (k := 0x20000000) (by decide)
  have h2 := h.mono (k := 0x8000000000000000000000000000000000000000000000000000000000020200000) (by decide)
  unfold State.diagnose
  repeat' first
    | with_reducible assumption
    | rfl
    | with_reducible apply State.raise_keeps h1
    | with_reducible apply State.lampFail_keeps h2
    | with_reducible apply h.inc
    | with_reducible apply h.putB
    | extract_lets
    | with_reducible apply keeps_ite
    | fail_if_no_progress with_reducible refine h.upd ?_
    | split

theorem State.showArmed_keeps (h : Keeps P 0x8000000000000000000000000000000000000000000000000000000000000000000) {s : State} (hs : P s) :
    P (State.showArmed s) := by
  unfold State.showArmed
  repeat' first
    | with_reducible assumption
    | rfl
    | with_reducible apply h.putB

theorem State.trainStop_keeps (h : Keeps P 0x8000000000000000000000000000000000000000000000000000000000000200000) {s : State} (hs : P s) :
    P (State.trainStop s) := by
  have h1 := h.mono (k := 0x8000000000000000000000000000000000000000000000000000000000000000000) (by decide)
  unfold State.trainStop
  repeat' first
    | with_reducible assumption
    | with_reducible apply State.showArmed_keeps h1
    | extract_lets
    | fail_if_no_progress with_reducible refine h.upd ?_

theorem State.proofPulse_keeps (h : Keeps P 0x1000000000000000000000000000000000000000000000000000000000000001204000) {s : State} (hs : P s) (a1) :
    P (State.proofPulse s a1) := by
  have h1 := h.mono (k := 0x1000000) (by decide)
  have h2 := h.mono (k := 0x4000) (by decide)
  have h3 := h.mono (k := 0x200000) (by decide)
  unfold State.proofPulse
  repeat' first
    | with_reducible assumption
    | rfl
    | with_reducible apply State.draw_keeps h1
    | with_reducible apply State.item_keeps h2
    | with_reducible apply State.sinkOn_keeps h3
    | with_reducible apply h.inc
    | extract_lets
    | fail_if_no_progress with_reducible refine h.upd ?_

theorem execLdDiagnosis_keeps (h : Keeps P 0x22008000000000000000000000000000000000000000000000000000000000020200000) {s : State} (hs : P s) (a0 a1 a2) :
    Next P (execLdDiagnosis a0 a1 a2 s) := by
  unfold execLdDiagnosis
  repeat' first
    | with_reducible assumption
    | with_reducible apply next_when
    | with_reducible apply next_next
    | with_reducible apply State.diagnose_keeps h
    | extract_lets
    | fail_if_no_progress with_reducible refine h.upd ?_
    | with_reducible refine keeps_of_fst (by assumption) ?_
    | with_reducible refine keeps_of_snd (by assumption) ?_
    | split
    | dsimp +zetaDelta only

theorem State.rosetteBrown_keeps (h : Keeps P 0x8000000000000000000000000000000000000000000000000000000000020200000) {s : State} (hs : P s) :
    P (State.rosetteBrown s) := by
  have h1 := h.mono (k := 0x200000) (by decide)
  have h2 := h.mono (k := 0x20000000) (by decide)
  unfold State.rosetteBrown
  repeat' first
    | with_reducible assumption
    | rfl
    | with_reducible apply State.sinksCut_keeps h1
    | with_reducible apply State.raise_keeps h2
    | with_reducible apply h.putB
    | extract_lets
    | with_reducible apply keeps_ite
    | split

theorem execProofIntervalEnd_keeps (h : Keeps P 0x4000000000000000000000000000000000000000000000000000000000000020200000) {s : State} (hs : P s) :
    Next P (execProofIntervalEnd s) := by
  have h1 := h.mono (k := 0x20000000) (by decide)
  unfold execProofIntervalEnd
  repeat' first
    | with_reducible assumption
    | rfl
    | with_reducible apply next_when
    | with_reducible apply next_next
    | with_reducible apply State.raise_keeps h1
    | with_reducible apply h.inc
    | extract_lets
    | with_reducible apply keeps_ite
    | fail_if_no_progress with_reducible refine h.upd ?_
    | with_reducible refine keeps_of_fst (by assumption) ?_
    | with_reducible refine keeps_of_snd (by assumption) ?_
    | split
    | dsimp +zetaDelta only

theorem State.writeRseStat_keeps (h : Keeps P 0x8000000000000000000000000000000000000000000000000000000000000000000) {s : State} (hs : P s) (a1) :
    P (State.writeRseStat s a1) := by
  unfold State.writeRseStat
  repeat' first
    | with_reducible assumption
    | rfl
    | with_reducible apply h.putB
    | with_reducible apply h.put
    | extract_lets
    | with_reducible apply keeps_ite
    | split

theorem State.sinkStrobe_keeps (h : Keeps P 0x200000) {s : State} (hs : P s) (a1) :
    P (State.sinkStrobe s a1) := by
  unfold State.sinkStrobe
  repeat' first
    | with_reducible assumption
    | with_reducible apply State.sinkCut_keeps h
    | with_reducible apply State.sinkOn_keeps h
    | extract_lets
    | with_reducible apply keeps_ite
    | fail_if_no_progress with_reducible refine h.upd ?_
    | with_reducible refine keeps_of_fst (by assumption) ?_
    | with_reducible refine keeps_of_snd (by assumption) ?_
    | split
    | dsimp +zetaDelta only

theorem execLampTempTimeout_keeps (h : Keeps P 0x8000000000000000000000000000000000000000000000000000000000020000000) {s : State} (hs : P s) :
    Next P (execLampTempTimeout s) := by
  have h1 := h.mono (k := 0x20000000) (by decide)
  unfold execLampTempTimeout
  repeat' first
    | with_reducible assumption
    | rfl
    | with_reducible apply next_when
    | with_reducible apply State.raise_keeps h1
    | with_reducible apply h.putB

theorem State.rosetteStrobe_keeps (h : Keeps P 0x20008000000000000000000000000000000000000000000000000000000000020200000) {s : State} (hs : P s) (a1) :
    P (State.rosetteStrobe s a1) := by
  have h1 := h.mono (k := 0x200000) (by decide)
  have h2 := h.mono (k := 0x20000000) (by decide)
  unfold State.rosetteStrobe
  repeat' first
    | with_reducible assumption
    | rfl
    | with_reducible apply State.proofStrobe_keeps h1
    | with_reducible apply State.sinkStrobe_keeps h1
    | with_reducible apply State.raise_keeps h2
    | with_reducible apply h.putB
    | with_reducible apply h.put
    | extract_lets
    | with_reducible apply keeps_ite
    | (with_reducible apply keeps_foldl; intro _ _ _)
    | (with_reducible apply keeps_foldl_fst; intro _ _ _)
    | fail_if_no_progress with_reducible refine h.upd ?_
    | split

theorem State.writeRsePulse_keeps (h : Keeps P 0x18000000000000000000000000000000000000000000000000000000000000200000) {s : State} (hs : P s) (a1) :
    P (State.writeRsePulse s a1) := by
  have h1 := h.mono (k := 0x8000000000000000000000000000000000000000000000000000000000000000000) (by decide)
  have h2 := h.mono (k := 0x200000) (by decide)
  unfold State.writeRsePulse
  repeat' first
    | with_reducible assumption
    | rfl
    | with_reducible apply State.showArmed_keeps h1
    | with_reducible apply State.armTrain_keeps h2
    | with_reducible apply h.take
    | extract_lets
    | with_reducible apply keeps_ite
    | (with_reducible apply keeps_foldl; intro _ _ _)
    | (with_reducible apply keeps_foldl_fst; intro _ _ _)
    | fail_if_no_progress with_reducible refine h.upd ?_
    | with_reducible refine keeps_of_fst (by assumption) ?_
    | with_reducible refine keeps_of_snd (by assumption) ?_
    | split
    | exact id
    | exact fun _ => rfl
    | (intro hx; simpa [setAt] using hx)
    | (clear * -; decide +revert)
    | dsimp +zetaDelta only

theorem execLampRestore_keeps (h : Keeps P 0x8000000000000000000000000000000000000000000000000000000000000002000) {s : State} (hs : P s) (a0) :
    Next P (execLampRestore a0 s) := by
  have h1 := h.mono (k := 0x2000) (by decide)
  have h2 := h.mono (k := 0x8000000000000000000000000000000000000000000000000000000000000000000) (by decide)
  unfold execLampRestore
  repeat' first
    | with_reducible assumption
    | (with_reducible apply access'_keeps h1 <;> [skip; intro _ _])
    | with_reducible apply State.writeRseStat_keeps h2

theorem execProofPulse_keeps (h : Keeps P 0x1000000000000000000000000000000000000000000000000000000000000001204000) {s : State} (hs : P s) :
    Next P (execProofPulse s) := by
  unfold execProofPulse
  repeat' first
    | with_reducible assumption
    | with_reducible apply next_when
    | with_reducible apply next_next
    | with_reducible apply State.proofPulse_keeps h
    | extract_lets
    | fail_if_no_progress with_reducible refine h.upd ?_
    | with_reducible refine keeps_of_fst (by assumption) ?_
    | with_reducible refine keeps_of_snd (by assumption) ?_
    | split
    | dsimp +zetaDelta only

theorem State.lampSample_keeps (h : Keeps P 0x608000000000000000000000000000000000000000000000000000000000001200000) {s : State} (hs : P s) (a1 a2) :
    P (State.lampSample s a1 a2) := by
  have h1 := h.mono (k := 0x1000000) (by decide)
  unfold State.lampSample
  repeat' first
    | with_reducible assumption
    | rfl
    | with_reducible apply State.factor_keeps h1
    | with_reducible apply h.putB
    | with_reducible apply h.putS
    | with_reducible apply h.put
    | extract_lets
    | with_reducible apply keeps_ite
    | (with_reducible apply keeps_foldl; intro _ _ _)
    | (with_reducible apply keeps_foldl_fst; intro _ _ _)
    | fail_if_no_progress with_reducible refine h.upd ?_
    | split

theorem execPulseArm_keeps (h : Keeps P 0x18000000000000000000000000000000000000000000000000000000000000202000) {s : State} (hs : P s) (a0) :
    Next P (execPulseArm a0 s) := by
  have h1 := h.mono (k := 0x2000) (by decide)
  have h2 := h.mono (k := 0x18000000000000000000000000000000000000000000000000000000000000200000) (by decide)
  unfold execPulseArm
  repeat' first
    | with_reducible assumption
    | (with_reducible apply access'_keeps h1 <;> [skip; intro _ _])
    | with_reducible apply State.writeRsePulse_keeps h2

theorem State.writeRseCtrl_keeps (h : Keeps P 0x40c000000000000000000000000000000000000000000000000000000000000200000) {s : State} (hs : P s) (a1) :
    P (State.writeRseCtrl s a1) := by
  have h1 := h.mono (k := 0x200000) (by decide)
  have h2 := h.mono (k := 0x8000000000000000000000000000000000000000000000000000000000000200000) (by decide)
  unfold State.writeRseCtrl
  repeat' first
    | with_reducible assumption
    | rfl
    | with_reducible apply State.sinksCut_keeps h1
    | with_reducible apply State.trainStop_keeps h2
    | with_reducible apply h.take
    | with_reducible apply h.put
    | extract_lets
    | with_reducible apply keeps_ite
    | (with_reducible apply keeps_foldl; intro _ _ _)
    | (with_reducible apply keeps_foldl_fst; intro _ _ _)
    | split

theorem execPulseStop_keeps (h : Keeps P 0x40c000000000000000000000000000000000000000000000000000000000000202000) {s : State} (hs : P s) (a0) :
    Next P (execPulseStop a0 s) := by
  have h1 := h.mono (k := 0x2000) (by decide)
  have h2 := h.mono (k := 0x40c000000000000000000000000000000000000000000000000000000000000200000) (by decide)
  unfold execPulseStop
  repeat' first
    | with_reducible assumption
    | (with_reducible apply access'_keeps h1 <;> [skip; intro _ _])
    | with_reducible apply State.writeRseCtrl_keeps h2

theorem State.pulseFire_keeps (h : Keeps P 0x5808000000000000000000000000000000000000000020001ec200000000002028c000) {s : State} (hs : P s) (a1) :
    P (State.pulseFire s a1) := by
  have h1 := h.mono (k := 0x4000) (by decide)
  have h2 := h.mono (k := 0x8000000000000000000000000000000000000000000000000000000000000000000) (by decide)
  have h3 := h.mono (k := 0x20000000) (by decide)
  have h4 := h.mono (k := 0x200000) (by decide)
  have h5 := h.mono (k := 0x20001ec000000000002008c000) (by decide)
  unfold State.pulseFire
  repeat' first
    | with_reducible assumption
    | rfl
    | with_reducible apply State.item_keeps h1
    | with_reducible apply State.showArmed_keeps h2
    | with_reducible apply State.raise_keeps h3
    | with_reducible apply State.sinkOn_keeps h4
    | with_reducible apply State.calTrig_keeps h5
    | with_reducible apply h.inc
    | extract_lets
    | with_reducible apply keeps_ite
    | (with_reducible apply keeps_foldl; intro _ _ _)
    | (with_reducible apply keeps_foldl_fst; intro _ _ _)
    | fail_if_no_progress with_reducible refine h.upd ?_
    | split

theorem execPulseFire_keeps (h : Keeps P 0x5808000000000000000000000000000000000000000020001ec200000000002028c000) {s : State} (hs : P s) :
    Next P (execPulseFire s) := by
  unfold execPulseFire
  repeat' first
    | with_reducible assumption
    | with_reducible apply next_when
    | with_reducible apply next_next
    | with_reducible apply State.pulseFire_keeps h
    | extract_lets
    | fail_if_no_progress with_reducible refine h.upd ?_
    | with_reducible refine keeps_of_fst (by assumption) ?_
    | with_reducible refine keeps_of_snd (by assumption) ?_
    | split
    | dsimp +zetaDelta only

end Sys2Proof.Machine
end

