-- ==== Sys2Proof/Laws/KeepTack.lean ====
section
/-! SUPPORT. What the operations of Machine/Tack.lean keep. -/

set_option linter.unusedTactic false
set_option linter.unreachableTactic false

set_option Elab.async false

namespace Sys2Proof.Machine

variable {P : State → Prop} {m : Nat}

theorem State.setVisit_keeps (h : Keeps P 0x400000) {s : State} (hs : P s) (a1 a2) :
    P (State.setVisit s a1 a2) := by
  unfold State.setVisit
  repeat' first
    | with_reducible assumption
    | extract_lets
    | fail_if_no_progress with_reducible refine h.upd ?_

theorem State.resume_keeps (h : Keeps P 0x400000) {s : State} (hs : P s) :
    P (State.resume s) := by
  unfold State.resume
  repeat' first
    | with_reducible assumption
    | with_reducible apply State.setVisit_keeps h
    | extract_lets
    | with_reducible apply keeps_ite
    | fail_if_no_progress with_reducible refine h.upd ?_
    | with_reducible refine keeps_of_fst (by assumption) ?_
    | with_reducible refine keeps_of_snd (by assumption) ?_
    | split
    | dsimp +zetaDelta only

theorem State.tackStrobe_keeps (h : Keeps P 0x400000) {s : State} (hs : P s) :
    P (State.tackStrobe s) := by
  unfold State.tackStrobe
  repeat' first
    | with_reducible assumption
    | extract_lets
    | fail_if_no_progress with_reducible refine h.upd ?_

theorem State.excRestart_keeps (h : Keeps P 0x100000000000000000000000000000000000000000000000000020400000) {s : State} (hs : P s) (a1 a2) :
    P (State.excRestart s a1 a2) := by
  have h1 := h.mono (k := 0x20000000) (by decide)
  have h2 := h.mono (k := 0x400000) (by decide)
  unfold State.excRestart
  repeat' first
    | with_reducible assumption
    | rfl
    | with_reducible apply State.raise_keeps h1
    | with_reducible apply State.setVisit_keeps h2
    | with_reducible apply h.inc
    | extract_lets
    | with_reducible apply keeps_ite
    | fail_if_no_progress with_reducible refine h.upd ?_
    | with_reducible refine keeps_of_fst (by assumption) ?_
    | with_reducible refine keeps_of_snd (by assumption) ?_
    | split
    | dsimp +zetaDelta only

theorem State.tellOnce_keeps (h : Keeps P 0x20400000) {s : State} (hs : P s) (a1) :
    P (State.tellOnce s a1) := by
  have h1 := h.mono (k := 0x20000000) (by decide)
  unfold State.tellOnce
  repeat' first
    | with_reducible assumption
    | with_reducible apply State.raise_keeps h1
    | extract_lets
    | with_reducible apply keeps_ite
    | fail_if_no_progress with_reducible refine h.upd ?_
    | split

theorem State.makeVisit_keeps (h : Keeps P 0x100000000000000000000000000000000000000000000000000020400000) {s : State} (hs : P s) (a1 a2) :
    P (State.makeVisit s a1 a2) := by
  have h1 := h.mono (k := 0x400000) (by decide)
  have h2 := h.mono (k := 0x20000000) (by decide)
  unfold State.makeVisit
  repeat' first
    | with_reducible assumption
    | rfl
    | with_reducible apply State.setVisit_keeps h1
    | with_reducible apply State.raise_keeps h2
    | with_reducible apply h.inc
    | extract_lets
    | with_reducible apply keeps_ite
    | fail_if_no_progress with_reducible refine h.upd ?_
    | split

theorem State.startA_keeps (h : Keeps P 0x400000) {s : State} (hs : P s) (a1) :
    P (State.startA s a1) := by
  unfold State.startA
  repeat' first
    | with_reducible assumption
    | with_reducible apply State.setVisit_keeps h
    | extract_lets
    | with_reducible apply keeps_ite
    | fail_if_no_progress with_reducible refine h.upd ?_
    | split

theorem execVisitMake_keeps (h : Keeps P 0x100000000000000000000000000000000000000000000000000020400000) {s : State} (hs : P s) (a0) :
    Next P (execVisitMake a0 s) := by
  unfold execVisitMake
  repeat' first
    | with_reducible assumption
    | with_reducible apply next_when
    | with_reducible apply next_next
    | with_reducible apply State.makeVisit_keeps h
    | extract_lets
    | fail_if_no_progress with_reducible refine h.upd ?_
    | with_reducible refine keeps_of_fst (by assumption) ?_
    | with_reducible refine keeps_of_snd (by assumption) ?_
    | split
    | dsimp +zetaDelta only

theorem State.compare_keeps (h : Keeps P 0x40000000000000000000000000000000000000000000000000020400000) {s : State} (hs : P s) :
    P (State.compare s) := by
  have h1 := h.mono (k := 0x20000000) (by decide)
  have h2 := h.mono (k := 0x400000) (by decide)
  unfold State.compare
  repeat' first
    | with_reducible assumption
    | rfl
    | with_reducible apply State.raise_keeps h1
    | with_reducible apply State.setVisit_keeps h2
    | with_reducible apply h.inc
    | extract_lets
    | with_reducible apply keeps_ite
    | fail_if_no_progress with_reducible refine h.upd ?_
    | with_reducible refine keeps_of_fst (by assumption) ?_
    | with_reducible refine keeps_of_snd (by assumption) ?_
    | split
    | dsimp +zetaDelta only

theorem State.checkEnd_keeps (h : Keeps P 0x30000000000000000000000000000000000000000000000000020400000) {s : State} (hs : P s) (a1 a2 a3) :
    P (State.checkEnd s a1 a2 a3) := by
  have h1 := h.mono (k := 0x400000) (by decide)
  have h2 := h.mono (k := 0x20400000) (by decide)
  have h3 := h.mono (k := 0x20000000) (by decide)
  unfold State.checkEnd
  repeat' first
    | with_reducible assumption
    | rfl
    | with_reducible apply State.setVisit_keeps h1
    | with_reducible apply State.tellOnce_keeps h2
    | with_reducible apply State.raise_keeps h3
    | with_reducible apply h.inc
    | with_reducible apply h.put
    | extract_lets
    | with_reducible apply keeps_ite
    | fail_if_no_progress with_reducible refine h.upd ?_
    | split

theorem State.scanBegin_keeps (h : Keeps P 0x8000000000000000000000000000000000000000000000000000400000) {s : State} (hs : P s) :
    P (State.scanBegin s) := by
  unfold State.scanBegin
  repeat' first
    | with_reducible assumption
    | rfl
    | with_reducible apply h.putB
    | with_reducible apply h.inc
    | extract_lets
    | fail_if_no_progress with_reducible refine h.upd ?_

theorem execExReleaseWait_keeps (h : Keeps P 0x100000000000000000000000000000000000000000000000000020400000) {s : State} (hs : P s) (a0) :
    Next P (execExReleaseWait a0 s) := by
  unfold execExReleaseWait
  repeat' first
    | with_reducible assumption
    | with_reducible apply next_when
    | with_reducible apply next_next
    | with_reducible apply State.makeVisit_keeps h
    | extract_lets
    | fail_if_no_progress with_reducible refine h.upd ?_
    | with_reducible refine keeps_of_fst (by assumption) ?_
    | with_reducible refine keeps_of_snd (by assumption) ?_
    | split
    | dsimp +zetaDelta only

theorem State.convertEnd_keeps (h : Keeps P 0x20000000000000000000000000000000000000000000000000020400000) {s : State} (hs : P s) (a1 a2 a3 a4 a5) :
    P (State.convertEnd s a1 a2 a3 a4 a5) := by
  have h1 := h.mono (k := 0x400000) (by decide)
  have h2 := h.mono (k := 0x20400000) (by decide)
  have h3 := h.mono (k := 0x20000000) (by decide)
  unfold State.convertEnd
  repeat' first
    | with_reducible assumption
    | rfl
    | with_reducible apply State.setVisit_keeps h1
    | with_reducible apply State.tellOnce_keeps h2
    | with_reducible apply State.raise_keeps h3
    | with_reducible apply h.inc
    | extract_lets
    | with_reducible apply keeps_ite
    | fail_if_no_progress with_reducible refine h.upd ?_
    | split

theorem State.showUrg_keeps (h : Keeps P 0x8000000000000000000000000000000000000000000000000000000000) {s : State} (hs : P s) :
    P (State.showUrg s) := by
  unfold State.showUrg
  repeat' first
    | with_reducible assumption
    | rfl
    | with_reducible apply h.put

theorem State.writeHkUrg_keeps (h : Keeps P 0x88000000000000000000000000000000000000000000000000020400000) {s : State} (hs : P s) (a1) :
    P (State.writeHkUrg s a1) := by
  have h1 := h.mono (k := 0x8000000000000000000000000000000000000000000000000000000000) (by decide)
  have h2 := h.mono (k := 0x20000000) (by decide)
  unfold State.writeHkUrg
  repeat' first
    | with_reducible assumption
    | rfl
    | with_reducible apply State.showUrg_keeps h1
    | with_reducible apply State.raise_keeps h2
    | with_reducible apply h.inc
    | extract_lets
    | with_reducible apply keeps_ite
    | fail_if_no_progress with_reducible refine h.upd ?_
    | split

theorem State.writeHkChcfg_keeps (h : Keeps P 0x500000000000000000000000000000000000000000000000000020400000) {s : State} (hs : P s) (a1 a2) :
    P (State.writeHkChcfg s a1 a2) := by
  have h1 := h.mono (k := 0x100000000000000000000000000000000000000000000000000020400000) (by decide)
  have h2 := h.mono (k := 0x20000000) (by decide)
  unfold State.writeHkChcfg
  repeat' first
    | with_reducible assumption
    | rfl
    | with_reducible apply State.excRestart_keeps h1
    | with_reducible apply State.raise_keeps h2
    | with_reducible apply h.take
    | extract_lets
    | with_reducible apply keeps_ite
    | split

theorem execHkConvertEnd_keeps (h : Keeps P 0x20000000000000000000000000000000000000000000000000020400000) {s : State} (hs : P s) (a0 a1 a2 a3 a5) :
    Next P (execHkConvertEnd a0 a1 a2 a3 s a5) := by
  unfold execHkConvertEnd
  repeat' first
    | with_reducible assumption
    | with_reducible apply next_when
    | with_reducible apply next_next
    | with_reducible apply State.convertEnd_keeps h
    | extract_lets
    | fail_if_no_progress with_reducible refine h.upd ?_
    | with_reducible refine keeps_of_fst (by assumption) ?_
    | with_reducible refine keeps_of_snd (by assumption) ?_
    | split
    | dsimp +zetaDelta only

theorem execUrgentRequest_keeps (h : Keeps P 0x88000000000000000000000000000000000000000000000000020402000) {s : State} (hs : P s) (a0) :
    Next P (execUrgentRequest a0 s) := by
  have h1 := h.mono (k := 0x2000) (by decide)
  have h2 := h.mono (k := 0x88000000000000000000000000000000000000000000000000020400000) (by decide)
  unfold execUrgentRequest
  repeat' first
    | with_reducible assumption
    | (with_reducible apply access'_keeps h1 <;> [skip; intro _ _])
    | with_reducible apply State.writeHkUrg_keeps h2

theorem execHkChcfgWrite_keeps (h : Keeps P 0x500000000000000000000000000000000000000000000000000020402000) {s : State} (hs : P s) (a0 a1) :
    Next P (execHkChcfgWrite a0 a1 s) := by
  have h1 := h.mono (k := 0x2000) (by decide)
  have h2 := h.mono (k := 0x500000000000000000000000000000000000000000000000000020400000) (by decide)
  unfold execHkChcfgWrite
  repeat' first
    | with_reducible assumption
    | (with_reducible apply access'_keeps h1 <;> [skip; intro _ _])
    | with_reducible apply State.writeHkChcfg_keeps h2

theorem State.scanEnd_keeps (h : Keeps P 0x208000000000000000000000000000000000000000000000000020400000) {s : State} (hs : P s) :
    P (State.scanEnd s) := by
  have h1 := h.mono (k := 0x20000000) (by decide)
  have h2 := h.mono (k := 0x8000000000000000000000000000000000000000000000000000400000) (by decide)
  unfold State.scanEnd
  repeat' first
    | with_reducible assumption
    | rfl
    | with_reducible apply State.raise_keeps h1
    | with_reducible apply State.scanBegin_keeps h2
    | with_reducible apply h.putB
    | with_reducible apply h.inc
    | extract_lets
    | with_reducible apply keeps_ite
    | split

theorem execHkCheckEnd_keeps (h : Keeps P 0x30000000000000000000000000000000000000000000000000020400000) {s : State} (hs : P s) (a0 a1) :
    Next P (execHkCheckEnd a0 a1 s) := by
  unfold execHkCheckEnd
  repeat' first
    | with_reducible assumption
    | with_reducible apply next_when
    | with_reducible apply next_next
    | with_reducible apply State.checkEnd_keeps h
    | extract_lets
    | fail_if_no_progress with_reducible refine h.upd ?_
    | with_reducible refine keeps_of_fst (by assumption) ?_
    | with_reducible refine keeps_of_snd (by assumption) ?_
    | split
    | dsimp +zetaDelta only

theorem State.stepStart_keeps (h : Keeps P 0x208000000000000000000000000000000000000000000000000020400000) {s : State} (hs : P s) :
    P (State.stepStart s) := by
  have h1 := h.mono (k := 0x400000) (by decide)
  unfold State.stepStart
  repeat' first
    | with_reducible assumption
    | with_reducible apply State.startA_keeps h1
    | with_reducible apply State.setVisit_keeps h1
    | with_reducible apply State.scanEnd_keeps h
    | extract_lets
    | with_reducible apply keeps_ite
    | fail_if_no_progress with_reducible refine h.upd ?_
    | with_reducible refine keeps_of_fst (by assumption) ?_
    | with_reducible refine keeps_of_snd (by assumption) ?_
    | split
    | dsimp +zetaDelta only

theorem State.sampleDone_keeps (h : Keeps P 0x608000001400000000000000000000000000000000000000000000000000001604000) {s : State} (hs : P s) (a1 a2) :
    P (State.sampleDone s a1 a2) := by
  have h1 := h.mono (k := 0x4000) (by decide)
  have h2 := h.mono (k := 0x400000) (by decide)
  have h3 := h.mono (k := 0x608000000000000000000000000000000000000000000000000000000000001200000) (by decide)
  unfold State.sampleDone
  repeat' first
    | with_reducible assumption
    | rfl
    | with_reducible apply State.item_keeps h1
    | with_reducible apply State.setVisit_keeps h2
    | with_reducible apply State.lampSample_keeps h3
    | with_reducible apply h.putS
    | with_reducible apply h.putB
    | with_reducible apply h.put
    | extract_lets
    | with_reducible apply keeps_ite
    | split

theorem execExcWrite_keeps (h : Keeps P 0x500000000000000000000000000000000000000000000000000020402000) {s : State} (hs : P s) (a0 a1) :
    Next P (execExcWrite a0 a1 s) := by
  have h1 := h.mono (k := 0x2000) (by decide)
  have h2 := h.mono (k := 0x500000000000000000000000000000000000000000000000000020400000) (by decide)
  unfold execExcWrite
  repeat' first
    | with_reducible assumption
    | (with_reducible apply access'_keeps h1 <;> [skip; intro _ _])
    | with_reducible apply State.writeHkChcfg_keeps h2

theorem State.scanCall_keeps (h : Keeps P 0x88000000000000000000000000000000000000000000000000020400000) {s : State} (hs : P s) :
    P (State.scanCall s) := by
  have h1 := h.mono (k := 0x20000000) (by decide)
  have h2 := h.mono (k := 0x8000000000000000000000000000000000000000000000000000400000) (by decide)
  unfold State.scanCall
  repeat' first
    | with_reducible assumption
    | rfl
    | with_reducible apply State.raise_keeps h1
    | with_reducible apply State.scanBegin_keeps h2
    | with_reducible apply h.inc
    | extract_lets
    | with_reducible apply keeps_ite
    | fail_if_no_progress with_reducible refine h.upd ?_
    | split

theorem execScanStart_keeps (h : Keeps P 0x88000000000000000000000000000000000000000000000000020400000) {s : State} (hs : P s) :
    Next P (execScanStart s) := by
  unfold execScanStart
  repeat' first
    | with_reducible assumption
    | with_reducible apply next_when
    | with_reducible apply State.scanCall_keeps h

theorem execScanStepStart_keeps (h : Keeps P 0x208000000000000000000000000000000000000000000000000020400000) {s : State} (hs : P s) :
    Next P (execScanStepStart s) := by
  unfold execScanStepStart
  repeat' first
    | with_reducible assumption
    | with_reducible apply next_when
    | with_reducible apply State.stepStart_keeps h

theorem State.urgentStart_keeps (h : Keeps P 0x8000000000000000000000000000000000000000000000000000400000) {s : State} (hs : P s) (a1 a2) :
    P (State.urgentStart s a1 a2) := by
  have h1 := h.mono (k := 0x8000000000000000000000000000000000000000000000000000000000) (by decide)
  have h2 := h.mono (k := 0x400000) (by decide)
  unfold State.urgentStart
  repeat' first
    | with_reducible assumption
    | rfl
    | with_reducible apply State.showUrg_keeps h1
    | with_reducible apply State.setVisit_keeps h2
    | with_reducible apply h.putB
    | extract_lets
    | fail_if_no_progress with_reducible refine h.upd ?_
    | with_reducible refine keeps_of_fst (by assumption) ?_
    | with_reducible refine keeps_of_snd (by assumption) ?_
    | split
    | dsimp +zetaDelta only

theorem State.visitEnd_keeps (h : Keeps P 0x608000001648000000000000000000000000000000000000000000000000021604000) {s : State} (hs : P s) (a1 a2) :
    P (State.visitEnd s a1 a2) := by
  have h1 := h.mono (k := 0x40000000000000000000000000000000000000000000000000020400000) (by decide)
  have h2 := h.mono (k := 0x608000001400000000000000000000000000000000000000000000000000001604000) (by decide)
  have h3 := h.mono (k := 0x400000) (by decide)
  have h4 := h.mono (k := 0x20000000) (by decide)
  unfold State.visitEnd
  repeat' first
    | with_reducible assumption
    | rfl
    | with_reducible apply State.compare_keeps h1
    | with_reducible apply State.sampleDone_keeps h2
    | with_reducible apply State.resume_keeps h3
    | with_reducible apply State.raise_keeps h4
    | with_reducible apply h.putB
    | with_reducible apply h.inc
    | extract_lets
    | with_reducible apply keeps_ite
    | split

theorem execScanStepEnd_keeps (h : Keeps P 0x208000000000000000000000000000000000000000000000000020400000) {s : State} (hs : P s) :
    Next P (execScanStepEnd s) := by
  unfold execScanStepEnd
  repeat' first
    | with_reducible assumption
    | with_reducible apply next_when
    | with_reducible apply State.scanEnd_keeps h
    | extract_lets
    | with_reducible apply keeps_ite
    | fail_if_no_progress with_reducible refine h.upd ?_
    | split

theorem execVisitEnd_keeps (h : Keeps P 0x608000001648000000000000000000000000000000000000000000000000021604000) {s : State} (hs : P s) (a0) :
    Next P (execVisitEnd a0 s) := by
  unfold execVisitEnd
  repeat' first
    | with_reducible assumption
    | with_reducible apply next_when
    | with_reducible apply next_next
    | with_reducible apply State.visitEnd_keeps h
    | extract_lets
    | fail_if_no_progress with_reducible refine h.upd ?_
    | with_reducible refine keeps_of_fst (by assumption) ?_
    | with_reducible refine keeps_of_snd (by assumption) ?_
    | split
    | dsimp +zetaDelta only

theorem execUrgentVisitStart_keeps (h : Keeps P 0x8000000000000000000000000000000000000000000000000000400000) {s : State} (hs : P s) :
    Next P (execUrgentVisitStart s) := by
  unfold execUrgentVisitStart
  repeat' first
    | with_reducible assumption
    | with_reducible apply next_when
    | with_reducible apply next_next
    | with_reducible apply State.urgentStart_keeps h
    | extract_lets
    | fail_if_no_progress with_reducible refine h.upd ?_
    | with_reducible refine keeps_of_fst (by assumption) ?_
    | with_reducible refine keeps_of_snd (by assumption) ?_
    | split
    | dsimp +zetaDelta only

end Sys2Proof.Machine
end

