-- ==== Sys2Proof/Laws/KeepStrobe.lean ====
section
/-! SUPPORT. What the operations of Machine/Strobe.lean keep. -/

set_option linter.unusedTactic false
set_option linter.unreachableTactic false

set_option Elab.async false

namespace Sys2Proof.Machine

variable {P : State → Prop} {m : Nat}

theorem State.strobeCounts_keeps (h : Keeps P 0x88800) {s : State} (hs : P s) :
    P (State.strobeCounts s) := by
  unfold State.strobeCounts
  repeat' first
    | with_reducible assumption
    | extract_lets
    | with_reducible apply keeps_ite
    | fail_if_no_progress with_reducible refine h.upd ?_
    | with_reducible refine keeps_of_fst (by assumption) ?_
    | with_reducible refine keeps_of_snd (by assumption) ?_
    | split
    | dsimp +zetaDelta only

theorem State.skipGroups_keeps (h : Keeps P 0x4000000000000000000020040000) {s : State} (hs : P s) (a1 a2) :
    P (State.skipGroups s a1 a2) := by
  have h1 := h.mono (k := 0x20000000) (by decide)
  unfold State.skipGroups
  repeat' first
    | with_reducible assumption
    | rfl
    | with_reducible apply State.raise_keeps h1
    | with_reducible apply h.inc
    | extract_lets
    | with_reducible apply keeps_ite
    | (with_reducible apply keeps_foldl; intro _ _ _)
    | (with_reducible apply keeps_foldl_fst; intro _ _ _)
    | fail_if_no_progress with_reducible refine h.upd ?_
    | split

theorem State.strobeBorders_keeps (h : Keeps P 0x40000000000000000000) {s : State} (hs : P s) :
    P (State.strobeBorders s) := by
  unfold State.strobeBorders
  repeat' first
    | with_reducible assumption
    | rfl
    | with_reducible apply h.put
    | with_reducible apply keeps_ite
    | (with_reducible apply keeps_foldl; intro _ _ _)
    | (with_reducible apply keeps_foldl_fst; intro _ _ _)
    | split

theorem State.strobeVotes_keeps (h : Keeps P 0x10000000000000000000000000000000000000000000000000000000000000000000000020000100) {s : State} (hs : P s) (a1) :
    P (State.strobeVotes s a1) := by
  have h1 := h.mono (k := 0x20000000) (by decide)
  unfold State.strobeVotes
  repeat' first
    | with_reducible assumption
    | rfl
    | with_reducible apply State.raise_keeps h1
    | with_reducible apply h.inc
    | extract_lets
    | with_reducible apply keeps_ite
    | (with_reducible apply keeps_foldl; intro _ _ _)
    | (with_reducible apply keeps_foldl_fst; intro _ _ _)
    | fail_if_no_progress with_reducible refine h.upd ?_
    | split

theorem State.strobeErrors_keeps (h : Keeps P 0x400000000000000000000000000000000140000000000000000000000000000000000000020000000) {s : State} (hs : P s) (a1 a2) :
    P (State.strobeErrors s a1 a2) := by
  have h1 := h.mono (k := 0x140000000000000000000000000000000000000020000000) (by decide)
  unfold State.strobeErrors
  repeat' first
    | with_reducible assumption
    | rfl
    | with_reducible apply State.checkerCount_keeps h1
    | with_reducible apply h.inc
    | extract_lets
    | with_reducible apply keeps_ite
    | (with_reducible apply keeps_foldl; intro _ _ _)
    | (with_reducible apply keeps_foldl_fst; intro _ _ _)
    | split

theorem State.strobeJoin_keeps (h : Keeps P 0x4008) {s : State} (hs : P s) (a1) :
    P (State.strobeJoin s a1) := by
  unfold State.strobeJoin
  repeat' first
    | with_reducible assumption
    | with_reducible apply h.setDie rfl
    | extract_lets
    | with_reducible apply keeps_ite
    | (with_reducible apply keeps_foldl; intro _ _ _)
    | (with_reducible apply keeps_foldl_fst; intro _ _ _)
    | fail_if_no_progress with_reducible refine h.upd ?_
    | split

theorem State.strobeMarker_keeps (h : Keeps P 0x20) {s : State} (hs : P s) (a1 a2) :
    P (State.strobeMarker s a1 a2) := by
  unfold State.strobeMarker
  repeat' first
    | with_reducible assumption
    | with_reducible apply h.setQuad rfl
    | extract_lets
    | fail_if_no_progress with_reducible refine h.upd ?_

theorem State.strobeMarkers_keeps (h : Keeps P 0x20) {s : State} (hs : P s) (a1 a2) :
    P (State.strobeMarkers s a1 a2) := by
  unfold State.strobeMarkers
  repeat' first
    | with_reducible assumption
    | with_reducible apply State.strobeMarker_keeps h
    | with_reducible apply keeps_ite
    | (with_reducible apply keeps_foldl; intro _ _ _)
    | (with_reducible apply keeps_foldl_fst; intro _ _ _)
    | split

theorem State.unform_keeps (h : Keeps P 0x2000000000000000000000040000) {s : State} (hs : P s) (a1) :
    P (State.unform s a1) := by
  unfold State.unform
  repeat' first
    | with_reducible assumption
    | with_reducible apply State.giveBack_keeps h
    | extract_lets
    | with_reducible apply keeps_ite
    | (with_reducible apply keeps_foldl; intro _ _ _)
    | (with_reducible apply keeps_foldl_fst; intro _ _ _)
    | fail_if_no_progress with_reducible refine h.upd ?_
    | with_reducible refine keeps_of_fst (by assumption) ?_
    | with_reducible refine keeps_of_snd (by assumption) ?_
    | split
    | dsimp +zetaDelta only

theorem State.strobeFb_keeps (h : Keeps P 0x804000000000002000c000) {s : State} (hs : P s) (a1) :
    P (State.strobeFb s a1) := by
  have h1 := h.mono (k := 0x4000) (by decide)
  unfold State.strobeFb
  repeat' first
    | with_reducible assumption
    | with_reducible apply State.fbStrobe_keeps h
    | with_reducible apply State.editSlot_keeps h1
    | extract_lets
    | fail_if_no_progress with_reducible refine h.upd ?_

theorem State.strobeTimer_keeps (h : Keeps P 0x18) {s : State} (hs : P s) (a1 a2) :
    P (State.strobeTimer s a1 a2) := by
  unfold State.strobeTimer
  repeat' first
    | with_reducible assumption
    | with_reducible apply State.rebase_keeps h
    | with_reducible apply keeps_ite
    | split

theorem State.openSlot_keeps (h : Keeps P 0x3800000000000000000000044000) {s : State} (hs : P s) (a1) :
    P (State.openSlot s a1) := by
  have h1 := h.mono (k := 0x40000) (by decide)
  have h2 := h.mono (k := 0x2000000000000000000000040000) (by decide)
  have h3 := h.mono (k := 0x1800000000000000000000000000) (by decide)
  unfold State.openSlot
  repeat' first
    | with_reducible assumption
    | with_reducible apply State.editGroup_keeps h1
    | with_reducible apply State.unform_keeps h2
    | with_reducible apply State.showEmit_keeps h3
    | extract_lets
    | with_reducible apply keeps_ite
    | fail_if_no_progress with_reducible refine h.upd ?_
    | with_reducible refine keeps_of_fst (by assumption) ?_
    | with_reducible refine keeps_of_snd (by assumption) ?_
    | split
    | dsimp +zetaDelta only

theorem State.strobePhases_keeps (h : Keeps P 0x8200000000000000000000000000000000000000000000000000000001380000) {s : State} (hs : P s) (a1) :
    P (State.strobePhases s a1) := by
  unfold State.strobePhases
  repeat' first
    | with_reducible assumption
    | with_reducible apply State.phMeasure_keeps h
    | extract_lets
    | with_reducible apply keeps_ite
    | (with_reducible apply keeps_foldl; intro _ _ _)
    | (with_reducible apply keeps_foldl_fst; intro _ _ _)
    | fail_if_no_progress with_reducible refine h.upd ?_
    | with_reducible refine keeps_of_fst (by assumption) ?_
    | with_reducible refine keeps_of_snd (by assumption) ?_
    | split
    | dsimp +zetaDelta only

theorem State.strobeDie_keeps (h : Keeps P 0x1000000000000020009000000000000000000000000000000000000000000000202c2a10801104038) {s : State} (hs : P s) (a1) :
    P (State.strobeDie s a1) := by
  have h1 := h.mono (k := 0x1000000000000000000000000000000000000000000000000000000000000000202c2800000000038) (by decide)
  have h2 := h.mono (k := 0x2000800000000000000000000000000000000000000000000000000210801100008) (by decide)
  have h3 := h.mono (k := 0x100000000000000000000000000000000000000000000000000000000104000) (by decide)
  unfold State.strobeDie
  repeat' first
    | with_reducible assumption
    | with_reducible apply State.awlStrobe_keeps h1
    | with_reducible apply State.injStrobe_keeps h2
    | with_reducible apply State.calRecord_keeps h3
    | with_reducible apply h.setDie rfl
    | extract_lets
    | with_reducible apply keeps_ite
    | fail_if_no_progress with_reducible refine h.upd ?_
    | split

theorem State.strobeLeave_keeps (h : Keeps P 0x40000000011d13000000000000000000000000000e0400000000000203fc078) {s : State} (hs : P s) (a1) :
    P (State.strobeLeave s a1) := by
  have h1 := h.mono (k := 0x100000) (by decide)
  have h2 := h.mono (k := 0x400000000000000000000000000000000000000000000000000000020300018) (by decide)
  have h3 := h.mono (k := 0x11d13000000000000000000000000000e0400000000000200fc078) (by decide)
  unfold State.strobeLeave
  repeat' first
    | with_reducible assumption
    | with_reducible apply State.calRequest_keeps h1
    | with_reducible apply State.calAbort_keeps h2
    | with_reducible apply State.dieLeave_keeps h3
    | with_reducible apply h.setDie rfl
    | extract_lets
    | with_reducible apply keeps_ite
    | fail_if_no_progress with_reducible refine h.upd ?_
    | split

theorem State.strobeDieAll_keeps (h : Keeps P 0x100000000000002000d0000000011d13000000000000000000000000000e0400202c2a108213fc078) {s : State} (hs : P s) (a1 a2) :
    P (State.strobeDieAll s a1 a2) := by
  have h1 := h.mono (k := 0x18) (by decide)
  have h2 := h.mono (k := 0x40000000011d13000000000000000000000000000e0400000000000203fc078) (by decide)
  have h3 := h.mono (k := 0x20) (by decide)
  have h4 := h.mono (k := 0x4008) (by decide)
  have h5 := h.mono (k := 0x1000000000000020009000000000000000000000000000000000000000000000202c2a10801104038) (by decide)
  unfold State.strobeDieAll
  repeat' first
    | with_reducible assumption
    | with_reducible apply State.strobeTimer_keeps h1
    | with_reducible apply State.strobeLeave_keeps h2
    | with_reducible apply State.strobeMarkers_keeps h3
    | with_reducible apply State.strobeJoin_keeps h4
    | with_reducible apply State.strobeDie_keeps h5
    | extract_lets

theorem State.strobeClose_keeps (h : Keeps P 0x11db300000000000000000003001bc03e0400000000000200fc140) {s : State} (hs : P s) (a1) :
    P (State.strobeClose s a1) := by
  have h1 := h.mono (k := 0x30000000000000000008000) (by decide)
  have h2 := h.mono (k := 0x11db300000000000000000003001bc03e0400000000000200fc040) (by decide)
  have h3 := h.mono (k := 0x4000) (by decide)
  have h4 := h.mono (k := 0x10003000000000000000005c000) (by decide)
  unfold State.strobeClose
  repeat' first
    | with_reducible assumption
    | with_reducible apply State.releaseHeld_keeps h1
    | with_reducible apply State.closeSlot_keeps h2
    | with_reducible apply State.editSlot_keeps h3
    | with_reducible apply State.closeServices_keeps h4
    | extract_lets
    | with_reducible apply keeps_ite
    | fail_if_no_progress with_reducible refine h.upd ?_
    | with_reducible refine keeps_of_fst (by assumption) ?_
    | with_reducible refine keeps_of_snd (by assumption) ?_
    | split
    | dsimp +zetaDelta only

theorem State.slotStrobe_keeps (h : Keeps P 0x51000000002000a008f0000000011db301400030000300800003079bc03e0400202c2a108217fc9f8) {s : State} (hs : P s) (a1 a2 a3 a4 a5) :
    P (State.slotStrobe s a1 a2 a3 a4 a5) := by
  have h1 := h.mono (k := 0x8200000000000000000000000000000000000000000000000000000001380000) (by decide)
  have h2 := h.mono (k := 0x400000000000000000000000000000000140000000000000000000000000000000000000020000000) (by decide)
  have h3 := h.mono (k := 0x10000000000000000000000000000000000000000000000000000000000000000000000020000100) (by decide)
  have h4 := h.mono (k := 0x11db300000000000000000003001bc03e0400000000000200fc140) (by decide)
  have h5 := h.mono (k := 0x3000030080000000000000000000000000020000080) (by decide)
  have h6 := h.mono (k := 0x8000) (by decide)
  have h7 := h.mono (k := 0x100000000000002000d0000000011d13000000000000000000000000000e0400202c2a108213fc078) (by decide)
  have h8 := h.mono (k := 0x4080) (by decide)
  have h9 := h.mono (k := 0x804000000000002000c000) (by decide)
  have h10 := h.mono (k := 0x3800000000000000000000044000) (by decide)
  have h11 := h.mono (k := 0x4000000000000000000020040000) (by decide)
  have h12 := h.mono (k := 0x88800) (by decide)
  have h13 := h.mono (k := 0x40000000000000000000) (by decide)
  have h14 := h.mono (k := 0x400000) (by decide)
  have h15 := h.mono (k := 0x20008000000000000000000000000000000000000000000000000000000000020200000) (by decide)
  unfold State.slotStrobe
  repeat' first
    | with_reducible assumption
    | with_reducible apply State.strobePhases_keeps h1
    | with_reducible apply State.strobeErrors_keeps h2
    | with_reducible apply State.strobeVotes_keeps h3
    | with_reducible apply State.strobeClose_keeps h4
    | with_reducible apply State.girthStrobe_keeps h5
    | with_reducible apply State.emptyALast_keeps h6
    | with_reducible apply State.strobeDieAll_keeps h7
    | with_reducible apply State.strobeMarks_keeps h8
    | with_reducible apply State.strobeFb_keeps h9
    | with_reducible apply State.openSlot_keeps h10
    | with_reducible apply State.skipGroups_keeps h11
    | with_reducible apply State.strobeCounts_keeps h12
    | with_reducible apply State.strobeBorders_keeps h13
    | with_reducible apply State.tackStrobe_keeps h14
    | with_reducible apply State.rosetteStrobe_keeps h15
    | extract_lets
    | with_reducible apply keeps_ite
    | (with_reducible apply keeps_foldl; intro _ _ _)
    | (with_reducible apply keeps_foldl_fst; intro _ _ _)
    | fail_if_no_progress with_reducible refine h.upd ?_
    | split

theorem execSlotStrobe_keeps (h : Keeps P 0x51000000002000a008f0000000011db301400030000300800003079bc03e0400202c2a108217fc9f8) {s : State} (hs : P s) (a0 a1 a2 a3 a4) :
    Next P (execSlotStrobe a0 a1 a2 a3 a4 s) := by
  unfold execSlotStrobe
  repeat' first
    | with_reducible assumption
    | with_reducible apply next_when
    | with_reducible apply State.slotStrobe_keeps h

end Sys2Proof.Machine
end

