-- ==== Sys2Proof/Laws/KeepAccess.lean ====
section
/-! SUPPORT. What the operations of Machine/Access.lean keep. -/

set_option linter.unusedTactic false
set_option linter.unreachableTactic false

set_option Elab.async false

namespace Sys2Proof.Machine

variable {P : State → Prop} {m : Nat}

theorem State.putT_keeps (h : Keeps P 0x800) {s : State} (hs : P s) (a1) :
    P (State.putT s a1) := by
  unfold State.putT
  repeat' first
    | with_reducible assumption
    | extract_lets
    | fail_if_no_progress with_reducible refine h.upd ?_

theorem State.initAnswered_keeps (h : Keeps P 0x800) {s : State} (hs : P s) (a1) :
    P (State.initAnswered s a1) := by
  unfold State.initAnswered
  repeat' first
    | with_reducible assumption
    | extract_lets
    | fail_if_no_progress with_reducible refine h.upd ?_

theorem State.sendAccess_keeps (h : Keeps P 0x82000) {s : State} (hs : P s) (a1 a2 a3 a4 a5) :
    P (State.sendAccess s a1 a2 a3 a4 a5) := by
  have h1 := h.mono (k := 0x80000) (by decide)
  unfold State.sendAccess
  repeat' first
    | with_reducible assumption
    | with_reducible apply State.retPut_keeps h1
    | extract_lets
    | fail_if_no_progress with_reducible refine h.upd ?_

theorem State.seqNext_keeps (h : Keeps P 0x800) {s : State} (hs : P s) :
    P (State.seqNext s) := by
  unfold State.seqNext
  repeat' first
    | with_reducible assumption
    | extract_lets
    | fail_if_no_progress with_reducible refine h.upd ?_

theorem State.keepShadow_keeps (h : Keeps P 0x2000) {s : State} (hs : P s) (a1 a2) :
    P (State.keepShadow s a1 a2) := by
  unfold State.keepShadow
  repeat' first
    | with_reducible assumption
    | rfl
    | extract_lets
    | with_reducible apply keeps_ite
    | (with_reducible apply keeps_foldl; intro _ _ _)
    | (with_reducible apply keeps_foldl_fst; intro _ _ _)
    | fail_if_no_progress with_reducible refine h.upd ?_
    | with_reducible refine keeps_of_fst (by assumption) ?_
    | with_reducible refine keeps_of_snd (by assumption) ?_
    | split
    | exact id
    | exact fun _ => rfl
    | (intro hx; simpa [setAt] using hx)
    | (clear * -; decide +revert)
    | dsimp +zetaDelta only

theorem State.writePlain_keeps (h : Keeps P m) {s : State} (hs : P s) {r : Reg} (hr : m.testBit (32 + r.ctorIdx) = true) {i w} :
    P (State.writePlain s r i w) := h.setReg _ _ _ _ hr hs

theorem State.pollRead_keeps (h : Keeps P 0x800) {s : State} (hs : P s) (a1 a2 a3 a4) :
    P (State.pollRead s a1 a2 a3 a4) := by
  unfold State.pollRead
  repeat' first
    | with_reducible assumption
    | with_reducible apply State.seqNext_keeps h
    | with_reducible apply State.putT_keeps h
    | extract_lets
    | with_reducible apply keeps_ite
    | fail_if_no_progress with_reducible refine h.upd ?_
    | split

theorem State.writeSpCtrl_keeps (h : Keeps P 0x800000000000000000000000) {s : State} (hs : P s) (a1) :
    P (State.writeSpCtrl s a1) := by
  unfold State.writeSpCtrl
  repeat' first
    | with_reducible assumption
    | rfl
    | with_reducible apply State.writePlain_keeps h
    | with_reducible apply h.put
    | extract_lets

theorem State.reply_keeps (h : Keeps P 0x4000) {s : State} (hs : P s) (a1 a2 a3 a4 a5 a6) :
    P (State.reply s a1 a2 a3 a4 a5 a6) := by
  unfold State.reply
  repeat' first
    | with_reducible assumption
    | with_reducible apply State.item_keeps h

theorem State.writeEvmCfg_keeps (h : Keeps P 0x5000000000000000000000000000000000000000000000000000000000000000000000000000100) {s : State} (hs : P s) (a1 a2) :
    P (State.writeEvmCfg s a1 a2) := by
  have h1 := h.mono (k := 0x4000000000000000000000000000000000000000000000000000000000000000000000000000100) (by decide)
  unfold State.writeEvmCfg
  repeat' first
    | with_reducible assumption
    | rfl
    | with_reducible apply State.writePlain_keeps h
    | with_reducible apply State.driveEventN_keeps h1
    | with_reducible apply h.putB
    | extract_lets
    | with_reducible apply keeps_ite
    | split

theorem State.finish_keeps (h : Keeps P 0x200000000000000000000000000000000000000000000000000000000000000000000000006800) {s : State} (hs : P s) (a1 a2 a3 a4 a5 a6) :
    P (State.finish s a1 a2 a3 a4 a5 a6) := by
  have h1 := h.mono (k := 0x4000) (by decide)
  have h2 := h.mono (k := 0x800) (by decide)
  unfold State.finish
  repeat' first
    | with_reducible assumption
    | rfl
    | with_reducible apply State.reply_keeps h1
    | with_reducible apply State.seqNext_keeps h2
    | with_reducible apply State.pollRead_keeps h2
    | with_reducible apply h.put
    | extract_lets
    | with_reducible apply keeps_ite
    | fail_if_no_progress with_reducible refine h.upd ?_
    | with_reducible refine keeps_of_fst (by assumption) ?_
    | with_reducible refine keeps_of_snd (by assumption) ?_
    | split
    | dsimp +zetaDelta only

theorem State.writeEvmPend_keeps (h : Keeps P 0x44000000000000000000000000000000000000000000000000000000000000000000000000000100) {s : State} (hs : P s) (a1 a2) :
    P (State.writeEvmPend s a1 a2) := by
  have h1 := h.mono (k := 0x4000000000000000000000000000000000000000000000000000000000000000000000000000100) (by decide)
  unfold State.writeEvmPend
  repeat' first
    | with_reducible assumption
    | rfl
    | with_reducible apply State.driveEventN_keeps h1
    | with_reducible apply State.writePlain_keeps h
    | extract_lets

theorem State.writeLatRun_keeps (h : Keeps P 0x20000000000000000000000000000000000000000000000000000000000000000000020000800) {s : State} (hs : P s) (a1) :
    P (State.writeLatRun s a1) := by
  unfold State.writeLatRun
  repeat' first
    | with_reducible assumption
    | with_reducible apply State.requestProgram_keeps h
    | with_reducible apply keeps_ite
    | split

theorem State.debugWrite_keeps (h : Keeps P 0x11d100000000000000000000000000000000000000000020020000) {s : State} (hs : P s) (a1 a2) :
    P (State.debugWrite s a1 a2).1 := by
  have h1 := h.mono (k := 0x20000) (by decide)
  unfold State.debugWrite
  repeat' first
    | with_reducible assumption
    | with_reducible apply State.treeBytes_keeps h
    | with_reducible apply State.treeMark_keeps h1
    | with_reducible apply keeps_ite
    | split

theorem State.writeReg_keeps (h : Keeps P 0x14702200000041cc0408058c19c620000298034ffe0000c4004800620b01ee12737c77ffe607bc9b8) {s : State} (hs : P s) (a1 a2 a3) :
    P (State.writeReg s a1 a2 a3) := by
  have h1 := h.mono (k := 0xc04000000000000000000000000000000000000000000000000004020200000030) (by decide)
  have h2 := h.mono (k := 0x400000010) (by decide)
  have h3 := h.mono (k := 0x800000000) (by decide)
  have h4 := h.mono (k := 0x9000000010) (by decide)
  have h5 := h.mono (k := 0x2000000010) (by decide)
  have h6 := h.mono (k := 0x4000000000) (by decide)
  have h7 := h.mono (k := 0x8000000000) (by decide)
  have h8 := h.mono (k := 0x10000000000) (by decide)
  have h9 := h.mono (k := 0x20000000000) (by decide)
  have h10 := h.mono (k := 0x40000000000) (by decide)
  have h11 := h.mono (k := 0x80000000000) (by decide)
  have h12 := h.mono (k := 0x100000000000) (by decide)
  have h13 := h.mono (k := 0x200000000008) (by decide)
  have h14 := h.mono (k := 0x400000000000) (by decide)
  have h15 := h.mono (k := 0x1000000000000) (by decide)
  have h16 := h.mono (k := 0x2000000000000) (by decide)
  have h17 := h.mono (k := 0x40000000000000) (by decide)
  have h18 := h.mono (k := 0x80000000000000) (by decide)
  have h19 := h.mono (k := 0x100000000000000) (by decide)
  have h20 := h.mono (k := 0x200000000000000) (by decide)
  have h21 := h.mono (k := 0x400000000000000) (by decide)
  have h22 := h.mono (k := 0x2000000000000010) (by decide)
  have h23 := h.mono (k := 0x12000000000000010) (by decide)
  have h24 := h.mono (k := 0x20000000000000000) (by decide)
  have h25 := h.mono (k := 0x40000000000000000) (by decide)
  have h26 := h.mono (k := 0x200000000000000000000000000000000000000000000000000010) (by decide)
  have h27 := h.mono (k := 0x400000000000000000000000000000000000000000000000000000) (by decide)
  have h28 := h.mono (k := 0x4000000000000000000000000000000000000000000000000000010) (by decide)
  have h29 := h.mono (k := 0x100000000000000000000000018000000000000000000000000000000000000000000000000000028) (by decide)
  have h30 := h.mono (k := 0x200000000000000000000000000000000000000000000000) (by decide)
  have h31 := h.mono (k := 0x188000000000000000000000000000000000000000000000000000000) (by decide)
  have h32 := h.mono (k := 0xc04000000000000000000000000000000000000000000000000000000000000020) (by decide)
  have h33 := h.mono (k := 0x20001ec020000000002008c000) (by decide)
  have h34 := h.mono (k := 0x1000000000000008000) (by decide)
  have h35 := h.mono (k := 0x60000000000020000000) (by decide)
  have h36 := h.mono (k := 0x100000000000000000008000) (by decide)
  have h37 := h.mono (k := 0x600000000000000000000000000) (by decide)
  have h38 := h.mono (k := 0x800000000000000000000000010000) (by decide)
  have h39 := h.mono (k := 0x4000000000000000000000000010000) (by decide)
  have h40 := h.mono (k := 0x4000000000000000000000000000000000) (by decide)
  have h41 := h.mono (k := 0x24ffe0000c0000000000000000000000000020080080) (by decide)
  have h42 := h.mono (k := 0x30000000000000000000000000000000000020080000) (by decide)
  have h43 := h.mono (k := 0x18020000000000000000000000000000000000020084000) (by decide)
  have h44 := h.mono (k := 0x80000000000000000000000000000000000000000000000) (by decide)
  have h45 := h.mono (k := 0x20000000000000000000000000000000000000000000020020000) (by decide)
  have h46 := h.mono (k := 0x88000000000000000000000000000000000000000000000000020400000) (by decide)
  have h47 := h.mono (k := 0x500000000000000000000000000000000000000000000000000020400000) (by decide)
  have h48 := h.mono (k := 0x100000) (by decide)
  have h49 := h.mono (k := 0x40c000000000000000000000000000000000000000000000000000000000000200000) (by decide)
  have h50 := h.mono (k := 0x18000000000000000000000000000000000000000000000000000000000000200000) (by decide)
  have h51 := h.mono (k := 0x8000000000000000000000000000000000000000000000000000000000000000000) (by decide)
  have h52 := h.mono (k := 0x20000000000000000000000000000000000000000000000000000000000000000000020000800) (by decide)
  have h53 := h.mono (k := 0x800000000000000000000000) (by decide)
  have h54 := h.mono (k := 0x5000000000000000000000000000000000000000000000000000000000000000000000000000100) (by decide)
  have h55 := h.mono (k := 0x4000000000000000000000000000000000000000000000000000000000000000000000000000100) (by decide)
  have h56 := h.mono (k := 0x44000000000000000000000000000000000000000000000000000000000000000000000000000100) (by decide)
  unfold State.writeReg
  repeat' first
    | with_reducible assumption
    | rfl
    | with_reducible apply h.writePlain rfl
    | with_reducible apply State.writePixCtrl_keeps h1
    | with_reducible apply State.writePixAnode_keeps h2
    | with_reducible apply State.writePixTdisc_keeps h3
    | with_reducible apply State.writePixTrgpol_keeps h4
    | with_reducible apply State.writePixTloop_keeps h5
    | with_reducible apply State.writePixTtarget_keeps h6
    | with_reducible apply State.writePixTstat_keeps h7
    | with_reducible apply State.writePixInj_keeps h8
    | with_reducible apply State.writePixOvr_keeps h9
    | with_reducible apply State.writePixdTdbase_keeps h10
    | with_reducible apply State.writePixdRcv_keeps h11
    | with_reducible apply State.writePixdLoop_keeps h12
    | with_reducible apply State.writePixdInj_keeps h13
    | with_reducible apply State.writeAwlCtrl_keeps h14
    | with_reducible apply State.writeAwlTapselNext_keeps h15
    | with_reducible apply State.writeAwlOffs_keeps h16
    | with_reducible apply State.writeAwldCtrl_keeps h17
    | with_reducible apply State.writeAwldBias_keeps h18
    | with_reducible apply State.writeAwldRamp_keeps h19
    | with_reducible apply State.writeAwldPhase_keeps h20
    | with_reducible apply State.writeAwldIvl_keeps h21
    | with_reducible apply State.writeRngCtrl_keeps h22
    | with_reducible apply State.writeRngdCtrl_keeps h23
    | with_reducible apply State.writeRngdAper_keeps h24
    | with_reducible apply State.writeRngdPush_keeps h25
    | with_reducible apply State.writeStpCtrl_keeps h26
    | with_reducible apply State.writeStpOffs_keeps h27
    | with_reducible apply State.writeStpdCtrl_keeps h28
    | with_reducible apply State.writeStpdBank_keeps h29
    | with_reducible apply State.writeShlCtrl_keeps h30
    | with_reducible apply State.writeCoef_keeps h31
    | with_reducible apply State.writeHsel_keeps h32
    | with_reducible apply State.writeStrCtrl_keeps h33
    | with_reducible apply State.writeStrAuto_keeps h34
    | with_reducible apply State.writeClass_keeps h35
    | with_reducible apply State.writeMapData_keeps h36
    | with_reducible apply State.writeStiCtrl_keeps h37
    | with_reducible apply State.writeSkvCtrl_keeps h38
    | with_reducible apply State.writeSkvStat_keeps h39
    | with_reducible apply State.writeInsp_keeps h40
    | with_reducible apply State.writeGirCtrl_keeps h41
    | with_reducible apply State.writeHarCtrl_keeps h42
    | with_reducible apply State.writeRxlCtrl_keeps h43
    | with_reducible apply State.writeTxlCtrl_keeps h44
    | with_reducible apply State.writeTreRepair_keeps h45
    | with_reducible apply State.writeHkUrg_keeps h46
    | with_reducible apply State.writeHkChcfg_keeps h47
    | with_reducible apply State.writeBurRun_keeps h48
    | with_reducible apply State.writeRseCtrl_keeps h49
    | with_reducible apply State.writeRsePulse_keeps h50
    | with_reducible apply State.writeRseStat_keeps h51
    | with_reducible apply State.writeLatRun_keeps h52
    | with_reducible apply State.writeSpCtrl_keeps h53
    | with_reducible apply State.writeEvmCfg_keeps h54
    | with_reducible apply State.driveEventN_keeps h55
    | with_reducible apply State.writePlain_keeps h
    | with_reducible apply State.writeEvmPend_keeps h56
    | extract_lets
    | fail_if_no_progress with_reducible refine h.upd ?_
    | with_reducible refine keeps_of_fst (by assumption) ?_
    | with_reducible refine keeps_of_snd (by assumption) ?_
    | split
    | dsimp +zetaDelta only

theorem State.dieWrite_keeps (h : Keeps P 0x14702200000041cc0408058c19c620000298034ffe0000c4004800620b01ee12737c77ffe607bc9b8) {s : State} (hs : P s) (a1 a2) :
    P (State.dieWrite s a1 a2) := by
  have h1 := h.mono (k := 0x20) (by decide)
  unfold State.dieWrite
  repeat' first
    | with_reducible assumption
    | with_reducible apply State.csPush_keeps h1
    | with_reducible apply State.writeReg_keeps h
    | extract_lets
    | fail_if_no_progress with_reducible refine h.upd ?_
    | with_reducible refine keeps_of_fst (by assumption) ?_
    | with_reducible refine keeps_of_snd (by assumption) ?_
    | split
    | dsimp +zetaDelta only

theorem State.debugRead_keeps (h : Keeps P 0x11db000000000000000000000000000000000000000000200fc000) {s : State} (hs : P s) (a1) :
    P (State.debugRead s a1).1 := by
  have h1 := h.mono (k := 0x11db00000000000000000000000000000000000000000020020000) (by decide)
  have h2 := h.mono (k := 0x20000) (by decide)
  unfold State.debugRead
  repeat' first
    | with_reducible assumption
    | with_reducible apply State.readBlock_keeps h1
    | with_reducible apply State.treeRead_keeps h
    | with_reducible apply State.treeMark_keeps h2
    | extract_lets
    | with_reducible apply keeps_ite
    | fail_if_no_progress with_reducible refine h.upd ?_
    | with_reducible refine keeps_of_fst (by assumption) ?_
    | with_reducible refine keeps_of_snd (by assumption) ?_
    | split
    | dsimp +zetaDelta only

theorem execDieRegWr_keeps (h : Keeps P 0x14702200000041cc0408058c19c620000a98034ffe0000c4004800620b01ee12737c77ffe607bc9b8) {s : State} (hs : P s) (a0 a1) :
    Next P (execDieRegWr a0 a1 s) := by
  have h1 := h.mono (k := 0x14702200000041cc0408058c19c620000298034ffe0000c4004800620b01ee12737c77ffe607bc9b8) (by decide)
  have h2 := h.mono (k := 0x100000000000000000000000000000000800000000000000000000000000000000000000000000028) (by decide)
  have h3 := h.mono (k := 0x80000) (by decide)
  unfold execDieRegWr
  repeat' first
    | with_reducible assumption
    | with_reducible apply next_when
    | with_reducible apply State.dieWrite_keeps h1
    | with_reducible apply State.dropFrz0_keeps h2
    | with_reducible apply State.retTaken_keeps h3

theorem State.readWord_keeps (h : Keeps P 0x11d11200000000000000000000000030000000c000000061024070) {s : State} (hs : P s) (a1 a2) :
    P (State.readWord s a1 a2).1 := by
  have h1 := h.mono (k := 0x300000000000000000000000) (by decide)
  have h2 := h.mono (k := 0x200000000000000000000000000000000c000000001000020) (by decide)
  have h3 := h.mono (k := 0xc000000000000020) (by decide)
  have h4 := h.mono (k := 0x11d110000000000000000000000000000000000000000020024040) (by decide)
  unfold State.readWord
  repeat' first
    | with_reducible assumption
    | with_reducible apply State.readMapData_keeps h1
    | with_reducible apply State.hqStat_keeps h2
    | with_reducible apply State.land_keeps h3
    | with_reducible apply State.ingSettle_keeps h4
    | with_reducible apply h.clearRc rfl
    | extract_lets
    | fail_if_no_progress with_reducible refine h.upd ?_
    | with_reducible refine keeps_of_fst (by assumption) ?_
    | with_reducible refine keeps_of_snd (by assumption) ?_
    | split
    | dsimp +zetaDelta only

theorem State.dieRead_keeps (h : Keeps P 0x11d11200000000000000000000000030000000c000000061024070) {s : State} (hs : P s) (a1 a2) :
    P (State.dieRead s a1 a2) := by
  have h1 := h.mono (k := 0x20) (by decide)
  unfold State.dieRead
  repeat' first
    | with_reducible assumption
    | with_reducible apply State.readWord_keeps h
    | with_reducible apply State.csPush_keeps h1
    | extract_lets
    | fail_if_no_progress with_reducible refine h.upd ?_
    | with_reducible refine keeps_of_fst (by assumption) ?_
    | with_reducible refine keeps_of_snd (by assumption) ?_
    | split
    | dsimp +zetaDelta only

theorem State.readReg_keeps (h : Keeps P 0x11d1120000000007f000078000180030000000c000000061026070) {s : State} (hs : P s) (a1 a2 a3) :
    P (State.readReg s a1 a2 a3).1 := by
  have h1 := h.mono (k := 0x2000) (by decide)
  have h2 := h.mono (k := 0x11d11200000000000000000000000030000000c000000061024070) (by decide)
  unfold State.readReg
  repeat' first
    | with_reducible assumption
    | with_reducible apply State.keepShadow_keeps h1
    | with_reducible apply State.clearShadows_keeps h1
    | with_reducible apply State.readWord_keeps h2
    | extract_lets
    | with_reducible apply keeps_ite
    | fail_if_no_progress with_reducible refine h.upd ?_
    | with_reducible refine keeps_of_fst (by assumption) ?_
    | with_reducible refine keeps_of_snd (by assumption) ?_
    | split
    | dsimp +zetaDelta only

theorem execDieRegRd_keeps (h : Keeps P 0x10000000000000000000000000011d11280000000000000000000000030000000c0000000610a4078) {s : State} (hs : P s) (a0 a1) :
    Next P (execDieRegRd a0 a1 s) := by
  have h1 := h.mono (k := 0x11d11200000000000000000000000030000000c000000061024070) (by decide)
  have h2 := h.mono (k := 0x100000000000000000000000000000000800000000000000000000000000000000000000000000028) (by decide)
  have h3 := h.mono (k := 0x80000) (by decide)
  unfold execDieRegRd
  repeat' first
    | with_reducible assumption
    | with_reducible apply next_when
    | with_reducible apply State.dieRead_keeps h1
    | with_reducible apply State.dropFrz0_keeps h2
    | with_reducible apply State.retTaken_keeps h3

theorem State.serve_keeps (h : Keeps P 0x14722200000041cc0418058c19c73db12298034ffe7f00c4784801e20b01ee127f7c77ffe617fe9f8) {s : State} (hs : P s) (a1) :
    P (State.serve s a1) := by
  have h1 := h.mono (k := 0x200000000000000000000000000000000000000000000000000000000000000000000000006800) (by decide)
  have h2 := h.mono (k := 0x2000) (by decide)
  have h3 := h.mono (k := 0x11d100000000000000000000000000000000000000000020020000) (by decide)
  have h4 := h.mono (k := 0x11db000000000000000000000000000000000000000000200fc000) (by decide)
  have h5 := h.mono (k := 0x14702200000041cc0408058c19c620000298034ffe0000c4004800620b01ee12737c77ffe607bc9b8) (by decide)
  have h6 := h.mono (k := 0x11d1120000000007f000078000180030000000c000000061026070) (by decide)
  have h7 := h.mono (k := 0x800) (by decide)
  have h8 := h.mono (k := 0x82000) (by decide)
  unfold State.serve
  repeat' first
    | with_reducible assumption
    | rfl
    | with_reducible apply State.finish_keeps h1
    | with_reducible apply State.clearShadows_keeps h2
    | with_reducible apply State.debugWrite_keeps h3
    | with_reducible apply State.debugRead_keeps h4
    | with_reducible apply State.writeReg_keeps h5
    | with_reducible apply State.readReg_keeps h6
    | with_reducible apply State.seqNext_keeps h7
    | with_reducible apply State.sendAccess_keeps h8
    | with_reducible apply h.putB
    | extract_lets
    | with_reducible apply keeps_ite
    | fail_if_no_progress with_reducible refine h.upd ?_
    | with_reducible refine keeps_of_fst (by assumption) ?_
    | with_reducible refine keeps_of_snd (by assumption) ?_
    | split
    | dsimp +zetaDelta only

theorem State.serveNow_keeps (h : Keeps P 0x14722200000041cc0418058c19c73db12298034ffe7f00c4784801e20b01ee127f7c77ffe617fe9f8) {s : State} (hs : P s) (a1) :
    P (State.serveNow s a1) := by
  unfold State.serveNow
  repeat' first
    | with_reducible assumption
    | with_reducible apply State.serve_keeps h
    | extract_lets
    | fail_if_no_progress with_reducible refine h.upd ?_

theorem State.request_keeps (h : Keeps P 0x14722200000041cc0418058c19c73db12298034ffe7f00c4784801e20b01ee127f7c77ffe617fe9f8) {s : State} (hs : P s) (a1) :
    P (State.request s a1) := by
  unfold State.request
  repeat' first
    | with_reducible assumption
    | with_reducible apply State.serveNow_keeps h
    | extract_lets
    | with_reducible apply keeps_ite
    | fail_if_no_progress with_reducible refine h.upd ?_
    | split

theorem State.accessBy_keeps (h : Keeps P 0x14722200000041cc0418058c19c73db12298034ffe7f00c4784801e20b01ee127f7c77ffe617fe9f8) {s : State} (hs : P s) (a1 a2 a3 a4 a5) :
    P (State.accessBy s a1 a2 a3 a4 a5) := by
  unfold State.accessBy
  repeat' first
    | with_reducible assumption
    | with_reducible apply State.request_keeps h

theorem execRegisterWrite_keeps (h : Keeps P 0x14722200000041cc0418058c19c73db12298034ffe7f00c4784801e20b01ee127f7c77ffe617fe9f8) {s : State} (hs : P s) (a0 a1 a2 a3) :
    Next P (execRegisterWrite a0 a1 a2 a3 s) := by
  unfold execRegisterWrite
  repeat' first
    | with_reducible assumption
    | with_reducible apply next_when
    | with_reducible apply State.accessBy_keeps h

theorem execTmiRegWr_keeps (h : Keeps P 0x14722200000041cc0418058c19c73db12298034ffe7f00c4784801e20b01ee127f7c77ffe61ffe9f8) {s : State} (hs : P s) (a0 a1 a2 a3) :
    Next P (execTmiRegWr a0 a1 a2 a3 s) := by
  have h1 := h.mono (k := 0x880000) (by decide)
  have h2 := h.mono (k := 0x14722200000041cc0418058c19c73db12298034ffe7f00c4784801e20b01ee127f7c77ffe617fe9f8) (by decide)
  unfold execTmiRegWr
  repeat' first
    | with_reducible assumption
    | with_reducible apply next_when
    | with_reducible apply State.tmoHeard_keeps h1
    | with_reducible apply State.accessBy_keeps h2
    | extract_lets

theorem execTmiRegRd_keeps (h : Keeps P 0x14722200000041cc0418058c19c73db12298034ffe7f00c4784801e20b01ee127f7c77ffe61ffe9f8) {s : State} (hs : P s) (a0 a1 a2) :
    Next P (execTmiRegRd a0 a1 a2 s) := by
  have h1 := h.mono (k := 0x880000) (by decide)
  have h2 := h.mono (k := 0x14722200000041cc0418058c19c73db12298034ffe7f00c4784801e20b01ee127f7c77ffe617fe9f8) (by decide)
  unfold execTmiRegRd
  repeat' first
    | with_reducible assumption
    | with_reducible apply next_when
    | with_reducible apply State.tmoHeard_keeps h1
    | with_reducible apply State.accessBy_keeps h2
    | extract_lets

theorem execDebugWindowWrite_keeps (h : Keeps P 0x14722200000041cc0418058c19c73db12298034ffe7f00c4784801e20b01ee127f7c77ffe617fe9f8) {s : State} (hs : P s) (a0 a1 a2 a3) :
    Next P (execDebugWindowWrite a0 a1 a2 a3 s) := by
  unfold execDebugWindowWrite
  repeat' first
    | with_reducible assumption
    | with_reducible apply next_when
    | with_reducible apply State.accessBy_keeps h

theorem State.readBy_keeps (h : Keeps P 0x14722200000041cc0418058c19c73db12298034ffe7f00c4784801e20b01ee127f7c77ffe617fe9f8) {s : State} (hs : P s) (a1 a2 a3) :
    P (State.readBy s a1 a2 a3) := by
  have h1 := h.mono (k := 0x11d1120000000007f000078000180030000000c000000061026070) (by decide)
  unfold State.readBy
  repeat' first
    | with_reducible assumption
    | rfl
    | with_reducible apply State.readReg_keeps h1
    | with_reducible apply State.accessBy_keeps h
    | with_reducible apply h.put
    | extract_lets
    | fail_if_no_progress with_reducible refine h.upd ?_
    | with_reducible refine keeps_of_fst (by assumption) ?_
    | with_reducible refine keeps_of_snd (by assumption) ?_
    | split
    | dsimp +zetaDelta only

theorem execRcRead_keeps (h : Keeps P 0x14722200000041cc0418058c19c73db12298034ffe7f00c4784801e20b01ee127f7c77ffe617fe9f8) {s : State} (hs : P s) (a0 a1 a2) :
    Next P (execRcRead a0 a1 a2 s) := by
  unfold execRcRead
  repeat' first
    | with_reducible assumption
    | with_reducible apply next_when
    | with_reducible apply State.readBy_keeps h

theorem execSrLowRead_keeps (h : Keeps P 0x14722200000041cc0418058c19c73db12298034ffe7f00c4784801e20b01ee127f7c77ffe617fe9f8) {s : State} (hs : P s) (a0 a1 a2) :
    Next P (execSrLowRead a0 a1 a2 s) := by
  unfold execSrLowRead
  repeat' first
    | with_reducible assumption
    | with_reducible apply next_when
    | with_reducible apply State.readBy_keeps h

theorem execSrHighRead_keeps (h : Keeps P 0x14722200000041cc0418058c19c73db12298034ffe7f00c4784801e20b01ee127f7c77ffe617fe9f8) {s : State} (hs : P s) (a0 a1 a2) :
    Next P (execSrHighRead a0 a1 a2 s) := by
  unfold execSrHighRead
  repeat' first
    | with_reducible assumption
    | with_reducible apply next_when
    | with_reducible apply State.readBy_keeps h

theorem State.serveWaiting_keeps (h : Keeps P 0x14722200000041cc0418058c19c73db12298034ffe7f00c4784801e20b01ee127f7c77ffe617fe9f8) {s : State} (hs : P s) (a0) :
    P (State.serveWaiting a0 s) := by
  have h1 := h.mono (k := 0x14722200000041cc0418058c19c73db12298034ffe7f00c4784801e20b01ee127f7c77ffe617fe9f8) (by decide)
  induction a0 generalizing s with
  | zero => exact hs
  | succ n ih =>
    unfold State.serveWaiting
    split
    · exact hs
    · split
      · exact hs
      · exact keeps_ite hs (ih (State.serveNow_keeps h1 (h.upd hs) _))

theorem State.endAccess_keeps (h : Keeps P 0x14722200000041cc0418058c19c73db12298034ffe7f00c4784801e20b01ee127f7c77ffe617fe9f8) {s : State} (hs : P s) (a1 a2 a3) :
    P (State.endAccess s a1 a2 a3) := by
  have h1 := h.mono (k := 0x200000000000000000000000000000000000000000000000000000000000000000000000006800) (by decide)
  unfold State.endAccess
  repeat' first
    | with_reducible assumption
    | with_reducible apply State.serve_keeps h
    | with_reducible apply State.finish_keeps h1
    | with_reducible apply State.serveWaiting_keeps h
    | extract_lets
    | fail_if_no_progress with_reducible refine h.upd ?_
    | with_reducible refine keeps_of_fst (by assumption) ?_
    | with_reducible refine keeps_of_snd (by assumption) ?_
    | split
    | dsimp +zetaDelta only

theorem execRegTimeout_keeps (h : Keeps P 0x14722200000041cc0418058c19c73db1229a034ffe7f00c4784801e20b01ee127f7c77ffe617fe9f8) {s : State} (hs : P s) :
    Next P (execRegTimeout s) := by
  have h1 := h.mono (k := 0x14722200000041cc0418058c19c73db12298034ffe7f00c4784801e20b01ee127f7c77ffe617fe9f8) (by decide)
  have h2 := h.mono (k := 0x20000000) (by decide)
  have h3 := h.mono (k := 0x800) (by decide)
  unfold execRegTimeout
  repeat' first
    | with_reducible assumption
    | rfl
    | with_reducible apply next_when
    | with_reducible apply next_next
    | with_reducible apply State.endAccess_keeps h1
    | with_reducible apply State.raise_keeps h2
    | with_reducible apply State.initAnswered_keeps h3
    | with_reducible apply h.inc
    | extract_lets
    | with_reducible apply keeps_ite
    | fail_if_no_progress with_reducible refine h.upd ?_
    | with_reducible refine keeps_of_fst (by assumption) ?_
    | with_reducible refine keeps_of_snd (by assumption) ?_
    | split
    | dsimp +zetaDelta only

theorem execRepairCopyDone_keeps (h : Keeps P 0x14722200000041cc0418058c19c73fb12298034ffe7f00c4784801e20b01ee127f7c77ffe617fe9f8) {s : State} (hs : P s) :
    Next P (execRepairCopyDone s) := by
  have h1 := h.mono (k := 0x13fb000000000000000000000000000000000000000000200fc000) (by decide)
  have h2 := h.mono (k := 0x14722200000041cc0418058c19c73db12298034ffe7f00c4784801e20b01ee127f7c77ffe617fe9f8) (by decide)
  unfold execRepairCopyDone
  repeat' first
    | with_reducible assumption
    | with_reducible apply next_when
    | with_reducible apply next_next
    | with_reducible apply State.repairDone_keeps h1
    | with_reducible apply State.serveWaiting_keeps h2
    | extract_lets
    | fail_if_no_progress with_reducible refine h.upd ?_
    | with_reducible refine keeps_of_fst (by assumption) ?_
    | with_reducible refine keeps_of_snd (by assumption) ?_
    | split
    | dsimp +zetaDelta only

theorem execRegAnswer_keeps (h : Keeps P 0x14722200000041cc0418058c19c73db12298034ffe7f00c4784801e20b01ee127f7c77ffe617fe9f8) {s : State} (hs : P s) (a0 a1) :
    Next P (execRegAnswer a0 a1 s) := by
  have h1 := h.mono (k := 0x800) (by decide)
  unfold execRegAnswer
  repeat' first
    | with_reducible assumption
    | with_reducible apply next_when
    | with_reducible apply next_next
    | with_reducible apply State.initAnswered_keeps h1
    | with_reducible apply State.endAccess_keeps h
    | extract_lets
    | with_reducible apply keeps_ite
    | fail_if_no_progress with_reducible refine h.upd ?_
    | with_reducible refine keeps_of_fst (by assumption) ?_
    | with_reducible refine keeps_of_snd (by assumption) ?_
    | split
    | dsimp +zetaDelta only

end Sys2Proof.Machine
end

