-- ==== Sys2Proof/Laws/KeepImage.lean ====
section
/-! SUPPORT. What the operations of Machine/Image.lean keep. -/

set_option linter.unusedTactic false
set_option linter.unreachableTactic false

set_option Elab.async false

namespace Sys2Proof.Machine

variable {P : State → Prop} {m : Nat}

theorem State.flashIssue_keeps (h : Keeps P 0x800) {s : State} (hs : P s) :
    P (State.flashIssue s) := by
  unfold State.flashIssue
  repeat' first
    | with_reducible assumption
    | extract_lets
    | with_reducible apply keeps_ite
    | fail_if_no_progress with_reducible refine h.upd ?_
    | split

theorem State.takePattern_keeps (h : Keeps P 0x80000000000000000008000) {s : State} (hs : P s) (a1) :
    P (State.takePattern s a1) := by
  unfold State.takePattern
  repeat' first
    | with_reducible assumption
    | rfl
    | with_reducible apply State.writePlain_keeps h
    | extract_lets
    | (with_reducible apply keeps_foldl; intro _ _ _)
    | (with_reducible apply keeps_foldl_fst; intro _ _ _)
    | fail_if_no_progress with_reducible refine h.upd ?_
    | with_reducible refine keeps_of_fst (by assumption) ?_
    | with_reducible refine keeps_of_snd (by assumption) ?_
    | split
    | dsimp +zetaDelta only

theorem State.startProgram_keeps (h : Keeps P 0x1000000000000000000000000000000000000000000000000000000000000000000000000800) {s : State} (hs : P s) (a1) :
    P (State.startProgram s a1) := by
  unfold State.startProgram
  repeat' first
    | with_reducible assumption
    | rfl
    | with_reducible apply h.putB
    | with_reducible apply h.put
    | extract_lets
    | fail_if_no_progress with_reducible refine h.upd ?_

theorem State.flashQueue_keeps (h : Keeps P 0x800) {s : State} (hs : P s) (a1) :
    P (State.flashQueue s a1) := by
  unfold State.flashQueue
  repeat' first
    | with_reducible assumption
    | with_reducible apply State.flashIssue_keeps h
    | extract_lets
    | fail_if_no_progress with_reducible refine h.upd ?_

theorem State.takeIdent_keeps (h : Keeps P 0x800000000000000000000000000000000000000000000000000000000000000000000000000000000000) {s : State} (hs : P s) (a1) :
    P (State.takeIdent s a1) := by
  unfold State.takeIdent
  repeat' first
    | with_reducible assumption
    | rfl
    | with_reducible apply h.putB
    | with_reducible apply h.put
    | extract_lets
    | with_reducible apply keeps_ite
    | split

theorem State.inflateFault_keeps (h : Keeps P 0x20000000000000000000000020000000) {s : State} (hs : P s) (a1) :
    P (State.inflateFault s a1) := by
  have h1 := h.mono (k := 0x20000000) (by decide)
  unfold State.inflateFault
  repeat' first
    | with_reducible assumption
    | rfl
    | with_reducible apply State.raise_keeps h1
    | with_reducible apply h.inc
    | with_reducible apply keeps_ite
    | split

theorem execEraseDone_keeps (h : Keeps P 0x9000000000000000000000000000000000000000000000000000000000000000000000001800) {s : State} (hs : P s) :
    Next P (execEraseDone s) := by
  have h1 := h.mono (k := 0x800) (by decide)
  unfold execEraseDone
  repeat' first
    | with_reducible assumption
    | rfl
    | with_reducible apply next_when
    | with_reducible apply next_next
    | with_reducible apply State.flashIssue_keeps h1
    | with_reducible apply h.erase rfl
    | with_reducible apply h.program rfl
    | with_reducible apply h.probe rfl
    | with_reducible apply h.put
    | extract_lets
    | with_reducible apply keeps_ite
    | fail_if_no_progress with_reducible refine h.upd ?_
    | with_reducible refine keeps_of_fst (by assumption) ?_
    | with_reducible refine keeps_of_snd (by assumption) ?_
    | split
    | dsimp +zetaDelta only

theorem execFlashProgramDone_keeps (h : Keeps P 0x1800) {s : State} (hs : P s) :
    Next P (execFlashProgramDone s) := by
  have h1 := h.mono (k := 0x800) (by decide)
  unfold execFlashProgramDone
  repeat' first
    | with_reducible assumption
    | with_reducible apply next_when
    | with_reducible apply next_next
    | with_reducible apply State.flashIssue_keeps h1
    | with_reducible apply h.erase rfl
    | with_reducible apply h.program rfl
    | with_reducible apply h.probe rfl
    | extract_lets
    | fail_if_no_progress with_reducible refine h.upd ?_
    | with_reducible refine keeps_of_fst (by assumption) ?_
    | with_reducible refine keeps_of_snd (by assumption) ?_
    | split
    | dsimp +zetaDelta only

theorem execRetainedLogWrite_keeps (h : Keeps P 0x800000000000000000000000000000000000000000000000000000000000000000000000000800) {s : State} (hs : P s) :
    Next P (execRetainedLogWrite s) := by
  have h1 := h.mono (k := 0x800) (by decide)
  unfold execRetainedLogWrite
  repeat' first
    | with_reducible assumption
    | rfl
    | with_reducible apply next_when
    | with_reducible apply State.flashQueue_keeps h1
    | with_reducible apply h.put
    | extract_lets
    | fail_if_no_progress with_reducible refine h.upd ?_

theorem State.showImage_keeps (h : Keeps P 0xbf000000000000000000000000000000000000000000000000000000000000000000000000000100000000) {s : State} (hs : P s) (a1) :
    P (State.showImage s a1) := by
  unfold State.showImage
  repeat' first
    | with_reducible assumption
    | rfl
    | with_reducible apply State.putDigest_keeps h
    | with_reducible apply h.put
    | with_reducible apply h.putB
    | extract_lets

theorem State.repairLive_keeps (h : Keeps P 0x20000000000000000000000000000000000000000000020020000) {s : State} (hs : P s) (a1 a2) :
    P (State.repairLive s a1 a2) := by
  unfold State.repairLive
  repeat' first
    | with_reducible assumption
    | with_reducible apply State.repairStart_keeps h
    | extract_lets
    | with_reducible apply keeps_ite
    | fail_if_no_progress with_reducible refine h.upd ?_
    | split

theorem State.takeCompr_keeps (h : Keeps P 0x3800000000000000000000000010000) {s : State} (hs : P s) (a1) :
    P (State.takeCompr s a1) := by
  have h1 := h.mono (k := 0x800000000000000000000000010000) (by decide)
  unfold State.takeCompr
  repeat' first
    | with_reducible assumption
    | rfl
    | with_reducible apply State.writePlain_keeps h
    | with_reducible apply State.writeSkvCtrl_keeps h1
    | extract_lets

theorem State.putTemplate_keeps (h : Keeps P 0x11d100000000000000000000000000000000000000000020020800) {s : State} (hs : P s) (a1 a2) :
    P (State.putTemplate s a1 a2) := by
  have h1 := h.mono (k := 0x11d100000000000000000000000000000000000000000020020000) (by decide)
  unfold State.putTemplate
  repeat' first
    | with_reducible assumption
    | with_reducible apply State.treeStore_keeps h1
    | extract_lets
    | with_reducible apply keeps_ite
    | (with_reducible apply keeps_foldl; intro _ _ _)
    | (with_reducible apply keeps_foldl_fst; intro _ _ _)
    | fail_if_no_progress with_reducible refine h.upd ?_
    | split

theorem State.writePairs_keeps (h : Keeps P 0x14702200000041cc0408058c19c620000298034ffe0000c4004800620b01ee12737c77ffe607bc9b8) {s : State} (hs : P s) (a1) :
    P (State.writePairs s a1) := by
  unfold State.writePairs
  repeat' first
    | with_reducible assumption
    | with_reducible apply State.writeReg_keeps h
    | extract_lets
    | with_reducible apply keeps_ite
    | (with_reducible apply keeps_foldl; intro _ _ _)
    | (with_reducible apply keeps_foldl_fst; intro _ _ _)
    | fail_if_no_progress with_reducible refine h.upd ?_
    | with_reducible refine keeps_of_fst (by assumption) ?_
    | with_reducible refine keeps_of_snd (by assumption) ?_
    | split
    | dsimp +zetaDelta only

theorem State.bootTake_keeps (h : Keeps P 0x800147022ffe04041cc0408058c19c73d100298034ffe0000c4007800620b81ee12737c77ffe607bc9b8) {s : State} (hs : P s) (a1 a2) :
    P (State.bootTake s a1 a2) := by
  have h1 := h.mono (k := 0x800000000000000000000000000000000000000000000000000000000000000000000000000000000000) (by decide)
  have h2 := h.mono (k := 0x14702200000041cc0408058c19c620000298034ffe0000c4004800620b01ee12737c77ffe607bc9b8) (by decide)
  have h3 := h.mono (k := 0x11d100000000000000000000000000000000000000000020020800) (by decide)
  have h4 := h.mono (k := 0x80000000000000000008000) (by decide)
  have h5 := h.mono (k := 0x3800000000000000000000000010000) (by decide)
  have h6 := h.mono (k := 0xffe040000000000000000000000000000000000000000000000000000000000000000000000) (by decide)
  unfold State.bootTake
  repeat' first
    | with_reducible assumption
    | with_reducible apply State.takeIdent_keeps h1
    | with_reducible apply State.writePairs_keeps h2
    | with_reducible apply State.putTemplate_keeps h3
    | with_reducible apply State.takePattern_keeps h4
    | with_reducible apply State.takeCompr_keeps h5
    | with_reducible apply State.bootSection_keeps h6
    | extract_lets
    | fail_if_no_progress with_reducible refine h.upd ?_
    | with_reducible refine keeps_of_fst (by assumption) ?_
    | with_reducible refine keeps_of_snd (by assumption) ?_
    | split
    | dsimp +zetaDelta only

theorem State.readSections_keeps (h : Keeps P 0x800147022ffe04041cc0408058c19c73d100298034ffe0000c4027800620b81ee12737c77ffe607bc9b8) {s : State} (hs : P s) (a0 a1) :
    P (State.readSections a0 a1 s).1 := by
  have h1 := h.mono (k := 0x20000000000000000000000020000000) (by decide)
  have h2 := h.mono (k := 0x800147022ffe04041cc0408058c19c73d100298034ffe0000c4007800620b81ee12737c77ffe607bc9b8) (by decide)
  induction a1 generalizing s with
  | nil => exact hs
  | cons x l ih =>
    unfold State.readSections
    split
    · exact State.inflateFault_keeps h1 hs _
    · split
      · exact ih (State.bootTake_keeps h2 hs _ _)
      · exact hs

theorem State.readImage_keeps (h : Keeps P 0x800147022ffe04041cc0408058c19c73d100298034ffe0000c4027800620b81ee12737c77ffe607bc9b8) {s : State} (hs : P s) (a1 a2 a3) :
    P (State.readImage s a1 a2 a3).1 := by
  unfold State.readImage
  repeat' first
    | with_reducible assumption
    | rfl
    | with_reducible apply State.readSections_keeps h
    | extract_lets
    | with_reducible apply keeps_ite
    | (with_reducible apply keeps_foldl; intro _ _ _)
    | (with_reducible apply keeps_foldl_fst; intro _ _ _)
    | fail_if_no_progress with_reducible refine h.upd ?_
    | with_reducible refine keeps_of_fst (by assumption) ?_
    | with_reducible refine keeps_of_snd (by assumption) ?_
    | split
    | exact id
    | exact fun _ => rfl
    | (intro hx; simpa [setAt] using hx)
    | (clear * -; decide +revert)
    | dsimp +zetaDelta only

theorem State.bootRead_keeps (h : Keeps P 0x800147423ffe04041cc0408058c19c73d100298034ffe0000c4027800620b81ee12737c77ffe607bd9b8) {s : State} (hs : P s) :
    P (State.bootRead s) := by
  have h1 := h.mono (k := 0x800147022ffe04041cc0408058c19c73d100298034ffe0000c4027800620b81ee12737c77ffe607bc9b8) (by decide)
  unfold State.bootRead
  extract_lets t1 t2 found
  have q2 : P t2 := h.putB rfl (h.put rfl (h.probe rfl _ _ (h.probe rfl _ _ hs)))
  have hf : ∀ t b, P t → P (found t b) := fun t b ht => h.upd ht
  clear_value found t2
  split
  · exact hf _ _ q2
  · extract_lets r
    have qr : P r.1 := State.readImage_keeps h1 q2 _ _ _
    split
    · exact hf _ _ qr
    · split
      · exact hf _ _ qr
      · exact hf _ _ (State.readImage_keeps h1 (h.putB rfl qr) _ _ _)

theorem execBootImageRead_keeps (h : Keeps P 0x800147423ffe04041cc0408058c19c73d100298034ffe0000c4027800620b81ee12737c77ffe607bd9b8) {s : State} (hs : P s) :
    Next P (execBootImageRead s) := by
  unfold execBootImageRead
  repeat' first
    | with_reducible assumption
    | with_reducible apply next_when
    | with_reducible apply State.bootRead_keeps h

theorem State.repairNow_keeps (h : Keeps P 0x13fb000000000000000000000000000000000000000000200fc000) {s : State} (hs : P s) (a1 a2) :
    P (State.repairNow s a1 a2) := by
  have h1 := h.mono (k := 0x20000000000000000000000000000000000000000000020020000) (by decide)
  unfold State.repairNow
  repeat' first
    | with_reducible assumption
    | with_reducible apply State.repairStart_keeps h1
    | with_reducible apply State.repairDone_keeps h
    | extract_lets
    | with_reducible apply keeps_ite
    | fail_if_no_progress with_reducible refine h.upd ?_
    | split

theorem State.enterStart_keeps (h : Keeps P 0x480100064000000000000000013fb000000000000000000000000000000000000000000200fcd01) {s : State} (hs : P s) :
    P (State.enterStart s) := by
  have h1 := h.mono (k := 0x13fb000000000000000000000000000000000000000000200fc000) (by decide)
  have h2 := h.mono (k := 0x640000000000000000000000000000000000000000000000000000000000000020000400) (by decide)
  have h3 := h.mono (k := 0x20000000) (by decide)
  have h4 := h.mono (k := 0x4000000000000000000000000000000000000000000000000000000000000000000000000000100) (by decide)
  have h5 := h.mono (k := 0x1000000000000000000000000000000000000000000000000000000000000000000000000800) (by decide)
  unfold State.enterStart
  repeat' first
    | with_reducible assumption
    | rfl
    | with_reducible apply State.repairNow_keeps h1
    | with_reducible apply State.degUse_keeps h2
    | with_reducible apply State.raise_keeps h3
    | with_reducible apply State.driveEventN_keeps h4
    | with_reducible apply State.startProgram_keeps h5
    | with_reducible apply h.put
    | extract_lets
    | with_reducible apply keeps_ite
    | (with_reducible apply keeps_foldl; intro _ _ _)
    | (with_reducible apply keeps_foldl_fst; intro _ _ _)
    | fail_if_no_progress with_reducible refine h.upd ?_
    | with_reducible refine keeps_of_fst (by assumption) ?_
    | with_reducible refine keeps_of_snd (by assumption) ?_
    | split
    | dsimp +zetaDelta only

theorem execBootComplete_keeps (h : Keeps P 0xbf000004c0100064000000000000000013fb000000000000000000000000000000000000000001200fcd01) {s : State} (hs : P s) :
    Next P (execBootComplete s) := by
  have h1 := h.mono (k := 0xbf000000000000000000000000000000000000000000000000000000000000000000000000000100000000) (by decide)
  have h2 := h.mono (k := 0x480100064000000000000000013fb000000000000000000000000000000000000000000200fcd01) (by decide)
  unfold execBootComplete
  repeat' first
    | with_reducible assumption
    | rfl
    | with_reducible apply next_when
    | with_reducible apply next_next
    | with_reducible apply State.showImage_keeps h1
    | with_reducible apply State.enterStart_keeps h2
    | with_reducible apply h.put
    | extract_lets
    | with_reducible apply keeps_ite
    | fail_if_no_progress with_reducible refine h.upd ?_
    | with_reducible refine keeps_of_fst (by assumption) ?_
    | with_reducible refine keeps_of_snd (by assumption) ?_
    | split
    | dsimp +zetaDelta only

end Sys2Proof.Machine
end

