-- ==== Sys2Proof/Laws/KeepPower.lean ====
section
/-! SUPPORT. What the operations of Machine/Power.lean keep. -/

set_option linter.unusedTactic false
set_option linter.unreachableTactic false

set_option Elab.async false

namespace Sys2Proof.Machine

variable {P : State → Prop} {m : Nat}

theorem execVinSupervisorLoss_keeps (h : Keeps P 0x1) {s : State} (hs : P s) (a1) :
    Next P (execVinSupervisorLoss s a1) := by
  unfold execVinSupervisorLoss
  repeat' first
    | with_reducible assumption
    | with_reducible apply next_when
    | extract_lets
    | fail_if_no_progress with_reducible refine h.upd ?_

theorem State.railUp_keeps (h : Keeps P 0x4000000000000000000000000000000000000000000000000000000000000000000000000000000000) {s : State} (hs : P s) (a1) :
    P (State.railUp s a1) := by
  unfold State.railUp
  repeat' first
    | with_reducible assumption
    | rfl
    | with_reducible apply h.put
    | with_reducible apply keeps_ite
    | split

theorem State.initCut_keeps (h : Keeps P 0x800) {s : State} (hs : P s) (a1) :
    P (State.initCut s a1) := by
  unfold State.initCut
  repeat' first
    | with_reducible assumption
    | extract_lets
    | with_reducible apply keeps_ite
    | fail_if_no_progress with_reducible refine h.upd ?_
    | split

theorem State.caseRead_keeps (h : Keeps P 0x10800000000000000000000000000000000000000000000000000000000000000000000000020000200) {s : State} (hs : P s) (a1 a2) :
    P (State.caseRead s a1 a2) := by
  have h1 := h.mono (k := 0x20000000) (by decide)
  unfold State.caseRead
  repeat' first
    | with_reducible assumption
    | rfl
    | with_reducible apply State.raise_keeps h1
    | with_reducible apply h.put
    | extract_lets
    | with_reducible apply keeps_ite
    | fail_if_no_progress with_reducible refine h.upd ?_
    | split

theorem State.release_keeps (h : Keeps P 0x800000000000000000000000000000000000000000000000080000000000000000000000000000000203) {s : State} (hs : P s) (a1 a2) :
    P (State.release s a1 a2) := by
  unfold State.release
  repeat' first
    | with_reducible assumption
    | rfl
    | with_reducible apply h.putB
    | with_reducible apply h.put
    | extract_lets
    | fail_if_no_progress with_reducible refine h.upd ?_

theorem execVinWarnRelease_keeps (h : Keeps P 0x200) {s : State} (hs : P s) (a1) :
    Next P (execVinWarnRelease s a1) := by
  unfold execVinWarnRelease
  repeat' first
    | with_reducible assumption
    | with_reducible apply next_when
    | extract_lets
    | fail_if_no_progress with_reducible refine h.upd ?_

theorem execRailFault_keeps (h : Keeps P 0x4000000000000000000000000000000000000000000000000000000000000000000000000020000200) {s : State} (hs : P s) (a0 a1) :
    Next P (execRailFault a0 a1 s) := by
  have h1 := h.mono (k := 0x20000000) (by decide)
  unfold execRailFault
  repeat' first
    | with_reducible assumption
    | rfl
    | with_reducible apply next_when
    | with_reducible apply State.raise_keeps h1
    | with_reducible apply h.put
    | extract_lets
    | with_reducible apply keeps_ite
    | fail_if_no_progress with_reducible refine h.upd ?_
    | split

theorem execFillComplete_keeps (h : Keeps P 0x200000000000000000000000000000000000280a0021) {s : State} (hs : P s) :
    Next P (execFillComplete s) := by
  have h1 := h.mono (k := 0x20000000000000000000000000000000000020080000) (by decide)
  exact next_when hs (State.tmoUpdate_keeps h1 (h.fill rfl _ (h.upd (t := s) (md := .boot) hs)))

theorem execDatapathParityFault_keeps (h : Keeps P 0x80000000000000000000000000000000000000000000000000000000000000000000000200d4000) {s : State} (hs : P s) (a0 a1 a2) :
    Next P (execDatapathParityFault a0 a1 a2 s) := by
  have h1 := h.mono (k := 0xd4000) (by decide)
  have h2 := h.mono (k := 0x20000000) (by decide)
  unfold execDatapathParityFault
  repeat' first
    | with_reducible assumption
    | rfl
    | with_reducible apply next_when
    | with_reducible apply State.poisonSlot_keeps h1
    | with_reducible apply State.raise_keeps h2
    | with_reducible apply h.inc
    | extract_lets

theorem execCaseTempRead_keeps (h : Keeps P 0x10800000000000000000000000000000000000000000000000000000000000000000000000020000200) {s : State} (hs : P s) (a0 a1) :
    Next P (execCaseTempRead a0 a1 s) := by
  unfold execCaseTempRead
  repeat' first
    | with_reducible assumption
    | with_reducible apply next_when
    | with_reducible apply State.caseRead_keeps h
    | extract_lets
    | fail_if_no_progress with_reducible refine h.upd ?_

theorem execResetRelease_keeps (h : Keeps P 0x800000000000000000000000000000000000000000000000080000000000000000000000000000000203) {s : State} (hs : P s) (a0 a1 a2 a3 a4 a5) :
    Next P (execResetRelease a0 a1 a2 a3 a4 a5 s) := by
  unfold execResetRelease
  repeat' first
    | with_reducible assumption
    | with_reducible apply next_when
    | with_reducible apply State.release_keeps h

theorem execDieRailLimit_keeps (h : Keeps P 0x100000000000000000000000000000000000000000000000000000000000000000000000000000228) {s : State} (hs : P s) (a0 a2 a3) :
    Next P (execDieRailLimit a0 s a2 a3) := by
  have h1 := h.mono (k := 0x100000000000000000000000000000000000000000000000000000000000000000000000000000028) (by decide)
  unfold execDieRailLimit
  repeat' first
    | with_reducible assumption
    | with_reducible apply next_when
    | with_reducible apply State.raiseDie_keeps h1
    | extract_lets
    | with_reducible apply keeps_ite
    | fail_if_no_progress with_reducible refine h.upd ?_
    | split

theorem State.dipEnd_keeps (h : Keeps P 0x22000000000000000000000000000000000000000000000000000000000000000000000000120000a00) {s : State} (hs : P s) (a1) :
    P (State.dipEnd s a1) := by
  have h1 := h.mono (k := 0x800) (by decide)
  have h2 := h.mono (k := 0x20000000) (by decide)
  unfold State.dipEnd
  repeat' first
    | with_reducible assumption
    | rfl
    | with_reducible apply State.flashIssue_keeps h1
    | with_reducible apply State.raise_keeps h2
    | with_reducible apply h.inc
    | with_reducible apply h.put
    | with_reducible apply h.putB
    | extract_lets
    | fail_if_no_progress with_reducible refine h.upd ?_

theorem State.burClear_keeps (h : Keeps P 0x1100000000000000000000000000000000000000000000000020000000000000) {s : State} (hs : P s) (a1) :
    P (State.burClear s a1) := by
  have h1 := h.mono (k := 0x1000000000000000000000000000000000000000000000000020000000000000) (by decide)
  unfold State.burClear
  repeat' first
    | with_reducible assumption
    | rfl
    | with_reducible apply State.showQual_keeps h1
    | with_reducible apply h.put

theorem execDieRailUv_keeps (h : Keeps P 0x100000000000000000000000000000000000000000000000000000000000000000000000000000028) {s : State} (hs : P s) (a0 a2 a3) :
    Next P (execDieRailUv a0 s a2 a3) := by
  unfold execDieRailUv
  repeat' first
    | with_reducible assumption
    | with_reducible apply next_when
    | with_reducible apply State.raiseDie_keeps h

theorem State.dipBegin_keeps (h : Keeps P 0x8000000000000000000000000000000000000000000000000000000000120204200) {s : State} (hs : P s) :
    P (State.dipBegin s) := by
  have h1 := h.mono (k := 0x8000000000000000000000000000000000000000000000000000000000020200000) (by decide)
  have h2 := h.mono (k := 0x20000000) (by decide)
  unfold State.dipBegin
  repeat' first
    | with_reducible assumption
    | rfl
    | with_reducible apply State.rosetteBrown_keeps h1
    | with_reducible apply State.raise_keeps h2
    | with_reducible apply h.putB
    | extract_lets
    | with_reducible apply keeps_ite
    | fail_if_no_progress with_reducible refine h.upd ?_
    | split

theorem execPowerOn_keeps (h : Keeps P 0x4000000000000000000000000000000000000000000000000000000000000000000000000004000200) {s : State} (hs : P s) (a1) :
    Next P (execPowerOn s a1) := by
  have h1 := h.mono (k := 0x4000000000000000000000000000000000000000000000000000000000000000000000000000000000) (by decide)
  unfold execPowerOn
  repeat' first
    | with_reducible assumption
    | rfl
    | with_reducible apply next_when
    | with_reducible apply State.railUp_keeps h1
    | with_reducible apply h.enterReset rfl
    | with_reducible apply h.put
    | extract_lets
    | (with_reducible apply keeps_foldl; intro _ _ _)
    | (with_reducible apply keeps_foldl_fst; intro _ _ _)
    | fail_if_no_progress with_reducible refine h.upd ?_

theorem execBrownoutResume_keeps (h : Keeps P 0x22000000000000000000000000000000000000000000000000000000000000000000000000120000a00) {s : State} (hs : P s) :
    Next P (execBrownoutResume s) := by
  unfold execBrownoutResume
  repeat' first
    | with_reducible assumption
    | with_reducible apply next_when
    | with_reducible apply next_next
    | with_reducible apply State.dipEnd_keeps h
    | extract_lets
    | fail_if_no_progress with_reducible refine h.upd ?_
    | with_reducible refine keeps_of_fst (by assumption) ?_
    | with_reducible refine keeps_of_snd (by assumption) ?_
    | split
    | dsimp +zetaDelta only

theorem State.resetCause_keeps (h : Keeps P 0x1000000000000000000000000000000000000000000000000000000000000000000000000004000000) {s : State} (hs : P s) (a1) :
    P (State.resetCause s a1) := by
  unfold State.resetCause
  repeat' first
    | with_reducible assumption
    | rfl
    | with_reducible apply h.put
    | with_reducible apply h.enterReset rfl
    | extract_lets
    | with_reducible apply keeps_ite
    | split

theorem State.dieUp_keeps (h : Keeps P 0x110000000000000040000000000000000000000000000000002000000018000c) {s : State} (hs : P s) (a1) :
    P (State.dieUp s a1) := by
  have h1 := h.mono (k := 0x1100000000000000000000000000000000000000000000000020000000000000) (by decide)
  have h2 := h.mono (k := 0x100000) (by decide)
  unfold State.dieUp
  repeat' first
    | with_reducible assumption
    | rfl
    | with_reducible apply State.burClear_keeps h1
    | with_reducible apply State.calRequest_keeps h2
    | with_reducible apply h.dieClear rfl
    | with_reducible apply h.setBur rfl
    | with_reducible apply h.setDie rfl
    | with_reducible apply h.putB
    | extract_lets
    | with_reducible apply keeps_ite
    | (with_reducible apply keeps_foldl; intro _ _ _)
    | (with_reducible apply keeps_foldl_fst; intro _ _ _)
    | fail_if_no_progress with_reducible refine h.upd ?_
    | split

theorem execVinWarnFall_keeps (h : Keeps P 0x8000000000000000000000000000000000000000000000000000000000120204200) {s : State} (hs : P s) (a0) :
    Next P (execVinWarnFall a0 s) := by
  unfold execVinWarnFall
  repeat' first
    | with_reducible assumption
    | with_reducible apply next_when
    | with_reducible apply State.dipBegin_keeps h
    | extract_lets
    | with_reducible apply keeps_ite
    | fail_if_no_progress with_reducible refine h.upd ?_
    | split

theorem execVinResetFall_keeps (h : Keeps P 0x1000000000000000000000000000000000000000000000000000000000000000000000000004000000) {s : State} (hs : P s) (a1) :
    Next P (execVinResetFall s a1) := by
  unfold execVinResetFall
  repeat' first
    | with_reducible assumption
    | with_reducible apply next_when
    | with_reducible apply State.resetCause_keeps h

theorem execDiePllLock_keeps (h : Keeps P 0x2000000000000018) {s : State} (hs : P s) (a0) :
    Next P (execDiePllLock a0 s) := by
  have h1 := h.mono (k := 0x2000000000000010) (by decide)
  unfold execDiePllLock
  repeat' first
    | with_reducible assumption
    | with_reducible apply next_when
    | with_reducible apply State.restartAll_keeps h1
    | with_reducible apply h.setDie rfl
    | extract_lets
    | with_reducible apply keeps_ite
    | fail_if_no_progress with_reducible refine h.upd ?_
    | split

theorem execRailReset_keeps (h : Keeps P 0x1000000000000000000000000000000000000000000000000000000000000000000000000004000000) {s : State} (hs : P s) (a0) :
    Next P (execRailReset a0 s) := by
  unfold execRailReset
  repeat' first
    | with_reducible assumption
    | with_reducible apply next_when
    | with_reducible apply State.resetCause_keeps h
    | extract_lets

theorem execCaseOvertempReset_keeps (h : Keeps P 0x1000000000000000000000000000000000000000000000000000000000000000000000000004000200) {s : State} (hs : P s) :
    Next P (execCaseOvertempReset s) := by
  have h1 := h.mono (k := 0x1000000000000000000000000000000000000000000000000000000000000000000000000004000000) (by decide)
  unfold execCaseOvertempReset
  repeat' first
    | with_reducible assumption
    | with_reducible apply next_when
    | with_reducible apply State.resetCause_keeps h1
    | extract_lets
    | fail_if_no_progress with_reducible refine h.upd ?_

theorem execRstNLow_keeps (h : Keeps P 0x1000000000000000000000000000000000000000000000000000000000000000000000000004000000) {s : State} (hs : P s) :
    Next P (execRstNLow s) := by
  unfold execRstNLow
  repeat' first
    | with_reducible assumption
    | with_reducible apply next_when
    | with_reducible apply State.resetCause_keeps h

theorem State.dieDown_keeps (h : Keeps P 0x150000000011d13000000000000000000000000000e0400000200000203fca7c) {s : State} (hs : P s) (a1) :
    P (State.dieDown s a1) := by
  have h1 := h.mono (k := 0x400000000000000000000000000000000000000000000000000000020300018) (by decide)
  have h2 := h.mono (k := 0x11d13000000000000000000000000000e0400000000000200fc078) (by decide)
  have h3 := h.mono (k := 0x4000) (by decide)
  have h4 := h.mono (k := 0x800) (by decide)
  have h5 := h.mono (k := 0x1100000000000000000000000000000000000000000000000020000000000000) (by decide)
  unfold State.dieDown
  repeat' first
    | with_reducible assumption
    | with_reducible apply State.calAbort_keeps h1
    | with_reducible apply State.dieLeave_keeps h2
    | with_reducible apply State.slotDieLeft_keeps h3
    | with_reducible apply State.initCut_keeps h4
    | with_reducible apply State.burClear_keeps h5
    | with_reducible apply h.dieClear rfl
    | with_reducible apply h.setBur rfl
    | with_reducible apply h.setDie rfl
    | extract_lets
    | with_reducible apply keeps_ite
    | fail_if_no_progress with_reducible refine h.upd ?_
    | split

theorem execDieRailTrip_keeps (h : Keeps P 0x2800000000000000000150000000011d13000000000000000000000000000e0400000200000203fca7c) {s : State} (hs : P s) (a0) :
    Next P (execDieRailTrip a0 s) := by
  have h1 := h.mono (k := 0x150000000011d13000000000000000000000000000e0400000200000203fca7c) (by decide)
  unfold execDieRailTrip
  repeat' first
    | with_reducible assumption
    | rfl
    | with_reducible apply next_when
    | with_reducible apply State.dieDown_keeps h1
    | with_reducible apply h.inc
    | with_reducible apply h.put
    | extract_lets

end Sys2Proof.Machine
end

