-- ==== Sys2Proof/Laws/KeepLatigo.lean ====
section
/-! SUPPORT. What the operations of Machine/Latigo.lean keep. -/

set_option linter.unusedTactic false
set_option linter.unreachableTactic false

set_option Elab.async false

namespace Sys2Proof.Machine

variable {P : State → Prop} {m : Nat}

theorem State.dieJoin_keeps (h : Keeps P 0x8) {s : State} (hs : P s) (a1) :
    P (State.dieJoin s a1).1 := by
  unfold State.dieJoin
  repeat' first
    | with_reducible assumption
    | with_reducible apply h.setDie rfl
    | extract_lets
    | with_reducible apply keeps_ite
    | fail_if_no_progress with_reducible refine h.upd ?_
    | split

theorem State.primWait_keeps (h : Keeps P 0x800) {s : State} (hs : P s) (a1) :
    P (State.primWait s a1) := by
  unfold State.primWait
  repeat' first
    | with_reducible assumption
    | extract_lets
    | fail_if_no_progress with_reducible refine h.upd ?_

theorem State.stageClose_keeps (h : Keeps P 0x1000000000000000000000000000000000000000000000000000000000000000000000000000) {s : State} (hs : P s) :
    P (State.stageClose s).1 := by
  unfold State.stageClose
  repeat' first
    | with_reducible assumption
    | rfl
    | with_reducible apply h.put
    | with_reducible apply keeps_ite
    | split

theorem State.headerPut_keeps (h : Keeps P 0x800) {s : State} (hs : P s) (a1 a2) :
    P (State.headerPut s a1 a2) := by
  unfold State.headerPut
  repeat' first
    | with_reducible assumption
    | extract_lets
    | (with_reducible apply keeps_foldl; intro _ _ _)
    | (with_reducible apply keeps_foldl_fst; intro _ _ _)
    | fail_if_no_progress with_reducible refine h.upd ?_

theorem State.putLock_keeps (h : Keeps P 0x400000000000000000000000000000000000000000000000000000000000000000000000000000) {s : State} (hs : P s) (a1 a2) :
    P (State.putLock s a1 a2) := by
  unfold State.putLock
  repeat' first
    | with_reducible assumption
    | rfl
    | with_reducible apply h.put

theorem State.retEnable_keeps (h : Keeps P 0x400000000000000000000000000000000000000000000000) {s : State} (hs : P s) (a1) :
    P (State.retEnable s a1) := by
  unfold State.retEnable
  repeat' first
    | with_reducible assumption
    | rfl
    | with_reducible apply h.put
    | with_reducible apply keeps_ite
    | split

theorem execWaitDone_keeps (h : Keeps P 0x800) {s : State} (hs : P s) :
    Next P (execWaitDone s) := by
  unfold execWaitDone
  repeat' first
    | with_reducible assumption
    | with_reducible apply next_when
    | with_reducible apply State.seqNext_keeps h

theorem State.measReport_keeps (h : Keeps P 0x80000000000000000000000000000000000000000000000000000000000000000000000004000) {s : State} (hs : P s) (a1) :
    P (State.measReport s a1).1 := by
  have h1 := h.mono (k := 0x4000) (by decide)
  unfold State.measReport
  repeat' first
    | with_reducible assumption
    | rfl
    | with_reducible apply State.item_keeps h1
    | with_reducible apply h.inc
    | extract_lets

theorem State.stagedItem_keeps (h : Keeps P 0x4000) {s : State} (hs : P s) (a1 a2 a3 a4) :
    P (State.stagedItem s a1 a2 a3 a4) := by
  unfold State.stagedItem
  repeat' first
    | with_reducible assumption
    | with_reducible apply State.item_keeps h

theorem execPollTimeout_keeps (h : Keeps P 0x800) {s : State} (hs : P s) :
    Next P (execPollTimeout s) := by
  unfold execPollTimeout
  repeat' first
    | with_reducible assumption
    | with_reducible apply next_when
    | with_reducible apply next_next
    | with_reducible apply State.seqNext_keeps h
    | with_reducible apply State.putT_keeps h
    | extract_lets
    | fail_if_no_progress with_reducible refine h.upd ?_
    | with_reducible refine keeps_of_fst (by assumption) ?_
    | with_reducible refine keeps_of_snd (by assumption) ?_
    | split
    | dsimp +zetaDelta only

theorem State.holdSection_keeps (h : Keeps P 0x40000000000000000000000000000000000000000000000000000000000000020000400) {s : State} (hs : P s) (a1) :
    P (State.holdSection s a1) := by
  have h1 := h.mono (k := 0x20000000) (by decide)
  unfold State.holdSection
  repeat' first
    | with_reducible assumption
    | rfl
    | with_reducible apply State.raise_keeps h1
    | with_reducible apply h.putB
    | extract_lets
    | fail_if_no_progress with_reducible refine h.upd ?_

theorem State.command_keeps (h : Keeps P 0x880000) {s : State} {tgt op arg due f} (hs : P s) (hf : ∀ t, P t → P (f t)) :
    Next P (State.command s tgt op arg due f) := by
  have h1 := h.mono (k := 0x880000) (by decide)
  unfold State.command
  extract_lets t
  have ht : P t := State.tmoHeard_keeps h1 hs _
  exact next_when ht (hf _ ht)

theorem State.stage_keeps (h : Keeps P 0x48000000000000000000000000000000000000000000000000000000000000000000020000800) {s : State} (hs : P s) (a1 a2) :
    P (State.stage s a1 a2).1 := by
  have h1 := h.mono (k := 0x800) (by decide)
  have h2 := h.mono (k := 0x20000000) (by decide)
  unfold State.stage
  repeat' first
    | with_reducible assumption
    | rfl
    | with_reducible apply State.headerPut_keeps h1
    | with_reducible apply State.flashQueue_keeps h1
    | with_reducible apply State.raise_keeps h2
    | with_reducible apply h.put
    | with_reducible apply h.inc
    | extract_lets
    | with_reducible apply keeps_ite
    | fail_if_no_progress with_reducible refine h.upd ?_
    | split

theorem State.dieOut_keeps (h : Keeps P 0x8) {s : State} (hs : P s) (a1) :
    P (State.dieOut s a1).1 := by
  unfold State.dieOut
  repeat' first
    | with_reducible assumption
    | with_reducible apply h.setDie rfl
    | extract_lets
    | with_reducible apply keeps_ite
    | fail_if_no_progress with_reducible refine h.upd ?_
    | with_reducible refine keeps_of_fst (by assumption) ?_
    | with_reducible refine keeps_of_snd (by assumption) ?_
    | split
    | dsimp +zetaDelta only

theorem State.reloadFault_keeps (h : Keeps P 0x80000000000000000000000000000000000000000000020000000000000000000000020000000) {s : State} (hs : P s) (a1) :
    P (State.reloadFault s a1) := by
  have h1 := h.mono (k := 0x20000000) (by decide)
  have h2 := h.mono (k := 0x20000000000000000000000020000000) (by decide)
  unfold State.reloadFault
  repeat' first
    | with_reducible assumption
    | rfl
    | with_reducible apply State.raise_keeps h1
    | with_reducible apply State.inflateFault_keeps h2
    | with_reducible apply h.inc

theorem State.reloadRefused_keeps (h : Keeps P 0x20000000) {s : State} (hs : P s) (a1) :
    P (State.reloadRefused s a1).1 := by
  unfold State.reloadRefused
  repeat' first
    | with_reducible assumption
    | with_reducible apply State.raise_keeps h
    | with_reducible apply keeps_ite
    | split

theorem State.cmdStart_keeps (h : Keeps P 0x880800) {s : State} {tgt op arg due f} (hs : P s) (hf : ∀ t, P t → P (f t)) :
    Next P (State.cmdStart s tgt op arg due f) := by
  have h1 := h.mono (k := 0x880000) (by decide)
  have h2 := h.mono (k := 0x800) (by decide)
  unfold State.cmdStart
  exact State.command_keeps h1 hs (fun t ht => keeps_ite (hf t ht) (State.primWait_keeps h2 ht _))

theorem State.hideImage_keeps (h : Keeps P 0x3f000000000000000000000000000000000000000000000000000000000000000000000000000000000000) {s : State} (hs : P s) :
    P (State.hideImage s) := by
  unfold State.hideImage
  repeat' first
    | with_reducible assumption
    | rfl
    | with_reducible apply State.putDigest_keeps h
    | with_reducible apply h.put
    | with_reducible apply h.putB
    | extract_lets

theorem State.stageAbort_keeps (h : Keeps P 0x1000000000000000000000000000000000000000000000000000000000000000000000000800) {s : State} (hs : P s) :
    P (State.stageAbort s).1 := by
  have h1 := h.mono (k := 0x800) (by decide)
  unfold State.stageAbort
  repeat' first
    | with_reducible assumption
    | rfl
    | with_reducible apply State.flashQueue_keeps h1
    | with_reducible apply h.put
    | extract_lets
    | with_reducible apply keeps_ite
    | fail_if_no_progress with_reducible refine h.upd ?_
    | split

theorem State.dieInit_keeps (h : Keeps P 0x418000000000000000000000000000000000000000080800) {s : State} (hs : P s) (a1 a2) :
    P (State.dieInit s a1 a2) := by
  have h1 := h.mono (k := 0x18000000000000000000000000000000000000000000000) (by decide)
  have h2 := h.mono (k := 0x80000) (by decide)
  have h3 := h.mono (k := 0x400000000000000000000000000000000000000000000000) (by decide)
  unfold State.dieInit
  repeat' first
    | with_reducible assumption
    | with_reducible apply State.laneEnable_keeps h1
    | with_reducible apply State.retPut_keeps h2
    | with_reducible apply State.retEnable_keeps h3
    | extract_lets
    | (with_reducible apply keeps_foldl; intro _ _ _)
    | (with_reducible apply keeps_foldl_fst; intro _ _ _)
    | fail_if_no_progress with_reducible refine h.upd ?_

theorem execStage_keeps (h : Keeps P 0x48000000000000000000000000000001000000000000000000000000000000000000020884800) {s : State} (hs : P s) (a0 a1 a2 a3) :
    Next P (execStage a0 a1 a2 a3 s) := by
  have h1 := h.mono (k := 0x880000) (by decide)
  have h2 := h.mono (k := 0x48000000000000000000000000000000000000000000000000000000000000000000020000800) (by decide)
  have h3 := h.mono (k := 0x4000) (by decide)
  have h4 := h.mono (k := 0x20000000) (by decide)
  unfold execStage
  repeat' first
    | with_reducible assumption
    | rfl
    | with_reducible apply next_when
    | with_reducible apply State.tmoHeard_keeps h1
    | with_reducible apply State.stage_keeps h2
    | with_reducible apply State.reply_keeps h3
    | with_reducible apply State.raise_keeps h4
    | with_reducible apply h.inc
    | extract_lets
    | with_reducible apply keeps_ite
    | split

theorem State.stageOpen_keeps (h : Keeps P 0xd000000000000000000000000000000000000000000000000000000000000000000000000800) {s : State} (hs : P s) (a1) :
    P (State.stageOpen s a1).1 := by
  have h1 := h.mono (k := 0x800) (by decide)
  unfold State.stageOpen
  repeat' first
    | with_reducible assumption
    | rfl
    | with_reducible apply State.flashQueue_keeps h1
    | with_reducible apply h.put
    | extract_lets
    | with_reducible apply keeps_ite
    | fail_if_no_progress with_reducible refine h.upd ?_
    | split

theorem State.swapStore_keeps (h : Keeps P 0x90000000040000000000000000000000000000000000000000000000000000000000000000000000004800) {s : State} (hs : P s) :
    P (State.swapStore s) := by
  have h1 := h.mono (k := 0x90000000040000000000000000000000000000000000000000000000000000000000000000000000004000) (by decide)
  unfold State.swapStore
  repeat' first
    | with_reducible assumption
    | with_reducible apply State.reloadDone_keeps h1
    | extract_lets
    | with_reducible apply keeps_ite
    | (with_reducible apply keeps_foldl; intro _ _ _)
    | (with_reducible apply keeps_foldl_fst; intro _ _ _)
    | fail_if_no_progress with_reducible refine h.upd ?_
    | split

theorem execCmdUnknown_keeps (h : Keeps P 0x20884000) {s : State} (hs : P s) (a0 a1 a2) :
    Next P (execCmdUnknown a0 a1 a2 s) := by
  have h1 := h.mono (k := 0x880000) (by decide)
  have h2 := h.mono (k := 0x4000) (by decide)
  have h3 := h.mono (k := 0x20000000) (by decide)
  unfold execCmdUnknown
  repeat' first
    | with_reducible assumption
    | rfl
    | with_reducible apply next_when
    | with_reducible apply next_next
    | with_reducible exact next_fault
    | with_reducible exact next_refused
    | (with_reducible apply State.command_keeps h1 <;> [skip; intro _ _])
    | with_reducible apply State.reply_keeps h2
    | with_reducible apply State.raise_keeps h3
    | extract_lets
    | with_reducible apply keeps_ite
    | (with_reducible apply keeps_foldl; intro _ _ _)
    | (with_reducible apply keeps_foldl_fst; intro _ _ _)
    | fail_if_no_progress with_reducible refine h.upd ?_
    | with_reducible refine keeps_of_fst (by assumption) ?_
    | with_reducible refine keeps_of_snd (by assumption) ?_
    | split
    | exact id
    | exact fun _ => rfl
    | (intro hx; simpa [setAt] using hx)
    | (clear * -; decide +revert)
    | dsimp +zetaDelta only

theorem State.primEnd_keeps (h : Keeps P 0x200000000000000000000000000000000000000000000000000000000000000000000000004800) {s : State} (hs : P s) (a1 a2) :
    P (State.primEnd s a1 a2) := by
  have h1 := h.mono (k := 0x4000) (by decide)
  have h2 := h.mono (k := 0x800) (by decide)
  unfold State.primEnd
  repeat' first
    | with_reducible assumption
    | rfl
    | with_reducible apply State.reply_keeps h1
    | with_reducible apply State.seqNext_keeps h2
    | with_reducible apply State.putT_keeps h2
    | with_reducible apply h.put
    | with_reducible apply keeps_ite
    | split

theorem State.restart_keeps (h : Keeps P 0x3f000000000000000000000000000000000000000000000000000000000000000000000000000004000801) {s : State} (hs : P s) :
    P (State.restart s).1 := by
  have h1 := h.mono (k := 0x3f000000000000000000000000000000000000000000000000000000000000000000000000000000000000) (by decide)
  unfold State.restart
  repeat' first
    | with_reducible assumption
    | with_reducible apply State.hideImage_keeps h1
    | with_reducible apply h.enterReset rfl
    | extract_lets
    | with_reducible apply keeps_ite
    | fail_if_no_progress with_reducible refine h.upd ?_
    | split

theorem State.endProgram_keeps (h : Keeps P 0x90000000041000000000000000000000000000000000000000000000000000000000000000000020004800) {s : State} (hs : P s) :
    P (State.endProgram s) := by
  have h1 := h.mono (k := 0x20000000) (by decide)
  have h2 := h.mono (k := 0x90000000040000000000000000000000000000000000000000000000000000000000000000000000004800) (by decide)
  unfold State.endProgram
  repeat' first
    | with_reducible assumption
    | rfl
    | with_reducible apply State.raise_keeps h1
    | with_reducible apply State.swapStore_keeps h2
    | with_reducible apply h.putB
    | extract_lets
    | with_reducible apply keeps_ite
    | fail_if_no_progress with_reducible refine h.upd ?_
    | split

theorem State.diePwrOn_keeps (h : Keeps P 0x110000000000000040000000000000000000000000000000002000002018000c) {s : State} (hs : P s) (a1) :
    P (State.diePwrOn s a1).1 := by
  have h1 := h.mono (k := 0x20000000) (by decide)
  have h2 := h.mono (k := 0x110000000000000040000000000000000000000000000000002000000018000c) (by decide)
  unfold State.diePwrOn
  repeat' first
    | with_reducible assumption
    | with_reducible apply State.raise_keeps h1
    | with_reducible apply State.dieUp_keeps h2
    | with_reducible apply keeps_ite
    | split

theorem State.initStart_keeps (h : Keeps P 0x200000000000000000000000000000418000000000000000000000000000000000000000084800) {s : State} (hs : P s) (a1) :
    P (State.initStart s a1) := by
  have h1 := h.mono (k := 0x418000000000000000000000000000000000000000080800) (by decide)
  have h2 := h.mono (k := 0x200000000000000000000000000000000000000000000000000000000000000000000000004800) (by decide)
  unfold State.initStart
  repeat' first
    | with_reducible assumption
    | with_reducible apply State.dieInit_keeps h1
    | with_reducible apply State.primEnd_keeps h2
    | with_reducible apply keeps_ite
    | split

theorem State.cmdPrim_keeps (h : Keeps P 0x200000000000000000000000000000000000000000000000000000000000000000000000884800) {s : State} {tgt op arg due f} (hs : P s) (hf : ∀ t, P t → P (f t).1) :
    Next P (State.cmdPrim s tgt op arg due f) := by
  have h1 := h.mono (k := 0x880800) (by decide)
  have h2 := h.mono (k := 0x200000000000000000000000000000000000000000000000000000000000000000000000004800) (by decide)
  unfold State.cmdPrim
  exact State.cmdStart_keeps h1 hs (fun t ht => State.primEnd_keeps h2 (hf t ht) _ _)

theorem execProgramRequest_keeps (h : Keeps P 0x20000000000000000000000000000000000000000000000000000000000000000000020002800) {s : State} (hs : P s) (a0) :
    Next P (execProgramRequest a0 s) := by
  have h1 := h.mono (k := 0x2000) (by decide)
  have h2 := h.mono (k := 0x20000000000000000000000000000000000000000000000000000000000000000000020000800) (by decide)
  unfold execProgramRequest
  repeat' first
    | with_reducible assumption
    | rfl
    | with_reducible apply next_when
    | with_reducible apply next_next
    | with_reducible exact next_fault
    | with_reducible exact next_refused
    | (with_reducible apply access'_keeps h1 <;> [skip; intro _ _])
    | with_reducible apply State.writeLatRun_keeps h2
    | extract_lets
    | with_reducible apply keeps_ite
    | (with_reducible apply keeps_foldl; intro _ _ _)
    | (with_reducible apply keeps_foldl_fst; intro _ _ _)
    | fail_if_no_progress with_reducible refine h.upd ?_
    | with_reducible refine keeps_of_fst (by assumption) ?_
    | with_reducible refine keeps_of_snd (by assumption) ?_
    | split
    | exact id
    | exact fun _ => rfl
    | (intro hx; simpa [setAt] using hx)
    | (clear * -; decide +revert)
    | dsimp +zetaDelta only

theorem State.runProg_keeps (h : Keeps P 0x20000000000000000000000000000000000000000000000000000000000000000000020000800) {s : State} (hs : P s) (a1) :
    P (State.runProg s a1).1 := by
  unfold State.runProg
  repeat' first
    | with_reducible assumption
    | with_reducible apply State.requestProgram_keeps h
    | extract_lets
    | with_reducible apply keeps_ite
    | split

theorem State.laneRetrain_keeps (h : Keeps P 0x100000000000000000000000000000000c1802000000000000000040000004000000000002008c028) {s : State} (hs : P s) (a1) :
    P (State.laneRetrain s a1).1 := by
  have h1 := h.mono (k := 0x18020000000000000000000000000000000000020084000) (by decide)
  have h2 := h.mono (k := 0x100000000000000000000000000000000c00000000000000000000000000000000000000000080028) (by decide)
  have h3 := h.mono (k := 0x20000000000000000400000040000000000020088000) (by decide)
  have h4 := h.mono (k := 0x18000000000000000000000000000000000000000000000) (by decide)
  have h5 := h.mono (k := 0x400000000000000000000000000000000000000000000000) (by decide)
  unfold State.laneRetrain
  repeat' first
    | with_reducible assumption
    | rfl
    | with_reducible apply State.laneDisable_keeps h1
    | with_reducible apply State.retLost_keeps h2
    | with_reducible apply State.portDown_keeps h3
    | with_reducible apply State.laneEnable_keeps h4
    | with_reducible apply State.retEnable_keeps h5
    | with_reducible apply h.put
    | extract_lets
    | with_reducible apply keeps_ite
    | (with_reducible apply keeps_foldl; intro _ _ _)
    | (with_reducible apply keeps_foldl_fst; intro _ _ _)
    | split

theorem execLaneRetrain_keeps (h : Keeps P 0x100200000000000000000000000000000c1802000000000000000040000004000000000002088c828) {s : State} (hs : P s) (a0 a1) :
    Next P (execLaneRetrain a0 a1 s) := by
  have h1 := h.mono (k := 0x200000000000000000000000000000000000000000000000000000000000000000000000884800) (by decide)
  have h2 := h.mono (k := 0x100000000000000000000000000000000c1802000000000000000040000004000000000002008c028) (by decide)
  unfold execLaneRetrain
  repeat' first
    | with_reducible assumption
    | rfl
    | with_reducible apply next_when
    | with_reducible apply next_next
    | with_reducible exact next_fault
    | with_reducible exact next_refused
    | (with_reducible apply State.cmdPrim_keeps h1 <;> [skip; intro _ _])
    | with_reducible apply State.laneRetrain_keeps h2
    | extract_lets
    | with_reducible apply keeps_ite
    | (with_reducible apply keeps_foldl; intro _ _ _)
    | (with_reducible apply keeps_foldl_fst; intro _ _ _)
    | fail_if_no_progress with_reducible refine h.upd ?_
    | with_reducible refine keeps_of_fst (by assumption) ?_
    | with_reducible refine keeps_of_snd (by assumption) ?_
    | split
    | exact id
    | exact fun _ => rfl
    | (intro hx; simpa [setAt] using hx)
    | (clear * -; decide +revert)
    | dsimp +zetaDelta only

theorem execStageOpen_keeps (h : Keeps P 0x20d000000000000000000000000000000000000000000000000000000000000000000000884800) {s : State} (hs : P s) (a0 a1) :
    Next P (execStageOpen a0 a1 s) := by
  have h1 := h.mono (k := 0x200000000000000000000000000000000000000000000000000000000000000000000000884800) (by decide)
  have h2 := h.mono (k := 0xd000000000000000000000000000000000000000000000000000000000000000000000000800) (by decide)
  unfold execStageOpen
  repeat' first
    | with_reducible assumption
    | rfl
    | with_reducible apply next_when
    | with_reducible apply next_next
    | with_reducible exact next_fault
    | with_reducible exact next_refused
    | (with_reducible apply State.cmdPrim_keeps h1 <;> [skip; intro _ _])
    | with_reducible apply State.stageOpen_keeps h2
    | extract_lets
    | with_reducible apply keeps_ite
    | (with_reducible apply keeps_foldl; intro _ _ _)
    | (with_reducible apply keeps_foldl_fst; intro _ _ _)
    | fail_if_no_progress with_reducible refine h.upd ?_
    | with_reducible refine keeps_of_fst (by assumption) ?_
    | with_reducible refine keeps_of_snd (by assumption) ?_
    | split
    | exact id
    | exact fun _ => rfl
    | (intro hx; simpa [setAt] using hx)
    | (clear * -; decide +revert)
    | dsimp +zetaDelta only

theorem execMeasReport_keeps (h : Keeps P 0x280000000000000000000000000000000000000000000000000000000000000000000000884800) {s : State} (hs : P s) (a0 a1) :
    Next P (execMeasReport a0 a1 s) := by
  have h1 := h.mono (k := 0x200000000000000000000000000000000000000000000000000000000000000000000000884800) (by decide)
  have h2 := h.mono (k := 0x80000000000000000000000000000000000000000000000000000000000000000000000004000) (by decide)
  unfold execMeasReport
  repeat' first
    | with_reducible assumption
    | rfl
    | with_reducible apply next_when
    | with_reducible apply next_next
    | with_reducible exact next_fault
    | with_reducible exact next_refused
    | (with_reducible apply State.cmdPrim_keeps h1 <;> [skip; intro _ _])
    | with_reducible apply State.measReport_keeps h2
    | extract_lets
    | with_reducible apply keeps_ite
    | (with_reducible apply keeps_foldl; intro _ _ _)
    | (with_reducible apply keeps_foldl_fst; intro _ _ _)
    | fail_if_no_progress with_reducible refine h.upd ?_
    | with_reducible refine keeps_of_fst (by assumption) ?_
    | with_reducible refine keeps_of_snd (by assumption) ?_
    | split
    | exact id
    | exact fun _ => rfl
    | (intro hx; simpa [setAt] using hx)
    | (clear * -; decide +revert)
    | dsimp +zetaDelta only

theorem execDiePwrOn_keeps (h : Keeps P 0x20000000000000110000000000000040000000000000000000000000000000002000002098480c) {s : State} (hs : P s) (a0 a1) :
    Next P (execDiePwrOn a0 a1 s) := by
  have h1 := h.mono (k := 0x200000000000000000000000000000000000000000000000000000000000000000000000884800) (by decide)
  have h2 := h.mono (k := 0x110000000000000040000000000000000000000000000000002000002018000c) (by decide)
  unfold execDiePwrOn
  repeat' first
    | with_reducible assumption
    | rfl
    | with_reducible apply next_when
    | with_reducible apply next_next
    | with_reducible exact next_fault
    | with_reducible exact next_refused
    | (with_reducible apply State.cmdPrim_keeps h1 <;> [skip; intro _ _])
    | with_reducible apply State.diePwrOn_keeps h2
    | extract_lets
    | with_reducible apply keeps_ite
    | (with_reducible apply keeps_foldl; intro _ _ _)
    | (with_reducible apply keeps_foldl_fst; intro _ _ _)
    | fail_if_no_progress with_reducible refine h.upd ?_
    | with_reducible refine keeps_of_fst (by assumption) ?_
    | with_reducible refine keeps_of_snd (by assumption) ?_
    | split
    | exact id
    | exact fun _ => rfl
    | (intro hx; simpa [setAt] using hx)
    | (clear * -; decide +revert)
    | dsimp +zetaDelta only

theorem State.abort_keeps (h : Keeps P 0x90000000151000000000000000000000000000000000000000000000000000000000000000000020004800) {s : State} (hs : P s) (a1) :
    P (State.abort s a1) := by
  have h1 := h.mono (k := 0x90000000041000000000000000000000000000000000000000000000000000000000000000000020004800) (by decide)
  have h2 := h.mono (k := 0x20000000) (by decide)
  unfold State.abort
  repeat' first
    | with_reducible assumption
    | rfl
    | with_reducible apply State.endProgram_keeps h1
    | with_reducible apply State.raise_keeps h2
    | with_reducible apply h.put
    | with_reducible apply h.inc
    | extract_lets

theorem execBiasOffNow_keeps (h : Keeps P 0x2000004c0000000000000000000000000000000000000000000000000000000000000000884c00) {s : State} (hs : P s) (a0 a1) :
    Next P (execBiasOffNow a0 a1 s) := by
  have h1 := h.mono (k := 0x200000000000000000000000000000000000000000000000000000000000000000000000884800) (by decide)
  have h2 := h.mono (k := 0x4c0000000000000000000000000000000000000000000000000000000000000000000400) (by decide)
  unfold execBiasOffNow
  repeat' first
    | with_reducible assumption
    | rfl
    | with_reducible apply next_when
    | with_reducible apply next_next
    | with_reducible exact next_fault
    | with_reducible exact next_refused
    | (with_reducible apply State.cmdPrim_keeps h1 <;> [skip; intro _ _])
    | with_reducible apply State.biasOffNow_keeps h2
    | extract_lets
    | with_reducible apply keeps_ite
    | (with_reducible apply keeps_foldl; intro _ _ _)
    | (with_reducible apply keeps_foldl_fst; intro _ _ _)
    | fail_if_no_progress with_reducible refine h.upd ?_
    | with_reducible refine keeps_of_fst (by assumption) ?_
    | with_reducible refine keeps_of_snd (by assumption) ?_
    | split
    | exact id
    | exact fun _ => rfl
    | (intro hx; simpa [setAt] using hx)
    | (clear * -; decide +revert)
    | dsimp +zetaDelta only

theorem execDieInit_keeps (h : Keeps P 0x200000000000000000000000000000418000000000000000000000000000000000000000884800) {s : State} (hs : P s) (a0 a1) :
    Next P (execDieInit a0 a1 s) := by
  have h1 := h.mono (k := 0x880800) (by decide)
  have h2 := h.mono (k := 0x200000000000000000000000000000418000000000000000000000000000000000000000084800) (by decide)
  unfold execDieInit
  repeat' first
    | with_reducible assumption
    | rfl
    | with_reducible apply next_when
    | with_reducible apply next_next
    | with_reducible exact next_fault
    | with_reducible exact next_refused
    | (with_reducible apply State.cmdStart_keeps h1 <;> [skip; intro _ _])
    | with_reducible apply State.initStart_keeps h2
    | extract_lets
    | with_reducible apply keeps_ite
    | (with_reducible apply keeps_foldl; intro _ _ _)
    | (with_reducible apply keeps_foldl_fst; intro _ _ _)
    | fail_if_no_progress with_reducible refine h.upd ?_
    | with_reducible refine keeps_of_fst (by assumption) ?_
    | with_reducible refine keeps_of_snd (by assumption) ?_
    | split
    | exact id
    | exact fun _ => rfl
    | (intro hx; simpa [setAt] using hx)
    | (clear * -; decide +revert)
    | dsimp +zetaDelta only

theorem execDieOut_keeps (h : Keeps P 0x200000000000000000000000000000000000000000000000000000000000000000000000884808) {s : State} (hs : P s) (a0 a1) :
    Next P (execDieOut a0 a1 s) := by
  have h1 := h.mono (k := 0x200000000000000000000000000000000000000000000000000000000000000000000000884800) (by decide)
  have h2 := h.mono (k := 0x8) (by decide)
  unfold execDieOut
  repeat' first
    | with_reducible assumption
    | rfl
    | with_reducible apply next_when
    | with_reducible apply next_next
    | with_reducible exact next_fault
    | with_reducible exact next_refused
    | (with_reducible apply State.cmdPrim_keeps h1 <;> [skip; intro _ _])
    | with_reducible apply State.dieOut_keeps h2
    | extract_lets
    | with_reducible apply keeps_ite
    | (with_reducible apply keeps_foldl; intro _ _ _)
    | (with_reducible apply keeps_foldl_fst; intro _ _ _)
    | fail_if_no_progress with_reducible refine h.upd ?_
    | with_reducible refine keeps_of_fst (by assumption) ?_
    | with_reducible refine keeps_of_snd (by assumption) ?_
    | split
    | exact id
    | exact fun _ => rfl
    | (intro hx; simpa [setAt] using hx)
    | (clear * -; decide +revert)
    | dsimp +zetaDelta only

theorem execBiasDown_keeps (h : Keeps P 0x200000040000000000000000000000000000000000000000000000000000000000000000884c00) {s : State} (hs : P s) (a0 a1) :
    Next P (execBiasDown a0 a1 s) := by
  have h1 := h.mono (k := 0x200000000000000000000000000000000000000000000000000000000000000000000000884800) (by decide)
  have h2 := h.mono (k := 0x40000000000000000000000000000000000000000000000000000000000000000000400) (by decide)
  unfold execBiasDown
  repeat' first
    | with_reducible assumption
    | rfl
    | with_reducible apply next_when
    | with_reducible apply next_next
    | with_reducible exact next_fault
    | with_reducible exact next_refused
    | (with_reducible apply State.cmdPrim_keeps h1 <;> [skip; intro _ _])
    | with_reducible apply State.biasDown_keeps h2
    | extract_lets
    | with_reducible apply keeps_ite
    | (with_reducible apply keeps_foldl; intro _ _ _)
    | (with_reducible apply keeps_foldl_fst; intro _ _ _)
    | fail_if_no_progress with_reducible refine h.upd ?_
    | with_reducible refine keeps_of_fst (by assumption) ?_
    | with_reducible refine keeps_of_snd (by assumption) ?_
    | split
    | exact id
    | exact fun _ => rfl
    | (intro hx; simpa [setAt] using hx)
    | (clear * -; decide +revert)
    | dsimp +zetaDelta only

theorem execBiasSet_keeps (h : Keeps P 0x200000400000000000000000000000000000000000000000000000000000000000000000884800) {s : State} (hs : P s) (a0 a1) :
    Next P (execBiasSet a0 a1 s) := by
  have h1 := h.mono (k := 0x200000000000000000000000000000000000000000000000000000000000000000000000884800) (by decide)
  have h2 := h.mono (k := 0x400000000000000000000000000000000000000000000000000000000000000000000000) (by decide)
  unfold execBiasSet
  repeat' first
    | with_reducible assumption
    | rfl
    | with_reducible apply next_when
    | with_reducible apply next_next
    | with_reducible exact next_fault
    | with_reducible exact next_refused
    | (with_reducible apply State.cmdPrim_keeps h1 <;> [skip; intro _ _])
    | with_reducible apply State.biasSet_keeps h2
    | extract_lets
    | with_reducible apply keeps_ite
    | (with_reducible apply keeps_foldl; intro _ _ _)
    | (with_reducible apply keeps_foldl_fst; intro _ _ _)
    | fail_if_no_progress with_reducible refine h.upd ?_
    | with_reducible refine keeps_of_fst (by assumption) ?_
    | with_reducible refine keeps_of_snd (by assumption) ?_
    | split
    | exact id
    | exact fun _ => rfl
    | (intro hx; simpa [setAt] using hx)
    | (clear * -; decide +revert)
    | dsimp +zetaDelta only

theorem execDieJoin_keeps (h : Keeps P 0x200000000000000000000000000000000000000000000000000000000000000000000000884808) {s : State} (hs : P s) (a0 a1) :
    Next P (execDieJoin a0 a1 s) := by
  have h1 := h.mono (k := 0x200000000000000000000000000000000000000000000000000000000000000000000000884800) (by decide)
  have h2 := h.mono (k := 0x8) (by decide)
  unfold execDieJoin
  repeat' first
    | with_reducible assumption
    | rfl
    | with_reducible apply next_when
    | with_reducible apply next_next
    | with_reducible exact next_fault
    | with_reducible exact next_refused
    | (with_reducible apply State.cmdPrim_keeps h1 <;> [skip; intro _ _])
    | with_reducible apply State.dieJoin_keeps h2
    | extract_lets
    | with_reducible apply keeps_ite
    | (with_reducible apply keeps_foldl; intro _ _ _)
    | (with_reducible apply keeps_foldl_fst; intro _ _ _)
    | fail_if_no_progress with_reducible refine h.upd ?_
    | with_reducible refine keeps_of_fst (by assumption) ?_
    | with_reducible refine keeps_of_snd (by assumption) ?_
    | split
    | exact id
    | exact fun _ => rfl
    | (intro hx; simpa [setAt] using hx)
    | (clear * -; decide +revert)
    | dsimp +zetaDelta only

theorem execProgramBudgetExpire_keeps (h : Keeps P 0x90000000151000000000000000000000000000000000000000000000000000000000000000000020004800) {s : State} (hs : P s) :
    Next P (execProgramBudgetExpire s) := by
  unfold execProgramBudgetExpire
  repeat' first
    | with_reducible assumption
    | with_reducible apply next_when
    | with_reducible apply State.abort_keeps h

theorem State.instr_keeps (h : Keeps P 0x90000000151000000000000000000000000000000000000000000000000000000000000000000020004800) {s : State} {op upset f} (hs : P s) (hf : ∀ t w, P t → P (f t w)) :
    P (State.instr s op upset f) := by
  have h1 := h.mono (k := 0x90000000151000000000000000000000000000000000000000000000000000000000000000000020004800) (by decide)
  unfold State.instr
  repeat' first
    | with_reducible assumption
    | with_reducible apply State.abort_keeps h1
    | (apply hf; exact h.upd hs)
    | split

theorem execStageClose_keeps (h : Keeps P 0x201000000000000000000000000000000000000000000000000000000000000000000000884800) {s : State} (hs : P s) (a0 a1) :
    Next P (execStageClose a0 a1 s) := by
  have h1 := h.mono (k := 0x200000000000000000000000000000000000000000000000000000000000000000000000884800) (by decide)
  have h2 := h.mono (k := 0x1000000000000000000000000000000000000000000000000000000000000000000000000000) (by decide)
  unfold execStageClose
  repeat' first
    | with_reducible assumption
    | rfl
    | with_reducible apply next_when
    | with_reducible apply next_next
    | with_reducible exact next_fault
    | with_reducible exact next_refused
    | (with_reducible apply State.cmdPrim_keeps h1 <;> [skip; intro _ _])
    | with_reducible apply State.stageClose_keeps h2
    | extract_lets
    | with_reducible apply keeps_ite
    | (with_reducible apply keeps_foldl; intro _ _ _)
    | (with_reducible apply keeps_foldl_fst; intro _ _ _)
    | fail_if_no_progress with_reducible refine h.upd ?_
    | with_reducible refine keeps_of_fst (by assumption) ?_
    | with_reducible refine keeps_of_snd (by assumption) ?_
    | split
    | exact id
    | exact fun _ => rfl
    | (intro hx; simpa [setAt] using hx)
    | (clear * -; decide +revert)
    | dsimp +zetaDelta only

theorem execStageAbort_keeps (h : Keeps P 0x201000000000000000000000000000000000000000000000000000000000000000000000884800) {s : State} (hs : P s) (a0 a1) :
    Next P (execStageAbort a0 a1 s) := by
  have h1 := h.mono (k := 0x200000000000000000000000000000000000000000000000000000000000000000000000884800) (by decide)
  have h2 := h.mono (k := 0x1000000000000000000000000000000000000000000000000000000000000000000000000800) (by decide)
  unfold execStageAbort
  repeat' first
    | with_reducible assumption
    | rfl
    | with_reducible apply next_when
    | with_reducible apply next_next
    | with_reducible exact next_fault
    | with_reducible exact next_refused
    | (with_reducible apply State.cmdPrim_keeps h1 <;> [skip; intro _ _])
    | with_reducible apply State.stageAbort_keeps h2
    | extract_lets
    | with_reducible apply keeps_ite
    | (with_reducible apply keeps_foldl; intro _ _ _)
    | (with_reducible apply keeps_foldl_fst; intro _ _ _)
    | fail_if_no_progress with_reducible refine h.upd ?_
    | with_reducible refine keeps_of_fst (by assumption) ?_
    | with_reducible refine keeps_of_snd (by assumption) ?_
    | split
    | exact id
    | exact fun _ => rfl
    | (intro hx; simpa [setAt] using hx)
    | (clear * -; decide +revert)
    | dsimp +zetaDelta only

theorem execCal_keeps (h : Keeps P 0x200000000000000000000000000000000000000000000000000000000000000000000000984800) {s : State} (hs : P s) (a0 a1) :
    Next P (execCal a0 a1 s) := by
  have h1 := h.mono (k := 0x200000000000000000000000000000000000000000000000000000000000000000000000884800) (by decide)
  have h2 := h.mono (k := 0x100000) (by decide)
  unfold execCal
  repeat' first
    | with_reducible assumption
    | rfl
    | with_reducible apply next_when
    | with_reducible apply next_next
    | with_reducible exact next_fault
    | with_reducible exact next_refused
    | (with_reducible apply State.cmdPrim_keeps h1 <;> [skip; intro _ _])
    | with_reducible apply State.calPrim_keeps h2
    | extract_lets
    | with_reducible apply keeps_ite
    | (with_reducible apply keeps_foldl; intro _ _ _)
    | (with_reducible apply keeps_foldl_fst; intro _ _ _)
    | fail_if_no_progress with_reducible refine h.upd ?_
    | with_reducible refine keeps_of_fst (by assumption) ?_
    | with_reducible refine keeps_of_snd (by assumption) ?_
    | split
    | exact id
    | exact fun _ => rfl
    | (intro hx; simpa [setAt] using hx)
    | (clear * -; decide +revert)
    | dsimp +zetaDelta only

theorem State.jump_keeps (h : Keeps P 0x90000000151000000000000000000000000000000000000000000000000000000000000000000020004800) {s : State} (hs : P s) (a1) :
    P (State.jump s a1) := by
  unfold State.jump
  repeat' first
    | with_reducible assumption
    | with_reducible apply State.abort_keeps h
    | extract_lets
    | with_reducible apply keeps_ite
    | fail_if_no_progress with_reducible refine h.upd ?_
    | split

theorem execLdi_keeps (h : Keeps P 0x90000000351000000000000000000000000000000000000000000000000000000000000000000020004800) {s : State} (hs : P s) (a0) :
    Next P (execLdi a0 s) := by
  have h1 := h.mono (k := 0x90000000151000000000000000000000000000000000000000000000000000000000000000000020004800) (by decide)
  have h2 := h.mono (k := 0x800) (by decide)
  unfold execLdi
  repeat' first
    | with_reducible assumption
    | rfl
    | with_reducible apply next_when
    | (with_reducible apply State.instr_keeps h1 <;> [skip; intro _ _ _])
    | with_reducible apply State.seqNext_keeps h2
    | with_reducible apply h.put

theorem execRunProg_keeps (h : Keeps P 0x220000000000000000000000000000000000000000000000000000000000000000000020884800) {s : State} (hs : P s) (a0 a1) :
    Next P (execRunProg a0 a1 s) := by
  have h1 := h.mono (k := 0x200000000000000000000000000000000000000000000000000000000000000000000000884800) (by decide)
  have h2 := h.mono (k := 0x20000000000000000000000000000000000000000000000000000000000000000000020000800) (by decide)
  unfold execRunProg
  repeat' first
    | with_reducible assumption
    | rfl
    | with_reducible apply next_when
    | with_reducible apply next_next
    | with_reducible exact next_fault
    | with_reducible exact next_refused
    | (with_reducible apply State.cmdPrim_keeps h1 <;> [skip; intro _ _])
    | with_reducible apply State.runProg_keeps h2
    | extract_lets
    | with_reducible apply keeps_ite
    | (with_reducible apply keeps_foldl; intro _ _ _)
    | (with_reducible apply keeps_foldl_fst; intro _ _ _)
    | fail_if_no_progress with_reducible refine h.upd ?_
    | with_reducible refine keeps_of_fst (by assumption) ?_
    | with_reducible refine keeps_of_snd (by assumption) ?_
    | split
    | exact id
    | exact fun _ => rfl
    | (intro hx; simpa [setAt] using hx)
    | (clear * -; decide +revert)
    | dsimp +zetaDelta only

theorem execJmp_keeps (h : Keeps P 0x90000000151000000000000000000000000000000000000000000000000000000000000000000020004800) {s : State} (hs : P s) (a0) :
    Next P (execJmp a0 s) := by
  unfold execJmp
  repeat' first
    | with_reducible assumption
    | with_reducible apply next_when
    | (with_reducible apply State.instr_keeps h <;> [skip; intro _ _ _])
    | with_reducible apply State.jump_keeps h

theorem execRestart_keeps (h : Keeps P 0x3f000000200000000000000000000000000000000000000000000000000000000000000000000004884801) {s : State} (hs : P s) (a0 a1) :
    Next P (execRestart a0 a1 s) := by
  have h1 := h.mono (k := 0x200000000000000000000000000000000000000000000000000000000000000000000000884800) (by decide)
  have h2 := h.mono (k := 0x3f000000000000000000000000000000000000000000000000000000000000000000000000000004000801) (by decide)
  unfold execRestart
  repeat' first
    | with_reducible assumption
    | rfl
    | with_reducible apply next_when
    | with_reducible apply next_next
    | with_reducible exact next_fault
    | with_reducible exact next_refused
    | (with_reducible apply State.cmdPrim_keeps h1 <;> [skip; intro _ _])
    | with_reducible apply State.restart_keeps h2
    | extract_lets
    | with_reducible apply keeps_ite
    | (with_reducible apply keeps_foldl; intro _ _ _)
    | (with_reducible apply keeps_foldl_fst; intro _ _ _)
    | fail_if_no_progress with_reducible refine h.upd ?_
    | with_reducible refine keeps_of_fst (by assumption) ?_
    | with_reducible refine keeps_of_snd (by assumption) ?_
    | split
    | exact id
    | exact fun _ => rfl
    | (intro hx; simpa [setAt] using hx)
    | (clear * -; decide +revert)
    | dsimp +zetaDelta only

theorem execBiasOn_keeps (h : Keeps P 0x200001040000000000000000000000000000000000000000000000000000000000000020884c00) {s : State} (hs : P s) (a0 a1) :
    Next P (execBiasOn a0 a1 s) := by
  have h1 := h.mono (k := 0x200000000000000000000000000000000000000000000000000000000000000000000000884800) (by decide)
  have h2 := h.mono (k := 0x1040000000000000000000000000000000000000000000000000000000000000020000400) (by decide)
  unfold execBiasOn
  repeat' first
    | with_reducible assumption
    | rfl
    | with_reducible apply next_when
    | with_reducible apply next_next
    | with_reducible exact next_fault
    | with_reducible exact next_refused
    | (with_reducible apply State.cmdPrim_keeps h1 <;> [skip; intro _ _])
    | with_reducible apply State.biasOn_keeps h2
    | extract_lets
    | with_reducible apply keeps_ite
    | (with_reducible apply keeps_foldl; intro _ _ _)
    | (with_reducible apply keeps_foldl_fst; intro _ _ _)
    | fail_if_no_progress with_reducible refine h.upd ?_
    | with_reducible refine keeps_of_fst (by assumption) ?_
    | with_reducible refine keeps_of_snd (by assumption) ?_
    | split
    | exact id
    | exact fun _ => rfl
    | (intro hx; simpa [setAt] using hx)
    | (clear * -; decide +revert)
    | dsimp +zetaDelta only

theorem execWaits_keeps (h : Keeps P 0x90000000151000000000000000000000000000000000000000000000000000000000000000000020004800) {s : State} (hs : P s) (a0) :
    Next P (execWaits a0 s) := by
  unfold execWaits
  repeat' first
    | with_reducible assumption
    | with_reducible apply next_when
    | (with_reducible apply State.instr_keeps h <;> [skip; intro _ _ _])
    | extract_lets
    | fail_if_no_progress with_reducible refine h.upd ?_

theorem execEvt_keeps (h : Keeps P 0x90000000151000000000000000000000000000000000000000000000000000000000000000000020004800) {s : State} (hs : P s) (a0) :
    Next P (execEvt a0 s) := by
  have h1 := h.mono (k := 0x800) (by decide)
  have h2 := h.mono (k := 0x20000000) (by decide)
  unfold execEvt
  repeat' first
    | with_reducible assumption
    | with_reducible apply next_when
    | (with_reducible apply State.instr_keeps h <;> [skip; intro _ _ _])
    | with_reducible apply State.seqNext_keeps h1
    | with_reducible apply State.raise_keeps h2

theorem execForce_keeps (h : Keeps P 0x200000000000000000000000000000000000000000000000000020001ec000000000002088c800) {s : State} (hs : P s) (a0 a1) :
    Next P (execForce a0 a1 s) := by
  have h1 := h.mono (k := 0x200000000000000000000000000000000000000000000000000000000000000000000000884800) (by decide)
  have h2 := h.mono (k := 0x20001ec000000000002008c000) (by decide)
  unfold execForce
  repeat' first
    | with_reducible assumption
    | rfl
    | with_reducible apply next_when
    | with_reducible apply next_next
    | with_reducible exact next_fault
    | with_reducible exact next_refused
    | (with_reducible apply State.cmdPrim_keeps h1 <;> [skip; intro _ _])
    | with_reducible apply State.forceTrig_keeps h2
    | extract_lets
    | with_reducible apply keeps_ite
    | (with_reducible apply keeps_foldl; intro _ _ _)
    | (with_reducible apply keeps_foldl_fst; intro _ _ _)
    | fail_if_no_progress with_reducible refine h.upd ?_
    | with_reducible refine keeps_of_fst (by assumption) ?_
    | with_reducible refine keeps_of_snd (by assumption) ?_
    | split
    | exact id
    | exact fun _ => rfl
    | (intro hx; simpa [setAt] using hx)
    | (clear * -; decide +revert)
    | dsimp +zetaDelta only

theorem execProgramStart_keeps (h : Keeps P 0x90000000151000000000000000000000000000000000000000000000000000000000000000000020004800) {s : State} (hs : P s) (a0) :
    Next P (execProgramStart a0 s) := by
  have h1 := h.mono (k := 0x1000000000000000000000000000000000000000000000000000000000000000000000000800) (by decide)
  unfold execProgramStart
  repeat' first
    | with_reducible assumption
    | with_reducible apply next_when
    | with_reducible apply next_next
    | with_reducible apply State.abort_keeps h
    | with_reducible apply State.startProgram_keeps h1
    | extract_lets
    | with_reducible apply keeps_ite
    | fail_if_no_progress with_reducible refine h.upd ?_
    | with_reducible refine keeps_of_fst (by assumption) ?_
    | with_reducible refine keeps_of_snd (by assumption) ?_
    | split
    | dsimp +zetaDelta only

theorem execAlu_keeps (h : Keeps P 0x90000000351000000000000000000000000000000000000000000000000000000000000000000020004800) {s : State} (hs : P s) (a0) :
    Next P (execAlu a0 s) := by
  have h1 := h.mono (k := 0x90000000151000000000000000000000000000000000000000000000000000000000000000000020004800) (by decide)
  have h2 := h.mono (k := 0x800) (by decide)
  unfold execAlu
  repeat' first
    | with_reducible assumption
    | rfl
    | with_reducible apply next_when
    | (with_reducible apply State.instr_keeps h1 <;> [skip; intro _ _ _])
    | with_reducible apply State.seqNext_keeps h2
    | with_reducible apply h.put

theorem execWaitc_keeps (h : Keeps P 0x90000000151000000000000000000000000000000000000000000000000000000000000000000020004800) {s : State} (hs : P s) (a0) :
    Next P (execWaitc a0 s) := by
  unfold execWaitc
  repeat' first
    | with_reducible assumption
    | with_reducible apply next_when
    | (with_reducible apply State.instr_keeps h <;> [skip; intro _ _ _])
    | extract_lets
    | fail_if_no_progress with_reducible refine h.upd ?_

theorem execEnd_keeps (h : Keeps P 0x90000000151000000000000000000000000000000000000000000000000000000000000000000020004800) {s : State} (hs : P s) (a0) :
    Next P (execEnd a0 s) := by
  have h1 := h.mono (k := 0x90000000041000000000000000000000000000000000000000000000000000000000000000000020004800) (by decide)
  unfold execEnd
  repeat' first
    | with_reducible assumption
    | rfl
    | with_reducible apply next_when
    | (with_reducible apply State.instr_keeps h <;> [skip; intro _ _ _])
    | with_reducible apply State.endProgram_keeps h1
    | with_reducible apply h.inc

theorem execBr_keeps (h : Keeps P 0x90000000151000000000000000000000000000000000000000000000000000000000000000000020004800) {s : State} (hs : P s) (a0) :
    Next P (execBr a0 s) := by
  have h1 := h.mono (k := 0x800) (by decide)
  unfold execBr
  repeat' first
    | with_reducible assumption
    | with_reducible apply next_when
    | (with_reducible apply State.instr_keeps h <;> [skip; intro _ _ _])
    | with_reducible apply State.jump_keeps h
    | with_reducible apply State.seqNext_keeps h1
    | with_reducible apply keeps_ite
    | split

theorem State.liveTake_keeps (h : Keeps P 0x14742200000041cc0408058c19c73d100298034ffe0000c4007800620b81ee12737c77ffe607bc9b8) {s : State} (hs : P s) (a1 a2) :
    P (State.liveTake s a1 a2) := by
  have h1 := h.mono (k := 0x400000000000000000000000000000000000000000000000000000000000000000000000000000) (by decide)
  have h2 := h.mono (k := 0x14702200000041cc0408058c19c620000298034ffe0000c4004800620b01ee12737c77ffe607bc9b8) (by decide)
  have h3 := h.mono (k := 0x11d100000000000000000000000000000000000000000020020800) (by decide)
  have h4 := h.mono (k := 0x80000000000000000008000) (by decide)
  have h5 := h.mono (k := 0x3800000000000000000000000010000) (by decide)
  have h6 := h.mono (k := 0x20000000000000000000000000000000000000000000020020000) (by decide)
  unfold State.liveTake
  repeat' first
    | with_reducible assumption
    | with_reducible apply State.putLock_keeps h1
    | with_reducible apply State.writePairs_keeps h2
    | with_reducible apply State.putTemplate_keeps h3
    | with_reducible apply State.takePattern_keeps h4
    | with_reducible apply State.takeCompr_keeps h5
    | with_reducible apply State.repairLive_keeps h6
    | extract_lets
    | (with_reducible apply keeps_foldl; intro _ _ _)
    | (with_reducible apply keeps_foldl_fst; intro _ _ _)
    | fail_if_no_progress with_reducible refine h.upd ?_
    | with_reducible refine keeps_of_fst (by assumption) ?_
    | with_reducible refine keeps_of_snd (by assumption) ?_
    | split
    | dsimp +zetaDelta only

theorem State.reloadApply_keeps (h : Keeps P 0x9000014746200004041cc0408058c19c73d100298034ffe0000c4007800620b81ee12737c77ffe607bcdb8) {s : State} (hs : P s) (a1 a2 a3 a4 a5) :
    P (State.reloadApply s a1 a2 a3 a4 a5) := by
  have h1 := h.mono (k := 0x90000000040000000000000000000000000000000000000000000000000000000000000000000000004800) (by decide)
  have h2 := h.mono (k := 0x40000000000000000000000000000000000000000000000000000000000000020000400) (by decide)
  have h3 := h.mono (k := 0x90000000040000000000000000000000000000000000000000000000000000000000000000000000004000) (by decide)
  have h4 := h.mono (k := 0x14742200000041cc0408058c19c73d100298034ffe0000c4007800620b81ee12737c77ffe607bc9b8) (by decide)
  unfold State.reloadApply
  repeat' first
    | with_reducible assumption
    | with_reducible apply State.swapStore_keeps h1
    | with_reducible apply State.holdSection_keeps h2
    | with_reducible apply State.reloadDone_keeps h3
    | with_reducible apply State.liveTake_keeps h4
    | extract_lets
    | with_reducible apply keeps_ite
    | fail_if_no_progress with_reducible refine h.upd ?_
    | split

theorem State.reload_keeps (h : Keeps P 0x900001474e200004041cc0408058c19c73d100298034ffe0000c4027800620b81ee12737c77ffe607bcdb8) {s : State} (hs : P s) (a1) :
    P (State.reload s a1).1 := by
  have h1 := h.mono (k := 0x20000000) (by decide)
  have h2 := h.mono (k := 0x80000000000000000000000000000000000000000000020000000000000000000000020000000) (by decide)
  have h3 := h.mono (k := 0x9000014746200004041cc0408058c19c73d100298034ffe0000c4007800620b81ee12737c77ffe607bcdb8) (by decide)
  unfold State.reload
  repeat' first
    | with_reducible assumption
    | with_reducible apply State.reloadRefused_keeps h1
    | with_reducible apply State.reloadFault_keeps h2
    | with_reducible apply State.reloadApply_keeps h3
    | extract_lets
    | with_reducible apply keeps_ite
    | fail_if_no_progress with_reducible refine h.upd ?_
    | with_reducible refine keeps_of_fst (by assumption) ?_
    | with_reducible refine keeps_of_snd (by assumption) ?_
    | split
    | dsimp +zetaDelta only

theorem execReload_keeps (h : Keeps P 0x900001476e200004041cc0408058c19c73d100298034ffe0000c4027800620b81ee12737c77ffe60fbcdb8) {s : State} (hs : P s) (a0 a1) :
    Next P (execReload a0 a1 s) := by
  have h1 := h.mono (k := 0x200000000000000000000000000000000000000000000000000000000000000000000000884800) (by decide)
  have h2 := h.mono (k := 0x900001474e200004041cc0408058c19c73d100298034ffe0000c4027800620b81ee12737c77ffe607bcdb8) (by decide)
  unfold execReload
  repeat' first
    | with_reducible assumption
    | rfl
    | with_reducible apply next_when
    | with_reducible apply next_next
    | with_reducible exact next_fault
    | with_reducible exact next_refused
    | (with_reducible apply State.cmdPrim_keeps h1 <;> [skip; intro _ _])
    | with_reducible apply State.reload_keeps h2
    | extract_lets
    | with_reducible apply keeps_ite
    | (with_reducible apply keeps_foldl; intro _ _ _)
    | (with_reducible apply keeps_foldl_fst; intro _ _ _)
    | fail_if_no_progress with_reducible refine h.upd ?_
    | with_reducible refine keeps_of_fst (by assumption) ?_
    | with_reducible refine keeps_of_snd (by assumption) ?_
    | split
    | exact id
    | exact fun _ => rfl
    | (intro hx; simpa [setAt] using hx)
    | (clear * -; decide +revert)
    | dsimp +zetaDelta only

theorem State.verifySections_keeps (h : Keeps P 0x20000000000000000000000020000000) {s : State} (hs : P s) (a0 a1) :
    P (State.verifySections a0 a1 s).1 := by
  have h1 := h.mono (k := 0x20000000000000000000000020000000) (by decide)
  induction a1 generalizing s with
  | nil => exact hs
  | cons x l ih =>
    unfold State.verifySections
    split
    · exact State.inflateFault_keeps h1 hs _
    · split
      · exact ih hs
      · exact hs

theorem State.stageVerify_keeps (h : Keeps P 0x1000000000000000000000000000000000000000000020000000000000000000000020004800) {s : State} (hs : P s) :
    P (State.stageVerify s) := by
  have h1 := h.mono (k := 0x20000000000000000000000020000000) (by decide)
  have h2 := h.mono (k := 0x800) (by decide)
  have h3 := h.mono (k := 0x4000) (by decide)
  have h4 := h.mono (k := 0x20000000) (by decide)
  unfold State.stageVerify
  repeat' first
    | with_reducible assumption
    | rfl
    | with_reducible apply State.verifySections_keeps h1
    | with_reducible apply State.flashQueue_keeps h2
    | with_reducible apply State.stagedItem_keeps h3
    | with_reducible apply State.raise_keeps h4
    | with_reducible apply h.put
    | extract_lets
    | with_reducible apply keeps_ite
    | fail_if_no_progress with_reducible refine h.upd ?_
    | with_reducible refine keeps_of_fst (by assumption) ?_
    | with_reducible refine keeps_of_snd (by assumption) ?_
    | split
    | dsimp +zetaDelta only

theorem execStageVerifyDone_keeps (h : Keeps P 0x1000000000000000000000000000000000000000000020000000000000000000000020004800) {s : State} (hs : P s) :
    Next P (execStageVerifyDone s) := by
  unfold execStageVerifyDone
  repeat' first
    | with_reducible assumption
    | with_reducible apply next_when
    | with_reducible apply State.stageVerify_keeps h

theorem State.diePwrOff_keeps (h : Keeps P 0x150000000011d13000000000000000000000000000e0400000200000203fca7c) {s : State} (hs : P s) (a1) :
    P (State.diePwrOff s a1).1 := by
  have h1 := h.mono (k := 0x20000000) (by decide)
  unfold State.diePwrOff
  repeat' first
    | with_reducible assumption
    | with_reducible apply State.raise_keeps h1
    | with_reducible apply State.dieDown_keeps h
    | with_reducible apply keeps_ite
    | split

theorem execDiePwrOff_keeps (h : Keeps P 0x20000000000000150000000011d13000000000000000000000000000e040000020000020bfca7c) {s : State} (hs : P s) (a0 a1) :
    Next P (execDiePwrOff a0 a1 s) := by
  have h1 := h.mono (k := 0x200000000000000000000000000000000000000000000000000000000000000000000000884800) (by decide)
  have h2 := h.mono (k := 0x150000000011d13000000000000000000000000000e0400000200000203fca7c) (by decide)
  unfold execDiePwrOff
  repeat' first
    | with_reducible assumption
    | rfl
    | with_reducible apply next_when
    | with_reducible apply next_next
    | with_reducible exact next_fault
    | with_reducible exact next_refused
    | (with_reducible apply State.cmdPrim_keeps h1 <;> [skip; intro _ _])
    | with_reducible apply State.diePwrOff_keeps h2
    | extract_lets
    | with_reducible apply keeps_ite
    | (with_reducible apply keeps_foldl; intro _ _ _)
    | (with_reducible apply keeps_foldl_fst; intro _ _ _)
    | fail_if_no_progress with_reducible refine h.upd ?_
    | with_reducible refine keeps_of_fst (by assumption) ?_
    | with_reducible refine keeps_of_snd (by assumption) ?_
    | split
    | exact id
    | exact fun _ => rfl
    | (intro hx; simpa [setAt] using hx)
    | (clear * -; decide +revert)
    | dsimp +zetaDelta only

theorem State.seqAccess_keeps (h : Keeps P 0x14722200000041cc0418058c19c73db12298034ffe7f00c4784801e20b01ee127f7c77ffe617fe9f8) {s : State} (hs : P s) (a1 a2 a3 a4) :
    P (State.seqAccess s a1 a2 a3 a4) := by
  unfold State.seqAccess
  repeat' first
    | with_reducible assumption
    | with_reducible apply State.request_keeps h
    | extract_lets
    | fail_if_no_progress with_reducible refine h.upd ?_

theorem execWrr_keeps (h : Keeps P 0x9000014737300000041cc0418058c19c73db12298034ffe7f00c4784801e20b01ee127f7c77ffe617fe9f8) {s : State} (hs : P s) (a0) :
    Next P (execWrr a0 s) := by
  have h1 := h.mono (k := 0x90000000151000000000000000000000000000000000000000000000000000000000000000000020004800) (by decide)
  have h2 := h.mono (k := 0x14722200000041cc0418058c19c73db12298034ffe7f00c4784801e20b01ee127f7c77ffe617fe9f8) (by decide)
  unfold execWrr
  repeat' first
    | with_reducible assumption
    | with_reducible apply next_when
    | (with_reducible apply State.instr_keeps h1 <;> [skip; intro _ _ _])
    | with_reducible apply State.seqAccess_keeps h2

theorem execRd_keeps (h : Keeps P 0x9000014737300000041cc0418058c19c73db12298034ffe7f00c4784801e20b01ee127f7c77ffe617fe9f8) {s : State} (hs : P s) (a0) :
    Next P (execRd a0 s) := by
  have h1 := h.mono (k := 0x90000000151000000000000000000000000000000000000000000000000000000000000000000020004800) (by decide)
  have h2 := h.mono (k := 0x14722200000041cc0418058c19c73db12298034ffe7f00c4784801e20b01ee127f7c77ffe617fe9f8) (by decide)
  unfold execRd
  repeat' first
    | with_reducible assumption
    | with_reducible apply next_when
    | (with_reducible apply State.instr_keeps h1 <;> [skip; intro _ _ _])
    | with_reducible apply State.seqAccess_keeps h2

theorem State.runPrimitive_keeps (h : Keeps P 0xbf0001474ef0014c041cc0558058c19c73d130e98034ffe0000c4027800620b8fee12737e77ffe647fcffd) {s : State} (hs : P s) (a1 a2) :
    P (State.runPrimitive s a1 a2).1 := by
  have h1 := h.mono (k := 0x20000000000000000000000000000000000000000000000000000000000000000000020000800) (by decide)
  have h2 := h.mono (k := 0x80000000000000000000000000000000000000000000000000000000000000000000000004000) (by decide)
  have h3 := h.mono (k := 0xd000000000000000000000000000000000000000000000000000000000000000000000000800) (by decide)
  have h4 := h.mono (k := 0x1000000000000000000000000000000000000000000000000000000000000000000000000000) (by decide)
  have h5 := h.mono (k := 0x1000000000000000000000000000000000000000000000000000000000000000000000000800) (by decide)
  have h6 := h.mono (k := 0x900001474e200004041cc0408058c19c73d100298034ffe0000c4027800620b81ee12737c77ffe607bcdb8) (by decide)
  have h7 := h.mono (k := 0x3f000000000000000000000000000000000000000000000000000000000000000000000000000004000801) (by decide)
  have h8 := h.mono (k := 0x8) (by decide)
  have h9 := h.mono (k := 0x110000000000000040000000000000000000000000000000002000002018000c) (by decide)
  have h10 := h.mono (k := 0x150000000011d13000000000000000000000000000e0400000200000203fca7c) (by decide)
  have h11 := h.mono (k := 0x100000) (by decide)
  have h12 := h.mono (k := 0x20001ec000000000002008c000) (by decide)
  have h13 := h.mono (k := 0x1040000000000000000000000000000000000000000000000000000000000000020000400) (by decide)
  have h14 := h.mono (k := 0x40000000000000000000000000000000000000000000000000000000000000000000400) (by decide)
  have h15 := h.mono (k := 0x4c0000000000000000000000000000000000000000000000000000000000000000000400) (by decide)
  have h16 := h.mono (k := 0x400000000000000000000000000000000000000000000000000000000000000000000000) (by decide)
  have h17 := h.mono (k := 0x100000000000000000000000000000000c1802000000000000000040000004000000000002008c028) (by decide)
  unfold State.runPrimitive
  repeat' first
    | with_reducible assumption
    | with_reducible apply State.runProg_keeps h1
    | with_reducible apply State.measReport_keeps h2
    | with_reducible apply State.stageOpen_keeps h3
    | with_reducible apply State.stageClose_keeps h4
    | with_reducible apply State.stageAbort_keeps h5
    | with_reducible apply State.reload_keeps h6
    | with_reducible apply State.restart_keeps h7
    | with_reducible apply State.dieOut_keeps h8
    | with_reducible apply State.diePwrOn_keeps h9
    | with_reducible apply State.diePwrOff_keeps h10
    | with_reducible apply State.dieJoin_keeps h8
    | with_reducible apply State.calPrim_keeps h11
    | with_reducible apply State.forceTrig_keeps h12
    | with_reducible apply State.biasOn_keeps h13
    | with_reducible apply State.biasDown_keeps h14
    | with_reducible apply State.biasOffNow_keeps h15
    | with_reducible apply State.biasSet_keeps h16
    | with_reducible apply State.laneRetrain_keeps h17
    | extract_lets
    | with_reducible apply keeps_ite
    | fail_if_no_progress with_reducible refine h.upd ?_
    | with_reducible refine keeps_of_fst (by assumption) ?_
    | with_reducible refine keeps_of_snd (by assumption) ?_
    | split
    | dsimp +zetaDelta only

theorem execRmw_keeps (h : Keeps P 0x9000014737300000041cc0418058c19c73db12298034ffe7f00c4784801e20b01ee127f7c77ffe617fe9f8) {s : State} (hs : P s) (a0) :
    Next P (execRmw a0 s) := by
  have h1 := h.mono (k := 0x90000000151000000000000000000000000000000000000000000000000000000000000000000020004800) (by decide)
  have h2 := h.mono (k := 0x14722200000041cc0418058c19c73db12298034ffe7f00c4784801e20b01ee127f7c77ffe617fe9f8) (by decide)
  unfold execRmw
  repeat' first
    | with_reducible assumption
    | with_reducible apply next_when
    | (with_reducible apply State.instr_keeps h1 <;> [skip; intro _ _ _])
    | with_reducible apply State.seqAccess_keeps h2

theorem execWri_keeps (h : Keeps P 0x9000014737300000041cc0418058c19c73db12298034ffe7f00c4784801e20b01ee127f7c77ffe617fe9f8) {s : State} (hs : P s) (a0) :
    Next P (execWri a0 s) := by
  have h1 := h.mono (k := 0x90000000151000000000000000000000000000000000000000000000000000000000000000000020004800) (by decide)
  have h2 := h.mono (k := 0x14722200000041cc0418058c19c73db12298034ffe7f00c4784801e20b01ee127f7c77ffe617fe9f8) (by decide)
  unfold execWri
  repeat' first
    | with_reducible assumption
    | with_reducible apply next_when
    | (with_reducible apply State.instr_keeps h1 <;> [skip; intro _ _ _])
    | with_reducible apply State.seqAccess_keeps h2

theorem execPoll_keeps (h : Keeps P 0x9000014737300000041cc0418058c19c73db12298034ffe7f00c4784801e20b01ee127f7c77ffe617fe9f8) {s : State} (hs : P s) (a0) :
    Next P (execPoll a0 s) := by
  have h1 := h.mono (k := 0x90000000151000000000000000000000000000000000000000000000000000000000000000000020004800) (by decide)
  have h2 := h.mono (k := 0x14722200000041cc0418058c19c73db12298034ffe7f00c4784801e20b01ee127f7c77ffe617fe9f8) (by decide)
  unfold execPoll
  repeat' first
    | with_reducible assumption
    | with_reducible apply next_when
    | (with_reducible apply State.instr_keeps h1 <;> [skip; intro _ _ _])
    | with_reducible apply State.seqAccess_keeps h2
    | extract_lets
    | with_reducible apply keeps_ite
    | fail_if_no_progress with_reducible refine h.upd ?_
    | with_reducible refine keeps_of_fst (by assumption) ?_
    | with_reducible refine keeps_of_snd (by assumption) ?_
    | split
    | dsimp +zetaDelta only

theorem State.primRun_keeps (h : Keeps P 0xbf0001476ef0014c041cc0558058c19c73d130e98034ffe0000c4027800620b8fee12737e77ffe647fcffd) {s : State} (hs : P s) (a1) :
    P (State.primRun s a1) := by
  have h1 := h.mono (k := 0x200000000000000000000000000000418000000000000000000000000000000000000000084800) (by decide)
  have h2 := h.mono (k := 0xbf0001474ef0014c041cc0558058c19c73d130e98034ffe0000c4027800620b8fee12737e77ffe647fcffd) (by decide)
  have h3 := h.mono (k := 0x200000000000000000000000000000000000000000000000000000000000000000000000004800) (by decide)
  unfold State.primRun
  repeat' first
    | with_reducible assumption
    | with_reducible apply State.initStart_keeps h1
    | with_reducible apply State.runPrimitive_keeps h2
    | with_reducible apply State.primEnd_keeps h3
    | extract_lets
    | with_reducible apply keeps_ite
    | split

theorem State.primStart_keeps (h : Keeps P 0xbf0001476ef0014c041cc0558058c19c73d130e98034ffe0000c4027800620b8fee12737e77ffe647fcffd) {s : State} (hs : P s) (a1) :
    P (State.primStart s a1) := by
  have h1 := h.mono (k := 0x800) (by decide)
  unfold State.primStart
  repeat' first
    | with_reducible assumption
    | with_reducible apply State.primRun_keeps h
    | with_reducible apply State.primWait_keeps h1
    | with_reducible apply keeps_ite
    | split

theorem State.seqPrim_keeps (h : Keeps P 0xbf0001476ef0014c041cc0558058c19c73d130e98034ffe0000c4027800620b8fee12737e77ffe647fcffd) {s : State} (hs : P s) (a1) :
    P (State.seqPrim s a1) := by
  unfold State.seqPrim
  repeat' first
    | with_reducible assumption
    | with_reducible apply State.primStart_keeps h
    | extract_lets
    | with_reducible apply keeps_ite
    | fail_if_no_progress with_reducible refine h.upd ?_
    | split

theorem execPrim_keeps (h : Keeps P 0xbf0001477ff0014c041cc0558058c19c73d130e98034ffe0000c4027800620b8fee12737e77ffe647fcffd) {s : State} (hs : P s) (a0) :
    Next P (execPrim a0 s) := by
  have h1 := h.mono (k := 0x90000000151000000000000000000000000000000000000000000000000000000000000000000020004800) (by decide)
  have h2 := h.mono (k := 0xbf0001476ef0014c041cc0558058c19c73d130e98034ffe0000c4027800620b8fee12737e77ffe647fcffd) (by decide)
  unfold execPrim
  repeat' first
    | with_reducible assumption
    | with_reducible apply next_when
    | (with_reducible apply State.instr_keeps h1 <;> [skip; intro _ _ _])
    | with_reducible apply State.seqPrim_keeps h2

theorem State.runPrims_keeps (h : Keeps P 0xbf0001476ef0014c041cc0558058c19c73d130e98034ffe0000c4027800620b8fee12737e77ffe647fcffd) {s : State} (hs : P s) (a0) :
    P (State.runPrims a0 s) := by
  have h1 := h.mono (k := 0xbf0001476ef0014c041cc0558058c19c73d130e98034ffe0000c4027800620b8fee12737e77ffe647fcffd) (by decide)
  induction a0 generalizing s with
  | zero => exact hs
  | succ n ih =>
    unfold State.runPrims
    split
    · exact ih (State.primRun_keeps h1 (h.upd hs) _)
    · exact hs

theorem State.initEnd_keeps (h : Keeps P 0xbf0001476ef0014c041cc0558058c19c73d130e98034ffe0000c4027800620b8fee12737e77ffe647fcffd) {s : State} (hs : P s) :
    P (State.initEnd s) := by
  have h1 := h.mono (k := 0x200000000000000000000000000000000000000000000000000000000000000000000000004800) (by decide)
  unfold State.initEnd
  repeat' first
    | with_reducible assumption
    | with_reducible apply State.primEnd_keeps h1
    | with_reducible apply State.runPrims_keeps h
    | with_reducible apply h.setDie rfl
    | extract_lets
    | with_reducible apply keeps_ite
    | fail_if_no_progress with_reducible refine h.upd ?_
    | with_reducible refine keeps_of_fst (by assumption) ?_
    | with_reducible refine keeps_of_snd (by assumption) ?_
    | split
    | dsimp +zetaDelta only

end Sys2Proof.Machine
end

