-- ==== Sys2Proof/Laws/KeepEdge.lean ====
section
/-! SUPPORT. What the operations of Machine/Edge.lean keep. -/

set_option linter.unusedTactic false
set_option linter.unreachableTactic false

set_option Elab.async false

namespace Sys2Proof.Machine

variable {P : State → Prop} {m : Nat}

theorem State.burstEnd_keeps (h : Keeps P 0x200000000000000000000000000000000000000000000000040000000100000) {s : State} (hs : P s) (a1) :
    P (State.burstEnd s a1) := by
  unfold State.burstEnd
  repeat' first
    | with_reducible assumption
    | rfl
    | with_reducible apply h.inc
    | with_reducible apply h.putB
    | with_reducible apply h.setBur rfl
    | extract_lets
    | with_reducible apply keeps_ite
    | fail_if_no_progress with_reducible refine h.upd ?_
    | split

theorem State.frz0Late_keeps (h : Keeps P 0x100000000000000000000000000000000800000000000000000000000000000000000000000000028) {s : State} (hs : P s) (a1) :
    P (State.frz0Late s a1) := by
  unfold State.frz0Late
  repeat' first
    | with_reducible assumption
    | with_reducible apply State.dropFrz0_keeps h
    | extract_lets
    | with_reducible apply keeps_ite
    | fail_if_no_progress with_reducible refine h.upd ?_
    | with_reducible refine keeps_of_fst (by assumption) ?_
    | with_reducible refine keeps_of_snd (by assumption) ?_
    | split
    | dsimp +zetaDelta only

theorem State.portLeave_keeps (h : Keeps P 0x30000000000000000000000000000000000010880000) {s : State} (hs : P s) (a1) :
    P (State.portLeave s a1) := by
  have h1 := h.mono (k := 0x10880000) (by decide)
  have h2 := h.mono (k := 0x10080000) (by decide)
  unfold State.portLeave
  repeat' first
    | with_reducible assumption
    | with_reducible apply State.sendAlign_keeps h1
    | with_reducible apply State.sendBlocks_keeps h2
    | with_reducible apply State.upLane_keeps h2
    | with_reducible apply keeps_ite
    | (with_reducible apply keeps_foldl; intro _ _ _)
    | (with_reducible apply keeps_foldl_fst; intro _ _ _)
    | split

theorem State.initNext_keeps (h : Keeps P 0x10000000011db00000000000000000000000000000000000000000020022800) {s : State} (hs : P s) (a1 a2) :
    P (State.initNext s a1 a2).1 := by
  have h1 := h.mono (k := 0x20000) (by decide)
  have h2 := h.mono (k := 0x11db00000000000000000000000000000000000000000020020000) (by decide)
  have h3 := h.mono (k := 0x2000) (by decide)
  induction a2 generalizing s with
  | zero => exact hs
  | succ n ih =>
    unfold State.initNext
    split
    · extract_lets i
      split
      · exact hs
      · rename_i t w step _
        have q : P t := State.clearShadows_keeps h3 (State.treeFetch_keeps h2 (State.treeMark_keeps h1 hs _) _)
        have q' : ∀ l, P (step t l) := fun l => h.upd q
        split
        · split
          · exact ih (h.putB rfl (q' _))
          · exact q' _
        · exact ih (q' _)
    · exact hs

theorem State.retLeave_keeps (h : Keeps P 0x10000000011db000020000000000000000000000000000000000000308a2800) {s : State} (hs : P s) (a1) :
    P (State.retLeave s a1) := by
  have h1 := h.mono (k := 0x10080000) (by decide)
  have h2 := h.mono (k := 0x2000000000000000000000000000000000000030880000) (by decide)
  have h3 := h.mono (k := 0x80000) (by decide)
  have h4 := h.mono (k := 0x10880000) (by decide)
  have h5 := h.mono (k := 0x10000000011db00000000000000000000000000000000000000000020022800) (by decide)
  have h6 := h.mono (k := 0x10000000) (by decide)
  unfold State.retLeave
  repeat' first
    | with_reducible assumption
    | with_reducible apply State.retPrbs_keeps h1
    | with_reducible apply State.freezeSend_keeps h2
    | with_reducible apply State.retTake_keeps h3
    | with_reducible apply State.retBlock_keeps h4
    | with_reducible apply State.initNext_keeps h5
    | with_reducible apply State.retIdle_keeps h6
    | extract_lets
    | with_reducible apply keeps_ite
    | fail_if_no_progress with_reducible refine h.upd ?_
    | with_reducible refine keeps_of_fst (by assumption) ?_
    | with_reducible refine keeps_of_snd (by assumption) ?_
    | split
    | dsimp +zetaDelta only

theorem State.leave_keeps (h : Keeps P 0x10000000000000000030000000011db008020300000000000000000000000000000400000309a2828) {s : State} (hs : P s) :
    P (State.leave s) := by
  have h1 := h.mono (k := 0x200000000000000000000000000000000000000000000000040000000100000) (by decide)
  have h2 := h.mono (k := 0x100000000000000000000000000000000800000000000000000000000000000000000000000000028) (by decide)
  have h3 := h.mono (k := 0x30000000000000000000000000000000000010880000) (by decide)
  have h4 := h.mono (k := 0x10000000011db000020000000000000000000000000000000000000308a2800) (by decide)
  have h5 := h.mono (k := 0x10000000) (by decide)
  unfold State.leave
  repeat' first
    | with_reducible assumption
    | with_reducible apply State.burstEnd_keeps h1
    | with_reducible apply State.frz0Late_keeps h2
    | with_reducible apply State.portLeave_keeps h3
    | with_reducible apply State.retLeave_keeps h4
    | with_reducible apply State.prbsBlock_keeps h5
    | extract_lets
    | with_reducible apply keeps_ite
    | (with_reducible apply keeps_foldl; intro _ _ _)
    | (with_reducible apply keeps_foldl_fst; intro _ _ _)
    | split

theorem State.goOn_keeps (h : Keeps P 0xbf0001476ef0014c041cc0558058c19c73db32e98034ffe7f00c47a7801e20b8fee127f7e77ffe657feffd) {s : State} (hs : P s) :
    P (State.goOn s) := by
  have h1 := h.mono (k := 0x200000) (by decide)
  have h2 := h.mono (k := 0xbf0001476ef0014c041cc0558058c19c73d130e98034ffe0000c4027800620b8fee12737e77ffe647fcffd) (by decide)
  have h3 := h.mono (k := 0x14722200000041cc0418058c19c73db12298034ffe7f00c4784801e20b01ee127f7c77ffe617fe9f8) (by decide)
  unfold State.goOn
  repeat' first
    | with_reducible assumption
    | with_reducible apply State.cutNow_keeps h1
    | with_reducible apply State.initEnd_keeps h2
    | with_reducible apply State.serveWaiting_keeps h3

theorem State.tick_keeps (h : Keeps P 0xbf0001476ef0014c041cc0578058c19c73db32e9a034ffe7f00c47a7801e20b8fee127f7e77ffe75ffefff) {s : State} (hs : P s) :
    P (State.tick s) := by
  have h1 := h.mono (k := 0x10000000000000000030000000011db008020300000000000000000000000000000400000309a2828) (by decide)
  have h2 := h.mono (k := 0xbf0001476ef0014c041cc0558058c19c73db32e98034ffe7f00c47a7801e20b8fee127f7e77ffe657feffd) (by decide)
  unfold State.tick
  repeat' first
    | with_reducible assumption
    | with_reducible apply State.leave_keeps h1
    | with_reducible apply State.goOn_keeps h2
    | extract_lets
    | with_reducible apply keeps_ite
    | fail_if_no_progress with_reducible refine h.upd ?_
    | split

end Sys2Proof.Machine
end

