-- ==== Sys2Proof/Laws/KeepStep.lean ====
section
/-! SUPPORT. What the operations of Machine/Step.lean keep. -/

set_option linter.unusedTactic false
set_option linter.unreachableTactic false

set_option Elab.async false

namespace Sys2Proof.Machine

variable {P : State → Prop} {m : Nat}

theorem State.withFetchWord_keeps (h : Keeps P 0x2000000) {s : State} (hs : P s) (a1 a2) :
    P (State.withFetchWord s a1 a2) := by
  unfold State.withFetchWord
  repeat' first
    | with_reducible assumption
    | extract_lets
    | fail_if_no_progress with_reducible refine h.upd ?_
    | with_reducible refine keeps_of_fst (by assumption) ?_
    | with_reducible refine keeps_of_snd (by assumption) ?_
    | split
    | dsimp +zetaDelta only

end Sys2Proof.Machine
end

