-- ==== Sys2Proof/Laws/Exec.lean ====
section
/-! SUPPORT. The footprint of each command, and what a command and a step keep. -/

namespace Sys2Proof.Machine

/-- The footprint of a command, as the bits of `Keeps`. -/
def footprint : Instr → Nat
  | .powerOn .. => 0x4000000000000000000000000000000000000000000000000000000000000000000000000004000200
  | .vinSupervisorLoss .. => 0x1
  | .resetRelease .. => 0x800000000000000000000000000000000000000000000000080000000000000000000000000000000203
  | .fillComplete => 0x200000000000000000000000000000000000280a0021
  | .bootImageRead => 0x800147423ffe04041cc0408058c19c73d100298034ffe0000c4027800620b81ee12737c77ffe607bd9b8
  | .bootComplete => 0xbf000004c0100064000000000000000013fb000000000000000000000000000000000000000001200fcd01
  | .anodeSlewStep .. => 0x400000010
  | .triggerDiscFire .. => 0x30
  | .thresholdEval .. => 0x100000000000000000000000000000000000000000000000000000000000000000000008000100028
  | .pixTrgpolWrite .. => 0x9000002010
  | .accLoad .. => 0x2000002010
  | .injArm .. => 0x200000002008
  | .injFire .. => 0x20001ec200000000002018c018
  | .injRepClear .. => 0x200000002008
  | .ovrEnter .. => 0x100000000000000c04000000000000000000000000000000000000000000000000000020000000038
  | .ovrRelease .. => 0xc04000000000000000000000000000000000000000000000000000020000000030
  | .ovrLong .. => 0x100000000000000000000000000000000000000000000000000000000000000000000020000000038
  | .recoveryWindowEnd .. => 0x20000000010
  | .neighbourWindowEnd .. => 0x10
  | .leadCapture .. => 0xc04000000000000000000000000000000000000000000000000004000000000030
  | .trailCapture .. => 0xc04000000000000000000000000000000000000000000000000000000000100030
  | .totSaturate .. => 0x100030
  | .deadTimeEnd .. => 0x10
  | .creditAdd .. => 0x4000000000010
  | .intervalTimeout .. => 0x808000000000030
  | .completionEntry .. => 0x100000000000000000000000000000000000000000000000000000000000000000818000000000038
  | .markerEntry .. => 0x800000000000020
  | .entryToQueue .. => 0x800000000000020
  | .awlCommit .. => 0x40000000002000
  | .rngRestart .. => 0x2000000000002010
  | .restartAll .. => 0x12000000000002010
  | .ringFull .. => 0x2000000000000010
  | .frz0 .. => 0x100000000000000000000000000000000800000000000000000000000000000000000000000080028
  | .freezeDecode .. => 0x100000000000000000000000000000000800000000000000000000000000000084000000000080038
  | .freezeApply .. => 0x100000000000000000000000000000000000000000000000000000000000000084000000000000038
  | .transferEnd .. => 0x10
  | .conversionEnd .. => 0x100000000000000000000000000000000000000000000000000000000000000100000000000100038
  | .recordPush .. => 0x30
  | .recWaitExpire .. => 0x20
  | .csWordSend .. => 0x10800020
  | .shathenAlignSend .. => 0x10800028
  | .primitiveEnter .. => 0x88000
  | .sideWordEnter .. => 0x220000000000000000000080000000000000020088000
  | .binEvaluate => 0x20001ec000000000002008c000
  | .trig .. => 0x20001ec000000000002088c000
  | .strForce .. => 0x20001ec020000000002008e000
  | .autoTrigger => 0x20001ec000000000002008c000
  | .triggerDecide => 0x20001ec000000000002008c000
  | .freezeSend .. => 0x2000000000000000000000000000000000000030880000
  | .recordArrive .. => 0x11db3000000000000000000000000003e0400000000000200fc040
  | .refusalArrive .. => 0x11d13000000000000000000000000000f0400000000000200fc040
  | .ctxTimeout .. => 0x11d13000000000000000000000000000e0400000000000200fc040
  | .strClassWrite .. => 0x60000000000020002000
  | .strMapdataAccess .. => 0x30000000000000000000a000
  | .fbClear .. => 0x20001ec020000000002008e000
  | .slotStrobe .. => 0x51000000002000a008f0000000011db301400030000300800003079bc03e0400202c2a108217fc9f8
  | .markerArrive .. => 0x11db300000000000000000003001bc03e0400000000000200fc040
  | .markerWaitExpire => 0x11db300000000000000000003001bc03e0400000000000200fc040
  | .hitGateEval => 0x300108000000000000000020014000
  | .slotPackHit .. => 0x11db100000000000000000000000280000000000000000200f4040
  | .hitConvert .. => 0x300000000000000000000020004000
  | .ambientCollect .. => 0x40000000000000000000004000
  | .ciFrameReceive .. => 0x4200000000000000be4000000000000000000210c0000
  | .ciSlotEndReceive .. => 0x200000000000000204000000000000000000000c0000
  | .ciPortEnable .. => 0x600000000000000000000002000
  | .ciPortDisable .. => 0x600000000000000000000002000
  | .mergeDeadlineExpire => 0x40000
  | .groupReady => 0x30000000000000043e000000000000000000200c0000
  | .blockEnterSkive => 0x780482400030000000000000020058000
  | .partVerifyDone .. => 0x61c482400030000000000000020058000
  | .storedPathLeave => 0x600482400030000000000000020058000
  | .backlogCheck => 0x40000000000000000000000020010000
  | .engineReturn .. => 0x4000000000000000000000000012000
  | .engineEnableWrite .. => 0x800000000000000000000000012000
  | .inspGo .. => 0x4000000000000000000000000000002000
  | .inspDone => 0x3c020000000000000000000000020000000
  | .refInputLost .. => 0x25000000080000000000000000000000000020080080
  | .refInputQualified .. => 0x240000000c0000000000000000000000000020080080
  | .forceHold .. => 0x24ffe0000c0000000000000000000000000020082080
  | .sync .. => 0x1001800080000000000000000000000000020880080
  | .syncTimeout => 0x20000080
  | .pllUnlock => 0x80000000000000000000000000020000000
  | .echoReq .. => 0x1000000000000000000000000000000000000020880080
  | .echoSend .. => 0x38000000000000000000000000000000000030884080
  | .echoReceive .. => 0x8000000000000000000000000000000000000084000
  | .girSnap .. => 0x24ffe0000c0000000000000000000000000020082080
  | .srLowRead .. => 0x14722200000041cc0418058c19c73db12298034ffe7f00c4784801e20b01ee127f7c77ffe617fe9f8
  | .srHighRead .. => 0x14722200000041cc0418058c19c73db12298034ffe7f00c4784801e20b01ee127f7c77ffe617fe9f8
  | .rcRead .. => 0x14722200000041cc0418058c19c73db12298034ffe7f00c4784801e20b01ee127f7c77ffe617fe9f8
  | .laneClockLoss .. => 0x100000000000000000000000000000000c300200000000800000000000000000000000000200840a8
  | .laneClockReturn .. => 0x410000000000080000000000000000000000000000080080
  | .laneLock .. => 0x410000000000000000000000000000000000000000000028
  | .laneLockLoss .. => 0x100000000000000000000000000000000c30020000000000000000000000000000000000020084028
  | .slipRequest .. => 0x10000000000000000000000000000000000000020000000
  | .slip .. => 0x10000000000000000000000000000000000000020002000
  | .laneEnable .. => 0x18000000000000000000000000000000000000000002000
  | .laneDisable .. => 0x18020000000000000000000000000000000000020086000
  | .badControlBlock .. => 0x20800000000000000000000000000000000000020000000
  | .alignReceive .. => 0x20000000000000000400000040000000000020088000
  | .portUp .. => 0x20000000000000000400000000000000000020000000
  | .portDown .. => 0x20000000000000000400000040000000000020088000
  | .shathenLinkLost .. => 0x20084000
  | .eqAdapt .. => 0x10000000000000000000000000000000000000020080000
  | .loopWrite .. => 0x98020000000000000000000000000000000000020086000
  | .shathenAlignReceive .. => 0x24800000000000000000000000000000000000021084000
  | .dieRegWr .. => 0x14702200000041cc0408058c19c620000a98034ffe0000c4004800620b01ee12737c77ffe607bc9b8
  | .dieRegRd .. => 0x10000000000000000000000000011d11280000000000000000000000030000000c0000000610a4078
  | .tset .. => 0x100000000000000000000000000000000c00000000000000000000000000000000000000000080038
  | .returnOpUndefined .. => 0x100000000000000000000000000000000800000000000000000000000000000000000000000080028
  | .regAnswer .. => 0x14722200000041cc0418058c19c73db12298034ffe7f00c4784801e20b01ee127f7c77ffe617fe9f8
  | .regTimeout => 0x14722200000041cc0418058c19c73db1229a034ffe7f00c4784801e20b01ee127f7c77ffe617fe9f8
  | .alignRowSend => 0x30000000000000000000000000000000000010880000
  | .sideSend .. => 0x30000000000000000000000000000000000030880000
  | .frameSend .. => 0x3b0000000000000000000000000000000000030880001
  | .builderRestart .. => 0x30000000000000000000000000000000000020082000
  | .mirrorWrite .. => 0x30000000000000000000000000000000000020082000
  | .tmiMessageDiscard .. => 0x1800000000000000000000000000000000000020880000
  | .cmdUnknown .. => 0x20884000
  | .tmiRegWr .. => 0x14722200000041cc0418058c19c73db12298034ffe7f00c4784801e20b01ee127f7c77ffe61ffe9f8
  | .tmiRegRd .. => 0x14722200000041cc0418058c19c73db12298034ffe7f00c4784801e20b01ee127f7c77ffe61ffe9f8
  | .registerWrite .. => 0x14722200000041cc0418058c19c73db12298034ffe7f00c4784801e20b01ee127f7c77ffe617fe9f8
  | .hitQueueRead .. => 0x20000010000000000000000000000000000000c00000000000000000000000000000000c000000010800028
  | .ingressPush .. => 0x11db300000000000000000003001bc03e0400000000000200fc040
  | .dropCommand .. => 0x11d138000000000000000000000000000000000000000020024060
  | .treeRead .. => 0x11db000000000000000000000000000000000000000000200fc000
  | .treeFullWrite .. => 0x11db000000000000000000000000000000000000000000200fc000
  | .treeByteWrite .. => 0x11db000000000000000000000000000000000000000000200fc000
  | .debugWindowWrite .. => 0x14722200000041cc0418058c19c73db12298034ffe7f00c4784801e20b01ee127f7c77ffe617fe9f8
  | .scrubVisit .. => 0x11fd80000000000000000000000000000000000000000020020000
  | .treeRepair .. => 0x20000000000000000000000000000000000000000000020022000
  | .repairCopyDone => 0x14722200000041cc0418058c19c73fb12298034ffe7f00c4784801e20b01ee127f7c77ffe617fe9f8
  | .cic1Output .. => 0x10
  | .firOutput .. => 0x78000000000000000000000000000000000000000000000000000038
  | .levelEmit .. => 0x100000000000000000000000003800000000000000000000000000000000000000000008001000038
  | .stpSync .. => 0x200000000000000000000000000000000000000000000000002010
  | .stpPresetWrite .. => 0x200000000000000000000000000000000000000000000000002010
  | .stpEnable .. => 0x200000000000000000000000000000000000000000000000002010
  | .syncAll .. => 0x4000000000000000000000000000000000000000000000000002010
  | .stropResetApply .. => 0x2800000000000000000000000000000000000000000000000000010
  | .coefWrite .. => 0x188000000000000000000000000000000000000000000000000002000
  | .bankRequest .. => 0x100000000000000000000000018000000000000000000000000000000000000000000000000002028
  | .ambientWordSend .. => 0x10800020
  | .scanStart => 0x88000000000000000000000000000000000000000000000000020400000
  | .scanStepStart => 0x208000000000000000000000000000000000000000000000000020400000
  | .visitMake .. => 0x100000000000000000000000000000000000000000000000000020400000
  | .exReleaseWait .. => 0x100000000000000000000000000000000000000000000000000020400000
  | .hkConvertEnd .. => 0x20000000000000000000000000000000000000000000000000020400000
  | .hkCheckEnd .. => 0x30000000000000000000000000000000000000000000000000020400000
  | .visitEnd .. => 0x608000001648000000000000000000000000000000000000000000000000021604000
  | .scanStepEnd => 0x208000000000000000000000000000000000000000000000000020400000
  | .excWrite .. => 0x500000000000000000000000000000000000000000000000000020402000
  | .hkChcfgWrite .. => 0x500000000000000000000000000000000000000000000000000020402000
  | .urgentRequest .. => 0x88000000000000000000000000000000000000000000000000020402000
  | .urgentVisitStart => 0x8000000000000000000000000000000000000000000000000000400000
  | .tempUpdate .. => 0x100000000000000302004000000000000000000000000000000000000000000000000000000100028
  | .tempStale .. => 0x100000000000000002000000000000000000000000000000000000000000000000000000000000028
  | .calMaxintExpire .. => 0x100000
  | .calRunRequest .. => 0x102000
  | .cal .. => 0x200000000000000000000000000000000000000000000000000000000000000000000000984800
  | .calRunStart .. => 0x100000000000000f05600000000000000000000000000000000000000000000000020210021300028
  | .histogramDone .. => 0x100000000000000c05600000000000000000000000000000000000000000000000020000021300028
  | .histogramTimeout .. => 0x100000000000000c05e00000000000000000000000000000000000000000000000020000021300028
  | .injRunEnd .. => 0x3081200000000400000000000000000000000000000000000000000000001300018
  | .calCommit .. => 0x100000000000000000000000000000000000000000000020283000001100000
  | .pulseArm .. => 0x18000000000000000000000000000000000000000000000000000000000000202000
  | .pulseFire => 0x5808000000000000000000000000000000000000000020001ec200000000002028c000
  | .pulseStop .. => 0x40c000000000000000000000000000000000000000000000000000000000000202000
  | .ldDiagnosis .. => 0x22008000000000000000000000000000000000000000000000000000000000020200000
  | .lampTempTimeout => 0x8000000000000000000000000000000000000000000000000000000000020000000
  | .proofPulse => 0x1000000000000000000000000000000000000000000000000000000000000001204000
  | .proofIntervalEnd => 0x4000000000000000000000000000000000000000000000000000000000000020200000
  | .lampRestore .. => 0x8000000000000000000000000000000000000000000000000000000000000002000
  | .bridleSample .. => 0x740000000000000000000000000000000000000000000000000000000000000020000400
  | .summaryArrive .. => 0x440000000000000000000000000000000000000000000000000000000000000020000400
  | .summaryStale .. => 0x440000000000000000000000000000000000000000000000000000000000000020000400
  | .sunGuardRelease .. => 0x40000000000000000000000000000000000000000000000000000000000000020000000
  | .descentTimeout => 0x440000000000000000000000000000000000000000000000000000000000000000000400
  | .testPulse .. => 0x40000000000000000000000000000000000000000000000000000000000000000000400
  | .feedbackCheck .. => 0xc40000000000000000000000000000000000000000000000000000000000000020000400
  | .keyRelease .. => 0x90000000040fff740000000000000000000000000000000000000000000000000000000000000020004400
  | .keyStuck => 0x40000000000000000000000000000000000000000000000000000000000000020000400
  | .keyStuckClear => 0x40000000000000000000000000000000000000000000000000000000000000000000000
  | .degTick => 0x640000000000000000000000000000000000000000000000000000000000000020000400
  | .setpointRamp => 0x400000000000000000000000000000000000000000000000000000000000000000000400
  | .bsetFrame .. => 0x10800400
  | .biasOn .. => 0x200001040000000000000000000000000000000000000000000000000000000000000020884c00
  | .biasDown .. => 0x200000040000000000000000000000000000000000000000000000000000000000000000884c00
  | .biasOffNow .. => 0x2000004c0000000000000000000000000000000000000000000000000000000000000000884c00
  | .biasSet .. => 0x200000400000000000000000000000000000000000000000000000000000000000000000884800
  | .programRequest .. => 0x20000000000000000000000000000000000000000000000000000000000000000000020002800
  | .programStart .. => 0x90000000151000000000000000000000000000000000000000000000000000000000000000000020004800
  | .programBudgetExpire => 0x90000000151000000000000000000000000000000000000000000000000000000000000000000020004800
  | .wri .. => 0x9000014737300000041cc0418058c19c73db12298034ffe7f00c4784801e20b01ee127f7c77ffe617fe9f8
  | .wrr .. => 0x9000014737300000041cc0418058c19c73db12298034ffe7f00c4784801e20b01ee127f7c77ffe617fe9f8
  | .rd .. => 0x9000014737300000041cc0418058c19c73db12298034ffe7f00c4784801e20b01ee127f7c77ffe617fe9f8
  | .rmw .. => 0x9000014737300000041cc0418058c19c73db12298034ffe7f00c4784801e20b01ee127f7c77ffe617fe9f8
  | .ldi .. => 0x90000000351000000000000000000000000000000000000000000000000000000000000000000020004800
  | .alu .. => 0x90000000351000000000000000000000000000000000000000000000000000000000000000000020004800
  | .poll .. => 0x9000014737300000041cc0418058c19c73db12298034ffe7f00c4784801e20b01ee127f7c77ffe617fe9f8
  | .pollTimeout => 0x800
  | .waits .. => 0x90000000151000000000000000000000000000000000000000000000000000000000000000000020004800
  | .waitc .. => 0x90000000151000000000000000000000000000000000000000000000000000000000000000000020004800
  | .waitDone => 0x800
  | .jmp .. => 0x90000000151000000000000000000000000000000000000000000000000000000000000000000020004800
  | .br .. => 0x90000000151000000000000000000000000000000000000000000000000000000000000000000020004800
  | .prim .. => 0xbf0001477ff0014c041cc0558058c19c73d130e98034ffe0000c4027800620b8fee12737e77ffe647fcffd
  | .evt .. => 0x90000000151000000000000000000000000000000000000000000000000000000000000000000020004800
  | .endProg .. => 0x90000000151000000000000000000000000000000000000000000000000000000000000000000020004800
  | .runProg .. => 0x220000000000000000000000000000000000000000000000000000000000000000000020884800
  | .measReport .. => 0x280000000000000000000000000000000000000000000000000000000000000000000000884800
  | .stageOpen .. => 0x20d000000000000000000000000000000000000000000000000000000000000000000000884800
  | .eraseDone => 0x9000000000000000000000000000000000000000000000000000000000000000000000001800
  | .stage .. => 0x48000000000000000000000000000001000000000000000000000000000000000000020884800
  | .stageClose .. => 0x201000000000000000000000000000000000000000000000000000000000000000000000884800
  | .stageVerifyDone => 0x1000000000000000000000000000000000000000000020000000000000000000000020004800
  | .stageAbort .. => 0x201000000000000000000000000000000000000000000000000000000000000000000000884800
  | .retainedLogWrite => 0x800000000000000000000000000000000000000000000000000000000000000000000000000800
  | .reload .. => 0x900001476e200004041cc0408058c19c73d100298034ffe0000c4027800620b81ee12737c77ffe60fbcdb8
  | .restart .. => 0x3f000000200000000000000000000000000000000000000000000000000000000000000000000004884801
  | .dieOut .. => 0x200000000000000000000000000000000000000000000000000000000000000000000000884808
  | .diePwrOn .. => 0x20000000000000110000000000000040000000000000000000000000000000002000002098480c
  | .diePwrOff .. => 0x20000000000000150000000011d13000000000000000000000000000e040000020000020bfca7c
  | .dieInit .. => 0x200000000000000000000000000000418000000000000000000000000000000000000000884800
  | .dieJoin .. => 0x200000000000000000000000000000000000000000000000000000000000000000000000884808
  | .force .. => 0x200000000000000000000000000000000000000000000000000020001ec000000000002088c800
  | .laneRetrain .. => 0x100200000000000000000000000000000c1802000000000000000040000004000000000002088c828
  | .dieEventWord .. => 0x20000000
  | .eventRaise .. => 0x20000000
  | .datapathParityFault .. => 0x80000000000000000000000000000000000000000000000000000000000000000000000200d4000
  | .vinWarnFall .. => 0x8000000000000000000000000000000000000000000000000000000000120204200
  | .vinWarnRelease .. => 0x200
  | .brownoutResume => 0x22000000000000000000000000000000000000000000000000000000000000000000000000120000a00
  | .vinResetFall .. => 0x1000000000000000000000000000000000000000000000000000000000000000000000000004000000
  | .railFault .. => 0x4000000000000000000000000000000000000000000000000000000000000000000000000020000200
  | .railReset .. => 0x1000000000000000000000000000000000000000000000000000000000000000000000000004000000
  | .rstNLow => 0x1000000000000000000000000000000000000000000000000000000000000000000000000004000000
  | .caseTempRead .. => 0x10800000000000000000000000000000000000000000000000000000000000000000000000020000200
  | .caseOvertempReset => 0x1000000000000000000000000000000000000000000000000000000000000000000000000004000200
  | .dieRailLimit .. => 0x100000000000000000000000000000000000000000000000000000000000000000000000000000228
  | .dieRailTrip .. => 0x2800000000000000000150000000011d13000000000000000000000000000e0400000200000203fca7c
  | .dieRailUv .. => 0x100000000000000000000000000000000000000000000000000000000000000000000000000000028
  | .rootPllRelock => 0x80000000000000000000000000000000080
  | .diePllLock .. => 0x2000000000000018
  | .flashProgramDone => 0x1800
  | .dimmedDcOn .. => 0x200000
  | .onTimeEnd .. => 0x200000
  | .testPulseEnd .. => 0x40000000000000000000000000000000000000000000000000000000000000000000400
  | .eventNHoldEnd => 0x4000000000000000000000000000000000000000000000000000000000000000000000000000100

/-- The footprint of an edge of ROOT. -/
def tickFootprint : Nat := 0xbf0001476ef0014c041cc0578058c19c73db32e9a034ffe7f00c47a7801e20b8fee127f7e77ffe75ffefff

variable {P : State → Prop}

/-- A property that survives the writes of a command's footprint survives the command. -/
theorem exec_keeps {c : Instr} (h : Keeps P (footprint c)) {s : State} (hs : P s) : Next P (exec c s) := by
  cases c with
  | powerOn vin => exact execPowerOn_keeps h hs vin
  | vinSupervisorLoss vin => exact execVinSupervisorLoss_keeps h hs vin
  | resetRelease vin rstN railsOk pllLock mid mstr => exact execResetRelease_keeps h hs vin rstN railsOk pllLock mid mstr
  | fillComplete => exact execFillComplete_keeps h hs
  | bootImageRead => exact execBootImageRead_keeps h hs
  | bootComplete => exact execBootComplete_keeps h hs
  | anodeSlewStep f c => exact execAnodeSlewStep_keeps h hs f c
  | triggerDiscFire f c cur => exact execTriggerDiscFire_keeps h hs f c cur
  | thresholdEval f c => exact execThresholdEval_keeps h hs f c
  | pixTrgpolWrite f c data => exact execPixTrgpolWrite_keeps h hs f c data
  | accLoad f c data => exact execAccLoad_keeps h hs f c data
  | injArm f data => exact execInjArm_keeps h hs f data
  | injFire f => exact execInjFire_keeps h hs f
  | injRepClear f data => exact execInjRepClear_keeps h hs f data
  | ovrEnter f c high => exact execOvrEnter_keeps h hs f c high
  | ovrRelease f c high => exact execOvrRelease_keeps h hs f c high
  | ovrLong f c => exact execOvrLong_keeps h hs f c
  | recoveryWindowEnd f c => exact execRecoveryWindowEnd_keeps h hs f c
  | neighbourWindowEnd f c left => exact execNeighbourWindowEnd_keeps h hs f c left
  | leadCapture f c cur taps => exact execLeadCapture_keeps h hs f c cur taps
  | trailCapture f c cur taps => exact execTrailCapture_keeps h hs f c cur taps
  | totSaturate f c => exact execTotSaturate_keeps h hs f c
  | deadTimeEnd f c => exact execDeadTimeEnd_keeps h hs f c
  | creditAdd f c => exact execCreditAdd_keeps h hs f c
  | intervalTimeout f c => exact execIntervalTimeout_keeps h hs f c
  | completionEntry f c => exact execCompletionEntry_keeps h hs f c
  | markerEntry n => exact execMarkerEntry_keeps h hs n
  | entryToQueue n => exact execEntryToQueue_keeps h hs n
  | awlCommit f data => exact execAwlCommit_keeps h hs f data
  | rngRestart f c data => exact execRngRestart_keeps h hs f c data
  | restartAll f data => exact execRestartAll_keeps h hs f data
  | ringFull f c => exact execRingFull_keeps h hs f c
  | frz0 f w => exact execFrz0_keeps h hs f w
  | freezeDecode f w => exact execFreezeDecode_keeps h hs f w
  | freezeApply f c => exact execFreezeApply_keeps h hs f c
  | transferEnd f c b => exact execTransferEnd_keeps h hs f c b
  | conversionEnd f c b hg lg ref => exact execConversionEnd_keeps h hs f c b hg lg ref
  | recordPush n => exact execRecordPush_keeps h hs n
  | recWaitExpire n => exact execRecWaitExpire_keeps h hs n
  | csWordSend n => exact execCsWordSend_keeps h hs n
  | shathenAlignSend n half => exact execShathenAlignSend_keeps h hs n half
  | primitiveEnter n w => exact execPrimitiveEnter_keeps h hs n w
  | sideWordEnter cib w => exact execSideWordEnter_keeps h hs cib w
  | binEvaluate => exact execBinEvaluate_keeps h hs
  | trig alt tslot toff tfine now => exact execTrig_keeps h hs alt tslot toff tfine now
  | strForce data => exact execStrForce_keeps h hs data
  | autoTrigger => exact execAutoTrigger_keeps h hs
  | triggerDecide => exact execTriggerDecide_keeps h hs
  | freezeSend f => exact execFreezeSend_keeps h hs f
  | recordArrive n => exact execRecordArrive_keeps h hs n
  | refusalArrive n w => exact execRefusalArrive_keeps h hs n w
  | ctxTimeout k => exact execCtxTimeout_keeps h hs k
  | strClassWrite k data => exact execStrClassWrite_keeps h hs k data
  | strMapdataAccess wr data => exact execStrMapdataAccess_keeps h hs wr data
  | fbClear data => exact execFbClear_keeps h hs data
  | slotStrobe meas votes dieVotes errs phases => exact execSlotStrobe_keeps h hs meas votes dieVotes errs phases
  | markerArrive n w cross => exact execMarkerArrive_keeps h hs n w cross
  | markerWaitExpire => exact execMarkerWaitExpire_keeps h hs
  | hitGateEval => exact execHitGateEval_keeps h hs
  | slotPackHit n => exact execSlotPackHit_keeps h hs n
  | hitConvert n => exact execHitConvert_keeps h hs n
  | ambientCollect n w => exact execAmbientCollect_keeps h hs n w
  | ciFrameReceive cib fbad fcrcOk ws => exact execCiFrameReceive_keeps h hs cib fbad fcrcOk ws
  | ciSlotEndReceive cib slot nblk => exact execCiSlotEndReceive_keeps h hs cib slot nblk
  | ciPortEnable cib => exact execCiPortEnable_keeps h hs cib
  | ciPortDisable cib => exact execCiPortDisable_keeps h hs cib
  | mergeDeadlineExpire => exact execMergeDeadlineExpire_keeps h hs
  | groupReady => exact execGroupReady_keeps h hs
  | blockEnterSkive => exact execBlockEnterSkive_keeps h hs
  | partVerifyDone e tokens lens flip => exact execPartVerifyDone_keeps h hs e tokens lens flip
  | storedPathLeave => exact execStoredPathLeave_keeps h hs
  | backlogCheck => exact execBacklogCheck_keeps h hs
  | engineReturn data => exact execEngineReturn_keeps h hs data
  | engineEnableWrite data => exact execEngineEnableWrite_keeps h hs data
  | inspGo data => exact execInspGo_keeps h hs data
  | inspDone => exact execInspDone_keeps h hs
  | refInputLost alt => exact execRefInputLost_keeps h hs alt
  | refInputQualified alt => exact execRefInputQualified_keeps h hs alt
  | forceHold data => exact execForceHold_keeps h hs data
  | sync alt gmid sseq t1 stamp => exact execSync_keeps h hs alt gmid sseq t1 stamp
  | syncTimeout => exact execSyncTimeout_keeps h hs
  | pllUnlock => exact execPllUnlock_keeps h hs
  | echoReq alt tgt exseq stamp => exact execEchoReq_keeps h hs alt tgt exseq stamp
  | echoSend stamp => exact execEchoSend_keeps h hs stamp
  | echoReceive cib exseq src stamp => exact execEchoReceive_keeps h hs cib exseq src stamp
  | girSnap data => exact execGirSnap_keeps h hs data
  | srLowRead who tag addr => exact execSrLowRead_keeps h hs who tag addr
  | srHighRead who tag addr => exact execSrHighRead_keeps h hs who tag addr
  | rcRead who tag addr => exact execRcRead_keeps h hs who tag addr
  | laneClockLoss n => exact execLaneClockLoss_keeps h hs n
  | laneClockReturn n => exact execLaneClockReturn_keeps h hs n
  | laneLock n => exact execLaneLock_keeps h hs n
  | laneLockLoss n => exact execLaneLockLoss_keeps h hs n
  | slipRequest n => exact execSlipRequest_keeps h hs n
  | slip n => exact execSlip_keeps h hs n
  | laneEnable n => exact execLaneEnable_keeps h hs n
  | laneDisable n => exact execLaneDisable_keeps h hs n
  | badControlBlock n chkFail => exact execBadControlBlock_keeps h hs n chkFail
  | alignReceive cib counts skew => exact execAlignReceive_keeps h hs cib counts skew
  | portUp cib acount => exact execPortUp_keeps h hs cib acount
  | portDown cib align => exact execPortDown_keeps h hs cib align
  | shathenLinkLost f => exact execShathenLinkLost_keeps h hs f
  | eqAdapt n below now above => exact execEqAdapt_keeps h hs n below now above
  | loopWrite tx n data => exact execLoopWrite_keeps h hs tx n data
  | shathenAlignReceive n w stamp => exact execShathenAlignReceive_keeps h hs n w stamp
  | dieRegWr f w => exact execDieRegWr_keeps h hs f w
  | dieRegRd f w => exact execDieRegRd_keeps h hs f w
  | tset f w => exact execTset_keeps h hs f w
  | returnOpUndefined f w => exact execReturnOpUndefined_keeps h hs f w
  | regAnswer f w => exact execRegAnswer_keeps h hs f w
  | regTimeout => exact execRegTimeout_keeps h hs
  | alignRowSend => exact execAlignRowSend_keeps h hs
  | sideSend upb => exact execSideSend_keeps h hs upb
  | frameSend upb drv other wit => exact execFrameSend_keeps h hs upb drv other wit
  | builderRestart data => exact execBuilderRestart_keeps h hs data
  | mirrorWrite data => exact execMirrorWrite_keeps h hs data
  | tmiMessageDiscard alt why blocks => exact execTmiMessageDiscard_keeps h hs alt why blocks
  | cmdUnknown tgt op arg => exact execCmdUnknown_keeps h hs tgt op arg
  | tmiRegWr tgt rtag addr data => exact execTmiRegWr_keeps h hs tgt rtag addr data
  | tmiRegRd tgt rtag addr => exact execTmiRegRd_keeps h hs tgt rtag addr
  | registerWrite who tag addr data => exact execRegisterWrite_keeps h hs who tag addr data
  | hitQueueRead n delay flips => exact execHitQueueRead_keeps h hs n delay flips
  | ingressPush n w flip cross => exact execIngressPush_keeps h hs n w flip cross
  | dropCommand hq n => exact execDropCommand_keeps h hs hq n
  | treeRead b flips mapFlips use rank => exact execTreeRead_keeps h hs b flips mapFlips use rank
  | treeFullWrite b data rank => exact execTreeFullWrite_keeps h hs b data rank
  | treeByteWrite b mask data rank => exact execTreeByteWrite_keeps h hs b mask data rank
  | debugWindowWrite who tag addr data => exact execDebugWindowWrite_keeps h hs who tag addr data
  | scrubVisit flips mapFlips use waiting => exact execScrubVisit_keeps h hs flips mapFlips use waiting
  | treeRepair data => exact execTreeRepair_keeps h hs data
  | repairCopyDone => exact execRepairCopyDone_keeps h hs
  | cic1Output f c bits => exact execCic1Output_keeps h hs f c bits
  | firOutput f => exact execFirOutput_keeps h hs f
  | levelEmit f c => exact execLevelEmit_keeps h hs f c
  | stpSync f c data => exact execStpSync_keeps h hs f c data
  | stpPresetWrite f c data => exact execStpPresetWrite_keeps h hs f c data
  | stpEnable f c data => exact execStpEnable_keeps h hs f c data
  | syncAll f data => exact execSyncAll_keeps h hs f data
  | stropResetApply f c => exact execStropResetApply_keeps h hs f c
  | coefWrite f bankB n data => exact execCoefWrite_keeps h hs f bankB n data
  | bankRequest f data => exact execBankRequest_keeps h hs f data
  | ambientWordSend n => exact execAmbientWordSend_keeps h hs n
  | scanStart => exact execScanStart_keeps h hs
  | scanStepStart => exact execScanStepStart_keeps h hs
  | visitMake cb => exact execVisitMake_keeps h hs cb
  | exReleaseWait cb => exact execExReleaseWait_keeps h hs cb
  | hkConvertEnd cb code hi lo ex => exact execHkConvertEnd_keeps h hs cb code hi lo ex
  | hkCheckEnd cb code => exact execHkCheckEnd_keeps h hs cb code
  | visitEnd cb => exact execVisitEnd_keeps h hs cb
  | scanStepEnd => exact execScanStepEnd_keeps h hs
  | excWrite n data => exact execExcWrite_keeps h hs n data
  | hkChcfgWrite n data => exact execHkChcfgWrite_keeps h hs n data
  | urgentRequest data => exact execUrgentRequest_keeps h hs data
  | urgentVisitStart => exact execUrgentVisitStart_keeps h hs
  | tempUpdate f temp => exact execTempUpdate_keeps h hs f temp
  | tempStale f => exact execTempStale_keeps h hs f
  | calMaxintExpire f cls => exact execCalMaxintExpire_keeps h hs f cls
  | calRunRequest data => exact execCalRunRequest_keeps h hs data
  | cal tgt arg => exact execCal_keeps h hs tgt arg
  | calRunStart f => exact execCalRunStart_keeps h hs f
  | histogramDone n => exact execHistogramDone_keeps h hs n
  | histogramTimeout n => exact execHistogramTimeout_keeps h hs n
  | injRunEnd f found pos => exact execInjRunEnd_keeps h hs f found pos
  | calCommit f => exact execCalCommit_keeps h hs f
  | pulseArm data => exact execPulseArm_keeps h hs data
  | pulseFire => exact execPulseFire_keeps h hs
  | pulseStop data => exact execPulseStop_keeps h hs data
  | ldDiagnosis k na mv => exact execLdDiagnosis_keeps h hs k na mv
  | lampTempTimeout => exact execLampTempTimeout_keeps h hs
  | proofPulse => exact execProofPulse_keeps h hs
  | proofIntervalEnd => exact execProofIntervalEnd_keeps h hs
  | lampRestore data => exact execLampRestore_keeps h hs data
  | bridleSample a b c refFail differ => exact execBridleSample_keeps h hs a b c refFail differ
  | summaryArrive f max nvalid ovl => exact execSummaryArrive_keeps h hs f max nvalid ovl
  | summaryStale f => exact execSummaryStale_keeps h hs f
  | sunGuardRelease b => exact execSunGuardRelease_keeps h hs b
  | descentTimeout => exact execDescentTimeout_keeps h hs
  | testPulse outB => exact execTestPulse_keeps h hs outB
  | feedbackCheck outB fb => exact execFeedbackCheck_keeps h hs outB fb
  | keyRelease heldMs => exact execKeyRelease_keeps h hs heldMs
  | keyStuck => exact execKeyStuck_keeps h hs
  | keyStuckClear => exact execKeyStuckClear_keeps h hs
  | degTick => exact execDegTick_keeps h hs
  | setpointRamp => exact execSetpointRamp_keeps h hs
  | bsetFrame b => exact execBsetFrame_keeps h hs b
  | biasOn tgt arg => exact execBiasOn_keeps h hs tgt arg
  | biasDown tgt arg => exact execBiasDown_keeps h hs tgt arg
  | biasOffNow tgt arg => exact execBiasOffNow_keeps h hs tgt arg
  | biasSet tgt arg => exact execBiasSet_keeps h hs tgt arg
  | programRequest data => exact execProgramRequest_keeps h hs data
  | programStart upset => exact execProgramStart_keeps h hs upset
  | programBudgetExpire => exact execProgramBudgetExpire_keeps h hs
  | wri upset => exact execWri_keeps h hs upset
  | wrr upset => exact execWrr_keeps h hs upset
  | rd upset => exact execRd_keeps h hs upset
  | rmw upset => exact execRmw_keeps h hs upset
  | ldi upset => exact execLdi_keeps h hs upset
  | alu upset => exact execAlu_keeps h hs upset
  | poll upset => exact execPoll_keeps h hs upset
  | pollTimeout => exact execPollTimeout_keeps h hs
  | waits upset => exact execWaits_keeps h hs upset
  | waitc upset => exact execWaitc_keeps h hs upset
  | waitDone => exact execWaitDone_keeps h hs
  | jmp upset => exact execJmp_keeps h hs upset
  | br upset => exact execBr_keeps h hs upset
  | prim upset => exact execPrim_keeps h hs upset
  | evt upset => exact execEvt_keeps h hs upset
  | endProg upset => exact execEnd_keeps h hs upset
  | runProg tgt arg => exact execRunProg_keeps h hs tgt arg
  | measReport tgt arg => exact execMeasReport_keeps h hs tgt arg
  | stageOpen tgt arg => exact execStageOpen_keeps h hs tgt arg
  | eraseDone => exact execEraseDone_keeps h hs
  | stage tgt rtag off ws => exact execStage_keeps h hs tgt rtag off ws
  | stageClose tgt arg => exact execStageClose_keeps h hs tgt arg
  | stageVerifyDone => exact execStageVerifyDone_keeps h hs
  | stageAbort tgt arg => exact execStageAbort_keeps h hs tgt arg
  | retainedLogWrite => exact execRetainedLogWrite_keeps h hs
  | reload tgt arg => exact execReload_keeps h hs tgt arg
  | restart tgt arg => exact execRestart_keeps h hs tgt arg
  | dieOut tgt arg => exact execDieOut_keeps h hs tgt arg
  | diePwrOn tgt arg => exact execDiePwrOn_keeps h hs tgt arg
  | diePwrOff tgt arg => exact execDiePwrOff_keeps h hs tgt arg
  | dieInit tgt arg => exact execDieInit_keeps h hs tgt arg
  | dieJoin tgt arg => exact execDieJoin_keeps h hs tgt arg
  | force tgt arg => exact execForce_keeps h hs tgt arg
  | laneRetrain tgt arg => exact execLaneRetrain_keeps h hs tgt arg
  | dieEventWord n w => exact execDieEventWord_keeps h hs n w
  | eventRaise id data => exact execEventRaise_keeps h hs id data
  | datapathParityFault code k slot => exact execDatapathParityFault_keeps h hs code k slot
  | vinWarnFall vin => exact execVinWarnFall_keeps h hs vin
  | vinWarnRelease vin => exact execVinWarnRelease_keeps h hs vin
  | brownoutResume => exact execBrownoutResume_keeps h hs
  | vinResetFall vin => exact execVinResetFall_keeps h hs vin
  | railFault r v => exact execRailFault_keeps h hs r v
  | railReset r => exact execRailReset_keeps h hs r
  | rstNLow => exact execRstNLow_keeps h hs
  | caseTempRead temp vin => exact execCaseTempRead_keeps h hs temp vin
  | caseOvertempReset => exact execCaseOvertempReset_keeps h hs
  | dieRailLimit f vsa vsd => exact execDieRailLimit_keeps h hs f vsa vsd
  | dieRailTrip f => exact execDieRailTrip_keeps h hs f
  | dieRailUv f vsa vsd => exact execDieRailUv_keeps h hs f vsa vsd
  | rootPllRelock => exact execRootPllRelock_keeps h hs
  | diePllLock f => exact execDiePllLock_keeps h hs f
  | flashProgramDone => exact execFlashProgramDone_keeps h hs
  | dimmedDcOn k => exact execDimmedDcOn_keeps h hs k
  | onTimeEnd k => exact execOnTimeEnd_keeps h hs k
  | testPulseEnd outB => exact execTestPulseEnd_keeps h hs outB
  | eventNHoldEnd => exact execEventNHoldEnd_keeps h hs

/-- A property that survives every command's footprint, the queue and an edge of ROOT survives a step. -/
theorem step_keeps (h : ∀ c, Keeps P (footprint c)) (hp : ∀ (t : State) q, P t → P { t with pending := q })
    (ht : Keeps P tickFootprint) {s : State} (hs : P s) : Next P (step s) := by
  unfold step
  split
  · exact exec_keeps (h _) (hp s _ hs)
  · exact next_next (State.tick_keeps ht hs)

end Sys2Proof.Machine
end

