-- ==== Sys2Proof/Laws/Writes.lean ====
section
/-! SUPPORT. The footprint of each command as bits lies within its row of `commandWrites`. -/

set_option Elab.async false

namespace Sys2Proof.Machine

/-- The bit of each area. -/
def areaBits : List (Nat × Area) :=
  [(0, .mode), (1, .frc), (3, .dies), (4, .chans), (5, .quads), (6, .ingress), (7, .girth), (8, .matrix), (9, .supervisor), (10, .bridle),
    (11, .latigo), (12, .flash), (13, .fabric), (14, .packer), (15, .stirrup), (16, .skive), (17, .tree), (18, .stitch), (19, .harness),
    (20, .burnish), (21, .rosette), (22, .tack), (28, .wire), (23, .line), (24, .freeCtr), (25, .pending)]

/-- The bits of a list of registers. -/
def regBits (l : List Reg) : Nat := l.foldl (fun a r => a ||| 1 <<< r.ctorIdx) 0

theorem mem_of_regBits {l : List Reg} {n : Nat} (h : (regBits l).testBit n = true) : ∃ r ∈ l, r.ctorIdx = n := by
  have go : ∀ (l : List Reg) (a : Nat), (l.foldl (fun a r => a ||| 1 <<< r.ctorIdx) a).testBit n = true →
      a.testBit n = true ∨ ∃ r ∈ l, r.ctorIdx = n := by
    intro l
    induction l with
    | nil => exact fun a h => .inl h
    | cons r l ih =>
      intro a h
      rcases ih _ h with h | ⟨q, hq, e⟩
      · rw [Nat.testBit_or, Bool.or_eq_true] at h
        rcases h with h | h
        · exact .inl h
        · rw [Nat.one_shiftLeft, Nat.testBit_two_pow] at h
          exact .inr ⟨r, List.mem_cons_self, of_decide_eq_true h⟩
      · exact .inr ⟨q, List.mem_cons_of_mem _ hq, e⟩
  rcases go l 0 h with h | h
  · simp at h
  · exact h

/-- What the bits of `m` allow lies within `w`. -/
def covers (m : Nat) (w : Footprint) : Bool :=
  (w.anyReg || (m >>> 32) &&& regBits w.regs == m >>> 32) &&
  (!m.testBit 30 || w.anyReg) && (!m.testBit 29 || w.events) && (!m.testBit 26) &&
  (!m.testBit 27 || (w.parts.contains .tree && w.parts.contains .quads)) &&
  (!m.testBit 2 || ((w.anyReg || w.clears) && w.parts.contains .chans && w.parts.contains .quads)) &&
  areaBits.all (fun x => !m.testBit x.1 || w.parts.contains x.2)

/-- A register whose bit is set is in the row, or the row allows any register. -/
theorem covers_reg {m : Nat} {w : Footprint} (h : covers m w = true) {r : Reg} (hr : m.testBit (32 + r.ctorIdx) = true) :
    w.anyReg = true ∨ r ∈ w.regs := by
  simp only [covers, Bool.and_eq_true, Bool.or_eq_true, beq_iff_eq] at h
  obtain ⟨⟨⟨⟨⟨⟨h, -⟩, -⟩, -⟩, -⟩, -⟩, -⟩ := h
  refine h.imp_right fun h => ?_
  have hb : (regBits w.regs).testBit r.ctorIdx = true := by
    have := congrArg (fun n => n.testBit r.ctorIdx) h
    simp only [Nat.testBit_and, Nat.testBit_shiftRight, hr, Bool.true_and] at this
    exact this
  obtain ⟨q, hq, e⟩ := mem_of_regBits hb
  exact Reg.ctorIdx_inj e ▸ hq

theorem covers_footprint (c : Instr) (h : (commandWrites c).reset = false) : covers (footprint c) (commandWrites c) = true := by
  cases c with
  | powerOn => exact absurd h (fun e => Bool.noConfusion e)
  | vinSupervisorLoss => exact (by decide +kernel : covers 0x1 { parts := [.mode] } = true)
  | resetRelease => exact (by decide +kernel : covers 0x800000000000000000000000000000000000000000000000080000000000000000000000000000000203 { regs := [.GIR_STAT, .ID_MODULE], parts := [.mode, .frc, .supervisor] } = true)
  | fillComplete => exact (by decide +kernel : covers 0x200000000000000000000000000000000000280a0021 { regs := [.HAR_STAT], parts := [.mode, .quads, .tree, .harness], events := true } = true)
  | bootImageRead => exact (by decide +kernel : covers 0x800147423ffe04041cc0408058c19c73d100298034ffe0000c4027800620b81ee12737c77ffe607bd9b8 { parts := [.dies, .chans, .quads, .girth, .matrix, .latigo, .flash, .packer, .stirrup, .skive, .tree, .harness, .burnish, .rosette, .tack], events := true, anyReg := true } = true)
  | bootComplete => exact (by decide +kernel : covers 0xbf000004c0100064000000000000000013fb000000000000000000000000000000000000000001200fcd01 { regs := [.PRS_STATE, .TRE_CNT0, .TRE_CNT1, .TRE_CNT3, .TRE_CNT4, .TRE_CNT5, .TRE_LOGPTR, .TRE_LOGA, .TRE_LOGB, .TRE_REPAIR, .TRE_ROWHOT, .BRD_STAT, .BRD_DEG, .BRD_SET, .LAT_STAT, .LAT_LOCK, .LAT_RETAIN, .EVM_STAT, .ID_IMAGE_LO, .ID_IMAGE_HI, .ID_IMAGE_SEQ, .ID_IMAGE_LEN, .ID_BOOT, .ID_IMGMEAS, .ID_LIVEMEAS], parts := [.mode, .matrix, .bridle, .latigo, .packer, .stirrup, .skive, .tree, .stitch, .harness], events := true } = true)
  | anodeSlewStep => exact (by decide +kernel : covers 0x400000010 { regs := [.PIX_ANODE], parts := [.chans] } = true)
  | triggerDiscFire => exact (by decide +kernel : covers 0x30 { parts := [.chans, .quads] } = true)
  | thresholdEval => exact (by decide +kernel : covers 0x100000000000000000000000000000000000000000000000000000000000000000000008000100028 { regs := [.PIX_TSTAT, .EVD_PEND], parts := [.dies, .quads, .burnish] } = true)
  | pixTrgpolWrite => exact (by decide +kernel : covers 0x9000002010 { regs := [.PIX_TRGPOL, .PIX_TSTAT], parts := [.chans, .fabric] } = true)
  | accLoad => exact (by decide +kernel : covers 0x2000002010 { regs := [.PIX_TLOOP], parts := [.chans, .fabric] } = true)
  | injArm => exact (by decide +kernel : covers 0x200000002008 { regs := [.PIXD_INJ], parts := [.dies, .fabric] } = true)
  | injFire => exact (by decide +kernel : covers 0x20001ec200000000002018c018 { regs := [.STR_CALT, .STR_STAT, .STR_TRIGNO, .STR_CNT0, .STR_CNT1, .STR_CNT2, .STR_CNT3, .SP_CNT2], parts := [.dies, .chans, .packer, .stirrup, .harness, .burnish], events := true } = true)
  | injRepClear => exact (by decide +kernel : covers 0x200000002008 { regs := [.PIXD_INJ], parts := [.dies, .fabric] } = true)
  | ovrEnter => exact (by decide +kernel : covers 0x100000000000000c04000000000000000000000000000000000000000000000000000020000000038 { regs := [.PIX_OVR, .BURD_HSEL, .BURD_HSHORT, .BURD_HIST, .EVD_PEND], parts := [.dies, .chans, .quads] } = true)
  | ovrRelease => exact (by decide +kernel : covers 0xc04000000000000000000000000000000000000000000000000000020000000030 { regs := [.PIX_OVR, .BURD_HSEL, .BURD_HSHORT, .BURD_HIST], parts := [.chans, .quads] } = true)
  | ovrLong => exact (by decide +kernel : covers 0x100000000000000000000000000000000000000000000000000000000000000000000020000000038 { regs := [.PIX_OVR, .EVD_PEND], parts := [.dies, .chans, .quads] } = true)
  | recoveryWindowEnd => exact (by decide +kernel : covers 0x20000000010 { regs := [.PIX_OVR], parts := [.chans] } = true)
  | neighbourWindowEnd => exact (by decide +kernel : covers 0x10 { parts := [.chans] } = true)
  | leadCapture => exact (by decide +kernel : covers 0xc04000000000000000000000000000000000000000000000000004000000000030 { regs := [.AWL_STAT, .BURD_HSEL, .BURD_HSHORT, .BURD_HIST], parts := [.chans, .quads] } = true)
  | trailCapture => exact (by decide +kernel : covers 0xc04000000000000000000000000000000000000000000000000000000000100030 { regs := [.BURD_HSEL, .BURD_HSHORT, .BURD_HIST], parts := [.chans, .quads, .burnish] } = true)
  | totSaturate => exact (by decide +kernel : covers 0x100030 { parts := [.chans, .quads, .burnish] } = true)
  | deadTimeEnd => exact (by decide +kernel : covers 0x10 { parts := [.chans] } = true)
  | creditAdd => exact (by decide +kernel : covers 0x4000000000010 { regs := [.AWL_STAT], parts := [.chans] } = true)
  | intervalTimeout => exact (by decide +kernel : covers 0x808000000000030 { regs := [.AWL_IVLSTAT, .AWLD_CSTAT], parts := [.chans, .quads] } = true)
  | completionEntry => exact (by decide +kernel : covers 0x100000000000000000000000000000000000000000000000000000000000000000818000000000038 { regs := [.AWL_IVLSTAT, .AWL_IVLSTAT2, .AWLD_CSTAT, .EVD_PEND], parts := [.dies, .chans, .quads] } = true)
  | markerEntry => exact (by decide +kernel : covers 0x800000000000020 { regs := [.AWLD_CSTAT], parts := [.quads] } = true)
  | entryToQueue => exact (by decide +kernel : covers 0x800000000000020 { regs := [.AWLD_CSTAT], parts := [.quads] } = true)
  | awlCommit => exact (by decide +kernel : covers 0x40000000002000 { regs := [.AWLD_CTRL], parts := [.fabric] } = true)
  | rngRestart => exact (by decide +kernel : covers 0x2000000000002010 { regs := [.RNG_STAT], parts := [.chans, .fabric] } = true)
  | restartAll => exact (by decide +kernel : covers 0x12000000000002010 { regs := [.RNG_STAT, .RNGD_CTRL], parts := [.chans, .fabric] } = true)
  | ringFull => exact (by decide +kernel : covers 0x2000000000000010 { regs := [.RNG_STAT], parts := [.chans] } = true)
  | frz0 => exact (by decide +kernel : covers 0x100000000000000000000000000000000800000000000000000000000000000000000000000080028 { regs := [.SHL_CNT, .EVD_PEND], parts := [.dies, .quads, .harness] } = true)
  | freezeDecode => exact (by decide +kernel : covers 0x100000000000000000000000000000000800000000000000000000000000000084000000000080038 { regs := [.RNG_CNT, .RNGD_STAT, .SHL_CNT, .EVD_PEND], parts := [.dies, .chans, .quads, .harness] } = true)
  | freezeApply => exact (by decide +kernel : covers 0x100000000000000000000000000000000000000000000000000000000000000084000000000000038 { regs := [.RNG_CNT, .RNGD_STAT, .EVD_PEND], parts := [.dies, .chans, .quads] } = true)
  | transferEnd => exact (by decide +kernel : covers 0x10 { parts := [.chans] } = true)
  | conversionEnd => exact (by decide +kernel : covers 0x100000000000000000000000000000000000000000000000000000000000000100000000000100038 { regs := [.RNGD_RAMP, .EVD_PEND], parts := [.dies, .chans, .quads, .burnish] } = true)
  | recordPush => exact (by decide +kernel : covers 0x30 { parts := [.chans, .quads] } = true)
  | recWaitExpire => exact (by decide +kernel : covers 0x20 { parts := [.quads] } = true)
  | csWordSend => exact (by decide +kernel : covers 0x10800020 { parts := [.quads, .wire, .line] } = true)
  | shathenAlignSend => exact (by decide +kernel : covers 0x10800028 { parts := [.dies, .quads, .wire, .line] } = true)
  | primitiveEnter => exact (by decide +kernel : covers 0x88000 { parts := [.stirrup, .harness] } = true)
  | sideWordEnter => exact (by decide +kernel : covers 0x220000000000000000000080000000000000020088000 { regs := [.STR_NBR, .HAR_STAT, .HAR_CNT2], parts := [.stirrup, .harness], events := true } = true)
  | binEvaluate => exact (by decide +kernel : covers 0x20001ec000000000002008c000 { regs := [.STR_STAT, .STR_TRIGNO, .STR_CNT0, .STR_CNT1, .STR_CNT2, .STR_CNT3, .SP_CNT2], parts := [.packer, .stirrup, .harness], events := true } = true)
  | trig => exact (by decide +kernel : covers 0x20001ec000000000002088c000 { regs := [.STR_STAT, .STR_TRIGNO, .STR_CNT0, .STR_CNT1, .STR_CNT2, .STR_CNT3, .SP_CNT2], parts := [.packer, .stirrup, .harness, .line], events := true } = true)
  | strForce => exact (by decide +kernel : covers 0x20001ec020000000002008e000 { regs := [.STR_CTRL, .STR_STAT, .STR_TRIGNO, .STR_CNT0, .STR_CNT1, .STR_CNT2, .STR_CNT3, .SP_CNT2], parts := [.fabric, .packer, .stirrup, .harness], events := true } = true)
  | autoTrigger => exact (by decide +kernel : covers 0x20001ec000000000002008c000 { regs := [.STR_STAT, .STR_TRIGNO, .STR_CNT0, .STR_CNT1, .STR_CNT2, .STR_CNT3, .SP_CNT2], parts := [.packer, .stirrup, .harness], events := true } = true)
  | triggerDecide => exact (by decide +kernel : covers 0x20001ec000000000002008c000 { regs := [.STR_STAT, .STR_TRIGNO, .STR_CNT0, .STR_CNT1, .STR_CNT2, .STR_CNT3, .SP_CNT2], parts := [.packer, .stirrup, .harness], events := true } = true)
  | freezeSend => exact (by decide +kernel : covers 0x2000000000000000000000000000000000000030880000 { regs := [.HAR_CNT6], parts := [.harness, .wire, .line], events := true } = true)
  | recordArrive => exact (by decide +kernel : covers 0x11db3000000000000000000000000003e0400000000000200fc040 { regs := [.STR_STAT, .STR_CNT4, .STR_CNT5, .STR_CNT6, .STR_POOLDESC, .STR_POOLGRAN, .ING_STAT, .ING_CNT, .TRE_CNT0, .TRE_CNT1, .TRE_CNT3, .TRE_CNT4, .TRE_LOGPTR, .TRE_LOGA, .TRE_LOGB, .TRE_ROWHOT], parts := [.ingress, .packer, .stirrup, .skive, .tree, .stitch, .harness], events := true } = true)
  | refusalArrive => exact (by decide +kernel : covers 0x11d13000000000000000000000000000f0400000000000200fc040 { regs := [.STR_STAT, .STR_CNT3, .STR_CNT4, .STR_CNT5, .STR_CNT6, .ING_STAT, .ING_CNT, .TRE_CNT0, .TRE_CNT4, .TRE_LOGPTR, .TRE_LOGA, .TRE_LOGB, .TRE_ROWHOT], parts := [.ingress, .packer, .stirrup, .skive, .tree, .stitch, .harness], events := true } = true)
  | ctxTimeout => exact (by decide +kernel : covers 0x11d13000000000000000000000000000e0400000000000200fc040 { regs := [.STR_STAT, .STR_CNT4, .STR_CNT5, .STR_CNT6, .ING_STAT, .ING_CNT, .TRE_CNT0, .TRE_CNT4, .TRE_LOGPTR, .TRE_LOGA, .TRE_LOGB, .TRE_ROWHOT], parts := [.ingress, .packer, .stirrup, .skive, .tree, .stitch, .harness], events := true } = true)
  | strClassWrite => exact (by decide +kernel : covers 0x60000000000020002000 { regs := [.STR_CLASS, .STR_STAT], parts := [.fabric], events := true } = true)
  | strMapdataAccess => exact (by decide +kernel : covers 0x30000000000000000000a000 { regs := [.STR_MAPADDR, .STR_MAPDATA], parts := [.fabric, .stirrup] } = true)
  | fbClear => exact (by decide +kernel : covers 0x20001ec020000000002008e000 { regs := [.STR_CTRL, .STR_STAT, .STR_TRIGNO, .STR_CNT0, .STR_CNT1, .STR_CNT2, .STR_CNT3, .SP_CNT2], parts := [.fabric, .packer, .stirrup, .harness], events := true } = true)
  | slotStrobe => exact (by decide +kernel : covers 0x51000000002000a008f0000000011db301400030000300800003079bc03e0400202c2a108217fc9f8 { regs := [.PIX_TDISC, .PIX_INJ, .PIXD_INJ, .AWL_TAPSEL, .AWL_OFFS, .AWLD_CTRL, .AWLD_BIAS, .AWLD_PHASE, .RNGD_APER, .STR_STAT, .STR_CNT4, .STR_CNT5, .STR_CNT6, .STR_POOLDESC, .STR_POOLGRAN, .SP_STAT, .SP_CNT0, .SP_CNT1, .SP_CNT2, .SP_DLOST, .SP_SEQ, .STI_EMIT_LO, .STI_EMIT_HI, .STI_WIN, .STI_CNT0, .STI_CNT6, .STI_CNT7, .GIR_STAT, .GIR_XTAL_LO, .GIR_XTAL_HI, .GIR_CNT0, .GIR_CNT1, .HAR_RXL_PRBS, .HAR_TXL_PRBS, .ING_STAT, .ING_CNT, .TRE_CNT0, .TRE_CNT1, .TRE_CNT3, .TRE_CNT4, .TRE_LOGPTR, .TRE_LOGA, .TRE_LOGB, .TRE_ROWHOT, .BUR_STAT, .BUR_CNT0, .BUR_CNT1, .BUR_CNT2, .BURD_PHMEAS, .CAL_CHQ, .RSE_STAT, .RSE_CHST, .EVM_VOTE, .EVD_PEND, .EVD_VOTE], parts := [.dies, .chans, .quads, .ingress, .girth, .matrix, .latigo, .packer, .stirrup, .skive, .tree, .stitch, .harness, .burnish, .rosette, .tack, .freeCtr], events := true } = true)
  | markerArrive => exact (by decide +kernel : covers 0x11db300000000000000000003001bc03e0400000000000200fc040 { regs := [.STR_STAT, .STR_CNT4, .STR_CNT5, .STR_CNT6, .STR_POOLDESC, .STR_POOLGRAN, .SP_STAT, .SP_CNT0, .SP_CNT1, .SP_CNT2, .SP_DLOST, .SP_SEQ, .STI_CNT6, .STI_CNT7, .ING_STAT, .ING_CNT, .TRE_CNT0, .TRE_CNT1, .TRE_CNT3, .TRE_CNT4, .TRE_LOGPTR, .TRE_LOGA, .TRE_LOGB, .TRE_ROWHOT], parts := [.ingress, .packer, .stirrup, .skive, .tree, .stitch, .harness], events := true } = true)
  | markerWaitExpire => exact (by decide +kernel : covers 0x11db300000000000000000003001bc03e0400000000000200fc040 { regs := [.STR_STAT, .STR_CNT4, .STR_CNT5, .STR_CNT6, .STR_POOLDESC, .STR_POOLGRAN, .SP_STAT, .SP_CNT0, .SP_CNT1, .SP_CNT2, .SP_DLOST, .SP_SEQ, .STI_CNT6, .STI_CNT7, .ING_STAT, .ING_CNT, .TRE_CNT0, .TRE_CNT1, .TRE_CNT3, .TRE_CNT4, .TRE_LOGPTR, .TRE_LOGA, .TRE_LOGB, .TRE_ROWHOT], parts := [.ingress, .packer, .stirrup, .skive, .tree, .stitch, .harness], events := true } = true)
  | hitGateEval => exact (by decide +kernel : covers 0x300108000000000000000020014000 { regs := [.SP_CNT0, .SP_SEQ, .STI_CNT6, .STI_CNT7], parts := [.packer, .skive], events := true } = true)
  | slotPackHit => exact (by decide +kernel : covers 0x11db100000000000000000000000280000000000000000200f4040 { regs := [.SP_CNT0, .SP_CNT2, .ING_STAT, .TRE_CNT0, .TRE_CNT1, .TRE_CNT3, .TRE_CNT4, .TRE_LOGPTR, .TRE_LOGA, .TRE_LOGB, .TRE_ROWHOT], parts := [.ingress, .packer, .skive, .tree, .stitch, .harness], events := true } = true)
  | hitConvert => exact (by decide +kernel : covers 0x300000000000000000000020004000 { regs := [.STI_CNT6, .STI_CNT7], parts := [.packer], events := true } = true)
  | ambientCollect => exact (by decide +kernel : covers 0x40000000000000000000004000 { regs := [.SP_CNT3], parts := [.packer] } = true)
  | ciFrameReceive => exact (by decide +kernel : covers 0x4200000000000000be4000000000000000000210c0000 { regs := [.STI_STAT, .STI_WIN, .STI_CNT0, .STI_CNT1, .STI_CNT2, .STI_CNT3, .STI_CNT5, .HAR_STAT, .HAR_CNT3], parts := [.stitch, .harness, .freeCtr], events := true } = true)
  | ciSlotEndReceive => exact (by decide +kernel : covers 0x200000000000000204000000000000000000000c0000 { regs := [.STI_STAT, .STI_CNT3, .HAR_STAT], parts := [.stitch, .harness] } = true)
  | ciPortEnable => exact (by decide +kernel : covers 0x600000000000000000000002000 { regs := [.STI_CTRL, .STI_STAT], parts := [.fabric] } = true)
  | ciPortDisable => exact (by decide +kernel : covers 0x600000000000000000000002000 { regs := [.STI_CTRL, .STI_STAT], parts := [.fabric] } = true)
  | mergeDeadlineExpire => exact (by decide +kernel : covers 0x40000 { parts := [.stitch] } = true)
  | groupReady => exact (by decide +kernel : covers 0x30000000000000043e000000000000000000200c0000 { regs := [.STI_CTRL, .STI_STAT, .STI_EMIT_LO, .STI_EMIT_HI, .STI_WIN, .STI_CNT4, .HAR_CTRL, .HAR_STAT], parts := [.stitch, .harness], events := true } = true)
  | blockEnterSkive => exact (by decide +kernel : covers 0x780482400030000000000000020058000 { regs := [.STR_POOLDESC, .STR_POOLGRAN, .STI_STAT, .STI_WIN, .STI_CNT5, .STI_SHED, .SKV_IN_LO, .SKV_IN_HI, .SKV_OUT_LO, .SKV_OUT_HI], parts := [.stirrup, .skive, .stitch], events := true } = true)
  | partVerifyDone => exact (by decide +kernel : covers 0x61c482400030000000000000020058000 { regs := [.STR_POOLDESC, .STR_POOLGRAN, .STI_STAT, .STI_WIN, .STI_CNT5, .STI_SHED, .SKV_STAT, .SKV_VFAIL, .SKV_CNT0, .SKV_OUT_LO, .SKV_OUT_HI], parts := [.stirrup, .skive, .stitch], events := true } = true)
  | storedPathLeave => exact (by decide +kernel : covers 0x600482400030000000000000020058000 { regs := [.STR_POOLDESC, .STR_POOLGRAN, .STI_STAT, .STI_WIN, .STI_CNT5, .STI_SHED, .SKV_OUT_LO, .SKV_OUT_HI], parts := [.stirrup, .skive, .stitch], events := true } = true)
  | backlogCheck => exact (by decide +kernel : covers 0x40000000000000000000000020010000 { regs := [.SKV_CNT2], parts := [.skive], events := true } = true)
  | engineReturn => exact (by decide +kernel : covers 0x4000000000000000000000000012000 { regs := [.SKV_STAT], parts := [.fabric, .skive] } = true)
  | engineEnableWrite => exact (by decide +kernel : covers 0x800000000000000000000000012000 { regs := [.SKV_CTRL], parts := [.fabric, .skive] } = true)
  | inspGo => exact (by decide +kernel : covers 0x4000000000000000000000000000002000 { regs := [.SKV_INSP_CTRL], parts := [.fabric] } = true)
  | inspDone => exact (by decide +kernel : covers 0x3c020000000000000000000000020000000 { regs := [.SKV_CNT1, .SKV_INSP_CTRL, .SKV_INSP_RES, .SKV_INSP_OCRC, .SKV_INSP_FOFF], events := true } = true)
  | refInputLost => exact (by decide +kernel : covers 0x25000000080000000000000000000000000020080080 { regs := [.GIR_STAT, .GIR_CNT0, .GIR_CNT2, .HAR_STAT], parts := [.girth, .harness], events := true } = true)
  | refInputQualified => exact (by decide +kernel : covers 0x240000000c0000000000000000000000000020080080 { regs := [.GIR_CTRL, .GIR_STAT, .GIR_CNT2, .HAR_STAT], parts := [.girth, .harness], events := true } = true)
  | forceHold => exact (by decide +kernel : covers 0x24ffe0000c0000000000000000000000000020082080 { regs := [.GIR_CTRL, .GIR_STAT, .GIR_SNAP_SLOT_LO, .GIR_SNAP_SLOT_HI, .GIR_SNAP_SIG_LO, .GIR_SNAP_SIG_HI, .GIR_SNAP_REF_LO, .GIR_SNAP_REF_HI, .GIR_SNAP_RATE_LO, .GIR_SNAP_RATE_HI, .GIR_SNAP_OFFS0, .GIR_SNAP_OFFS1, .GIR_SNAP_OFFS2, .GIR_CNT2, .HAR_STAT], parts := [.girth, .fabric, .harness], events := true } = true)
  | sync => exact (by decide +kernel : covers 0x1001800080000000000000000000000000020880080 { regs := [.GIR_STAT, .GIR_THETA, .GIR_SYNCSEQ, .GIR_CNT0], parts := [.girth, .harness, .line], events := true } = true)
  | syncTimeout => exact (by decide +kernel : covers 0x20000080 { parts := [.girth], events := true } = true)
  | pllUnlock => exact (by decide +kernel : covers 0x80000000000000000000000000020000000 { regs := [.GIR_STAT], events := true } = true)
  | echoReq => exact (by decide +kernel : covers 0x1000000000000000000000000000000000000020880080 { regs := [.HAR_CNT5], parts := [.girth, .harness, .line], events := true } = true)
  | echoSend => exact (by decide +kernel : covers 0x38000000000000000000000000000000000030884080 { regs := [.GIR_CNT3, .HAR_CTRL, .HAR_STAT], parts := [.girth, .packer, .harness, .wire, .line], events := true } = true)
  | echoReceive => exact (by decide +kernel : covers 0x8000000000000000000000000000000000000084000 { regs := [.GIR_CNT3], parts := [.packer, .harness] } = true)
  | girSnap => exact (by decide +kernel : covers 0x24ffe0000c0000000000000000000000000020082080 { regs := [.GIR_CTRL, .GIR_STAT, .GIR_SNAP_SLOT_LO, .GIR_SNAP_SLOT_HI, .GIR_SNAP_SIG_LO, .GIR_SNAP_SIG_HI, .GIR_SNAP_REF_LO, .GIR_SNAP_REF_HI, .GIR_SNAP_RATE_LO, .GIR_SNAP_RATE_HI, .GIR_SNAP_OFFS0, .GIR_SNAP_OFFS1, .GIR_SNAP_OFFS2, .GIR_CNT2, .HAR_STAT], parts := [.girth, .fabric, .harness], events := true } = true)
  | srLowRead => exact (by decide +kernel : covers 0x14722200000041cc0418058c19c73db12298034ffe7f00c4784801e20b01ee127f7c77ffe617fe9f8 { parts := [.dies, .chans, .quads, .ingress, .girth, .matrix, .latigo, .fabric, .packer, .stirrup, .skive, .tree, .stitch, .harness, .burnish, .rosette, .tack, .freeCtr], events := true, anyReg := true } = true)
  | srHighRead => exact (by decide +kernel : covers 0x14722200000041cc0418058c19c73db12298034ffe7f00c4784801e20b01ee127f7c77ffe617fe9f8 { parts := [.dies, .chans, .quads, .ingress, .girth, .matrix, .latigo, .fabric, .packer, .stirrup, .skive, .tree, .stitch, .harness, .burnish, .rosette, .tack, .freeCtr], events := true, anyReg := true } = true)
  | rcRead => exact (by decide +kernel : covers 0x14722200000041cc0418058c19c73db12298034ffe7f00c4784801e20b01ee127f7c77ffe617fe9f8 { parts := [.dies, .chans, .quads, .ingress, .girth, .matrix, .latigo, .fabric, .packer, .stirrup, .skive, .tree, .stitch, .harness, .burnish, .rosette, .tack, .freeCtr], events := true, anyReg := true } = true)
  | laneClockLoss => exact (by decide +kernel : covers 0x100000000000000000000000000000000c300200000000800000000000000000000000000200840a8 { regs := [.GIR_STAT, .HAR_STAT, .HAR_RXL_STAT, .HAR_RXL_CNT, .SHL_STAT, .SHL_CNT, .EVD_PEND], parts := [.dies, .quads, .girth, .packer, .harness], events := true } = true)
  | laneClockReturn => exact (by decide +kernel : covers 0x410000000000080000000000000000000000000000080080 { regs := [.GIR_STAT, .HAR_RXL_STAT, .SHL_STAT], parts := [.girth, .harness] } = true)
  | laneLock => exact (by decide +kernel : covers 0x410000000000000000000000000000000000000000000028 { regs := [.HAR_RXL_STAT, .SHL_STAT], parts := [.dies, .quads] } = true)
  | laneLockLoss => exact (by decide +kernel : covers 0x100000000000000000000000000000000c30020000000000000000000000000000000000020084028 { regs := [.HAR_STAT, .HAR_RXL_STAT, .HAR_RXL_CNT, .SHL_STAT, .SHL_CNT, .EVD_PEND], parts := [.dies, .quads, .packer, .harness], events := true } = true)
  | slipRequest => exact (by decide +kernel : covers 0x10000000000000000000000000000000000000020000000 { regs := [.HAR_RXL_STAT], events := true } = true)
  | slip => exact (by decide +kernel : covers 0x10000000000000000000000000000000000000020002000 { regs := [.HAR_RXL_STAT], parts := [.fabric], events := true } = true)
  | laneEnable => exact (by decide +kernel : covers 0x18000000000000000000000000000000000000000002000 { regs := [.HAR_RXL_CTRL, .HAR_RXL_STAT], parts := [.fabric] } = true)
  | laneDisable => exact (by decide +kernel : covers 0x18020000000000000000000000000000000000020086000 { regs := [.HAR_STAT, .HAR_RXL_CTRL, .HAR_RXL_STAT], parts := [.fabric, .packer, .harness], events := true } = true)
  | badControlBlock => exact (by decide +kernel : covers 0x20800000000000000000000000000000000000020000000 { regs := [.HAR_CNT4, .HAR_RXL_CNT], events := true } = true)
  | alignReceive => exact (by decide +kernel : covers 0x20000000000000000400000040000000000020088000 { regs := [.STR_STAT, .STI_STAT, .HAR_STAT], parts := [.stirrup, .harness], events := true } = true)
  | portUp => exact (by decide +kernel : covers 0x20000000000000000400000000000000000020000000 { regs := [.STI_STAT, .HAR_STAT], events := true } = true)
  | portDown => exact (by decide +kernel : covers 0x20000000000000000400000040000000000020088000 { regs := [.STR_STAT, .STI_STAT, .HAR_STAT], parts := [.stirrup, .harness], events := true } = true)
  | shathenLinkLost => exact (by decide +kernel : covers 0x20084000 { parts := [.packer, .harness], events := true } = true)
  | eqAdapt => exact (by decide +kernel : covers 0x10000000000000000000000000000000000000020080000 { regs := [.HAR_RXL_STAT], parts := [.harness], events := true } = true)
  | loopWrite => exact (by decide +kernel : covers 0x98020000000000000000000000000000000000020086000 { regs := [.HAR_STAT, .HAR_RXL_CTRL, .HAR_RXL_STAT, .HAR_TXL_CTRL], parts := [.fabric, .packer, .harness], events := true } = true)
  | shathenAlignReceive => exact (by decide +kernel : covers 0x24800000000000000000000000000000000000021084000 { regs := [.HAR_CNT4, .HAR_SHLAT, .HAR_RXL_CNT], parts := [.packer, .harness, .freeCtr], events := true } = true)
  | dieRegWr => exact (by decide +kernel : covers 0x14702200000041cc0408058c19c620000a98034ffe0000c4004800620b01ee12737c77ffe607bc9b8 { parts := [.dies, .chans, .quads, .girth, .matrix, .latigo, .packer, .stirrup, .skive, .tree, .harness, .burnish, .rosette, .tack], events := true, anyReg := true } = true)
  | dieRegRd => exact (by decide +kernel : covers 0x10000000000000000000000000011d11280000000000000000000000030000000c0000000610a4078 { parts := [.dies, .chans, .quads, .ingress, .packer, .tree, .harness, .freeCtr], events := true, anyReg := true } = true)
  | tset => exact (by decide +kernel : covers 0x100000000000000000000000000000000c00000000000000000000000000000000000000000080038 { regs := [.SHL_STAT, .SHL_CNT, .EVD_PEND], parts := [.dies, .chans, .quads, .harness] } = true)
  | returnOpUndefined => exact (by decide +kernel : covers 0x100000000000000000000000000000000800000000000000000000000000000000000000000080028 { regs := [.SHL_CNT, .EVD_PEND], parts := [.dies, .quads, .harness] } = true)
  | regAnswer => exact (by decide +kernel : covers 0x14722200000041cc0418058c19c73db12298034ffe7f00c4784801e20b01ee127f7c77ffe617fe9f8 { parts := [.dies, .chans, .quads, .ingress, .girth, .matrix, .latigo, .fabric, .packer, .stirrup, .skive, .tree, .stitch, .harness, .burnish, .rosette, .tack, .freeCtr], events := true, anyReg := true } = true)
  | regTimeout => exact (by decide +kernel : covers 0x14722200000041cc0418058c19c73db1229a034ffe7f00c4784801e20b01ee127f7c77ffe617fe9f8 { parts := [.dies, .chans, .quads, .ingress, .girth, .matrix, .latigo, .fabric, .packer, .stirrup, .skive, .tree, .stitch, .harness, .burnish, .rosette, .tack, .freeCtr], events := true, anyReg := true } = true)
  | alignRowSend => exact (by decide +kernel : covers 0x30000000000000000000000000000000000010880000 { regs := [.HAR_CTRL, .HAR_STAT], parts := [.harness, .wire, .line] } = true)
  | sideSend => exact (by decide +kernel : covers 0x30000000000000000000000000000000000030880000 { regs := [.HAR_CTRL, .HAR_STAT], parts := [.harness, .wire, .line], events := true } = true)
  | frameSend => exact (by decide +kernel : covers 0x3b0000000000000000000000000000000000030880001 { regs := [.HAR_CTRL, .HAR_STAT, .HAR_CNT0, .HAR_CNT1, .HAR_CNT2], parts := [.mode, .harness, .wire, .line], events := true } = true)
  | builderRestart => exact (by decide +kernel : covers 0x30000000000000000000000000000000000020082000 { regs := [.HAR_CTRL, .HAR_STAT], parts := [.fabric, .harness], events := true } = true)
  | mirrorWrite => exact (by decide +kernel : covers 0x30000000000000000000000000000000000020082000 { regs := [.HAR_CTRL, .HAR_STAT], parts := [.fabric, .harness], events := true } = true)
  | tmiMessageDiscard => exact (by decide +kernel : covers 0x1800000000000000000000000000000000000020880000 { regs := [.HAR_CNT4, .HAR_CNT5], parts := [.harness, .line], events := true } = true)
  | cmdUnknown => exact (by decide +kernel : covers 0x20884000 { parts := [.packer, .harness, .line], events := true } = true)
  | tmiRegWr => exact (by decide +kernel : covers 0x14722200000041cc0418058c19c73db12298034ffe7f00c4784801e20b01ee127f7c77ffe61ffe9f8 { parts := [.dies, .chans, .quads, .ingress, .girth, .matrix, .latigo, .fabric, .packer, .stirrup, .skive, .tree, .stitch, .harness, .burnish, .rosette, .tack, .line, .freeCtr], events := true, anyReg := true } = true)
  | tmiRegRd => exact (by decide +kernel : covers 0x14722200000041cc0418058c19c73db12298034ffe7f00c4784801e20b01ee127f7c77ffe61ffe9f8 { parts := [.dies, .chans, .quads, .ingress, .girth, .matrix, .latigo, .fabric, .packer, .stirrup, .skive, .tree, .stitch, .harness, .burnish, .rosette, .tack, .line, .freeCtr], events := true, anyReg := true } = true)
  | registerWrite => exact (by decide +kernel : covers 0x14722200000041cc0418058c19c73db12298034ffe7f00c4784801e20b01ee127f7c77ffe617fe9f8 { parts := [.dies, .chans, .quads, .ingress, .girth, .matrix, .latigo, .fabric, .packer, .stirrup, .skive, .tree, .stitch, .harness, .burnish, .rosette, .tack, .freeCtr], events := true, anyReg := true } = true)
  | hitQueueRead => exact (by decide +kernel : covers 0x20000010000000000000000000000000000000c00000000000000000000000000000000c000000010800028 { regs := [.RNG_CNT, .RNG_CNT2, .HQD_CNT, .HQD_CNTB, .EVD_PEND, .HQD_MEM], parts := [.dies, .quads, .wire, .line] } = true)
  | ingressPush => exact (by decide +kernel : covers 0x11db300000000000000000003001bc03e0400000000000200fc040 { regs := [.STR_STAT, .STR_CNT4, .STR_CNT5, .STR_CNT6, .STR_POOLDESC, .STR_POOLGRAN, .SP_STAT, .SP_CNT0, .SP_CNT1, .SP_CNT2, .SP_DLOST, .SP_SEQ, .STI_CNT6, .STI_CNT7, .ING_STAT, .ING_CNT, .TRE_CNT0, .TRE_CNT1, .TRE_CNT3, .TRE_CNT4, .TRE_LOGPTR, .TRE_LOGA, .TRE_LOGB, .TRE_ROWHOT], parts := [.ingress, .packer, .stirrup, .skive, .tree, .stitch, .harness], events := true } = true)
  | dropCommand => exact (by decide +kernel : covers 0x11d138000000000000000000000000000000000000000020024060 { regs := [.HQD_CNTB, .ING_STAT, .ING_CNT, .TRE_CNT0, .TRE_CNT4, .TRE_LOGPTR, .TRE_LOGA, .TRE_LOGB, .TRE_ROWHOT], parts := [.quads, .ingress, .packer, .tree], events := true } = true)
  | treeRead => exact (by decide +kernel : covers 0x11db000000000000000000000000000000000000000000200fc000 { regs := [.TRE_CNT0, .TRE_CNT1, .TRE_CNT3, .TRE_CNT4, .TRE_LOGPTR, .TRE_LOGA, .TRE_LOGB, .TRE_ROWHOT], parts := [.packer, .stirrup, .skive, .tree, .stitch, .harness], events := true } = true)
  | treeFullWrite => exact (by decide +kernel : covers 0x11db000000000000000000000000000000000000000000200fc000 { regs := [.TRE_CNT0, .TRE_CNT1, .TRE_CNT3, .TRE_CNT4, .TRE_LOGPTR, .TRE_LOGA, .TRE_LOGB, .TRE_ROWHOT], parts := [.packer, .stirrup, .skive, .tree, .stitch, .harness], events := true } = true)
  | treeByteWrite => exact (by decide +kernel : covers 0x11db000000000000000000000000000000000000000000200fc000 { regs := [.TRE_CNT0, .TRE_CNT1, .TRE_CNT3, .TRE_CNT4, .TRE_LOGPTR, .TRE_LOGA, .TRE_LOGB, .TRE_ROWHOT], parts := [.packer, .stirrup, .skive, .tree, .stitch, .harness], events := true } = true)
  | debugWindowWrite => exact (by decide +kernel : covers 0x14722200000041cc0418058c19c73db12298034ffe7f00c4784801e20b01ee127f7c77ffe617fe9f8 { parts := [.dies, .chans, .quads, .ingress, .girth, .matrix, .latigo, .fabric, .packer, .stirrup, .skive, .tree, .stitch, .harness, .burnish, .rosette, .tack, .freeCtr], events := true, anyReg := true } = true)
  | scrubVisit => exact (by decide +kernel : covers 0x11fd80000000000000000000000000000000000000000020020000 { regs := [.TRE_SCRUB, .TRE_CNT0, .TRE_CNT2, .TRE_CNT3, .TRE_CNT4, .TRE_CNT5, .TRE_LOGPTR, .TRE_LOGA, .TRE_LOGB, .TRE_ROWHOT], parts := [.tree], events := true } = true)
  | treeRepair => exact (by decide +kernel : covers 0x20000000000000000000000000000000000000000000020022000 { regs := [.TRE_REPAIR], parts := [.fabric, .tree], events := true } = true)
  | repairCopyDone => exact (by decide +kernel : covers 0x14722200000041cc0418058c19c73fb12298034ffe7f00c4784801e20b01ee127f7c77ffe617fe9f8 { parts := [.dies, .chans, .quads, .ingress, .girth, .matrix, .latigo, .fabric, .packer, .stirrup, .skive, .tree, .stitch, .harness, .burnish, .rosette, .tack, .freeCtr], events := true, anyReg := true } = true)
  | cic1Output => exact (by decide +kernel : covers 0x10 { parts := [.chans] } = true)
  | firOutput => exact (by decide +kernel : covers 0x78000000000000000000000000000000000000000000000000000038 { regs := [.STPD_BANK, .STPD_FADE, .STPD_MAX, .STPD_SUMM], parts := [.dies, .chans, .quads] } = true)
  | levelEmit => exact (by decide +kernel : covers 0x100000000000000000000000003800000000000000000000000000000000000000000008001000038 { regs := [.PIX_TSTAT, .STP_LEVEL, .STP_FLK, .STP_CNT, .EVD_PEND], parts := [.dies, .chans, .quads, .freeCtr] } = true)
  | stpSync => exact (by decide +kernel : covers 0x200000000000000000000000000000000000000000000000002010 { regs := [.STP_CTRL], parts := [.chans, .fabric] } = true)
  | stpPresetWrite => exact (by decide +kernel : covers 0x200000000000000000000000000000000000000000000000002010 { regs := [.STP_CTRL], parts := [.chans, .fabric] } = true)
  | stpEnable => exact (by decide +kernel : covers 0x200000000000000000000000000000000000000000000000002010 { regs := [.STP_CTRL], parts := [.chans, .fabric] } = true)
  | syncAll => exact (by decide +kernel : covers 0x4000000000000000000000000000000000000000000000000002010 { regs := [.STPD_CTRL], parts := [.chans, .fabric] } = true)
  | stropResetApply => exact (by decide +kernel : covers 0x2800000000000000000000000000000000000000000000000000010 { regs := [.STP_LEVEL, .STP_CNT], parts := [.chans] } = true)
  | coefWrite => exact (by decide +kernel : covers 0x188000000000000000000000000000000000000000000000000002000 { regs := [.STPD_BANK, .STPD_COEF_A, .STPD_COEF_B], parts := [.fabric] } = true)
  | bankRequest => exact (by decide +kernel : covers 0x100000000000000000000000018000000000000000000000000000000000000000000000000002028 { regs := [.STPD_BANK, .STPD_FADE, .EVD_PEND], parts := [.dies, .quads, .fabric] } = true)
  | ambientWordSend => exact (by decide +kernel : covers 0x10800020 { parts := [.quads, .wire, .line] } = true)
  | scanStart => exact (by decide +kernel : covers 0x88000000000000000000000000000000000000000000000000020400000 { regs := [.HK_STAT, .HK_CNT2], parts := [.tack], events := true } = true)
  | scanStepStart => exact (by decide +kernel : covers 0x208000000000000000000000000000000000000000000000000020400000 { regs := [.HK_STAT, .HK_CNT4], parts := [.tack], events := true } = true)
  | visitMake => exact (by decide +kernel : covers 0x100000000000000000000000000000000000000000000000000020400000 { regs := [.HK_CNT3], parts := [.tack], events := true } = true)
  | exReleaseWait => exact (by decide +kernel : covers 0x100000000000000000000000000000000000000000000000000020400000 { regs := [.HK_CNT3], parts := [.tack], events := true } = true)
  | hkConvertEnd => exact (by decide +kernel : covers 0x20000000000000000000000000000000000000000000000000020400000 { regs := [.HK_CNT0], parts := [.tack], events := true } = true)
  | hkCheckEnd => exact (by decide +kernel : covers 0x30000000000000000000000000000000000000000000000000020400000 { regs := [.HK_OPEN, .HK_CNT0], parts := [.tack], events := true } = true)
  | visitEnd => exact (by decide +kernel : covers 0x608000001648000000000000000000000000000000000000000000000000021604000 { regs := [.HK_STAT, .HK_CNT1, .HK_CNT4, .HK_CHCFG, .HK_CHRES, .RSE_STAT, .RSE_TEMPV, .RSE_FAC], parts := [.packer, .rosette, .tack, .freeCtr], events := true } = true)
  | scanStepEnd => exact (by decide +kernel : covers 0x208000000000000000000000000000000000000000000000000020400000 { regs := [.HK_STAT, .HK_CNT4], parts := [.tack], events := true } = true)
  | excWrite => exact (by decide +kernel : covers 0x500000000000000000000000000000000000000000000000000020402000 { regs := [.HK_CNT3, .HK_CHCFG], parts := [.fabric, .tack], events := true } = true)
  | hkChcfgWrite => exact (by decide +kernel : covers 0x500000000000000000000000000000000000000000000000000020402000 { regs := [.HK_CNT3, .HK_CHCFG], parts := [.fabric, .tack], events := true } = true)
  | urgentRequest => exact (by decide +kernel : covers 0x88000000000000000000000000000000000000000000000000020402000 { regs := [.HK_STAT, .HK_CNT2], parts := [.fabric, .tack], events := true } = true)
  | urgentVisitStart => exact (by decide +kernel : covers 0x8000000000000000000000000000000000000000000000000000400000 { regs := [.HK_STAT], parts := [.tack] } = true)
  | tempUpdate => exact (by decide +kernel : covers 0x100000000000000302004000000000000000000000000000000000000000000000000000000100028 { regs := [.BUR_STEP, .BURD_TEMP, .BURD_TLAST0, .BURD_TLAST1, .EVD_PEND], parts := [.dies, .quads, .burnish] } = true)
  | tempStale => exact (by decide +kernel : covers 0x100000000000000002000000000000000000000000000000000000000000000000000000000000028 { regs := [.BURD_TEMP, .EVD_PEND], parts := [.dies, .quads] } = true)
  | calMaxintExpire => exact (by decide +kernel : covers 0x100000 { parts := [.burnish] } = true)
  | calRunRequest => exact (by decide +kernel : covers 0x102000 { parts := [.fabric, .burnish] } = true)
  | cal => exact (by decide +kernel : covers 0x200000000000000000000000000000000000000000000000000000000000000000000000984800 { regs := [.LAT_W], parts := [.latigo, .packer, .harness, .burnish, .line] } = true)
  | calRunStart => exact (by decide +kernel : covers 0x100000000000000f05600000000000000000000000000000000000000000000000020210021300028 { regs := [.PIX_INJ, .PIXD_INJ, .AWL_QUAL, .BUR_CNT0, .BUR_CNT1, .BUR_QUAL, .BURD_HSEL, .BURD_TLAST0, .BURD_TLAST1, .BURD_HSHORT, .BURD_HIST, .EVD_PEND], parts := [.dies, .quads, .burnish, .rosette, .freeCtr], events := true } = true)
  | histogramDone => exact (by decide +kernel : covers 0x100000000000000c05600000000000000000000000000000000000000000000000020000021300028 { regs := [.AWL_QUAL, .BUR_CNT0, .BUR_CNT1, .BUR_QUAL, .BURD_HSEL, .BURD_HSHORT, .BURD_HIST, .EVD_PEND], parts := [.dies, .quads, .burnish, .rosette, .freeCtr], events := true } = true)
  | histogramTimeout => exact (by decide +kernel : covers 0x100000000000000c05e00000000000000000000000000000000000000000000000020000021300028 { regs := [.AWL_QUAL, .BUR_CNT0, .BUR_CNT1, .BUR_CNT2, .BUR_QUAL, .BURD_HSEL, .BURD_HSHORT, .BURD_HIST, .EVD_PEND], parts := [.dies, .quads, .burnish, .rosette, .freeCtr], events := true } = true)
  | injRunEnd => exact (by decide +kernel : covers 0x3081200000000400000000000000000000000000000000000000000000001300018 { regs := [.STP_OFFS, .BUR_CNT0, .BUR_QUAL, .BURD_APEROFS, .CAL_OFFS, .CAL_CHQ], parts := [.dies, .chans, .burnish, .rosette, .freeCtr] } = true)
  | calCommit => exact (by decide +kernel : covers 0x100000000000000000000000000000000000000000000020283000001100000 { regs := [.AWL_TAPSEL_NEXT, .AWL_OFFS, .AWLD_BIAS, .AWLD_PHASE, .RNGD_APER, .BUR_STAT], parts := [.burnish, .freeCtr] } = true)
  | pulseArm => exact (by decide +kernel : covers 0x18000000000000000000000000000000000000000000000000000000000000202000 { regs := [.RSE_STAT, .RSE_PULSE], parts := [.fabric, .rosette] } = true)
  | pulseFire => exact (by decide +kernel : covers 0x5808000000000000000000000000000000000000000020001ec200000000002028c000 { regs := [.STR_CALT, .STR_STAT, .STR_TRIGNO, .STR_CNT0, .STR_CNT1, .STR_CNT2, .STR_CNT3, .SP_CNT2, .RSE_STAT, .RSE_PULSENO, .RSE_CNT0, .RSE_CNT2], parts := [.packer, .stirrup, .harness, .rosette], events := true } = true)
  | pulseStop => exact (by decide +kernel : covers 0x40c000000000000000000000000000000000000000000000000000000000000202000 { regs := [.RSE_CTRL, .RSE_STAT, .RSE_FAC], parts := [.fabric, .rosette] } = true)
  | ldDiagnosis => exact (by decide +kernel : covers 0x22008000000000000000000000000000000000000000000000000000000000020200000 { regs := [.RSE_STAT, .RSE_CNT1, .RSE_CHST], parts := [.rosette], events := true } = true)
  | lampTempTimeout => exact (by decide +kernel : covers 0x8000000000000000000000000000000000000000000000000000000000020000000 { regs := [.RSE_STAT], events := true } = true)
  | proofPulse => exact (by decide +kernel : covers 0x1000000000000000000000000000000000000000000000000000000000000001204000 { regs := [.RSE_CNT0], parts := [.packer, .rosette, .freeCtr] } = true)
  | proofIntervalEnd => exact (by decide +kernel : covers 0x4000000000000000000000000000000000000000000000000000000000000020200000 { regs := [.RSE_CNT2], parts := [.rosette], events := true } = true)
  | lampRestore => exact (by decide +kernel : covers 0x8000000000000000000000000000000000000000000000000000000000000002000 { regs := [.RSE_STAT], parts := [.fabric] } = true)
  | bridleSample => exact (by decide +kernel : covers 0x740000000000000000000000000000000000000000000000000000000000000020000400 { regs := [.BRD_STAT, .BRD_MON, .BRD_DEG, .BRD_SET], parts := [.bridle], events := true } = true)
  | summaryArrive => exact (by decide +kernel : covers 0x440000000000000000000000000000000000000000000000000000000000000020000400 { regs := [.BRD_STAT, .BRD_SET], parts := [.bridle], events := true } = true)
  | summaryStale => exact (by decide +kernel : covers 0x440000000000000000000000000000000000000000000000000000000000000020000400 { regs := [.BRD_STAT, .BRD_SET], parts := [.bridle], events := true } = true)
  | sunGuardRelease => exact (by decide +kernel : covers 0x40000000000000000000000000000000000000000000000000000000000000020000000 { regs := [.BRD_STAT], events := true } = true)
  | descentTimeout => exact (by decide +kernel : covers 0x440000000000000000000000000000000000000000000000000000000000000000000400 { regs := [.BRD_STAT, .BRD_SET], parts := [.bridle] } = true)
  | testPulse => exact (by decide +kernel : covers 0x40000000000000000000000000000000000000000000000000000000000000000000400 { regs := [.BRD_STAT], parts := [.bridle] } = true)
  | feedbackCheck => exact (by decide +kernel : covers 0xc40000000000000000000000000000000000000000000000000000000000000020000400 { regs := [.BRD_STAT, .BRD_SET, .BRD_CNT0], parts := [.bridle], events := true } = true)
  | keyRelease => exact (by decide +kernel : covers 0x90000000040fff740000000000000000000000000000000000000000000000000000000000000020004400 { regs := [.BRD_STAT, .BRD_MON, .BRD_DEG, .BRD_SET, .BRD_CNT1, .BRD_LIM0, .BRD_LIM1, .BRD_LIM2, .BRD_LIM3, .BRD_LIM4, .BRD_LIM5, .BRD_LIM6, .BRD_LIM7, .BRD_LIM8, .BRD_LIM9, .BRD_LIM10, .LAT_CNT2, .ID_BOOT, .ID_LIVEMEAS], parts := [.bridle, .packer], events := true } = true)
  | keyStuck => exact (by decide +kernel : covers 0x40000000000000000000000000000000000000000000000000000000000000020000400 { regs := [.BRD_STAT], parts := [.bridle], events := true } = true)
  | keyStuckClear => exact (by decide +kernel : covers 0x40000000000000000000000000000000000000000000000000000000000000000000000 { regs := [.BRD_STAT] } = true)
  | degTick => exact (by decide +kernel : covers 0x640000000000000000000000000000000000000000000000000000000000000020000400 { regs := [.BRD_STAT, .BRD_DEG, .BRD_SET], parts := [.bridle], events := true } = true)
  | setpointRamp => exact (by decide +kernel : covers 0x400000000000000000000000000000000000000000000000000000000000000000000400 { regs := [.BRD_SET], parts := [.bridle] } = true)
  | bsetFrame => exact (by decide +kernel : covers 0x10800400 { parts := [.bridle, .wire, .line] } = true)
  | biasOn => exact (by decide +kernel : covers 0x200001040000000000000000000000000000000000000000000000000000000000000020884c00 { regs := [.BRD_STAT, .BRD_CNT1, .LAT_W], parts := [.bridle, .latigo, .packer, .harness, .line], events := true } = true)
  | biasDown => exact (by decide +kernel : covers 0x200000040000000000000000000000000000000000000000000000000000000000000000884c00 { regs := [.BRD_STAT, .LAT_W], parts := [.bridle, .latigo, .packer, .harness, .line] } = true)
  | biasOffNow => exact (by decide +kernel : covers 0x2000004c0000000000000000000000000000000000000000000000000000000000000000884c00 { regs := [.BRD_STAT, .BRD_TRIP, .BRD_SET, .LAT_W], parts := [.bridle, .latigo, .packer, .harness, .line] } = true)
  | biasSet => exact (by decide +kernel : covers 0x200000400000000000000000000000000000000000000000000000000000000000000000884800 { regs := [.BRD_SET, .LAT_W], parts := [.latigo, .packer, .harness, .line] } = true)
  | programRequest => exact (by decide +kernel : covers 0x20000000000000000000000000000000000000000000000000000000000000000000020002800 { regs := [.LAT_CNT1], parts := [.latigo, .fabric], events := true } = true)
  | programStart => exact (by decide +kernel : covers 0x90000000151000000000000000000000000000000000000000000000000000000000000000000020004800 { regs := [.LAT_STAT, .LAT_CNT0, .LAT_CNT2, .LAT_ABORT, .ID_BOOT, .ID_LIVEMEAS], parts := [.latigo, .packer], events := true } = true)
  | programBudgetExpire => exact (by decide +kernel : covers 0x90000000151000000000000000000000000000000000000000000000000000000000000000000020004800 { regs := [.LAT_STAT, .LAT_CNT0, .LAT_CNT2, .LAT_ABORT, .ID_BOOT, .ID_LIVEMEAS], parts := [.latigo, .packer], events := true } = true)
  | wri => exact (by decide +kernel : covers 0x9000014737300000041cc0418058c19c73db12298034ffe7f00c4784801e20b01ee127f7c77ffe617fe9f8 { parts := [.dies, .chans, .quads, .ingress, .girth, .matrix, .latigo, .fabric, .packer, .stirrup, .skive, .tree, .stitch, .harness, .burnish, .rosette, .tack, .freeCtr], events := true, anyReg := true } = true)
  | wrr => exact (by decide +kernel : covers 0x9000014737300000041cc0418058c19c73db12298034ffe7f00c4784801e20b01ee127f7c77ffe617fe9f8 { parts := [.dies, .chans, .quads, .ingress, .girth, .matrix, .latigo, .fabric, .packer, .stirrup, .skive, .tree, .stitch, .harness, .burnish, .rosette, .tack, .freeCtr], events := true, anyReg := true } = true)
  | rd => exact (by decide +kernel : covers 0x9000014737300000041cc0418058c19c73db12298034ffe7f00c4784801e20b01ee127f7c77ffe617fe9f8 { parts := [.dies, .chans, .quads, .ingress, .girth, .matrix, .latigo, .fabric, .packer, .stirrup, .skive, .tree, .stitch, .harness, .burnish, .rosette, .tack, .freeCtr], events := true, anyReg := true } = true)
  | rmw => exact (by decide +kernel : covers 0x9000014737300000041cc0418058c19c73db12298034ffe7f00c4784801e20b01ee127f7c77ffe617fe9f8 { parts := [.dies, .chans, .quads, .ingress, .girth, .matrix, .latigo, .fabric, .packer, .stirrup, .skive, .tree, .stitch, .harness, .burnish, .rosette, .tack, .freeCtr], events := true, anyReg := true } = true)
  | ldi => exact (by decide +kernel : covers 0x90000000351000000000000000000000000000000000000000000000000000000000000000000020004800 { regs := [.LAT_STAT, .LAT_CNT0, .LAT_CNT2, .LAT_ABORT, .LAT_W, .ID_BOOT, .ID_LIVEMEAS], parts := [.latigo, .packer], events := true } = true)
  | alu => exact (by decide +kernel : covers 0x90000000351000000000000000000000000000000000000000000000000000000000000000000020004800 { regs := [.LAT_STAT, .LAT_CNT0, .LAT_CNT2, .LAT_ABORT, .LAT_W, .ID_BOOT, .ID_LIVEMEAS], parts := [.latigo, .packer], events := true } = true)
  | poll => exact (by decide +kernel : covers 0x9000014737300000041cc0418058c19c73db12298034ffe7f00c4784801e20b01ee127f7c77ffe617fe9f8 { parts := [.dies, .chans, .quads, .ingress, .girth, .matrix, .latigo, .fabric, .packer, .stirrup, .skive, .tree, .stitch, .harness, .burnish, .rosette, .tack, .freeCtr], events := true, anyReg := true } = true)
  | pollTimeout => exact (by decide +kernel : covers 0x800 { parts := [.latigo] } = true)
  | waits => exact (by decide +kernel : covers 0x90000000151000000000000000000000000000000000000000000000000000000000000000000020004800 { regs := [.LAT_STAT, .LAT_CNT0, .LAT_CNT2, .LAT_ABORT, .ID_BOOT, .ID_LIVEMEAS], parts := [.latigo, .packer], events := true } = true)
  | waitc => exact (by decide +kernel : covers 0x90000000151000000000000000000000000000000000000000000000000000000000000000000020004800 { regs := [.LAT_STAT, .LAT_CNT0, .LAT_CNT2, .LAT_ABORT, .ID_BOOT, .ID_LIVEMEAS], parts := [.latigo, .packer], events := true } = true)
  | waitDone => exact (by decide +kernel : covers 0x800 { parts := [.latigo] } = true)
  | jmp => exact (by decide +kernel : covers 0x90000000151000000000000000000000000000000000000000000000000000000000000000000020004800 { regs := [.LAT_STAT, .LAT_CNT0, .LAT_CNT2, .LAT_ABORT, .ID_BOOT, .ID_LIVEMEAS], parts := [.latigo, .packer], events := true } = true)
  | br => exact (by decide +kernel : covers 0x90000000151000000000000000000000000000000000000000000000000000000000000000000020004800 { regs := [.LAT_STAT, .LAT_CNT0, .LAT_CNT2, .LAT_ABORT, .ID_BOOT, .ID_LIVEMEAS], parts := [.latigo, .packer], events := true } = true)
  | prim => exact absurd h (fun e => Bool.noConfusion e)
  | evt => exact (by decide +kernel : covers 0x90000000151000000000000000000000000000000000000000000000000000000000000000000020004800 { regs := [.LAT_STAT, .LAT_CNT0, .LAT_CNT2, .LAT_ABORT, .ID_BOOT, .ID_LIVEMEAS], parts := [.latigo, .packer], events := true } = true)
  | endProg => exact (by decide +kernel : covers 0x90000000151000000000000000000000000000000000000000000000000000000000000000000020004800 { regs := [.LAT_STAT, .LAT_CNT0, .LAT_CNT2, .LAT_ABORT, .ID_BOOT, .ID_LIVEMEAS], parts := [.latigo, .packer], events := true } = true)
  | runProg => exact (by decide +kernel : covers 0x220000000000000000000000000000000000000000000000000000000000000000000020884800 { regs := [.LAT_CNT1, .LAT_W], parts := [.latigo, .packer, .harness, .line], events := true } = true)
  | measReport => exact (by decide +kernel : covers 0x280000000000000000000000000000000000000000000000000000000000000000000000884800 { regs := [.LAT_CNT3, .LAT_W], parts := [.latigo, .packer, .harness, .line] } = true)
  | stageOpen => exact (by decide +kernel : covers 0x20d000000000000000000000000000000000000000000000000000000000000000000000884800 { regs := [.LAT_STAT, .LAT_STAGE, .LAT_STAGEPOS, .LAT_W], parts := [.latigo, .packer, .harness, .line] } = true)
  | eraseDone => exact (by decide +kernel : covers 0x9000000000000000000000000000000000000000000000000000000000000000000000001800 { regs := [.LAT_STAT, .LAT_STAGEPOS], parts := [.latigo, .flash] } = true)
  | stage => exact (by decide +kernel : covers 0x48000000000000000000000000000001000000000000000000000000000000000000020884800 { regs := [.HAR_CNT5, .LAT_STAGEPOS, .LAT_CNT2], parts := [.latigo, .packer, .harness, .line], events := true } = true)
  | stageClose => exact (by decide +kernel : covers 0x201000000000000000000000000000000000000000000000000000000000000000000000884800 { regs := [.LAT_STAT, .LAT_W], parts := [.latigo, .packer, .harness, .line] } = true)
  | stageVerifyDone => exact (by decide +kernel : covers 0x1000000000000000000000000000000000000000000020000000000000000000000020004800 { regs := [.SKV_CNT1, .LAT_STAT], parts := [.latigo, .packer], events := true } = true)
  | stageAbort => exact (by decide +kernel : covers 0x201000000000000000000000000000000000000000000000000000000000000000000000884800 { regs := [.LAT_STAT, .LAT_W], parts := [.latigo, .packer, .harness, .line] } = true)
  | retainedLogWrite => exact (by decide +kernel : covers 0x800000000000000000000000000000000000000000000000000000000000000000000000000800 { regs := [.LAT_RETAIN], parts := [.latigo] } = true)
  | reload => exact (by decide +kernel : covers 0x900001476e200004041cc0408058c19c73d100298034ffe0000c4027800620b81ee12737c77ffe60fbcdb8 { parts := [.dies, .chans, .quads, .girth, .matrix, .bridle, .latigo, .packer, .stirrup, .skive, .tree, .harness, .burnish, .rosette, .tack, .line], events := true, anyReg := true } = true)
  | restart => exact absurd h (fun e => Bool.noConfusion e)
  | dieOut => exact (by decide +kernel : covers 0x200000000000000000000000000000000000000000000000000000000000000000000000884808 { regs := [.LAT_W], parts := [.dies, .latigo, .packer, .harness, .line] } = true)
  | diePwrOn => exact (by decide +kernel : covers 0x20000000000000110000000000000040000000000000000000000000000000002000002098480c { regs := [.AWL_QUAL, .SHL_STAT, .BUR_STAT, .BUR_QUAL, .LAT_W], parts := [.dies, .chans, .quads, .latigo, .packer, .harness, .burnish, .line], events := true, clears := true } = true)
  | diePwrOff => exact (by decide +kernel : covers 0x20000000000000150000000011d13000000000000000000000000000e040000020000020bfca7c { regs := [.AWL_QUAL, .STR_STAT, .STR_CNT4, .STR_CNT5, .STR_CNT6, .ING_STAT, .ING_CNT, .TRE_CNT0, .TRE_CNT4, .TRE_LOGPTR, .TRE_LOGA, .TRE_LOGB, .TRE_ROWHOT, .BUR_STAT, .BUR_CNT1, .BUR_QUAL, .LAT_W], parts := [.dies, .chans, .quads, .ingress, .supervisor, .latigo, .packer, .stirrup, .skive, .tree, .stitch, .harness, .burnish, .rosette, .line], events := true, clears := true } = true)
  | dieInit => exact (by decide +kernel : covers 0x200000000000000000000000000000418000000000000000000000000000000000000000884800 { regs := [.HAR_RXL_CTRL, .HAR_RXL_STAT, .SHL_STAT, .LAT_W], parts := [.latigo, .packer, .harness, .line] } = true)
  | dieJoin => exact (by decide +kernel : covers 0x200000000000000000000000000000000000000000000000000000000000000000000000884808 { regs := [.LAT_W], parts := [.dies, .latigo, .packer, .harness, .line] } = true)
  | force => exact (by decide +kernel : covers 0x200000000000000000000000000000000000000000000000000020001ec000000000002088c800 { regs := [.STR_STAT, .STR_TRIGNO, .STR_CNT0, .STR_CNT1, .STR_CNT2, .STR_CNT3, .SP_CNT2, .LAT_W], parts := [.latigo, .packer, .stirrup, .harness, .line], events := true } = true)
  | laneRetrain => exact (by decide +kernel : covers 0x100200000000000000000000000000000c1802000000000000000040000004000000000002088c828 { regs := [.STR_STAT, .STI_STAT, .HAR_STAT, .HAR_RXL_CTRL, .HAR_RXL_STAT, .SHL_STAT, .SHL_CNT, .LAT_W, .EVD_PEND], parts := [.dies, .quads, .latigo, .packer, .stirrup, .harness, .line], events := true } = true)
  | dieEventWord => exact (by decide +kernel : covers 0x20000000 { events := true } = true)
  | eventRaise => exact (by decide +kernel : covers 0x20000000 { events := true } = true)
  | datapathParityFault => exact (by decide +kernel : covers 0x80000000000000000000000000000000000000000000000000000000000000000000000200d4000 { regs := [.EVM_CNTG], parts := [.packer, .skive, .stitch, .harness], events := true } = true)
  | vinWarnFall => exact (by decide +kernel : covers 0x8000000000000000000000000000000000000000000000000000000000120204200 { regs := [.PRS_STATE, .RSE_STAT], parts := [.supervisor, .packer, .rosette], events := true } = true)
  | vinWarnRelease => exact (by decide +kernel : covers 0x200 { parts := [.supervisor] } = true)
  | brownoutResume => exact (by decide +kernel : covers 0x22000000000000000000000000000000000000000000000000000000000000000000000000120000a00 { regs := [.PRS_STATE, .PRS_DIP, .PRS_CNT], parts := [.supervisor, .latigo], events := true } = true)
  | vinResetFall => exact absurd h (fun e => Bool.noConfusion e)
  | railFault => exact (by decide +kernel : covers 0x4000000000000000000000000000000000000000000000000000000000000000000000000020000200 { regs := [.PRS_RAIL], parts := [.supervisor], events := true } = true)
  | railReset => exact absurd h (fun e => Bool.noConfusion e)
  | rstNLow => exact absurd h (fun e => Bool.noConfusion e)
  | caseTempRead => exact (by decide +kernel : covers 0x10800000000000000000000000000000000000000000000000000000000000000000000000020000200 { regs := [.PRS_VIN, .PRS_TEMP], parts := [.supervisor], events := true } = true)
  | caseOvertempReset => exact absurd h (fun e => Bool.noConfusion e)
  | dieRailLimit => exact (by decide +kernel : covers 0x100000000000000000000000000000000000000000000000000000000000000000000000000000228 { regs := [.EVD_PEND], parts := [.dies, .quads, .supervisor] } = true)
  | dieRailTrip => exact (by decide +kernel : covers 0x2800000000000000000150000000011d13000000000000000000000000000e0400000200000203fca7c { regs := [.AWL_QUAL, .STR_STAT, .STR_CNT4, .STR_CNT5, .STR_CNT6, .ING_STAT, .ING_CNT, .TRE_CNT0, .TRE_CNT4, .TRE_LOGPTR, .TRE_LOGA, .TRE_LOGB, .TRE_ROWHOT, .BUR_STAT, .BUR_CNT1, .BUR_QUAL, .PRS_DIERAIL, .PRS_CNT], parts := [.dies, .chans, .quads, .ingress, .supervisor, .latigo, .packer, .stirrup, .skive, .tree, .stitch, .harness, .burnish, .rosette], events := true, clears := true } = true)
  | dieRailUv => exact (by decide +kernel : covers 0x100000000000000000000000000000000000000000000000000000000000000000000000000000028 { regs := [.EVD_PEND], parts := [.dies, .quads] } = true)
  | rootPllRelock => exact (by decide +kernel : covers 0x80000000000000000000000000000000080 { regs := [.GIR_STAT], parts := [.girth] } = true)
  | diePllLock => exact (by decide +kernel : covers 0x2000000000000018 { regs := [.RNG_STAT], parts := [.dies, .chans] } = true)
  | flashProgramDone => exact (by decide +kernel : covers 0x1800 { parts := [.latigo, .flash] } = true)
  | dimmedDcOn => exact (by decide +kernel : covers 0x200000 { parts := [.rosette] } = true)
  | onTimeEnd => exact (by decide +kernel : covers 0x200000 { parts := [.rosette] } = true)
  | testPulseEnd => exact (by decide +kernel : covers 0x40000000000000000000000000000000000000000000000000000000000000000000400 { regs := [.BRD_STAT], parts := [.bridle] } = true)
  | eventNHoldEnd => exact (by decide +kernel : covers 0x4000000000000000000000000000000000000000000000000000000000000000000000000000100 { regs := [.EVM_STAT], parts := [.matrix] } = true)

end Sys2Proof.Machine
end

