-- ==== Sys2Proof/WellFormed.lean ====
section
/-! DEFINITION. The checks that a command's operands pass when they could have come from the signals they stand for. A bit field has
its width in its type; what is checked here is the shape of lists and the range of numbers whose type is wider than the signal. -/

namespace Sys2Proof

/-- A code of a 12-bit conversion (R97). -/
def codeOk (x : Nat) : Bool := decide (x < 2 ^ 12)

/-- The checks. -/
def Instr.wf : Instr → Bool
  -- both gains of the same samples (R97)
  | .conversionEnd _ _ _ hg lg ref => hg.length == lg.length && hg.all codeOk && lg.all codeOk && codeOk ref
  -- thirteen block codes (Table 19.8), sixteen dies
  | .slotStrobe _ votes dieVotes _ phases => votes.length == 13 && dieVotes.length == 16 && phases.length == 16
  -- header and trailer (R160)
  | .ciFrameReceive _ _ _ ws => decide (5 ≤ ws.length)
  -- eight lanes of a cascade port (R253)
  | .alignReceive _ counts _ => counts.length == 8 && counts.all (fun x => decide (x < 2 ^ 32))
  -- NDATA (Table 10.6)
  | .stage _ _ _ ws => decide (1 ≤ ws.length) && decide (ws.length ≤ 32)
  -- a stored bit is named once
  | .treeRead _ flips mapFlips _ _ => decide flips.Nodup && decide mapFlips.Nodup
  | .scrubVisit flips mapFlips _ _ => decide flips.Nodup && decide mapFlips.Nodup
  | _ => true

end Sys2Proof
end

