-- ==== Sys2Proof/Tests/Slice0.lean ====
section
/-! SUPPORT. The model's own tests: small states, one theorem per obligation that meets its hypotheses, the checks of WellFormed, and worked
examples of the specification. Expected values come from spec/. -/

set_option Elab.async false

open Sys2Proof Sys2Proof.Machine
namespace Sys2Proof.Tests

/-- The next state of an outcome. -/
def res (o : Host.Outcome State Fault Refusal) : State := match o with | .next t => t | _ => State.reset
/-! ### Small states -/

/-- RUN at FRC 1638400, the first edge of slot 25 and the end of a CIC1 period, with nothing else done. -/
def run : State := { State.reset with mode := .run, frc := 1638400 }

def joinDie (f : Nat) (s : State) : State := s.setDie f { s.die f with pwr := .joined }
def withChan (g : Nat) (u : Chan → Chan) (s : State) : State := s.setChan g (u (s.chan g))
def withQuad (n : Nat) (u : Quad → Quad) (s : State) : State := s.setQuad n (u (s.quad n))
def withDie (f : Nat) (u : Die → Die) (s : State) : State := s.setDie f (u (s.die f))

/-- Die 15 of a running module is JOINED. -/
def one : State := joinDie 15 run

/-- Its ROOT PLL is locked as well: its lanes may send. -/
def lanesUp : State := withDie 15 (fun d => { d with pll := true }) one

/-- A hit that is in the completion stage. -/
def entry : Entry :=
  { edge := 1638000, birth := 7, chan := some 255, taken := false, word := some 0x4000000000000000, due := 1638300, hold := false, drop := false,
    raw := 0, limit := none }

def marker : Entry := { entry with chan := none, word := some 0 }
def bank0 : Bank := { tag := 5, pre := 16, win := 2, first := 0, epoch := 0, at_ := 1630000, cell0 := 1629984, satH := 0, satL := 0, idle := 0, phase := .transfer }
def freeze0 : Freeze := { at_ := 65526, start := 65510, tag := 5, pre := 16, win := 32 }
def lead0 : Lead := { edge := 1630000, raw := 0, corr := 0, epoch := 0, rcv := false, cal := false, pile := false, trg := false }
def record0 : Rec := { chan := 255, bank := 0, at_ := 1600000, waited := false, words := [0x8000000000000000, 0xB000000000000000] }

def moment (n : Nat) (s : State) : State := { s with frc := n }

/-- TMI is the reference, its master 7 is accepted and the last SYNC was 4. -/
def onTime : State :=
  { (run.put .GIR_STAT_REFSEL 0).put .GIR_STAT_GMID 7 with girth := { run.girth with haveMaster := true, lastSseq := some 4 } }

def withStirrup (u : Stirrup → Stirrup) (s : State) : State := { s with stirrup := u s.stirrup }
def withPacker (u : Packer → Packer) (s : State) : State := { s with packer := u s.packer }
def withStitch (u : Stitch → Stitch) (s : State) : State := { s with stitch := u s.stitch }
def withHarness (u : Harness → Harness) (s : State) : State := { s with harness := u s.harness }
def withGirth (u : Girth → Girth) (s : State) : State := { s with girth := u s.girth }
def withIng (n : Nat) (x : Ingress) (s : State) : State := s.setIng n x
def trig0 : Trig := { src := 2, a := 1638000, fine := 0, d := 1638300, centres := none }
def ctx0 : Ctx :=
  { trigno := 1, src := 2, cls := 0, clamp := false, a := 1000, fine := 0, since := 1000, win := 0, nwin := 1, expect := [], out := [] }
def slot0 : OpenSlot :=
  { slot := 24, formed := true, ended := some 1638000, dies := 0, hits := [], markers := [], closed := none, fb := false, brown := false,
    poison := 0, gone := 0, lostIn := [], epochs := 0, epochs0 := 0 }
def hit0 : Word64 := 0x4000000008000000
def group0 : Group :=
  { slot := 24, formed := true, wait := [], own := [], cia := [], cib := [], doneA := false, doneB := false, late := false, sentA := false,
    sentB := false }

/-- A block of module 5, stream 0, slot 25, with sound CRCs. -/
def block25 : List Word64 :=
  Block.words { module := 5, stream := 0, slot := 25, seq := 0, seqInit := false, mirror := false, late := false, poison := false,
                brownout := false, epochs := none, absent := none, lost := 0, hits := 0, kind := 0, vclass := 0, ulen := 0, payload := [1, 2, 3], ccrc := 0 }

/-- The eight lanes of CIB are LOCKED. -/
def lockedB (s : State) : State := (List.range 8).foldl (fun t i => t.put .HAR_RXL_STAT_STATE 2 (72 + i)) s

/-- The block's parity is current. -/
def fresh (b : Nat) (s : State) : State := (s.setStale b false).setBlock b (TBlock.full 0x1234)
def block0 : Block :=
  { module := 5, stream := 3, slot := 24, seq := 0, seqInit := false, mirror := false, late := false, poison := false, brownout := false,
    epochs := none, absent := none, lost := 0, hits := 0, kind := 0, vclass := 0, ulen := 8, payload := [0, 0, 0, 0, 0, 0, 0, 1], ccrc := 0 }
def part0 : Part :=
  { engine := 15, slot := 24, stream := 3, index := 0, last := true, dynamic := false, bytes := [1, 2, 3], start := 5, done := 6,
    chain := 8, limit := 2, since := 0, hist := false }
def withSkive (u : Skive → Skive) (s : State) : State := { s with skive := u s.skive }
def withTree (u : Tree → Tree) (s : State) : State := { s with tree := u s.tree }
def align0 : Word64 := ctlBlock 0x22 (25 % 65536 * 2 ^ 40)

def withTack (u : Tack → Tack) (s : State) : State := { s with tack := u s.tack }
def withRosette (u : Rosette → Rosette) (s : State) : State := { s with rosette := u s.rosette }
def withBur (f : Nat) (u : BurDie → BurDie) (s : State) : State := s.setBur f (u (s.bur f))
def inSlot (n : Nat) (s : State) : State := withGirth (fun g => { g with slot := n, begun := n }) s

/-- A scan visit of HK31 on either converter. -/
def visit0 : Visit :=
  { kind := 1, ch := 31, phase := .make, due := 1600000, cfg := 0x01004020, win := 0, at_ := 0, code := none, cmw := false, comp := false,
    suspect := false, owt := false, plaus := false, waited := false }
def train0 : Train := { poff := 0, colours := 7, width := 100, period := 1, left := none, from_ := 0 }
def lit0 : Lit := { on_ := 1600000, end_ := 1610000, diag := false, kind := 1 }
def sink0 : Rosette → Rosette := fun k => { k with sets := List.replicate 23 ⟨0, 0⟩ ++ [⟨1, 100⟩] }
def sink1 : Rosette → Rosette := fun k => { k with sets := List.replicate 23 ⟨0, 0⟩ ++ [⟨1, 40⟩] }

def withBridle (u : Bridle → Bridle) (s : State) : State := { s with bridle := u s.bridle }
def withSup (u : Supervisor → Supervisor) (s : State) : State := { s with supervisor := u s.supervisor }
def withLatigo (u : Latigo → Latigo) (s : State) : State := { s with latigo := u s.latigo }
def withFabric (u : Fabric → Fabric) (s : State) : State := { s with fabric := u s.fabric }
def inMode (m : Mode) (s : State) : State := { s with mode := m }

/-- The Bridle is ON with both outputs high and the ceiling at 9000. -/
def bridleOn : State :=
  (((run.put .BRD_STAT_STATE 1).put .BRD_STAT_EN_A 1).put .BRD_STAT_EN_B 1).put .BRD_LIM0_CEIL 9000
/-- The Bridle is OFF with degraded operation permitted. -/
def bridleReady : State := (run.put .BRD_STAT_STATE 0).put .BRD_LIM3_DEG_MAX 1
/-- Die 15 is mapped to bias channel 2. -/
def mapped : State := bridleOn.put .BRD_LIM10_DIEMAP1 (6 * 2 ^ 21)

def header0 (nsect len dcrc : Nat) : List Nat :=
  let b := bytesBE 4 0x544B5134 ++ bytesBE 2 1 ++ [nsect, 0] ++ bytesBE 4 9 ++ bytesBE 4 len ++ bytesBE 8 0x1122334455667788 ++
    List.replicate 32 0 ++ bytesBE 4 dcrc
  b ++ bytesBE 4 (crc32c b)
/-- The bytes of a device from offset 0. -/
def listed (l : List Nat) : SMap Nat := l.zipIdx.map (fun x => (x.2, x.1))
/-- A header with nothing behind it. -/
def shortImage : List Nat := header0 1 0x40 0
/-- An empty section of a type and index, deflated to two bytes at `off`. -/
def entry0 (type index off : Nat) : List Nat :=
  [type, index, 0, 0] ++ bytesBE 4 off ++ bytesBE 4 2 ++ bytesBE 4 0 ++ bytesBE 4 (crc32c []) ++ [0, 0, 0, 0]
/-- An image of five empty sections. -/
def fullImage : List Nat :=
  let dir := entry0 1 0 0xB8 ++ entry0 2 0 0xBA ++ entry0 3 16 0xBC ++ entry0 4 0 0xBE ++ entry0 7 0 0xC0
  header0 5 0xC2 (crc32c dir) ++ dir ++ [3, 0, 3, 0, 3, 0, 3, 0, 3, 0]
def withImage (l : List Nat) (s : State) : State :=
  { s with flash := [{ Flash.reset with mbit := 128, bytes := listed l, par := some [0xEB, 6, 0xB7, 0x20, 256] }, Flash.reset] }
def access0 : DieAccess := { die := 15, addr := 0, wr := false, rtag := 0, since := 1600000, cont := .tmi 9 }
/-- A block for the die is at the end of its return lane. -/
def retQueued (f : Nat) (w : Word64) (s : State) : State :=
  { s with harness := { s.harness with retIn := SMap.set (fun _ => []) s.harness.retIn f [(s.frc, w)] } }
/-- Words stand in an ingress queue from an earlier cycle. -/
def ingQueue (n : Nat) (ws : List Word64) (s : State) : State := ws.foldl (fun t w => t.ingPut n w 5 0) s
/-- Program 3 runs and its next instruction is `w`. -/
def running (w : Word64) : State :=
  withLatigo (fun l => { l with progs := List.replicate 3 ⟨0, 0, 0⟩ ++ [⟨0, 8, 5⟩], code := [0, w], pos := 1 })
    ((run.put .LAT_STAT_ACTIVE 1).put .LAT_STAT_PROG 3)
/-- Upsets strike a block and the block that holds its stale bit. -/
def struck (s : State) (i : Nat) (f m : List (Fin 81)) : State := (s.strike i f).strike (staleAt i).1 m
/-- Both devices as the probe finds them. -/
def probed (s : State) : State := (s.editFlash 0 Flash.probe).editFlash 1 Flash.probe
def withFlash (l : List Flash) (s : State) : State := { s with flash := l }
/-- A safety section that waits for the key: valid, and with the ceiling at 0. -/
def sect0 : PendingSection :=
  { words := [100 * 2 ^ 16 + 9000, 2 ^ 16, 10 * 2 ^ 24 + 2 ^ 16 + 1, 2 ^ 16 + 1, 1, 2, 2 ^ 20 + 2 ^ 8 + 1, 1, 2 ^ 16, 0, 0], hash := [1, 2, 3, 4], index := 0,
    dev := 0, seq := 9 }
def sectBad : PendingSection := { sect0 with words := sect0.words.set 0 0 }
/-- A DIE_INIT of die 15 with no word left to send. -/
def init0 : InitRun := { req := ⟨0x0A, 15, true⟩, die := 15, templ := 0, size := 0, next := 0, sent := [], failed := false }
/-- An image whose template 16 holds one pair, (0x00004004, 3), in a stored block. -/
def templImage : List Nat :=
  let bs := bytesBE 4 0x4004 ++ bytesBE 4 3
  let dir := [3, 16, 0, 0] ++ bytesBE 4 0x58 ++ bytesBE 4 13 ++ bytesBE 4 8 ++ bytesBE 4 (crc32c bs) ++ [0, 0, 0, 0]
  header0 1 0x65 (crc32c dir) ++ dir ++ [1, 8, 0, 0xF7, 0xFF] ++ bs
/-- An aged hit stands in the stage of lane 63 and a young one behind it. -/
def agedFirst : State :=
  withQuad 63 (fun q => { q with stg := [hit0], whole := true, stgBirth := 35536, rows := [(0, ⟨hit0, 0, 0⟩)], wn := 1, begs := [0], wtimes := [5] })
    lanesUp
/-- The last group of an injection run is measured; one ring record waits for the Burnish. -/
def shots0 : InjRun :=
  { group := 4, stage := 0, again := false, index := 0, shot := false, offs := 16, thr := 16, moved := [], hits := [], counts := [], seen := [],
    aim := [], aper := [(128, 256)] }
def injEnds : State :=
  withDie 15 (fun d => { d with amb := some 64 }) (withBur 15 (fun b => { b with run := 4, shots := some shots0 }) (one.put .BUR_CTRL_EN 4))

/-! ### The hypotheses of the obligations can be met -/


/-- The hypotheses of RefInputLostEffect are met together. -/
theorem test_hyp_ref_input_lost_effect :
    (∃ (s : State), s.alive = true) ∧
    (∃ (s : State) (alt : Bool), s.alive = true ∧ s.get .GIR_STAT_REFSEL = b2n alt ∧ s.altUsable = false) ∧
    (∃ (s : State) (alt : Bool), s.alive = true ∧ s.get .GIR_STAT_REFSEL = b2n alt ∧ s.altUsable = true) ∧
    (∃ (s : State) (alt : Bool), s.alive = true ∧ s.get .GIR_STAT_REFSEL = b2n alt ∧ alt = false ∧ s.girth.altLost = some 1637376 ∧ s.frc
      ≤ 1637376 + 1024) ∧
    (∃ (s : State) (alt : Bool), s.alive = true ∧ s.get .GIR_STAT_REFSEL = b2n alt ∧ alt = true ∧ s.tmiUsable = true) :=
  ⟨⟨run, by decide +kernel⟩,
   ⟨onTime, false, by decide +kernel⟩,
   ⟨(onTime.put .GIR_STAT_ALT_OK 1).put .GIR_CTRL_ALT_EN 1, false, by decide +kernel⟩,
   ⟨withGirth (fun g => { g with altLost := some 1637376 }) onTime, false, by decide +kernel⟩,
   ⟨((onTime.put .GIR_STAT_REFSEL 1).put .GIR_STAT_TMI_OK 1).put .GIR_CTRL_TMI_EN 1, true, by decide +kernel⟩⟩

/-- The hypotheses of RefInputQualifiedEffect are met together. -/
theorem test_hyp_ref_input_qualified_effect :
    (∃ (s : State), s.alive = true ∧ s.girth.shaped = true) ∧
    (∃ (s : State) (alt : Bool), s.alive = true ∧ s.girth.shaped = true ∧ s.inHold = true ∧ s.flag .GIR_CTRL_FORCE_HOLD = false ∧ s.flag
      .GIR_CTRL_ALT_EN = true ∧ alt = true) ∧
    (∃ (s : State), s.alive = true ∧ s.girth.shaped = true ∧ s.inHold = true ∧ s.flag .GIR_CTRL_FORCE_HOLD = true) ∧
    (∃ (s : State) (alt : Bool), s.alive = true ∧ s.girth.shaped = true ∧ alt = false ∧ s.get .GIR_STAT_REFSEL = 1 ∧ s.flag
      .GIR_CTRL_FORCE_HOLD = false ∧ s.flag .GIR_CTRL_TMI_EN = true ∧ s.flag .GIR_CTRL_REVERT = true) :=
  ⟨⟨run, by decide +kernel⟩,
   ⟨run.put .GIR_CTRL_ALT_EN 1, true, by decide +kernel⟩,
   ⟨run.put .GIR_CTRL_FORCE_HOLD 1, by decide +kernel⟩,
   ⟨((onTime.put .GIR_STAT_REFSEL 1).put .GIR_CTRL_REVERT 1).put .GIR_CTRL_TMI_EN 1, false, by decide +kernel⟩⟩

/-- The hypotheses of GirCtrlWriteEffect are met together. -/
theorem test_hyp_gir_ctrl_write_effect :
    (∃ (s : State), s.alive = true) ∧
    (∃ (s : State) (data : Word32), s.alive = true ∧ Fld.on .GIR_CTRL_LEARN_EN data = false ∧ Fld.on .GIR_CTRL_FORCE_HOLD data = true ∧
      s.inHold = false ∧ Fld.on .GIR_CTRL_SNAP data = true) :=
  ⟨⟨onTime, by decide +kernel⟩,
   ⟨withGirth (fun g => { g with learned := 5 }) (run.put .GIR_STAT_REFSEL 0), 0x10A, by decide +kernel⟩⟩

/-- The hypotheses of SyncEffect are met together. -/
theorem test_hyp_sync_effect :
    ∃ (s : State) (alt : Bool), s.tmiActs = true ∧ s.get .GIR_STAT_REFSEL = b2n alt :=
  ⟨onTime, false, by decide +kernel⟩

/-- The hypotheses of ReferenceEventEffect are met together. -/
theorem test_hyp_reference_event_effect :
    (∃ (s : State), s.alive = true ∧ s.inHold = false ∧ s.girth.syncLate = false ∧ max 1 (s.get .GIR_SYNCTO_SYNC_TO) ≤ s.girth.unused) ∧
    (∃ (s : State), s.alive = true ∧ s.flag .GIR_STAT_PLL_LOCK = true) ∧
    (∃ (s : State), s.alive = true ∧ s.flag .GIR_STAT_PLL_LOCK = false) :=
  ⟨⟨withGirth (fun g => { g with unused := 5000 }) (run.put .GIR_STAT_REFSEL 0), by decide +kernel⟩,
   ⟨run.put .GIR_STAT_PLL_LOCK 1, by decide +kernel⟩,
   ⟨run.put .GIR_STAT_PLL_LOCK 0, by decide +kernel⟩⟩

/-- The hypotheses of EchoEffect are met together. -/
theorem test_hyp_echo_effect :
    (∃ (s : State) (tgt : _), s.tmiActs = true ∧ s.addressed tgt = true ∧ s.girth.echo = none) ∧
    (∃ (s : State) (tgt : _) (e : _), s.tmiActs = true ∧ s.addressed tgt = true ∧ s.girth.echo = some e) ∧
    (∃ (s : State) (stamp : _) (e : _), s.working = true ∧ s.harness.shaped = true ∧ s.girth.echo = some e ∧ e.since + 256 * 128 ≤
      s.nextRow * 128 ∧ s.nextRow * 128 ≤ stamp ∧ stamp ≤ s.nextRow * 128 + 2) ∧
    (∃ (s : State) (cib : Bool), s.alive = true ∧ s.get (if cib then .HAR_STAT_CIB_PORT else .HAR_STAT_CIA_PORT) = 2) :=
  ⟨⟨run, 0xFFF, by decide +kernel⟩,
   ⟨withGirth (fun g => { g with echo := some ⟨1, 2, true, 3, 1⟩ }) run, 0xFFF, ⟨1, 2, true, 3, 1⟩, by decide +kernel⟩,
   ⟨withGirth (fun g => { g with echo := some ⟨1, 2, true, 3, 1⟩ }) run, 209715458, ⟨1, 2, true, 3, 1⟩, by decide +kernel⟩,
   ⟨run.put .HAR_STAT_CIB_PORT 2, true, by decide +kernel⟩⟩

/-- The hypotheses of ThresholdEffect are met together. -/
theorem test_hyp_threshold_effect :
    (∃ (s : State) (f : DieNo) (c : ChanNo), s.working = true ∧ s.diePowered f = true ∧ s.get .PIX_ANODE_ANODE_NOW (gchan f c) ≠ s.get
      .PIX_ANODE_ANODE (gchan f c) ∧ (s.chan (gchan f c)).anodeAt + 256 ≤ s.frc) ∧
    (∃ (s : State) (f : DieNo), s.working = true ∧ s.diePowered f = true ∧ s.frc % 64 = 0) ∧
    (∃ (s : State) (f : DieNo), s.working = true ∧ s.diePowered f = true ∧ s.frc % 64 = 0 ∧ s.dieSun f = true) ∧
    (∃ (s : State) (f : DieNo) (c : ChanNo), s.working = true ∧ s.diePowered f = true ∧ s.frc % 64 = 0 ∧ s.stropStale (gchan f c) = false)
      ∧
    (∃ (s : State) (f : DieNo) (c : ChanNo), s.working = true ∧ s.diePowered f = true ∧ s.flag .PIX_CTRL_EN (gchan f c) = true) ∧
    (∃ (s : State) (f : DieNo) (c : ChanNo) (cur : _), s.working = true ∧ s.diePowered f = true ∧ s.flag .PIX_CTRL_EN (gchan f c) = true ∧
      (s.chan (gchan f c)).trgOn = false ∧ s.triggerThr (gchan f c) < cur ∧ s.flag .PIX_CTRL_TRG_EN (gchan f c) = true ∧ s.flag
      .PIX_CTRL_MASK_TRG (gchan f c) = false ∧ s.dieSun f = false) :=
  ⟨⟨one.put .PIX_ANODE_ANODE 3 4095, 15, 255, by decide +kernel⟩,
   ⟨one, 15, by decide +kernel⟩,
   ⟨joinDie 15 (mapped.put .BRD_STAT_SUN 4), 15, by decide +kernel⟩,
   ⟨withChan 4095 (fun x => { x with strop := { x.strop with freshAt := some 1638400 } }) ((one.put .STP_CTRL_EN 1 4095).put
    .STP_LEVEL_SETTLING 0 4095), 15, 255, by decide +kernel⟩,
   ⟨one.put .PIX_CTRL_EN 1 4095, 15, 255, by decide +kernel⟩,
   ⟨(one.put .PIX_CTRL_EN 1 4095).put .PIX_CTRL_TRG_EN 1 4095, 15, 255, 1000000, by decide +kernel⟩⟩

/-- The hypotheses of TrgpolWriteRule are met together. -/
theorem test_hyp_trgpol_write_rule :
    (∃ (s : State) (f : DieNo), s.working = true ∧ s.diePowered f = true) ∧
    (∃ (s : State) (f : DieNo) (data : Word32), s.working = true ∧ s.diePowered f = true ∧ Fld.PIX_TRGPOL_CEIL.of data <
      Fld.PIX_TRGPOL_FLOOR.of data) ∧
    (∃ (s : State) (f : DieNo) (data : Word32), s.working = true ∧ s.diePowered f = true ∧ Fld.PIX_TRGPOL_FLOOR.of data ≤
      Fld.PIX_TRGPOL_CEIL.of data) :=
  ⟨⟨one, 15, by decide +kernel⟩,
   ⟨one, 15, 3, by decide +kernel⟩,
   ⟨one, 15, 0x00040003, by decide +kernel⟩⟩

/-- The hypotheses of PixelWriteEffect are met together. -/
theorem test_hyp_pixel_write_effect :
    (∃ (s : State) (f : DieNo) (data : Word32), s.working = true ∧ s.diePowered f = true ∧ Fld.PIX_TLOOP_ACC_LOAD.on data = true ∧
      (Fld.PIX_TLOOP_MODE.of data = 0 ∨ Fld.PIX_TLOOP_MODE.of data = 3)) ∧
    (∃ (s : State) (f : DieNo) (data : Word32), s.working = true ∧ s.diePowered f = true ∧ Fld.PIXD_INJ_INJ_ARM.on data = true) ∧
    (∃ (s : State) (f : DieNo) (data : Word32) (i : _), s.working = true ∧ s.diePowered f = true ∧ Fld.PIXD_INJ_INJ_ARM.on data = false ∧
      Fld.PIXD_INJ_INJ_REP.on data = false ∧ (s.die f).inj = some i ∧ i.fired = true ∧ s.dieSlotAt f ≤ i.since) :=
  ⟨⟨one, 15, 0x00080123, by decide +kernel⟩,
   ⟨one, 15, 1, by decide +kernel⟩,
   ⟨withDie 15 (fun d => { d with inj := some ⟨1638400, 5, 1, true⟩ }) one, 15, 0, ⟨1638400, 5, 1, true⟩, by decide +kernel⟩⟩

/-- The hypotheses of OverrangeEffect are met together. -/
theorem test_hyp_overrange_effect :
    (∃ (s : State) (f : DieNo) (c : ChanNo), s.working = true ∧ s.diePowered f = true ∧ s.flag .PIX_CTRL_EN (gchan f c) = true ∧ s.get
      .PIX_OVR_STATE (gchan f c) ≠ 1) ∧
    (∃ (s : State) (f : DieNo) (c : ChanNo), s.working = true ∧ s.diePowered f = true ∧ s.get .PIX_OVR_STATE (gchan f c) = 1) ∧
    (∃ (s : State) (f : DieNo) (c : ChanNo), s.working = true ∧ s.diePowered f = true ∧ s.flag .PIX_CTRL_EN (gchan f c) = true ∧ s.get
      .PIX_OVR_OVR_HG (gchan f c) = 0) ∧
    (∃ (s : State) (f : DieNo) (c : ChanNo), s.working = true ∧ s.diePowered f = true ∧ s.get .PIX_OVR_OVR_HG (gchan f c) = 1) ∧
    (∃ (s : State) (f : DieNo) (c : ChanNo), s.working = true ∧ s.diePowered f = true ∧ s.get .PIX_OVR_STATE (gchan f c) = 1 ∧ (s.chan
      (gchan f c)).overLong = false ∧ (s.chan (gchan f c)).overAt + 4095 < s.frc) ∧
    (∃ (s : State) (f : DieNo) (c : ChanNo) (o : _) (e : _), s.working = true ∧ s.diePowered f = true ∧ (s.chan (gchan f c)).own = some
      (o, e) ∧ s.get .PIX_OVR_STATE (gchan f c) = 2 ∧ e ≤ s.frc) ∧
    (∃ (s : State) (f : DieNo) (c : ChanNo) (left : Bool) (o : _) (e : _), s.working = true ∧ s.diePowered f = true ∧ (if left then
      (s.chan (gchan f c)).nbL else (s.chan (gchan f c)).nbR) = some (o, e) ∧ e ≤ s.frc) :=
  ⟨⟨one.put .PIX_CTRL_EN 1 4095, 15, 255, by decide +kernel⟩,
   ⟨one.put .PIX_OVR_STATE 1 4095, 15, 255, by decide +kernel⟩,
   ⟨one.put .PIX_CTRL_EN 1 4095, 15, 255, by decide +kernel⟩,
   ⟨one.put .PIX_OVR_OVR_HG 1 4095, 15, 255, by decide +kernel⟩,
   ⟨one.put .PIX_OVR_STATE 1 4095, 15, 255, by decide +kernel⟩,
   ⟨(withChan 4095 (fun x => { x with own := some (5, 6) }) one).put .PIX_OVR_STATE 2 4095, 15, 255, 5, 6, by decide +kernel⟩,
   ⟨withChan 4095 (fun x => { x with nbR := some (5, 6) }) one, 15, 255, false, 5, 6, by decide +kernel⟩⟩

/-- The hypotheses of CaptureEffect are met together. -/
theorem test_hyp_capture_effect :
    (∃ (s : State) (f : DieNo) (c : ChanNo) (cur : Nat), s.working = true ∧ s.diePowered f = true ∧ (s.chan (gchan f c)).awl = .armed ∧
      s.creditDue (gchan f c) = false ∧ s.timingThr (gchan f c) < cur ∧ 2 ≤ s.get .AWL_STAT_CREDIT (gchan f c)) ∧
    (∃ (s : State) (f : DieNo) (c : ChanNo) (cur : Nat), s.working = true ∧ s.diePowered f = true ∧ (s.chan (gchan f c)).awl = .armed ∧
      s.creditDue (gchan f c) = false ∧ s.timingThr (gchan f c) < cur ∧ s.get .AWL_STAT_CREDIT (gchan f c) < 2) ∧
    (∃ (s : State) (f : DieNo) (c : ChanNo) (cur : Nat), s.working = true ∧ s.diePowered f = true ∧ (s.chan (gchan f c)).awl = .dead ∧
      s.frc < (s.chan (gchan f c)).trail + 10 ∧ s.creditDue (gchan f c) = false ∧ s.timingThr (gchan f c) < cur) ∧
    (∃ (s : State) (f : DieNo) (c : ChanNo) (cur : Nat), s.working = true ∧ s.diePowered f = true ∧ (s.flag .PIX_CTRL_EN (gchan f c) =
      false ∨ cur + s.hysteresis (gchan f c) < s.timingThr (gchan f c)) ∧ ((s.chan (gchan f c)).awl = .high ∨ (s.chan (gchan f c)).awl =
      .sat ∨ (s.chan (gchan f c)).awl = .pileHigh)) ∧
    (∃ (s : State) (f : DieNo) (c : ChanNo) (cur : Nat), s.working = true ∧ s.diePowered f = true ∧ (s.flag .PIX_CTRL_EN (gchan f c) =
      false ∨ cur + s.hysteresis (gchan f c) < s.timingThr (gchan f c)) ∧ (s.chan (gchan f c)).awl = .lost) ∧
    (∃ (s : State) (f : DieNo) (c : ChanNo) (l : _), s.working = true ∧ s.diePowered f = true ∧ (s.chan (gchan f c)).lead = some l ∧
      ((s.chan (gchan f c)).awl = .high ∨ (s.chan (gchan f c)).awl = .pileHigh) ∧ l.edge + 4095 ≤ s.frc) ∧
    (∃ (s : State) (f : DieNo) (c : ChanNo), s.working = true ∧ s.diePowered f = true ∧ (s.chan (gchan f c)).awl = .dead ∧ (s.chan (gchan
      f c)).trail + 10 ≤ s.frc) ∧
    (∃ (s : State) (f : DieNo) (c : ChanNo), s.working = true ∧ s.diePowered f = true ∧ s.creditDue (gchan f c) = true) :=
  ⟨⟨moment 1638401 one, 15, 255, 1000000, by decide +kernel⟩,
   ⟨(moment 1638401 one).put .AWL_STAT_CREDIT 1 4095, 15, 255, 1000000, by decide +kernel⟩,
   ⟨withChan 4095 (fun x => { x with awl := .dead, trail := 1638392 }) (moment 1638401 one), 15, 255, 1000000, by decide +kernel⟩,
   ⟨withChan 4095 (fun x => { x with awl := .high, lead := some lead0 }) one, 15, 255, 0, by decide +kernel⟩,
   ⟨withChan 4095 (fun x => { x with awl := .lost }) one, 15, 255, 0, by decide +kernel⟩,
   ⟨withChan 4095 (fun x => { x with awl := .high, lead := some lead0 }) one, 15, 255, lead0, by decide +kernel⟩,
   ⟨withChan 4095 (fun x => { x with awl := .dead, trail := 1638390 }) one, 15, 255, by decide +kernel⟩,
   ⟨one, 15, 255, by decide +kernel⟩⟩

/-- The hypotheses of CompletionStageEffect are met together. -/
theorem test_hyp_completion_stage_effect :
    (∃ (s : State) (f : DieNo) (c : ChanNo) (e : _) (r : _) (d : _), s.working = true ∧ s.diePowered f = true ∧ (s.chan (gchan f c)).ivl =
      some (e, r, d) ∧ d ≤ s.frc ∧ s.ivlComing (gchan f c) d = false) ∧
    (∃ (s : State) (f : DieNo) (c : ChanNo) (x : _), s.working = true ∧ s.diePowered f = true ∧ (s.quad (gchan f c / 64)).nextEntry = some
      x ∧ isEntry (gchan f c) x.edge x = true ∧ x.edge + 16 ≤ s.frc ∧ (s.quad (gchan f c / 64)).stageHits < 255) ∧
    (∃ (s : State) (f : DieNo) (c : ChanNo) (x : _), s.working = true ∧ s.diePowered f = true ∧ (s.quad (gchan f c / 64)).nextEntry = some
      x ∧ isEntry (gchan f c) x.edge x = true ∧ x.edge + 16 ≤ s.frc ∧ (s.quad (gchan f c / 64)).stageHits < 255 ∧ x.limit = some 1700000 ∧
      gchan f c = pairOf (gchan f c) ∧ (s.chan (gchan f c)).ivl = none) ∧
    (∃ (s : State) (f : DieNo) (c : ChanNo) (x : _), s.working = true ∧ s.diePowered f = true ∧ (s.quad (gchan f c / 64)).nextEntry = some
      x ∧ isEntry (gchan f c) x.edge x = true ∧ x.edge + 16 ≤ s.frc ∧ (s.quad (gchan f c / 64)).stageHits < 255 ∧ x.limit = some 1700000 ∧
      gchan f c = pairOf (gchan f c) ∧ (s.chan (gchan f c)).ivl ≠ none) ∧
    (∃ (s : State) (f : DieNo) (c : ChanNo) (x : _), s.working = true ∧ s.diePowered f = true ∧ (s.quad (gchan f c / 64)).nextEntry = some
      x ∧ isEntry (gchan f c) x.edge x = true ∧ x.edge + 16 ≤ s.frc ∧ (s.quad (gchan f c / 64)).stageHits < 255 ∧ x.limit ≠ none ∧ gchan f
      c ≠ pairOf (gchan f c) ∧ (s.chan (pairOf (gchan f c))).ivl = none) ∧
    (∃ (s : State) (f : DieNo) (c : ChanNo) (x : _), s.working = true ∧ s.diePowered f = true ∧ (s.quad (gchan f c / 64)).nextEntry = some
      x ∧ isEntry (gchan f c) x.edge x = true ∧ x.edge + 16 ≤ s.frc ∧ (s.quad (gchan f c / 64)).stageHits < 255 ∧ x.limit ≠ none ∧ gchan f
      c ≠ pairOf (gchan f c) ∧ (s.chan (pairOf (gchan f c))).ivl = some (1637990, 0, 1638000) ∧ 0 ≤ x.raw ∧ x.edge ≤ 1638000) ∧
    (∃ (s : State) (f : DieNo) (c : ChanNo) (x : _), s.working = true ∧ s.diePowered f = true ∧ (s.quad (gchan f c / 64)).nextEntry = some
      x ∧ isEntry (gchan f c) x.edge x = true ∧ x.edge + 16 ≤ s.frc ∧ 255 ≤ (s.quad (gchan f c / 64)).stageHits) ∧
    (∃ (s : State) (f : DieNo) (data : _), s.working = true ∧ s.diePowered f = true ∧ Fld.AWLD_CTRL_COMMIT.on data = true) :=
  ⟨⟨withChan 4095 (fun x => { x with ivl := some (5, 6, 7) }) one, 15, 255, 5, 6, 7, by decide +kernel⟩,
   ⟨withQuad 63 (fun q => { q with stage := [entry] }) one, 15, 255, entry, by decide +kernel⟩,
   ⟨withQuad 63 (fun q => { q with stage := [{ entry with chan := some 254, limit := some 1700000 }] }) one, 15, 254,
    { entry with chan := some 254, limit := some 1700000 }, by decide +kernel⟩,
   ⟨withChan 4094 (fun x => { x with ivl := some (5, 6, 7) }) (withQuad 63 (fun q => { q with
    stage := [{ entry with chan := some 254, limit := some 1700000 }] }) one), 15, 254,
    { entry with chan := some 254, limit := some 1700000 }, by decide +kernel⟩,
   ⟨withQuad 63 (fun q => { q with stage := [{ entry with limit := some 1700000 }] }) one, 15, 255, { entry with limit := some 1700000 },
    by decide +kernel⟩,
   ⟨withChan 4094 (fun x => { x with ivl := some (1637990, 0, 1638000) }) (withQuad 63 (fun q => { q with
    stage := [{ entry with limit := some 1700000 }] }) one), 15, 255, { entry with limit := some 1700000 }, by decide +kernel⟩,
   ⟨withQuad 63 (fun q => { q with stage := List.replicate 255 { entry with taken := true } ++ [entry] }) one, 15, 255, entry, by
    decide +kernel⟩,
   ⟨one, 15, 1, by decide +kernel⟩⟩

/-- The hypotheses of StageToQueueEffect are met together. -/
theorem test_hyp_stage_to_queue_effect :
    (∃ (s : State) (n : LaneNo) (x : _), s.working = true ∧ s.diePowered (n.val / 4) = true ∧ (s.quad n).nextEntry = some x ∧ x.chan =
      none ∧ x.drop = false ∧ x.edge + 16 ≤ s.frc) ∧
    (∃ (s : State) (n : LaneNo) (x : _), s.working = true ∧ s.diePowered (n.val / 4) = true ∧ s.headComplete n = some x ∧ x.chan ≠ none ∧
      s.portFree n = true ∧ (s.quad n).recs.head?.any (fun r => r.waited) = false) ∧
    (∃ (s : State) (n : LaneNo) (x : _), s.working = true ∧ s.diePowered (n.val / 4) = true ∧ s.headComplete n = some x ∧ x.chan = none)
      :=
  ⟨⟨withQuad 63 (fun q => { q with stage := [marker] }) one, 63, marker, by decide +kernel⟩,
   ⟨withQuad 63 (fun q => { q with stage := [{ entry with taken := true }] }) one, 63, { entry with taken := true }, by decide +kernel⟩,
   ⟨withQuad 63 (fun q => { q with stage := [{ marker with taken := true }] }) one, 63, { marker with taken := true }, by decide +kernel⟩⟩

/-- The hypotheses of FreezeEffect are met together. -/
theorem test_hyp_freeze_effect :
    (∃ (s : State) (f : DieNo) (data : _), s.working = true ∧ s.diePowered f = true ∧ Fld.RNG_CTRL_RESTART.on data = true) ∧
    (∃ (s : State) (f : DieNo) (data : _), s.working = true ∧ s.diePowered f = true ∧ Fld.RNGD_CTRL_RESTART_ALL.on data = true) ∧
    (∃ (s : State) (f : DieNo) (c : _) (r : _), s.working = true ∧ s.diePowered f = true ∧ (s.chan (gchan f c)).r0At s.frc = some r ∧ r +
      1024 ≤ s.frc) ∧
    (∃ (s : State) (f : DieNo) (w : Word64), s.working = true ∧ s.diePowered f = true ∧ fw w 60 4 = 4 ∧ s.retDue f (· == w) = true) ∧
    (∃ (s : State) (f : DieNo) (w : Word64) (w0 : _) (t0 : _), s.working = true ∧ s.diePowered f = true ∧ fw w 60 4 = 5 ∧ s.retDue f (· ==
      w) = true ∧ (s.die f).frz0 = some (w0, t0) ∧ s.frc < t0 + 98) ∧
    (∃ (s : State) (f : DieNo) (w : Word64) (w0 : _) (t0 : _), s.working = true ∧ s.diePowered f = true ∧ fw w 60 4 = 5 ∧ s.retDue f (· ==
      w) = true ∧ (s.die f).frz0 = some (w0, t0) ∧ s.frc < t0 + 98 ∧ 2048 < wrapDiff 16 ((fw w0 28 16 + fw w 34 10) % 65536) (s.dieOff f))
      ∧
    (∃ (s : State) (f : DieNo) (w : Word64) (w0 : _) (t0 : _), s.working = true ∧ s.diePowered f = true ∧ fw w 60 4 = 5 ∧ s.retDue f (· ==
      w) = true ∧ (s.die f).frz0 = some (w0, t0) ∧ s.frc < t0 + 98 ∧ wrapDiff 16 ((fw w0 28 16 + fw w 34 10) % 65536) (s.dieOff f) < 0) ∧
    (∃ (s : State) (f : DieNo) (w : Word64), s.working = true ∧ s.diePowered f = true ∧ fw w 60 4 = 5 ∧ s.retDue f (· == w) = true ∧
      (s.die f).frz0 = none) ∧
    (∃ (s : State) (f : DieNo) (w : Word64) (w0 : _) (t0 : _), s.working = true ∧ s.diePowered f = true ∧ fw w 60 4 = 5 ∧ s.retDue f (· ==
      w) = true ∧ (s.die f).frz0 = some (w0, t0) ∧ t0 + 98 ≤ s.frc) ∧
    (∃ (s : State) (f : DieNo) (c : _) (x : _), s.working = true ∧ s.diePowered f = true ∧ firstFreeze (s.dieOff f) (s.chan (gchan f
      c)).freezes = some x ∧ 0 ≤ s.sinceOff f x.at_) ∧
    (∃ (s : State) (f : DieNo) (c : _) (x : _), s.working = true ∧ s.diePowered f = true ∧ firstFreeze (s.dieOff f) (s.chan (gchan f
      c)).freezes = some x ∧ 0 ≤ s.sinceOff f x.at_ ∧ s.freeBank (gchan f c) = none) ∧
    (∃ (s : State) (f : DieNo) (c : _) (x : _), s.working = true ∧ s.diePowered f = true ∧ firstFreeze (s.dieOff f) (s.chan (gchan f
      c)).freezes = some x ∧ 0 ≤ s.sinceOff f x.at_ ∧ s.freeBank (gchan f c) = some 0 ∧ wrapDiff 16 x.at_ x.start = 1526) ∧
    (∃ (s : State) (f : DieNo) (c : _) (x : _), s.working = true ∧ s.diePowered f = true ∧ firstFreeze (s.dieOff f) (s.chan (gchan f
      c)).freezes = some x ∧ 0 ≤ s.sinceOff f x.at_ ∧ s.freeBank (gchan f c) = some 0 ∧ (s.chan (gchan f c)).banks.length = 4 ∧ wrapDiff
      16 x.at_ x.start = 16 ∧ 0 < x.win) ∧
    (∃ (s : State) (f : DieNo) (c : _) (b : Fin 4) (x : _), s.working = true ∧ s.diePowered f = true ∧ (s.chan (gchan f c)).banks.getD b
      none = some x ∧ x.phase = .transfer ∧ x.at_ + 16 ≤ s.frc) :=
  ⟨⟨one, 15, 1, by decide +kernel⟩,
   ⟨one, 15, 1, by decide +kernel⟩,
   ⟨withChan 4095 (fun x => { x with ring0 := some 5 }) one, 15, 255, 5, by decide +kernel⟩,
   ⟨retQueued 15 0x4000000000000000 one, 15, 0x4000000000000000, by decide +kernel⟩,
   ⟨withDie 15 (fun d => { d with frz0 := some (0x4000000000000000, 1638390) }) (retQueued 15 0x5000000000000000 one), 15,
    0x5000000000000000, 0x4000000000000000, 1638390, by decide +kernel⟩,
   ⟨withDie 15 (fun d => { d with frz0 := some (0x4000010000000000, 1638390) }) (retQueued 15 0x5000000000000000 one), 15,
    0x5000000000000000, 0x4000010000000000, 1638390, by decide +kernel⟩,
   ⟨withDie 15 (fun d => { d with frz0 := some (0x40000FFF00000000, 1638390) }) (retQueued 15 0x5000000000000000 one), 15,
    0x5000000000000000, 0x40000FFF00000000, 1638390, by decide +kernel⟩,
   ⟨retQueued 15 0x5000000000000000 one, 15, 0x5000000000000000, by decide +kernel⟩,
   ⟨withDie 15 (fun d => { d with frz0 := some (0x4000000000000000, 1638300) }) (retQueued 15 0x5000000000000000 one), 15,
    0x5000000000000000, 0x4000000000000000, 1638300, by decide +kernel⟩,
   ⟨withChan 4095 (fun x => { x with freezes := [freeze0], ring0 := some 5 }) one, 15, 255, freeze0, by decide +kernel⟩,
   ⟨withChan 4095 (fun x => { x with freezes := [freeze0], banks := [some bank0, some bank0, some bank0, some bank0] }) one, 15, 255,
    freeze0, by decide +kernel⟩,
   ⟨withChan 4095 (fun x => { x with freezes := [{ freeze0 with start := 64000 }], ring0 := some 5 }) one, 15, 255,
    { freeze0 with start := 64000 }, by decide +kernel⟩,
   ⟨withChan 4095 (fun x => { x with freezes := [freeze0], ring0 := some 5 }) one, 15, 255, freeze0, by decide +kernel⟩,
   ⟨withChan 4095 (fun x => { x with banks := [none, some bank0, none, none] }) one, 15, 255, 1, bank0, by decide +kernel⟩⟩

/-- The hypotheses of RecordEffect are met together. -/
theorem test_hyp_record_effect :
    (∃ (s : State) (f : DieNo) (c : ChanNo) (b : Fin 4) (hg : List Nat) (lg : List Nat) (ref : _) (x : _), s.working = true ∧ s.diePowered
      f = true ∧ (s.chan (gchan f c)).banks.getD b none = some x ∧ x.phase = .convert ∧ hg.length = x.win ∧ lg.length = x.win ∧ emptyOk
      x.idle hg = true ∧ emptyOk x.idle lg = true ∧ x.at_ + 16 + convTime ((ref :: hg ++ lg).map ringCode) ≤ s.frc) ∧
    (∃ (s : State) (f : DieNo) (c : ChanNo) (b : Fin 4) (hg : List Nat) (lg : List Nat) (x : _), s.working = true ∧ (s.chan (gchan f
      c)).banks.getD b none = some x ∧ (hg.length ≠ x.win ∨ lg.length ≠ x.win ∨ emptyOk x.idle hg = false ∨ emptyOk x.idle lg = false)) ∧
    (∃ (s : State) (f : DieNo) (c : ChanNo) (b : Fin 4) (hg : List Nat) (lg : List Nat) (x : _), s.working = true ∧ (s.chan (gchan f
      c)).banks.getD b none = some x ∧ (hg.length ≠ x.win ∨ lg.length ≠ x.win ∨ emptyOk x.idle hg = false ∨ emptyOk x.idle lg = false) ∧
      hg.length = x.win ∧ lg.length ≠ x.win) ∧
    (∃ (s : State) (n : LaneNo) (r : _) (rs : _), s.working = true ∧ s.diePowered (n.val / 4) = true ∧ (s.quad n).recs = r :: rs ∧
      s.portFree n = true ∧ (s.headComplete n = none ∨ r.waited = true ∨ r.at_ + s.recWait (n.val / 4) ≤ s.frc)) ∧
    (∃ (s : State) (n : LaneNo) (r : _) (rs : _), s.working = true ∧ s.diePowered (n.val / 4) = true ∧ (s.quad n).recs = r :: rs ∧
      s.portFree n = true ∧ (s.headComplete n = none ∨ r.waited = true ∨ r.at_ + s.recWait (n.val / 4) ≤ s.frc) ∧ r.bank < 4 ∧ (s.chan
      (256 * (n.val / 4) + r.chan)).banks = [some bank0, none, none, none]) ∧
    (∃ (s : State) (n : LaneNo) (r : _) (rs : _), s.working = true ∧ s.diePowered (n.val / 4) = true ∧ (s.quad n).recs = r :: rs ∧
      s.portFree n = true ∧ (s.headComplete n = none ∨ r.waited = true ∨ r.at_ + s.recWait (n.val / 4) ≤ s.frc) ∧ s.headComplete n ≠ none
      ∧ r.waited = true) ∧
    (∃ (s : State) (n : LaneNo) (r : _) (rs : _) (x : _), s.working = true ∧ s.diePowered (n.val / 4) = true ∧ (s.quad n).recs = r :: rs ∧
      s.headComplete n = some x ∧ r.waited = false ∧ s.frc < r.at_ + s.recWait (n.val / 4)) ∧
    (∃ (s : State) (n : LaneNo) (r : _) (rs : _), s.working = true ∧ s.diePowered (n.val / 4) = true ∧ (s.quad n).recs = r :: rs ∧ r.at_ +
      s.recWait (n.val / 4) ≤ s.frc) :=
  ⟨⟨withChan 4095 (fun x => { x with banks := [none, some { bank0 with phase := .convert }, none, none] }) one, 15, 255, 1, [1, 2], [3,
    4], 0x800, { bank0 with phase := .convert }, by decide +kernel⟩,
   ⟨withChan 4095 (fun x => { x with banks := [none, some { bank0 with phase := .convert }, none, none] }) one, 15, 255, 1, [1], [],
    { bank0 with phase := .convert }, by decide +kernel⟩,
   ⟨withChan 4095 (fun x => { x with banks := [none, some { bank0 with phase := .convert }, none, none] }) one, 15, 255, 1, [1, 2], [3],
    { bank0 with phase := .convert }, by decide +kernel⟩,
   ⟨withQuad 63 (fun q => { q with recs := [record0] }) one, 63, record0, [], by decide +kernel⟩,
   ⟨withQuad 63 (fun q => { q with recs := [record0] }) (withChan 4095 (fun x => { x with banks := [some bank0, none, none, none] }) one),
    63, record0, [], by decide +kernel⟩,
   ⟨withQuad 63 (fun q => { q with recs := [{ record0 with waited := true }], stage := [{ entry with taken := true }] }) one, 63,
    { record0 with waited := true }, [], by decide +kernel⟩,
   ⟨withQuad 63 (fun q => { q with recs := [{ record0 with at_ := 1638399 }], stage := [{ entry with taken := true }] }) one, 63,
    { record0 with at_ := 1638399 }, [], { entry with taken := true }, by decide +kernel⟩,
   ⟨withQuad 63 (fun q => { q with recs := [record0] }) one, 63, record0, [], by decide +kernel⟩⟩

/-- The hypotheses of StropChainEffect are met together. -/
theorem test_hyp_strop_chain_effect :
    (∃ (s : State) (f : DieNo) (c : _), s.working = true ∧ s.diePowered f = true ∧ s.dieCount f % 25600 = 0 ∧ (s.chan (gchan f
      c)).strop.r0 ≠ some (s.dieCount f) ∧ (s.chan (gchan f c)).strop.cicAt ≠ some (s.dieCount f)) ∧
    (∃ (s : State) (f : DieNo) (c : _), s.working = true ∧ s.diePowered f = true ∧ s.flag .STP_CTRL_EN (gchan f c) = true ∧ s.dieCount f %
      presetPeriod (s.chan (gchan f c)).strop.preset = 0 ∧ s.levelValid (gchan f c) (s.dieCount f) = true ∧ (s.die f).firAt = some
      (s.dieCount f) ∧ (s.chan (gchan f c)).strop.levelAt ≠ some (s.dieCount f)) ∧
    (∃ (s : State) (f : DieNo) (c : _), s.working = true ∧ s.diePowered f = true ∧ s.flag .STP_CTRL_EN (gchan f c) = true ∧ s.dieCount f %
      presetPeriod (s.chan (gchan f c)).strop.preset = 0 ∧ s.levelValid (gchan f c) (s.dieCount f) = true ∧ (s.die f).firAt = some
      (s.dieCount f) ∧ (s.chan (gchan f c)).strop.levelAt ≠ some (s.dieCount f) ∧ (s.chan (gchan f c)).strop.preset ≠ 0) ∧
    (∃ (s : State) (f : DieNo) (data : _), s.working = true ∧ s.diePowered f = true ∧ Fld.STP_CTRL_SYNC.on data = true) ∧
    (∃ (s : State) (f : DieNo), s.working = true ∧ s.diePowered f = true) ∧
    (∃ (s : State) (f : DieNo) (c : _) (data : _), s.working = true ∧ s.diePowered f = true ∧ Fld.STP_CTRL_EN.on data = true ∧ s.flag
      .STP_CTRL_EN (gchan f c) = false) ∧
    (∃ (s : State) (f : DieNo) (data : _), s.working = true ∧ s.diePowered f = true ∧ Fld.STPD_CTRL_SYNC_ALL.on data = true) ∧
    (∃ (s : State) (f : DieNo) (c : _), s.working = true ∧ s.diePowered f = true ∧ s.resetDue (gchan f c) = true) :=
  ⟨⟨one, 15, 255, by decide +kernel⟩,
   ⟨((withDie 15 (fun d => { d with firAt := some 16384000 }) (withChan 4095 (fun x => { x with strop := { x.strop with r0 := some 0 } })
    (moment 16384000 one))).put .STP_CTRL_EN 1 4095), 15, 255, by decide +kernel⟩,
   ⟨((withDie 15 (fun d => { d with firAt := some 1638400000 }) (withChan 4095 (fun x => { x with
    strop := { x.strop with r0 := some 0, preset := 1 } }) (moment 1638400000 one))).put .STP_CTRL_EN 1 4095), 15, 255, by
    decide +kernel⟩,
   ⟨one, 15, 2, by decide +kernel⟩,
   ⟨one, 15, by decide +kernel⟩,
   ⟨one, 15, 255, 1, by decide +kernel⟩,
   ⟨one, 15, 0x80000000, by decide +kernel⟩,
   ⟨(withChan 4095 (fun x => { x with strop := { x.strop with req := some 5 } }) (moment 16384000 one)).put .SHL_STAT_TSET_DONE 1 15, 15,
    255, by decide +kernel⟩⟩

/-- The hypotheses of StropTransportEffect are met together. -/
theorem test_hyp_strop_transport_effect :
    (∃ (s : State) (f : DieNo) (bankB : _), s.working = true ∧ s.diePowered f = true ∧ s.flag .STPD_BANK_FADING f = false ∧ s.flag
      .STPD_BANK_PEND f = false ∧ s.flag .STPD_BANK_BANK f ≠ bankB) ∧
    (∃ (s : State) (f : DieNo) (bankB : _), s.working = true ∧ s.diePowered f = true ∧ s.flag .STPD_BANK_BANK f = bankB) ∧
    (∃ (s : State) (f : DieNo) (data : _), s.working = true ∧ s.diePowered f = true ∧ Fld.STPD_BANK_REQ.on data = true ∧ s.flag
      .STPD_BANK_FADING f = false ∧ Fld.STPD_BANK_REQ_BANK.of data ≠ s.get .STPD_BANK_BANK f) ∧
    (∃ (s : State) (n : LaneNo) (w : _), s.working = true ∧ s.laneReady n = true ∧ bitOf (s.die (n.val / 4)).alignDue (n.val % 4) = false
      ∧ (s.formPrims n).onlyAmbient n = true ∧ s.ambientSpaced n = true ∧ ((s.formPrims n).quad n).cs.find? (fun w => csRank w == 4) =
      some w) ∧
    (∃ (s : State) (w : _), s.working = true ∧ fw w 58 6 = 0x35) ∧
    (∃ (s : State) (n : LaneNo) (w : _), s.working = true ∧ fw w 58 6 = 0x34 ∧ SMap.get (fun _ => none) s.packer.levels (256 * (n / 4) +
      fw w 50 8) = none ∧ s.isUnformed s.nowSlot = false) :=
  ⟨⟨one, 15, true, by decide +kernel⟩,
   ⟨one, 15, false, by decide +kernel⟩,
   ⟨one, 15, 0xC0, by decide +kernel⟩,
   ⟨withQuad 63 (fun q => { q with cs := [0xD400000000000000] }) lanesUp, 63, 0xD400000000000000, by decide +kernel⟩,
   ⟨one, 0xD400000000000000, by decide +kernel⟩,
   ⟨inSlot 25 one, 63, 0xD0FF000000000005, by decide +kernel⟩⟩

/-- The hypotheses of TriggerMapEffect are met together. -/
theorem test_hyp_trigger_map_effect :
    (∃ (s : State) (n : LaneNo) (w : _), s.working = true ∧ s.joined (n.val / 4) = true ∧ fw w 58 6 = 0x31 ∧ 8 * s.nearBin (fw w 44 13) +
      8 + 128 ≤ s.nowCu) ∧
    (∃ (s : State) (cib : Bool) (w : _), s.working = true ∧ s.get (portFld cib) = 2 ∧ 8 * s.nearBin (fw w 32 13) + 8 + 256 < s.nowCu) ∧
    (∃ (s : State) (cib : Bool) (w : _), s.working = true ∧ s.get (portFld cib) = 2 ∧ s.nowCu ≤ 8 * s.nearBin (fw w 32 13) + 8 + 256 ∧
      s.flag (if cib then .STR_NBR_CIB_EN else .STR_NBR_CIA_EN) = true ∧ bitOf (s.get .STR_STAT_NBR_LOST) (b2n cib) = false) ∧
    (∃ (s : State), s.working = true ∧ 272 ≤ s.nowCu ∧ s.stirrup.last.all (fun x => decide (x.1 < s.evalBin)) = true) ∧
    (∃ (s : State), s.working = true ∧ 272 ≤ s.nowCu ∧ s.stirrup.last.all (fun x => decide (x.1 < s.evalBin)) = true ∧ (s.binCondition
      s.evalBin).1 = true ∧ s.stirrup.last = some (s.evalBin - 1, false) ∧ 0 < s.evalBin ∧ s.stirrup.imgHold = false ∧ bitOf (s.get
      .STR_CTRL_SRC_EN) 0 = true) ∧
    (∃ (s : State), s.working = true) ∧
    (∃ (s : State), s.working = true) ∧
    (∃ (s : State) (upb : _) (x : _) (xs : _), s.working = true ∧ s.sides upb = x :: xs ∧ x.1 + 136 ≤ s.nowCu) ∧
    (∃ (s : State) (upb : _) (x : _) (xs : _), s.working = true ∧ s.sides upb = x :: xs ∧ x.1 + 136 ≤ s.nowCu ∧ s.portSends upb = false)
      :=
  ⟨⟨one, 63, 0xC600000000000000 + 0x80000001 + BitVec.ofNat 64 ((1638400 / 8 - 40) % 8192 * 2 ^ 44), by decide +kernel⟩,
   ⟨run.put .HAR_STAT_CIB_PORT 2, true, BitVec.ofNat 64 ((1638400 / 8 - 40) % 8192 * 2 ^ 32), by decide +kernel⟩,
   ⟨(run.put .HAR_STAT_CIB_PORT 2).put .STR_NBR_CIB_EN 1, true, BitVec.ofNat 64 ((1638400 / 8 - 10) % 8192 * 2 ^ 32 + 0x80000001), by
    decide +kernel⟩,
   ⟨run, by decide +kernel⟩,
   ⟨withStirrup (fun k => { k with map := [(0, 2 ^ 15 + 4095)], prims := [(run.evalBin, 4095)], last := some (run.evalBin - 1, false) })
    (((one.put .STR_CTRL_SRC_EN 1).put .STR_TRIG_MULT 1).put .STR_TRIG_COMBINE 1), by decide +kernel⟩,
   ⟨run.put .STR_MAPADDR_AINC 1, by decide +kernel⟩,
   ⟨run, by decide +kernel⟩,
   ⟨(withHarness (fun h => { h with sidesB := [(5, 6)] }) run).put .HAR_CTRL_UPB_EN 1, true, (5, 6), [], by decide +kernel⟩,
   ⟨(withHarness (fun h => { h with sidesB := [(5, 6)] }) run).put .HAR_CTRL_UPB_EN 0, true, (5, 6), [], by decide +kernel⟩⟩

/-- The hypotheses of TriggerEffect are met together. -/
theorem test_hyp_trigger_effect :
    (∃ (s : State), s.working = true ∧ bitOf (s.get .STR_CTRL_SRC_EN) 1 = true ∧ s.waitList < 8) ∧
    (∃ (s : State) (tslot : BitVec 32) (toff : BitVec 16) (now : Bool), s.working = true ∧ bitOf (s.get .STR_CTRL_SRC_EN) 1 = true ∧ 8 ≤
      s.waitList ∧ s.stirrup.trigs.all (fun x => !sameTrig (if now then 8 * (s.nowCu / 8) else unsigned 48 ((s.nowCu / 65536 : Nat) +
      wrapDiff 32 tslot.toNat (s.nowCu / 65536)) * 65536 + toff.toNat) x.d x) = true) ∧
    (∃ (s : State) (data : _), s.working = true ∧ Fld.STR_CTRL_FORCE.on data = true ∧ bitOf (Fld.STR_CTRL_SRC_EN.of data) 2 = true) ∧
    (∃ (s : State), s.working = true ∧ bitOf (s.get .STR_CTRL_SRC_EN) 3 = true ∧ s.stirrup.autoK < s.autoPeriods) ∧
    (∃ (s : State) (x : _), s.working = true ∧ firstTrig s.stirrup.trigs = some x ∧ x.d ≤ s.nowCu) ∧
    (∃ (s : State) (f : DieNo) (w0 : _) (w1 : _) (ready : _) (g : _) (r : _), s.working = true ∧ SMap.get (fun _ => []) s.harness.frzQ f =
      (w0, w1, ready, g) :: r ∧ s.retFree f = true ∧ ready ≤ s.frc) ∧
    (∃ (s : State) (f : DieNo) (w0 : _) (w1 : _) (ready : _) (g : _) (r : _), s.working = true ∧ SMap.get (fun _ => []) s.harness.frzQ f =
      (w0, w1, ready, g) :: r ∧ s.retFree f = true ∧ ready ≤ s.frc ∧ s.frc + 122 = g + 244) ∧
    (∃ (s : State), s.working = true) ∧
    (∃ (s : State) (data : _), s.working = true ∧ Fld.STR_CTRL_FB_CLEAR.on data = true) :=
  ⟨⟨run.put .STR_CTRL_SRC_EN 2, by decide +kernel⟩,
   ⟨withStirrup (fun k => { k with trigs := List.replicate 8 { trig0 with a := 7, d := 1640000 } }) (run.put .STR_CTRL_SRC_EN 2), 25, 5,
    true, by decide +kernel⟩,
   ⟨run, 0x420, by decide +kernel⟩,
   ⟨withStirrup (fun k => { k with aLast := some 0 }) ((run.put .STR_CTRL_SRC_EN 8).put .STR_AUTO_AUTO_SLOTS 1), by decide +kernel⟩,
   ⟨withStirrup (fun k => { k with trigs := [trig0] }) run, trig0, by decide +kernel⟩,
   ⟨withHarness (fun h => { h with frzQ := [(15, [(1, 2, 5, 1638400)])] }) (moment 1638450 one), 15, 1, 2, 5, 1638400, [], by
    decide +kernel⟩,
   ⟨withHarness (fun h => { h with frzQ := [(15, [(1, 2, 5, 1638328)])] }) (moment 1638450 one), 15, 1, 2, 5, 1638328, [], by
    decide +kernel⟩,
   ⟨run, by decide +kernel⟩,
   ⟨run, 0x10, by decide +kernel⟩⟩

/-- The hypotheses of SegmentEffect are met together. -/
theorem test_hyp_segment_effect :
    (∃ (s : State) (n : LaneNo) (u : _) (v : _) (x : _), s.working = true ∧ u = (s.ingSettle n).passMarkers n ∧ (u.ing n).opened = [] ∧
      u.ingPop n = (v, some x) ∧ u.ingHead n = some x.w ∧ wType x.w = 2 ∧ wKind x.w = 0 ∧ v.tagCtx (fw x.w 39 10) = none) ∧
    (∃ (s : State) (n : LaneNo) (u : _) (v : _) (x : _) (c : _) (r : _) (size : _) (desc : _) (gran : _), s.working = true ∧ u =
      (s.ingSettle n).passMarkers n ∧ (u.ing n).opened = [] ∧ u.ingPop n = (v, some x) ∧ u.ingHead n = some x.w ∧ wType x.w = 2 ∧ wKind
      x.w = 0 ∧ v.tagCtx (fw x.w 39 10) = some c ∧ v.joined (n.val / 4) = true ∧ (c.trigno, 256 * (n.val / 4) + fw x.w 52 8) ∉
      v.stirrup.dropped ∧ r = v.segOf c (256 * (n.val / 4) + fw x.w 52 8) ∧ size = r.size + recordWords (fw x.w 14 9) + (if r.chain = []
      then 2 else 0) ∧ desc = ceilDiv size 256 - r.chain.length ∧ gran = ceilDiv size 32 - r.grans.length ∧ desc ≤ v.get
      .STR_POOLDESC_FREE_DESC ∧ gran ≤ v.get .STR_POOLGRAN_FREE_GRAN ∧ v.ingReady n = false) ∧
    (∃ (s : State) (n : LaneNo) (u : _) (v : _) (x : _) (h : _) (rest : _), s.working = true ∧ u = (s.ingSettle n).passMarkers n ∧ (u.ing
      n).opened = h :: rest ∧ u.ingPop n = (v, some x) ∧ (v.ing n).opened = h :: rest ∧ isEnd x.w = true) ∧
    (∃ (s : State) (n : LaneNo) (u : _) (v : _) (x : _) (h : _) (rest : _), s.working = true ∧ u = (s.ingSettle n).passMarkers n ∧ (u.ing
      n).opened = h :: rest ∧ u.ingPop n = (v, some x) ∧ (v.ing n).opened = h :: rest ∧ isEnd x.w = false ∧ v.ingReady n = false) ∧
    (∃ (s : State) (w : _), s.working = true ∧ fw w 58 6 = 0x32) ∧
    (∃ (s : State) (k : Fin 4) (c : _), s.working = true ∧ s.stirrup.ctxs.getD k none = some c ∧ c.since + max 1 (s.get
      .STR_CTXTO_CTX_TIMEOUT) * 256 ≤ s.frc) :=
  ⟨⟨ingQueue 63 [0x8000000000000000, 0xB000000000000000] (one), 63, ((ingQueue 63 [0x8000000000000000, 0xB000000000000000]
    (one)).ingSettle 63).passMarkers 63, ((((ingQueue 63 [0x8000000000000000, 0xB000000000000000] (one)).ingSettle 63).passMarkers
    63).ingPop 63).1, ((((ingQueue 63 [0x8000000000000000, 0xB000000000000000] (one)).ingSettle 63).passMarkers 63).ingPop 63).2.getD ⟨0,
    0, false⟩, by decide +kernel⟩,
   ⟨ingQueue 63 [0x800002000003C000] (withStirrup (fun k => { k with ctxs := [some ctx0, none, none, none] }) (one.put
    .RNGD_CTRL_GAIN_MODE 1 15)), 63, ((ingQueue 63 [0x800002000003C000] (withStirrup (fun k =>
    { k with ctxs := [some ctx0, none, none, none] }) (one.put .RNGD_CTRL_GAIN_MODE 1 15))).ingSettle 63).passMarkers 63, ((((ingQueue 63
    [0x800002000003C000] (withStirrup (fun k => { k with ctxs := [some ctx0, none, none, none] }) (one.put .RNGD_CTRL_GAIN_MODE 1
    15))).ingSettle 63).passMarkers 63).ingPop 63).1, ((((ingQueue 63 [0x800002000003C000] (withStirrup (fun k =>
    { k with ctxs := [some ctx0, none, none, none] }) (one.put .RNGD_CTRL_GAIN_MODE 1 15))).ingSettle 63).passMarkers 63).ingPop
    63).2.getD ⟨0, 0, false⟩, ctx0, (((((ingQueue 63 [0x800002000003C000] (withStirrup (fun k =>
    { k with ctxs := [some ctx0, none, none, none] }) (one.put .RNGD_CTRL_GAIN_MODE 1 15))).ingSettle 63).passMarkers 63).ingPop
    63).1).segOf ctx0 3840, recordWords 15 + 2, ceilDiv (recordWords 15 + 2) 256, ceilDiv (recordWords 15 + 2) 32, by decide +kernel⟩,
   ⟨(fun s => withIng 63 { s.ing 63 with opened := [0x8000000000000000] } s) (ingQueue 63 [0xB000000000000000] (one)), 63, (((fun s =>
    withIng 63 { s.ing 63 with opened := [0x8000000000000000] } s) (ingQueue 63 [0xB000000000000000] (one))).ingSettle 63).passMarkers 63,
    (((((fun s => withIng 63 { s.ing 63 with opened := [0x8000000000000000] } s) (ingQueue 63 [0xB000000000000000] (one))).ingSettle
    63).passMarkers 63).ingPop 63).1, (((((fun s => withIng 63 { s.ing 63 with opened := [0x8000000000000000] } s) (ingQueue 63
    [0xB000000000000000] (one))).ingSettle 63).passMarkers 63).ingPop 63).2.getD ⟨0, 0, false⟩, 0x8000000000000000, [], by
    decide +kernel⟩,
   ⟨(fun s => withIng 63 { s.ing 63 with opened := [0x8000000000000000] } s) (ingQueue 63 [0x9000000000000000] (one)), 63, (((fun s =>
    withIng 63 { s.ing 63 with opened := [0x8000000000000000] } s) (ingQueue 63 [0x9000000000000000] (one))).ingSettle 63).passMarkers 63,
    (((((fun s => withIng 63 { s.ing 63 with opened := [0x8000000000000000] } s) (ingQueue 63 [0x9000000000000000] (one))).ingSettle
    63).passMarkers 63).ingPop 63).1, (((((fun s => withIng 63 { s.ing 63 with opened := [0x8000000000000000] } s) (ingQueue 63
    [0x9000000000000000] (one))).ingSettle 63).passMarkers 63).ingPop 63).2.getD ⟨0, 0, false⟩, 0x8000000000000000, [], by
    decide +kernel⟩,
   ⟨one, 0xC800000000000000, by decide +kernel⟩,
   ⟨withStirrup (fun k => { k with ctxs := [none, none, none, some ctx0] }) run, 3, ctx0, by decide +kernel⟩⟩

/-- The hypotheses of SlotStrobeEffect are met together. -/
theorem test_hyp_slot_strobe_effect :
    ∃ (s : State), s.alive = true ∧ s.strobeDue = true :=
  ⟨withGirth (fun g => { g with slot := 24, sigma := 1572864 }) run, by decide +kernel⟩

/-- The hypotheses of SlotPackerEffect are met together. -/
theorem test_hyp_slot_packer_effect :
    (∃ (s : State) (n : LaneNo) (w : _) (cross : _), s.working = true ∧ wType w = 0 ∧ s.diePowered (n.val / 4) = true ∧ s.crossFits n
      cross = true ∧ (s.ing n).xw = (s.ing n).xr) ∧
    (∃ (s : State) (n : LaneNo) (w : _) (cross : _), s.working = true ∧ wType w = 0 ∧ s.diePowered (n.val / 4) = true ∧ s.crossFits n
      cross = true ∧ (s.ing n).xw = (s.ing n).xr ∧ (s.ing n).marks.length < 4 ∧ (s.nextClose.any (fun o => o.formed)) = true) ∧
    (∃ (s : State) (o : _), s.working = true ∧ s.nextClose = some o ∧ s.frc % 16 = 0 ∧ o.ended.getD 0 + s.get .SP_WAIT_MARKER_WAIT ≤
      s.frc) ∧
    (∃ (s : State) (o : _), s.working = true ∧ s.packer.slots.find? (fun o => o.closed.isSome) = some o ∧ o.ended.getD 0 + s.get
      .SP_WAIT_GATE_WAIT ≤ s.frc) ∧
    (∃ (s : State) (o : _), s.working = true ∧ s.packer.slots.find? (fun o => o.closed.isSome) = some o ∧ o.ended.getD 0 + s.get
      .SP_WAIT_GATE_WAIT ≤ s.frc ∧ o.formed = false) ∧
    (∃ (s : State) (n : LaneNo) (u : _) (v : _) (x : _) (k : _) (o : _), s.working = true ∧ u = (s.ingSettle n).passMarkers n ∧ (u.ing
      n).opened = [] ∧ u.ingPop n = (v, some x) ∧ u.ingHead n = some x.w ∧ x.bad = false ∧ wType x.w = 1 ∧ SMap.get (fun _ => 0)
      u.packer.laneSlot n = k + 1 ∧ v.packer.slots.find? (fun y => y.slot == k && y.closed.isNone) = some o ∧ (s.get .SP_CTRL_TOT_MIN ≤ fw
      x.w 19 12 ∨ fw x.w 11 1 = 1 ∨ fw x.w 17 1 = 1)) ∧
    (∃ (s : State) (n : LaneNo) (u : _) (v : _) (x : _) (k : _) (o : _), s.working = true ∧ u = (s.ingSettle n).passMarkers n ∧ (u.ing
      n).opened = [] ∧ u.ingPop n = (v, some x) ∧ u.ingHead n = some x.w ∧ x.bad = false ∧ wType x.w = 1 ∧ SMap.get (fun _ => 0)
      u.packer.laneSlot n = k + 1 ∧ v.packer.slots.find? (fun y => y.slot == k && y.closed.isNone) = some o ∧ fw x.w 19 12 < s.get
      .SP_CTRL_TOT_MIN ∧ fw x.w 11 1 = 0 ∧ fw x.w 17 1 = 0) ∧
    (∃ (s : State) (n : LaneNo) (o : _) (i : _) (h : _), s.working = true ∧ s.packer.slots.find? (fun o => o.hits.any (fun h => h.lane ==
      n.val && h.item.isNone)) = some o ∧ o.hits.findIdx? (fun h => h.lane == n.val && h.item.isNone) = some i ∧ o.hits[i]? = some h) :=
  ⟨⟨one, 63, 0x0000F00000000000, 32, by decide +kernel⟩,
   ⟨withPacker (fun k => { k with slots := [{ slot0 with ended := some 1638000 }] }) one, 63, 0x0000F00000000000, 32, by decide +kernel⟩,
   ⟨withPacker (fun k => { k with slots := [slot0] }) (moment 1700000 run), slot0, by decide +kernel⟩,
   ⟨withPacker (fun k => { k with slots := [{ slot0 with closed := some (0, 0) }] }) (moment 1700000 run),
    { slot0 with closed := some (0, 0) }, by decide +kernel⟩,
   ⟨withPacker (fun k => { k with slots := [{ slot0 with formed := false, closed := some (0, 0) }] }) (moment 1700000 run),
    { slot0 with formed := false, closed := some (0, 0) }, by decide +kernel⟩,
   ⟨ingQueue 63 [hit0] (withPacker (fun k => { k with slots := [slot0], laneSlot := [(63, 25)] }) run), 63, ((ingQueue 63 [hit0]
    (withPacker (fun k => { k with slots := [slot0], laneSlot := [(63, 25)] }) run)).ingSettle 63).passMarkers 63, ((((ingQueue 63 [hit0]
    (withPacker (fun k => { k with slots := [slot0], laneSlot := [(63, 25)] }) run)).ingSettle 63).passMarkers 63).ingPop 63).1,
    ((((ingQueue 63 [hit0] (withPacker (fun k => { k with slots := [slot0], laneSlot := [(63, 25)] }) run)).ingSettle 63).passMarkers
    63).ingPop 63).2.getD ⟨0, 0, false⟩, 24, slot0, by decide +kernel⟩,
   ⟨ingQueue 63 [hit0] ((withPacker (fun k => { k with slots := [slot0], laneSlot := [(63, 25)] }) run).put .SP_CTRL_TOT_MIN 4095), 63,
    ((ingQueue 63 [hit0] ((withPacker (fun k => { k with slots := [slot0], laneSlot := [(63, 25)] }) run).put .SP_CTRL_TOT_MIN
    4095)).ingSettle 63).passMarkers 63, ((((ingQueue 63 [hit0] ((withPacker (fun k =>
    { k with slots := [slot0], laneSlot := [(63, 25)] }) run).put .SP_CTRL_TOT_MIN 4095)).ingSettle 63).passMarkers 63).ingPop 63).1,
    ((((ingQueue 63 [hit0] ((withPacker (fun k => { k with slots := [slot0], laneSlot := [(63, 25)] }) run).put .SP_CTRL_TOT_MIN
    4095)).ingSettle 63).passMarkers 63).ingPop 63).2.getD ⟨0, 0, false⟩, 24, slot0, by decide +kernel⟩,
   ⟨withPacker (fun k => { k with slots := [{ slot0 with hits := [⟨63, hit0, 5, none⟩] }] }) run, 63,
    { slot0 with hits := [⟨63, hit0, 5, none⟩] }, 0, ⟨63, hit0, 5, none⟩, by decide +kernel⟩⟩

/-- The hypotheses of HitQueueReadEffect are met together. -/
theorem test_hyp_hit_queue_read_effect :
    (∃ (s u : State) (n : LaneNo) (delay : Nat) (q : _), s.alive = true ∧ s.diePowered (n.val / 4) = true ∧ 1 ≤ delay ∧ delay ≤ 49 ∧
      (s.quad n).rdAt ≤ 2 * s.frc + 1 ∧ u = (s.formPrims n).land n ∧ q = u.quad n) ∧
    (∃ (s u : State) (n : LaneNo) (delay : Nat) (q : _) (w : _) (r : _), s.alive = true ∧ s.diePowered (n.val / 4) = true ∧ 1 ≤ delay ∧
      delay ≤ 49 ∧ (s.quad n).rdAt ≤ 2 * s.frc + 1 ∧ u = (s.formPrims n).land n ∧ q = u.quad n ∧ u.laneReady n = true ∧ q.cs = [] ∧ bitOf
      (s.die (n.val / 4)).alignDue (n.val % 4) = false ∧ q.out = w :: r) ∧
    (∃ (s u : State) (n : LaneNo) (delay : Nat) (q : _), s.alive = true ∧ s.diePowered (n.val / 4) = true ∧ 1 ≤ delay ∧ delay ≤ 49 ∧
      (s.quad n).rdAt ≤ 2 * s.frc + 1 ∧ u = (s.formPrims n).land n ∧ q = u.quad n ∧ u.laneReady n = true ∧ q.cs = [] ∧ bitOf (s.die (n.val
      / 4)).alignDue (n.val % 4) = false ∧ q.out = [] ∧ q.whole = false) ∧
    (∃ (s u : State) (n : LaneNo) (delay : Nat) (q : _) (w : _), s.alive = true ∧ s.diePowered (n.val / 4) = true ∧ 1 ≤ delay ∧ delay ≤ 49
      ∧ (s.quad n).rdAt ≤ 2 * s.frc + 1 ∧ u = (s.formPrims n).land n ∧ q = u.quad n ∧ u.laneReady n = true ∧ q.cs = [] ∧ bitOf (s.die
      (n.val / 4)).alignDue (n.val % 4) = false ∧ q.out = [] ∧ q.whole = true ∧ q.stg = [w] ∧ wType w = 1 ∧ (s.qage (n.val / 4) : Int) <
      wrapDiff 16 (s.dieOff (n.val / 4)) q.stgBirth ∧ q.marks = [] ∧ ptrDiff (q.wCopy s.frc delay) q.rn = 0) ∧
    (∃ (s : State) (u : State) (n : LaneNo) (delay : Nat) (q : _) (flips : List Nat) (w : _) (x : _), s.alive = true ∧ s.diePowered (n.val
      / 4) = true ∧ 1 ≤ delay ∧ delay ≤ 49 ∧ (s.quad n).rdAt ≤ 2 * s.frc + 1 ∧ u = (s.formPrims n).land n ∧ q = u.quad n ∧ u.laneReady n =
      true ∧ q.cs = [] ∧ bitOf (s.die (n.val / 4)).alignDue (n.val % 4) = false ∧ q.out = [] ∧ q.whole = true ∧ q.stg = [w] ∧ wType w = 1
      ∧ (s.qage (n.val / 4) : Int) < wrapDiff 16 (s.dieOff (n.val / 4)) q.stgBirth ∧ q.marks = [] ∧ x = q.row q.rn ∧ s.dieLocked (n.val /
      4) = false ∧ q.drain = false ∧ flips = [] ∧ ptrDiff (q.wCopy s.frc delay) q.rn ≠ 0 ∧ ptrDiff (q.wCopy s.frc delay) q.rn ≤ 2048 ∧
      x.tag = q.rn / 2048 % 4 ∧ wType x.w = 1 ∧ wrapDiff 16 (s.dieOff (n.val / 4)) x.birth ≤ s.qage (n.val / 4)) ∧
    (∃ (s u : State) (n : LaneNo) (delay : Nat) (q : _) (w : _), s.alive = true ∧ s.diePowered (n.val / 4) = true ∧ 1 ≤ delay ∧ delay ≤ 49
      ∧ (s.quad n).rdAt ≤ 2 * s.frc + 1 ∧ u = (s.formPrims n).land n ∧ q = u.quad n ∧ u.laneReady n = true ∧ q.cs = [] ∧ bitOf (s.die
      (n.val / 4)).alignDue (n.val % 4) = false ∧ q.out = [] ∧ q.whole = true ∧ q.stg = [w] ∧ wType w = 1 ∧ wrapDiff 16 (s.dieOff (n.val /
      4)) q.stgBirth ≤ s.qage (n.val / 4)) ∧
    (∃ (s u : State) (n : LaneNo) (delay : Nat) (q : _), s.alive = true ∧ s.diePowered (n.val / 4) = true ∧ 1 ≤ delay ∧ delay ≤ 49 ∧
      (s.quad n).rdAt ≤ 2 * s.frc + 1 ∧ u = (s.formPrims n).land n ∧ q = u.quad n ∧ q.whole = false ∧ q.marks = [] ∧ q.stg = [] ∧ q.drain
      = false ∧ ptrDiff (q.wCopy s.frc delay) q.rn ≠ 0 ∧ ptrDiff (q.wCopy s.frc delay) q.rn ≤ 2048 ∧ (q.row q.rn).tag = q.rn / 2048 % 4 ∧
      wType (q.row q.rn).w = 1) ∧
    (∃ (s u : State) (n : LaneNo) (delay : Nat) (q : _) (k : _), s.alive = true ∧ s.diePowered (n.val / 4) = true ∧ 1 ≤ delay ∧ delay ≤ 49
      ∧ (s.quad n).rdAt ≤ 2 * s.frc + 1 ∧ u = (s.formPrims n).land n ∧ q = u.quad n ∧ q.whole = false ∧ q.marks = [] ∧ 2 ≤ k ∧ q.wCopy
      s.frc delay = q.rn + 1) :=
  ⟨⟨one, ((one).formPrims 63).land 63, 63, 1, (((one).formPrims 63).land 63).quad 63, by decide +kernel⟩,
   ⟨withQuad 63 (fun q => { q with out := [hit0] }) lanesUp, ((withQuad 63 (fun q => { q with out := [hit0] }) lanesUp).formPrims 63).land
    63, 63, 1, (((withQuad 63 (fun q => { q with out := [hit0] }) lanesUp).formPrims 63).land 63).quad 63, hit0, [], by decide +kernel⟩,
   ⟨lanesUp, ((lanesUp).formPrims 63).land 63, 63, 1, (((lanesUp).formPrims 63).land 63).quad 63, by decide +kernel⟩,
   ⟨withQuad 63 (fun q => { q with stg := [hit0], whole := true, stgBirth := 35536 }) lanesUp, ((withQuad 63 (fun q =>
    { q with stg := [hit0], whole := true, stgBirth := 35536 }) lanesUp).formPrims 63).land 63, 63, 1, (((withQuad 63 (fun q =>
    { q with stg := [hit0], whole := true, stgBirth := 35536 }) lanesUp).formPrims 63).land 63).quad 63, hit0, by decide +kernel⟩,
   ⟨agedFirst, ((agedFirst).formPrims 63).land 63, 63, 1, (((agedFirst).formPrims 63).land 63).quad 63, [], hit0, ⟨hit0, 0, 0⟩, by
    decide +kernel⟩,
   ⟨withQuad 63 (fun q => { q with stg := [hit0], whole := true }) lanesUp, ((withQuad 63 (fun q =>
    { q with stg := [hit0], whole := true }) lanesUp).formPrims 63).land 63, 63, 1, (((withQuad 63 (fun q =>
    { q with stg := [hit0], whole := true }) lanesUp).formPrims 63).land 63).quad 63, hit0, by decide +kernel⟩,
   ⟨withQuad 63 (fun q => { q with rows := [(0, ⟨hit0, 0, 0⟩)], wn := 1, begs := [0], wtimes := [5] }) one, ((withQuad 63 (fun q =>
    { q with rows := [(0, ⟨hit0, 0, 0⟩)], wn := 1, begs := [0], wtimes := [5] }) one).formPrims 63).land 63, 63, 1, (((withQuad 63 (fun q
    => { q with rows := [(0, ⟨hit0, 0, 0⟩)], wn := 1, begs := [0], wtimes := [5] }) one).formPrims 63).land 63).quad 63, by
    decide +kernel⟩,
   ⟨withQuad 63 (fun q => { q with rows := [(0, ⟨hit0, 0, 0⟩)], wn := 1, begs := [0], wtimes := [5] }) one, ((withQuad 63 (fun q =>
    { q with rows := [(0, ⟨hit0, 0, 0⟩)], wn := 1, begs := [0], wtimes := [5] }) one).formPrims 63).land 63, 63, 1, (((withQuad 63 (fun q
    => { q with rows := [(0, ⟨hit0, 0, 0⟩)], wn := 1, begs := [0], wtimes := [5] }) one).formPrims 63).land 63).quad 63, 2, by
    decide +kernel⟩⟩

/-- The hypotheses of QueueEffect are met together. -/
theorem test_hyp_queue_effect :
    (∃ (s : State) (n : LaneNo) (w : _) (cross : _), s.alive = true ∧ wType w = 1 ∧ (s.ing n).drain = false ∧ (s.ing n).xw = (s.ing n).xr
      ∧ s.crossFits n cross = true ∧ (s.ing n).extra = none ∧ (s.ing n).isFull = false ∧ s.copying (ingBlock n (s.ing n).wn) = false) ∧
    (∃ (s : State) (n : LaneNo) (w : _) (cross : _), s.alive = true ∧ wType w = 1 ∧ (s.ing n).drain = false ∧ (s.ing n).xw = (s.ing n).xr
      ∧ s.crossFits n cross = true ∧ (s.ing n).extra = none ∧ (s.ing n).isFull = true) ∧
    (∃ (s : State) (n : LaneNo) (w : _) (cross : _) (w0 : _) (b : _) (c : _), s.alive = true ∧ wType w = 1 ∧ (s.ing n).drain = false ∧
      (s.ing n).xw = (s.ing n).xr ∧ s.crossFits n cross = true ∧ (s.ing n).extra = some (w0, b, c) ∧ c < s.c160) ∧
    (∃ (s : State) (n : LaneNo) (w : _) (cross : _) (flip : Fin 4), s.alive = true ∧ wType w ≠ 3 ∧ flip ≠ 0 ∧ (s.ing n).xw = (s.ing n).xr
      ∧ s.crossFits n cross = true) ∧
    (∃ (s : State) (n : LaneNo), s.alive = true ∧ (s.ing n).opened ≠ []) ∧
    (∃ (s : State) (n : LaneNo), s.alive = true ∧ s.diePowered (n.val / 4) = true ∧ (s.quad n).stg ≠ [] ∧ (s.quad n).whole = false) :=
  ⟨⟨run, 63, hit0, 32, by decide +kernel⟩,
   ⟨(fun s => withIng 63 { s.ing 63 with wn := 4096, extra := none } s) one, 63, hit0, 32, by decide +kernel⟩,
   ⟨(fun s => withIng 63 { s.ing 63 with wn := 4096, extra := some (hit0, 5, 7) } s) one, 63, hit0, 32, hit0, 5, 7, by decide +kernel⟩,
   ⟨run, 63, hit0, 32, 1, by decide +kernel⟩,
   ⟨(fun s => withIng 63 { s.ing 63 with opened := [0x8000000000000000] } s) (ingQueue 63 [0xB000000000000000] (one)), 63, by
    decide +kernel⟩,
   ⟨withQuad 63 (fun q => { q with stg := [0x8000000000000000] }) one, 63, by decide +kernel⟩⟩

/-- The hypotheses of StitchEffect are met together. -/
theorem test_hyp_stitch_effect :
    (∃ (s : State) (cib : Bool), s.alive = true ∧ s.get (portFld cib) = 2) ∧
    (∃ (s : State) (cib : Bool) (ws : List Word64), s.alive = true ∧ s.get (portFld cib) = 2 ∧ s.get (ciFld cib) ≠ 0 ∧ s.isUnformed
      (hdrSlot ws) = false ∧ hcrcOk ws = false) ∧
    (∃ (s : State) (cib : Bool) (ws : List Word64), s.alive = true ∧ s.get (portFld cib) = 2 ∧ s.get (ciFld cib) ≠ 0 ∧ s.isUnformed
      (hdrSlot ws) = false ∧ hcrcOk ws = true ∧ hdrModule ws ≠ s.get .ID_MODULE_MODULE ∧ 0 ≤ wrapDiff 48 (hdrSlot ws) s.emit ∧ wrapDiff 48
      (hdrSlot ws) s.emit ≤ s.mergeDl + 4 ∧ s.flag .STI_CTRL_DEDUP = false ∧ pcrcOk ws = true ∧ s.fits (8 * ws.length) = true ∧ s.beforeE
      cib (hdrSlot ws) = false) ∧
    (∃ (s : State) (cib : Bool) (slot : BitVec 48), s.alive = true ∧ s.get (portFld cib) = 2 ∧ s.isUnformed slot.toNat = false ∧ s.get
      (ciFld cib) = 1 ∧ s.emit ≤ slot.toNat) ∧
    (∃ (s : State) (cib : Bool) (slot : BitVec 48), s.alive = true ∧ s.get (portFld cib) = 2 ∧ s.isUnformed slot.toNat = false ∧ s.get
      (ciFld cib) = 2 ∧ s.beforeE cib slot.toNat = false) ∧
    (∃ (s : State), s.alive = true) ∧
    (∃ (s : State), s.alive = true) ∧
    (∃ (s : State), s.alive = true) ∧
    (∃ (s : State) (g : _), s.alive = true ∧ s.ring = false ∧ s.stitch.groups.find? (fun g => g.formed) = some g ∧ g.wait = [] ∧
      s.portReady false g = true ∧ s.portReady true g = true) :=
  ⟨⟨run.put .HAR_STAT_CIB_PORT 2, true, by decide +kernel⟩,
   ⟨(run.put .HAR_STAT_CIB_PORT 2).put .STI_STAT_CIB_STATE 2, true, [25, 2, 3, 4, 5], by decide +kernel⟩,
   ⟨withGirth (fun g => { g with slot := 25 }) (withStitch (fun k => { k with groups := [{ group0 with slot := 25 }] }) (((run.put
    .HAR_STAT_CIB_PORT 2).put .STI_STAT_CIB_STATE 2).put .STI_EMIT_LO_EMIT_LO 24 |>.put .STI_CTRL_DEDUP 0)), true, block25, by
    decide +kernel⟩,
   ⟨withGirth (fun g => { g with slot := 25 }) (withStitch (fun k => { k with groups := [{ group0 with slot := 25 }] }) ((run.put
    .HAR_STAT_CIB_PORT 2).put .STI_STAT_CIB_STATE 1)), true, 25, by decide +kernel⟩,
   ⟨withGirth (fun g => { g with slot := 25 }) (withStitch (fun k => { k with groups := [{ group0 with slot := 25 }] }) ((run.put
    .HAR_STAT_CIB_PORT 2).put .STI_STAT_CIB_STATE 2)), true, 25, by decide +kernel⟩,
   ⟨run, by decide +kernel⟩,
   ⟨run, by decide +kernel⟩,
   ⟨withStitch (fun k => { k with groups := [group0] }) (withGirth (fun g => { g with slot := 40 }) run), by decide +kernel⟩,
   ⟨withStitch (fun k => { k with groups := [group0] }) run, group0, by decide +kernel⟩⟩

/-- The hypotheses of LaneEffect are met together. -/
theorem test_hyp_lane_effect :
    (∃ (s : State) (n : AnyLane), s.alive = true ∧ n.val < 82) ∧
    (∃ (s : State) (n : AnyLane), s.alive = true ∧ n.val < 82 ∧ s.get .HAR_RXL_STAT_STATE n = 2) ∧
    (∃ (s : State) (n : AnyLane), s.alive = true ∧ n.val < 82 ∧ s.get .HAR_RXL_STAT_STATE n = 1) ∧
    (∃ (s : State) (n : AnyLane), s.alive = true ∧ n.val < 82) ∧
    (∃ (s : State) (n : AnyLane), s.alive = true ∧ n.val < 82 ∧ s.get .HAR_RXL_STAT_STATE n = 3) ∧
    (∃ (s : State) (n : AnyLane), s.alive = true ∧ n.val < 82) ∧
    (∃ (s : State) (n : AnyLane), s.alive = true ∧ n.val < 82 ∧ s.get .HAR_RXL_STAT_STATE n = 1) ∧
    (∃ (s : State) (n : AnyLane), s.alive = true ∧ n.val < 82) ∧
    (∃ (s : State) (n : AnyLane), s.alive = true ∧ n.val < 82 ∧ s.get .HAR_RXL_STAT_STATE n = 2) ∧
    (∃ (s : State) (n : AnyLane), s.alive = true ∧ 82 ≤ n.val ∧ s.diePowered (n.val - 82) = true) ∧
    (∃ (s : State) (n : AnyLane), s.alive = true ∧ 82 ≤ n.val ∧ s.diePowered (n.val - 82) = true ∧ s.get .SHL_STAT_RET_STATE (n.val - 82)
      = 2) ∧
    (∃ (s : State) (n : AnyLane), s.alive = true ∧ 82 ≤ n.val ∧ s.diePowered (n.val - 82) = true) ∧
    (∃ (s : State) (n : AnyLane), s.alive = true ∧ 82 ≤ n.val ∧ s.diePowered (n.val - 82) = true ∧ s.get .SHL_STAT_RET_STATE (n.val - 82)
      = 1) ∧
    (∃ (s : State) (n : AnyLane), s.alive = true ∧ 82 ≤ n.val ∧ s.diePowered (n.val - 82) = true ∧ s.get .SHL_STAT_RET_STATE (n.val - 82)
      = 2) ∧
    (∃ (s : State) (n : RxLane), s.alive = true ∧ s.get .HAR_RXL_STAT_STATE n = 1 ∧ s.flag .HAR_RXL_STAT_SLIP_REQ n = false) ∧
    (∃ (s : State) (n : RxLane), s.alive = true ∧ s.get .HAR_RXL_STAT_STATE n = 1) ∧
    (∃ (s : State) (n : RxLane), s.alive = true ∧ s.get .HAR_RXL_STAT_STATE n = 1 ∧ s.get .HAR_RXL_STAT_SLIPS n = 65) ∧
    (∃ (s : State), s.alive = true) ∧
    (∃ (s : State) (n : RxLane), s.alive = true ∧ s.get .HAR_RXL_STAT_STATE n = 0 ∧ s.clockOk n = true) ∧
    (∃ (s : State), s.alive = true) ∧
    (∃ (s : State) (n : RxLane), s.alive = true ∧ s.get .HAR_RXL_STAT_STATE n = 2) ∧
    (∃ (s : State) (n : RxLane), s.alive = true ∧ s.get .HAR_RXL_STAT_STATE n ≠ 0) ∧
    (∃ (s : State) (n : RxLane), s.alive = true ∧ s.get .HAR_RXL_STAT_STATE n ≠ 0) ∧
    (∃ (s : State) (n : RxLane), s.alive = true ∧ s.get .HAR_RXL_STAT_STATE n = 0) ∧
    (∃ (s : State) (n : RxLane), s.alive = true ∧ s.flag .HAR_RXL_CTRL_ADAPT_EN n = true ∧ s.get .HAR_RXL_STAT_STATE n = 2 ∧ s.eqDue n =
      true) ∧
    (∃ (s : State) (n : RxLane) (below : _) (now : Nat) (above : _), s.alive = true ∧ s.flag .HAR_RXL_CTRL_ADAPT_EN n = true ∧ s.get
      .HAR_RXL_STAT_STATE n = 2 ∧ s.eqDue n = true ∧ above ≤ now ∧ below ≤ now ∧ s.get .HAR_RXL_CTRL_EQ_MIN n ≤ s.get .HAR_RXL_CTRL_EQ_MAX
      n) ∧
    (∃ (s : State) (n : RxLane) (below : _) (now : Nat) (above : _), s.alive = true ∧ s.flag .HAR_RXL_CTRL_ADAPT_EN n = true ∧ s.get
      .HAR_RXL_STAT_STATE n = 2 ∧ s.eqDue n = true ∧ now < below ∧ above < below ∧ s.get .HAR_RXL_CTRL_EQ_MIN n ≤ s.get
      .HAR_RXL_CTRL_EQ_MAX n) ∧
    (∃ (s : State) (n : RxLane), s.alive = true ∧ s.flag .HAR_RXL_CTRL_ADAPT_EN n = true ∧ s.get .HAR_RXL_STAT_STATE n = 2 ∧ s.eqDue n =
      true ∧ s.get .HAR_RXL_CTRL_EQ_MAX n < s.get .HAR_RXL_CTRL_EQ_MIN n) ∧
    (∃ (s : State) (n : RxLane) (data : _), s.alive = true ∧ n.val < 33 ∧ Fld.HAR_TXL_CTRL_LOOP.of data ≠ s.get .HAR_TXL_CTRL_LOOP n) ∧
    (∃ (s : State) (n : RxLane) (data : _), s.alive = true ∧ n.val < 33 ∧ Fld.HAR_TXL_CTRL_LOOP.of data ≠ s.get .HAR_TXL_CTRL_LOOP n ∧
      s.txIdle n = false) ∧
    (∃ (s : State) (n : RxLane) (data : _), s.alive = true ∧ n.val < 33 ∧ Fld.HAR_TXL_CTRL_LOOP.of data ≠ s.get .HAR_TXL_CTRL_LOOP n ∧
      s.txIdle n = true) ∧
    (∃ (s : State) (n : RxLane) (data : _), s.alive = true ∧ Fld.HAR_RXL_CTRL_LOOP.of data ≠ s.get .HAR_RXL_CTRL_LOOP n) ∧
    (∃ (s : State) (n : RxLane) (data : _), s.alive = true ∧ Fld.HAR_RXL_CTRL_LOOP.of data ≠ s.get .HAR_RXL_CTRL_LOOP n ∧ s.rxIdle n =
      true) ∧
    (∃ (s : State) (n : RxLane) (data : _), s.alive = true ∧ Fld.HAR_RXL_CTRL_LOOP.of data ≠ s.get .HAR_RXL_CTRL_LOOP n ∧ s.rxIdle n =
      false) :=
  ⟨⟨run, 81, by decide +kernel⟩,
   ⟨run.put .HAR_RXL_STAT_STATE 2 81, 81, by decide +kernel⟩,
   ⟨run.put .HAR_RXL_STAT_STATE 1 81, 81, by decide +kernel⟩,
   ⟨run, 81, by decide +kernel⟩,
   ⟨run.put .HAR_RXL_STAT_STATE 3 81, 81, by decide +kernel⟩,
   ⟨run, 81, by decide +kernel⟩,
   ⟨run.put .HAR_RXL_STAT_STATE 1 81, 81, by decide +kernel⟩,
   ⟨run, 81, by decide +kernel⟩,
   ⟨run.put .HAR_RXL_STAT_STATE 2 81, 81, by decide +kernel⟩,
   ⟨one, 97, by decide +kernel⟩,
   ⟨one.put .SHL_STAT_RET_STATE 2 15, 97, by decide +kernel⟩,
   ⟨one, 97, by decide +kernel⟩,
   ⟨one.put .SHL_STAT_RET_STATE 1 15, 97, by decide +kernel⟩,
   ⟨one.put .SHL_STAT_RET_STATE 2 15, 97, by decide +kernel⟩,
   ⟨run.put .HAR_RXL_STAT_STATE 1 81, 81, by decide +kernel⟩,
   ⟨run.put .HAR_RXL_STAT_STATE 1 81, 81, by decide +kernel⟩,
   ⟨(run.put .HAR_RXL_STAT_STATE 1 81).put .HAR_RXL_STAT_SLIPS 65 81, 81, by decide +kernel⟩,
   ⟨run, by decide +kernel⟩,
   ⟨withHarness (fun h => { h with clocks := 2 ^ 40 - 1 }) run, 81, by decide +kernel⟩,
   ⟨run, by decide +kernel⟩,
   ⟨run.put .HAR_RXL_STAT_STATE 2 81, 81, by decide +kernel⟩,
   ⟨run.put .HAR_RXL_STAT_STATE 2 81, 81, by decide +kernel⟩,
   ⟨run.put .HAR_RXL_STAT_STATE 2 81, 81, by decide +kernel⟩,
   ⟨run, 81, by decide +kernel⟩,
   ⟨((run.put .HAR_RXL_CTRL_ADAPT_EN 1 81).put .HAR_RXL_STAT_STATE 2 81).put .HAR_RXL_CTRL_EQ_MAX 31 81, 81, by decide +kernel⟩,
   ⟨((run.put .HAR_RXL_CTRL_ADAPT_EN 1 81).put .HAR_RXL_STAT_STATE 2 81).put .HAR_RXL_CTRL_EQ_MAX 31 81, 81, 5, 7, 6, by decide +kernel⟩,
   ⟨((run.put .HAR_RXL_CTRL_ADAPT_EN 1 81).put .HAR_RXL_STAT_STATE 2 81).put .HAR_RXL_CTRL_EQ_MAX 31 81, 81, 7, 6, 5, by decide +kernel⟩,
   ⟨(((run.put .HAR_RXL_CTRL_ADAPT_EN 1 81).put .HAR_RXL_STAT_STATE 2 81).put .HAR_RXL_CTRL_EQ_MAX 31 81).put .HAR_RXL_CTRL_EQ_MIN 9 81
    |>.put .HAR_RXL_CTRL_EQ_MAX 8 81, 81, by decide +kernel⟩,
   ⟨run, 32, 0x10, by decide +kernel⟩,
   ⟨(joinDie 15 run), 15, 0x10, by decide +kernel⟩,
   ⟨run, 15, 0x10, by decide +kernel⟩,
   ⟨run, 81, 0x10, by decide +kernel⟩,
   ⟨run, 81, 0x10, by decide +kernel⟩,
   ⟨run.put .HAR_RXL_CTRL_LANE_EN 1 81 |>.put .HAR_RXL_STAT_STATE 2 81, 81, 0x10, by decide +kernel⟩⟩

/-- The hypotheses of PortEffect are met together. -/
theorem test_hyp_port_effect :
    (∃ (s : State) (cib : Bool) (c : _), s.alive = true ∧ c < 2 ^ 32 ∧ s.get (portFld cib) = 2 ∧ s.harness.acount.length = 2 ∧
      (s.harness.acount.getD (b2n cib) none).all (fun a => decide (wrapDiff 32 c a = 1)) = true) ∧
    (∃ (s : State) (cib : Bool) (c : _) (skew : _), s.alive = true ∧ c < 2 ^ 32 ∧ s.get (portFld cib) ≠ 2 ∧ s.harness.acount.length = 2 ∧
      skew ≤ 48 ∧ s.portLocked cib = true) ∧
    (∃ (s : State) (cib : Bool) (c : _) (skew : _), s.alive = true ∧ c < 2 ^ 32 ∧ s.get (portFld cib) ≠ 2 ∧ s.harness.acount.length = 2 ∧
      48 < skew) ∧
    (∃ (s : State) (counts : List Nat), s.alive = true ∧ counts.length ≠ 8) ∧
    (∃ (s : State) (cib : Bool) (acount : BitVec 32), s.alive = true ∧ s.portLocked cib = true ∧ s.get (portFld cib) = 1 ∧
      s.harness.acount.getD (b2n cib) none = some acount.toNat) ∧
    (∃ (s : State) (cib : Bool), s.alive = true ∧ s.get (portFld cib) = 2) :=
  ⟨⟨run.put .HAR_STAT_CIB_PORT 2, true, 5, by decide +kernel⟩,
   ⟨lockedB run, true, 5, 48, by decide +kernel⟩,
   ⟨run, true, 5, 49, by decide +kernel⟩,
   ⟨run, [1, 2, 3, 4, 5, 6, 7], by decide +kernel⟩,
   ⟨withHarness (fun h => { h with acount := [none, some 5] }) ((lockedB run).put .HAR_STAT_CIB_PORT 1), true, 5, by decide +kernel⟩,
   ⟨(run.put .HAR_STAT_CIB_PORT 2).put .STI_STAT_CIB_STATE 2, true, by decide +kernel⟩⟩

/-- The hypotheses of LinkEffect are met together. -/
theorem test_hyp_link_effect :
    (∃ (s : State) (n : LaneNo) (w : _), s.working = true ∧ s.laneReady n = true ∧ ((s.formPrims n).quad n).cs.find? (csMay (s.dieLocked
      (n.val / 4))) = some w ∧ (csRank w = 0 ∨ bitOf (s.die (n.val / 4)).alignDue (n.val % 4) = false)) ∧
    (∃ (s : State) (n : LaneNo) (half : _), s.working = true ∧ s.laneReady n = true ∧ (s.quad n).laneAt ≤ 2 * s.frc + b2n half ∧ bitOf
      (s.die (n.val / 4)).alignDue (n.val % 4) = true ∧ ((s.formPrims n).quad n).cs.all (fun w => csRank w != 0) = true) ∧
    (∃ (s : State) (n : LaneNo) (w : _) (stamp : _), s.working = true ∧ s.get .HAR_RXL_STAT_STATE n = 2 ∧ fw w 56 8 = 0x22 ∧ chkOk w =
      true ∧ s.joined (n.val / 4) = false ∧ 0 ≤ latencyOf w stamp ∧ latencyOf w stamp < 1024) ∧
    (∃ (s : State) (n : LaneNo) (w : _) (stamp : _), s.working = true ∧ s.get .HAR_RXL_STAT_STATE n = 2 ∧ fw w 56 8 = 0x22 ∧ chkOk w =
      true ∧ s.joined (n.val / 4) = true ∧ 160 < latencyOf w stamp) ∧
    (∃ (s : State) (f : DieNo) (n : _), s.working = true ∧ s.lostLane f = some n) ∧
    (∃ (s : State) (f : DieNo) (w : _), s.working = true ∧ s.diePowered f = true ∧ fw w 60 4 = 3 ∧ s.retDue f (· == w) = true) ∧
    (∃ (s : State) (f : DieNo) (w : _), s.working = true ∧ s.diePowered f = true ∧ (fw w 60 4 = 0 ∨ 5 < fw w 60 4) ∧ s.retDue f (fun _ =>
      true) = true ∧ (s.die f).frz0 = none) :=
  ⟨⟨withQuad 63 (fun q => { q with cs := [0xC800000000000000] }) lanesUp, 63, 0xC800000000000000, by decide +kernel⟩,
   ⟨withDie 15 (fun d => { d with alignDue := 8 }) lanesUp, 63, true, by decide +kernel⟩,
   ⟨run.put .HAR_RXL_STAT_STATE 2 63, 63, align0, 0, by decide +kernel⟩,
   ⟨one.put .HAR_RXL_STAT_STATE 2 63, 63, align0, 400, by decide +kernel⟩,
   ⟨withHarness (fun h => { h with lostLanes := [60] }) (withPacker (fun k => { k with
    slots := [{ slot0 with ended := none, dies := 0xFFFF }] }) one), 15, 60, by decide +kernel⟩,
   ⟨retQueued 15 0x30000FFFFFFFF000 one, 15, 0x30000FFFFFFFF000, by decide +kernel⟩,
   ⟨retQueued 15 0 one, 15, 0, by decide +kernel⟩⟩

/-- The hypotheses of FrameEffect are met together. -/
theorem test_hyp_frame_effect :
    (∃ (s : State), s.working = true ∧ s.frc % 24576 = 0) ∧
    (∃ (s : State) (upb : _) (ws : List Word64) (own : _) (counts : Bool) (q : _), s.working = true ∧ s.portSends upb = true ∧
      s.streamFree upb = true ∧ s.outQ upb = .frame ws own false counts :: q) ∧
    (∃ (s : State) (upb : _) (ws : List Word64) (own : _) (counts : Bool) (q : _), s.working = true ∧ s.portSends upb = true ∧
      s.streamFree upb = true ∧ s.outQ upb = .frame ws own false counts :: q ∧ s.harness.shaped = true) ∧
    (∃ (s : State) (upb : _) (ws : List Word64) (own : _) (counts : Bool) (q : _) (drv : BitVec 32) (other : BitVec 32) (wit : BitVec 32),
      s.working = true ∧ s.portSends upb = true ∧ s.streamFree upb = true ∧ s.outQ upb = .frame ws own false counts :: q ∧ s.flag
      .HAR_STAT_WIT_FAIL = false ∧ s.harness.minor.length = 3 ∧ s.harness.minor.all (fun k => decide (k < 3)) = true ∧ drv = other ∧ drv ≠
      wit) ∧
    (∃ (s : State) (upb : _) (ws : List Word64) (own : _) (counts : Bool) (q : _) (drv : BitVec 32) (other : BitVec 32) (wit : BitVec 32),
      s.working = true ∧ s.portSends upb = true ∧ s.streamFree upb = true ∧ s.outQ upb = .frame ws own false counts :: q ∧ s.flag
      .HAR_STAT_WIT_FAIL = false ∧ s.harness.minor.length = 3 ∧ s.harness.minor.all (fun k => decide (k < 3)) = true ∧ drv ≠ other ∧ drv =
      wit) ∧
    (∃ (s : State) (upb : _) (ws : List Word64) (own : _) (counts : Bool) (q : _) (drv : BitVec 32) (other : BitVec 32) (wit : BitVec 32),
      s.working = true ∧ s.portSends upb = true ∧ s.streamFree upb = true ∧ s.outQ upb = .frame ws own false counts :: q ∧ s.flag
      .HAR_STAT_WIT_FAIL = false ∧ s.harness.minor.length = 3 ∧ s.harness.minor.all (fun k => decide (k < 3)) = true ∧ drv ≠ other ∧ other
      = wit) ∧
    (∃ (s : State) (upb : _) (ws : List Word64) (own : _) (counts : Bool) (q : _) (drv : BitVec 32) (other : BitVec 32) (wit : BitVec 32),
      s.working = true ∧ s.portSends upb = true ∧ s.streamFree upb = true ∧ s.outQ upb = .frame ws own false counts :: q ∧ s.flag
      .HAR_STAT_WIT_FAIL = false ∧ s.harness.minor.length = 3 ∧ s.harness.minor.all (fun k => decide (k < 3)) = true ∧ drv ≠ other ∧ other
      = wit ∧ s.harness.mirror = true) ∧
    (∃ (s : State) (upb : _) (ws : List Word64) (own : _) (counts : Bool) (q : _) (drv : BitVec 32) (other : BitVec 32) (wit : BitVec 32),
      s.working = true ∧ s.portSends upb = true ∧ s.streamFree upb = true ∧ s.outQ upb = .frame ws own false counts :: q ∧ s.flag
      .HAR_STAT_WIT_FAIL = false ∧ s.harness.minor.length = 3 ∧ s.harness.minor.all (fun k => decide (k < 3)) = true ∧ drv ≠ other ∧ drv ≠
      wit ∧ other ≠ wit) ∧
    (∃ (s : State) (upb : _) (ws : List Word64) (own : _) (counts : Bool) (q : _) (drv : BitVec 32) (other : BitVec 32) (wit : BitVec 32),
      s.working = true ∧ s.portSends upb = true ∧ s.streamFree upb = true ∧ s.outQ upb = .frame ws own false counts :: q ∧ s.flag
      .HAR_STAT_WIT_FAIL = false ∧ s.harness.minor.length = 3 ∧ s.harness.minor.getD (b2n upb) 0 = 3 ∧ s.harness.mirror = false ∧ drv ≠
      other ∧ other = wit) ∧
    (∃ (s : State) (upb : _) (slot : _) (q : _), s.working = true ∧ s.portSends upb = true ∧ s.streamFree upb = true ∧ s.outQ upb =
      .slotEnd slot :: q) ∧
    (∃ (s : State) (upb : _) (data : _), s.working = true ∧ (if upb then Fld.HAR_CTRL_BLD_B_RESTART else Fld.HAR_CTRL_BLD_A_RESTART).on
      data = true ∧ s.flag (bldFail upb) = true ∧ s.harness.resume.length = 2) ∧
    (∃ (s : State) (upb : _) (data : _), s.working = true ∧ (if upb then Fld.HAR_CTRL_BLD_B_RESTART else Fld.HAR_CTRL_BLD_A_RESTART).on
      data = true ∧ s.flag (bldFail upb) = true ∧ s.harness.resume.length = 2 ∧ upb = true) ∧
    (∃ (s : State), s.working = true) ∧
    (∃ (s : State), s.working = true) ∧
    (∃ (s : State), s.working = true) ∧
    (∃ (s : State), s.working = true) ∧
    (∃ (s : State) (w : _), s.working = true ∧ fw w 58 6 = 0x37 ∧ fw w 53 5 < 24) ∧
    (∃ (s : State) (id : Fin 544), s.working = true ∧ id.val ≠ 543 ∧ id.val ≠ 532 ∧ id.val ≠ 516) ∧
    (∃ (s : State) (e : _), s.working = true ∧ s.matrix.hold = some e ∧ e ≤ s.frc ∧ s.pinWanted = false) :=
  ⟨⟨moment (24576 * 7) (run.put .HAR_CTRL_UPA_EN 1), by decide +kernel⟩,
   ⟨{ withHarness (fun h => { h with outB := [.frame [1, 2] true false true], minor := [0, 0, 0] }) (run.put .HAR_CTRL_UPB_EN 1) with
    mode := .start }, true, [1, 2], true, true, [], by decide +kernel⟩,
   ⟨withHarness (fun h => { h with outB := [.frame [1, 2] true false true], minor := [0, 0, 0] }) (run.put .HAR_CTRL_UPB_EN 1), true, [1,
    2], true, true, [], by decide +kernel⟩,
   ⟨withHarness (fun h => { h with outB := [.frame [1, 2] true false true], minor := [0, 0, 0] }) (run.put .HAR_CTRL_UPB_EN 1), true, [1,
    2], true, true, [], 5, 5, 6, by decide +kernel⟩,
   ⟨withHarness (fun h => { h with outB := [.frame [1, 2] true false true], minor := [0, 0, 0] }) (run.put .HAR_CTRL_UPB_EN 1), true, [1,
    2], true, true, [], 5, 6, 5, by decide +kernel⟩,
   ⟨withHarness (fun h => { h with outB := [.frame [1, 2] true false true], minor := [0, 0, 0] }) (run.put .HAR_CTRL_UPB_EN 1), true, [1,
    2], true, true, [], 5, 6, 6, by decide +kernel⟩,
   ⟨withHarness (fun h => { h with outB := [.frame [1, 2] true false true], minor := [0, 0, 0], mirror := true }) (run.put
    .HAR_CTRL_UPB_EN 1), true, [1, 2], true, true, [], 5, 6, 6, by decide +kernel⟩,
   ⟨withHarness (fun h => { h with outB := [.frame [1, 2] true false true], minor := [0, 0, 0] }) (run.put .HAR_CTRL_UPB_EN 1), true, [1,
    2], true, true, [], 5, 6, 7, by decide +kernel⟩,
   ⟨withHarness (fun h => { h with outB := [.frame [1, 2] true false true], minor := [0, 3, 0] }) (run.put .HAR_CTRL_UPB_EN 1), true, [1,
    2], true, true, [], 5, 6, 6, by decide +kernel⟩,
   ⟨withHarness (fun h => { h with outB := [.slotEnd 24], sentB := 3 }) (run.put .HAR_CTRL_UPB_EN 1), true, 24, [], by decide +kernel⟩,
   ⟨run.put .HAR_STAT_BLD_A_FAIL 1, false, 0x400, by decide +kernel⟩,
   ⟨run.put .HAR_STAT_BLD_B_FAIL 1, true, 0x800, by decide +kernel⟩,
   ⟨run, by decide +kernel⟩,
   ⟨run, by decide +kernel⟩,
   ⟨run, by decide +kernel⟩,
   ⟨run, by decide +kernel⟩,
   ⟨one, 0xDCA0000000000000 + 0x0020000000000000, by decide +kernel⟩,
   ⟨run, 100, by decide +kernel⟩,
   ⟨{ run with matrix := { run.matrix with hold := some 5 } }, 5, by decide +kernel⟩⟩

/-- The hypotheses of SkiveEffect are met together. -/
theorem test_hyp_skive_effect :
    (∃ (s : State) (b : _) (x0 : _) (r : _), s.working = true ∧ s.skive.inbox = (b, x0) :: r ∧ x0 ≤ s.frc ∧ b.payload ≠ [] ∧ (s.skvMode
      b.stream = 0 ∨ s.engines = [])) ∧
    (∃ (s : State) (b : _) (x0 : _) (r : _), s.working = true ∧ s.skive.inbox = (b, x0) :: r ∧ x0 ≤ s.frc ∧ b.payload ≠ [] ∧ s.skvMode
      b.stream ≠ 0 ∧ s.engines ≠ []) ∧
    (∃ (s : State) (e : Fin 16) (tokens : _) (lens : _) (p : _), s.working = true ∧ s.skive.parts.find? (fun p => p.engine == e.val) =
      some p ∧ p.done ≤ s.frc ∧ tokensFit p.chain p.bytes tokens 0 false = true ∧ headerFits (s.partStats p) lens = true ∧ s.skive.shaped
      = true) ∧
    (∃ (s : State) (e : Fin 16) (tokens : _) (lens : _) (flip : _) (p : _), s.working = true ∧ s.skive.parts.find? (fun p => p.engine ==
      e.val) = some p ∧ p.done ≤ s.frc ∧ tokensFit p.chain p.bytes tokens 0 false = true ∧ headerFits (s.partStats p) lens = true ∧
      s.skive.shaped = true ∧ (inflate true false p.bytes.length (flipByte (encodePart (s.partStats p) lens tokens p.bytes p.last).1
      flip)).2.1 ≠ 0) ∧
    (∃ (s : State) (e : Fin 16) (tokens : _) (lens : _) (p : _), s.working = true ∧ s.skive.parts.find? (fun p => p.engine == e.val) =
      some p ∧ p.done ≤ s.frc ∧ tokensFit p.chain p.bytes tokens 0 false = true ∧ headerFits (s.partStats p) lens = true ∧ s.skive.shaped
      = true ∧ p.hist = true) ∧
    (∃ (s : State) (e : Fin 16) (tokens : _) (lens : _) (flip : _) (p : _), s.working = true ∧ s.skive.parts.find? (fun p => p.engine ==
      e.val) = some p ∧ p.done ≤ s.frc ∧ tokensFit p.chain p.bytes tokens 0 false = true ∧ headerFits (s.partStats p) lens = true ∧
      s.skive.shaped = true ∧ p.limit ≠ 0 ∧ p.limit ≤ s.skive.fails.getD e 0 + 1 ∧ (inflate true false p.bytes.length (flipByte
      (encodePart (s.partStats p) lens tokens p.bytes p.last).1 flip)).2.1 ≠ 0 ∧ bitOf (s.get .SKV_STAT_ENG_OUT) e = false) ∧
    (∃ (s : State) (e : Fin 16) (tokens : _) (lens : _) (p : _), s.working = true ∧ s.skive.parts.find? (fun p => p.engine == e.val) =
      some p ∧ p.done ≤ s.frc ∧ tokensFit p.chain p.bytes tokens 0 false = true ∧ headerFits (s.partStats p) lens = true ∧ s.skive.shaped
      = true ∧ (s.skive.blocks.find? (fun x => x.blk.slot == p.slot && x.blk.stream == p.stream)).any (fun k => k.out.length + 1 !=
      k.parts) = true) ∧
    (∃ (s : State) (b : _) (x : _) (r : _), s.working = true ∧ s.skive.stored = (b, x) :: r ∧ x ≤ s.frc) ∧
    (∃ (s : State) (n : _) (x : _) (r : _), s.working = true ∧ s.skive.closed = (n, x) :: r ∧ x + 65536 ≤ s.frc) ∧
    (∃ (s : State) (n : _) (x : _) (r : _), s.working = true ∧ s.skive.closed = (n, x) :: r ∧ x + 65536 ≤ s.frc ∧ s.inSkive n = false) :=
  ⟨⟨withSkive (fun k => { k with inbox := [(block0, 5)] }) (run.put .SKV_MODE_MODE 0), block0, 5, [], by decide +kernel⟩,
   ⟨withSkive (fun k => { k with inbox := [(block0, 5)] }) ((run.put .SKV_MODE_MODE 0x55555555).put .SKV_CTRL_ENG_EN 0xFFFF), block0, 5,
    [], by decide +kernel⟩,
   ⟨withSkive (fun k => { k with parts := [part0], blocks := [⟨block0, 1, 1, [], false⟩] }) run, 15, [(0, 1), (0, 2), (0, 3)], [], part0,
    by decide +kernel⟩,
   ⟨withSkive (fun k => { k with parts := [part0], blocks := [⟨block0, 1, 1, [], false⟩] }) run, 15, [(0, 1), (0, 2), (0, 3)], [], some
    (0, 3), part0, by decide +kernel⟩,
   ⟨withSkive (fun k => { k with parts := [{ part0 with hist := true }], blocks := [⟨block0, 1, 1, [], false⟩] }) run, 15, [(0, 1), (0,
    2), (0, 3)], [], { part0 with hist := true }, by decide +kernel⟩,
   ⟨withSkive (fun k => { k with parts := [part0], blocks := [⟨block0, 1, 1, [], false⟩], fails := List.replicate 16 1 }) run, 15, [(0,
    1), (0, 2), (0, 3)], [], some (0, 3), part0, by decide +kernel⟩,
   ⟨withSkive (fun k => { k with parts := [part0], blocks := [⟨block0, 1, 2, [], false⟩], fails := List.replicate 16 1 }) run, 15, [(0,
    1), (0, 2), (0, 3)], [], part0, by decide +kernel⟩,
   ⟨withSkive (fun k => { k with stored := [(block0, 5)] }) run, block0, 5, [], by decide +kernel⟩,
   ⟨withSkive (fun k => { k with closed := [(24, 5)], inbox := [({ block0 with stream := 0 }, 5)] }) run, 24, 5, [], by decide +kernel⟩,
   ⟨withSkive (fun k => { k with closed := [(24, 5)] }) run, 24, 5, [], by decide +kernel⟩⟩

/-- The hypotheses of SkiveRegisterEffect are met together. -/
theorem test_hyp_skive_register_effect :
    (∃ (s : State), s.alive = true) ∧
    (∃ (s : State), s.alive = true) ∧
    (∃ (s : State) (data : _), s.alive = true ∧ Fld.SKV_INSP_CTRL_GO.on data = true) ∧
    (∃ (s : State), s.alive = true ∧ s.flag .SKV_INSP_CTRL_BUSY = true) :=
  ⟨⟨run.put .SKV_STAT_ENG_OUT 0xFFFF, by decide +kernel⟩,
   ⟨run, by decide +kernel⟩,
   ⟨run, 0xC0000001, by decide +kernel⟩,
   ⟨run.put .SKV_INSP_CTRL_BUSY 1, by decide +kernel⟩⟩

/-- The hypotheses of TreeEffect are met together. -/
theorem test_hyp_tree_effect :
    (∃ (s : State) (b : Fin 4194304) (f0 f1 f2 m : List (Fin 81)) (x : TBlock), s.alive = true ∧ s.inOrder 5 = true ∧ s.copying b = false
      ∧ s.stale b = false ∧ b.val < mapStart ∧ ((struck s b f0 m).block (staleAt b).1).classify = .clean ∧ (struck s b f1 m).stale b =
      false ∧ ((struck s b f0 m).block b).classify = .clean ∧ ((struck s b f1 m).block b).classify = .mend x ∧ ((struck s b f2 m).block
      b).classify = .uncorrectable) ∧
    (∃ (s : State) (rank : Fin 6) (b : Fin 4194304), s.alive = true ∧ s.inOrder rank = true ∧ s.copying b = false) ∧
    (∃ (s : State) (rank : Fin 6) (b : Fin 4194304) (mask : _), s.alive = true ∧ s.inOrder rank = true ∧ s.copying b = false ∧ mask ≠ 0 ∧
      b.val < mapStart) ∧
    (∃ (s : State) (rank : Fin 6) (b : Fin 4194304), s.alive = true ∧ s.inOrder rank = true ∧ s.copying b = false) ∧
    (∃ (s : State) (rank : Fin 6) (b : Fin 4194304), s.alive = true ∧ s.inOrder rank = true ∧ mapStart ≤ b.val) ∧
    (∃ (s : State) (rank : Fin 6) (b : Fin 4194304), s.alive = true ∧ s.inOrder rank = true ∧ s.copying b = true) :=
  ⟨⟨fresh 5 run, 5, [], [0], [0, 1], [], TBlock.full 0x1234, by decide +kernel⟩,
   ⟨run, 0, 4194303, by decide +kernel⟩,
   ⟨run, 0, 5, 0x81, by decide +kernel⟩,
   ⟨run, 0, 5, by decide +kernel⟩,
   ⟨run, 0, 4194303, by decide +kernel⟩,
   ⟨withTree (fun k => { k with copy := some (0, 0, 5) }) run, 0, 5, by decide +kernel⟩⟩

/-- The hypotheses of ScrubEffect are met together. -/
theorem test_hyp_scrub_effect :
    (∃ (s : State) (f1 f2 m : List (Fin 81)) (x : TBlock), s.alive = true ∧ s.get .TRE_CTRL_SCRUB_PERIOD ≠ 0 ∧ s.visitDue = true ∧ s.get
      .TRE_SCRUB_POS < mapStart ∧ s.copying (s.get .TRE_SCRUB_POS) = false ∧ ((struck s (s.get .TRE_SCRUB_POS) f1 m).block (staleAt (s.get
      .TRE_SCRUB_POS)).1).classify = .clean ∧ (struck s (s.get .TRE_SCRUB_POS) f1 m).stale (s.get .TRE_SCRUB_POS) = false ∧ ((struck s
      (s.get .TRE_SCRUB_POS) f1 m).block (s.get .TRE_SCRUB_POS)).classify = .mend x ∧ ((struck s (s.get .TRE_SCRUB_POS) f2 m).block (s.get
      .TRE_SCRUB_POS)).classify = .uncorrectable ∧ (struck s (s.get .TRE_SCRUB_POS) f2 m).inUse (s.get .TRE_SCRUB_POS) (.own 0 0) = false)
      ∧
    (∃ (s : State) (data : _), s.alive = true ∧ Fld.TRE_REPAIR_GO.on data = true ∧ s.tree.copy = none ∧ s.fused (Fld.TRE_REPAIR_MACRO.of
      data) + s.soft (Fld.TRE_REPAIR_MACRO.of data) < 4) ∧
    (∃ (s : State) (data : _), s.alive = true ∧ Fld.TRE_REPAIR_GO.on data = true ∧ s.tree.copy = none ∧ 4 ≤ s.fused
      (Fld.TRE_REPAIR_MACRO.of data) + s.soft (Fld.TRE_REPAIR_MACRO.of data)) ∧
    (∃ (s : State) (m : _) (r : _) (x : _), s.alive = true ∧ s.tree.copy = some (m, r, x) ∧ x + 128 ≤ s.frc ∧ s.inOrder 6 = true ∧
      s.tree.held = [] ∧ s.fabric.waiting = [] ∧ s.tree.todo = []) ∧
    (∃ (s : State) (m : _) (r : _) (x : _) (m2 : _) (r2 : _) (l : _), s.alive = true ∧ s.tree.copy = some (m, r, x) ∧ x + 128 ≤ s.frc ∧
      s.inOrder 6 = true ∧ s.tree.held = [] ∧ s.fabric.waiting = [] ∧ s.tree.todo = (m2, r2) :: l ∧ m2 ≠ m ∧ s.fused m2 + s.soft m2 < 4) ∧
    (∃ (s : State) (f m : List (Fin 81)), s.alive = true ∧ s.get .TRE_CTRL_SCRUB_PERIOD ≠ 0 ∧ s.visitDue = true ∧ s.get .TRE_SCRUB_POS <
      mapStart ∧ s.copying (s.get .TRE_SCRUB_POS) = false ∧ ((struck s (s.get .TRE_SCRUB_POS) f m).block (staleAt (s.get
      .TRE_SCRUB_POS)).1).classify = .clean ∧ (struck s (s.get .TRE_SCRUB_POS) f m).stale (s.get .TRE_SCRUB_POS) = false ∧ ((struck s
      (s.get .TRE_SCRUB_POS) f m).block (s.get .TRE_SCRUB_POS)).classify = .uncorrectable ∧ (struck s (s.get .TRE_SCRUB_POS) f m).inUse
      (s.get .TRE_SCRUB_POS) (.own 0 0) = true) :=
  ⟨⟨fresh 0 run, [0], [0, 1], [], TBlock.full 0x1234, by decide +kernel⟩,
   ⟨run, 0x80000000 + 127 * 0x400000 + 2047 * 0x800, by decide +kernel⟩,
   ⟨withTree (fun k => { k with soft := [(0, 4)] }) run, 0x80000000, by decide +kernel⟩,
   ⟨withTree (fun k => { k with copy := some (127, 2047, 5) }) run, 127, 2047, 5, by decide +kernel⟩,
   ⟨withTree (fun k => { k with copy := some (127, 2047, 5), todo := [(3, 7)] }) run, 127, 2047, 5, 3, 7, [], by decide +kernel⟩,
   ⟨fresh 4096000 (run.put .TRE_SCRUB_POS 4096000), [0, 1], [], by decide +kernel⟩⟩

/-- The hypotheses of ScanEffect are met together. -/
theorem test_hyp_scan_effect :
    (∃ (s : State), s.working = true ∧ s.tack.scanDue = false) ∧
    (∃ (s : State), s.working = true ∧ s.tack.scanDue = true ∧ s.flag .HK_STAT_SCANNING = false) ∧
    (∃ (s : State), s.working = true ∧ s.tack.scanDue = true ∧ s.flag .HK_STAT_SCANNING = true) ∧
    (∃ (s : State) (a : _) (b : _) (q : _), s.working = true ∧ s.flag .HK_STAT_SCANNING = true ∧ s.tack.step = false ∧ s.frc % 64 = 0 ∧
      s.tack.visits = [none, none] ∧ s.tack.saved = none ∧ s.tack.queue = a :: b :: q) ∧
    (∃ (s : State) (cb : _) (v : _), s.working = true ∧ s.visit cb = some v ∧ s.tack.visits.length = 2 ∧ v.phase = .make ∧ v.due ≤ s.frc ∧
      v.code = none ∧ s.exBusy cb (s.reg .HK_CHCFG v.ch) = false) ∧
    (∃ (s : State) (cb : _) (v : _), s.working = true ∧ s.visit cb = some v ∧ s.tack.visits.length = 2 ∧ v.phase = .make ∧ v.due ≤ s.frc ∧
      v.code = none ∧ s.exBusy cb (s.reg .HK_CHCFG v.ch) = true) ∧
    (∃ (s : State) (cb : _) (v : _), s.working = true ∧ s.visit cb = some v ∧ s.tack.visits.length = 2 ∧ v.phase = .wait ∧ v.code = none ∧
      s.frc % 64 = 0 ∧ s.exBusy cb (s.reg .HK_CHCFG v.ch) = false) ∧
    (∃ (s : State) (cb : _) (v : _), s.working = true ∧ s.visit cb = some v ∧ s.tack.visits.length = 2 ∧ v.phase = .wait ∧ v.code = none ∧
      s.frc % 64 = 0 ∧ s.exBusy cb (s.reg .HK_CHCFG v.ch) = true ∧ v.waited = true) ∧
    (∃ (s : State), s.working = true ∧ s.tack.step = true ∧ s.tack.visits = [none, none] ∧ s.tack.saved = none ∧ (s.tack.queue ≠ [] ∨
      s.tack.plaus31 = true)) ∧
    (∃ (s : State), s.working = true ∧ s.tack.step = true ∧ s.tack.visits = [none, none] ∧ s.tack.saved = none ∧ s.tack.queue = [] ∧
      s.tack.plaus31 = false ∧ s.tack.waiting = false) ∧
    (∃ (s : State) (ch : _) (q : _), s.working = true ∧ s.tack.urgent = ch :: q ∧ s.tack.visits.length = 2 ∧ s.frc % 64 = 0 ∧ (∀ v,
      s.visit false = some v → v.kind ≠ 2 ∧ v.converting s.frc = false ∧ v.phase ≠ .done)) ∧
    (∃ (s : State) (ch : _) (q : _), s.working = true ∧ s.tack.urgent = ch :: q ∧ s.tack.visits.length = 2 ∧ s.frc % 64 = 0 ∧ (∀ v,
      s.visit false = some v → v.kind ≠ 2 ∧ v.converting s.frc = false ∧ v.phase ≠ .done) ∧ s.visit false = some visit0) ∧
    (∃ (s : State) (data : _), s.working = true ∧ Fld.HK_URG_GO.on data = true ∧ s.tack.urgent.length < 4) ∧
    (∃ (s : State) (data : _), s.working = true ∧ Fld.HK_URG_GO.on data = true ∧ 4 ≤ s.tack.urgent.length) :=
  ⟨⟨run, by decide +kernel⟩,
   ⟨withTack (fun k => { k with scanDue := true }) run, by decide +kernel⟩,
   ⟨withTack (fun k => { k with scanDue := true }) (run.put .HK_STAT_SCANNING 1), by decide +kernel⟩,
   ⟨withTack (fun k => { k with queue := [5, 6, 7] }) (run.put .HK_STAT_SCANNING 1), 5, 6, [7], by decide +kernel⟩,
   ⟨withTack (fun k => { k with visits := [none, some visit0] }) run, true, visit0, by decide +kernel⟩,
   ⟨(withTack (fun k => { k with visits := [some { visit0 with phase := .sample, cfg := 0x4000 }, some visit0] }) run).put .HK_CHCFG_EXCUR
    3 31, true, visit0, by decide +kernel⟩,
   ⟨withTack (fun k => { k with visits := [none, some { visit0 with phase := .wait }] }) run, true, { visit0 with phase := .wait }, by
    decide +kernel⟩,
   ⟨(withTack (fun k => { k with visits := [some { visit0 with phase := .sample, cfg := 0x4000 }, some
    { visit0 with phase := .wait, waited := true }] }) run).put .HK_CHCFG_EXCUR 3 31, true,
    { visit0 with phase := .wait, waited := true }, by decide +kernel⟩,
   ⟨withTack (fun k => { k with step := true, queue := [5] }) run, by decide +kernel⟩,
   ⟨withTack (fun k => { k with step := true }) run, by decide +kernel⟩,
   ⟨withTack (fun k => { k with urgent := [31] }) run, 31, [], by decide +kernel, by decide +kernel, by decide +kernel, by decide +kernel,
    fun v h => by cases h⟩,
   ⟨withTack (fun k => { k with urgent := [31], visits := [some visit0, none] }) run, 31, [], by decide +kernel, by decide +kernel, by
    decide +kernel, by decide +kernel, (fun v h => by cases h; decide +kernel), by decide +kernel⟩,
   ⟨run, 0x8000001F, by decide +kernel⟩,
   ⟨withTack (fun k => { k with urgent := [1, 2, 3, 4] }) run, 0x8000001F, by decide +kernel⟩⟩

/-- The hypotheses of SampleEffect are met together. -/
theorem test_hyp_sample_effect :
    (∃ (s : State) (cb : _) (v : _), s.working = true ∧ s.visit cb = some v ∧ s.tack.visits.length = 2 ∧ v.phase = .sample ∧ v.due + 80 *
      64 ≤ s.frc) ∧
    (∃ (s : State) (cb : _) (v : _), s.working = true ∧ s.visit cb = some v ∧ s.tack.visits.length = 2 ∧ v.phase = .test ∧ v.due ≤ s.frc ∧
      v.ch < 32) ∧
    (∃ (s : State) (cb : _) (code : BitVec 12) (v : _), s.working = true ∧ s.visit cb = some v ∧ s.tack.visits.length = 2 ∧ v.phase =
      .test ∧ v.due ≤ s.frc ∧ v.ch < 32 ∧ testFails v code.toInt = true ∧ 1 ≤ (SMap.get (fun _ => (0, 0)) s.tack.tests v.ch).1 ∧ bitOf
      (s.get .HK_OPEN_OPEN) v.ch = false) ∧
    (∃ (s : State) (cb : _) (code : BitVec 12) (v : _), s.working = true ∧ s.visit cb = some v ∧ s.tack.visits.length = 2 ∧ v.phase =
      .test ∧ v.due ≤ s.frc ∧ v.ch < 32 ∧ testFails v code.toInt = false ∧ 1 ≤ (SMap.get (fun _ => (0, 0)) s.tack.tests v.ch).2 ∧ bitOf
      (s.get .HK_OPEN_OPEN) v.ch = true) ∧
    (∃ (s : State) (cb : _) (v : _), s.working = true ∧ s.visit cb = some v ∧ s.tack.visits.length = 2 ∧ v.phase = .done ∧ v.kind = 1 ∧
      s.itemTurn cb v = true ∧ s.flag .HK_LAMP_LAMP_EN = false) ∧
    (∃ (s : State) (n : Fin 32) (v : _), s.working = true ∧ s.visit true = none ∧ s.visit false = some v ∧ s.tack.visits.length = 2 ∧ v.ch
      = n.val ∧ (v.phase = .sample ∨ v.phase = .test) ∧ v.settleAt ≤ s.frc) ∧
    (∃ (s : State), s.working = true) ∧
    (∃ (s : State) (data : _), s.working = true ∧ Fld.HK_CHCFG_OW_PULL.of data = 3) ∧
    (∃ (s : State) (data : _), s.working = true ∧ Fld.HK_CHCFG_OW_PULL.of data ≠ 3) :=
  ⟨⟨withTack (fun k => { k with visits := [none, some { visit0 with phase := .sample }] }) run, true, { visit0 with phase := .sample }, by
    decide +kernel⟩,
   ⟨withTack (fun k => { k with visits := [none, some { visit0 with phase := .test }] }) run, true, { visit0 with phase := .test }, by
    decide +kernel⟩,
   ⟨withTack (fun k => { k with visits := [none, some { visit0 with phase := .test }], tests := [(31, (1, 0))] }) (run), true, 0x7FF,
    { visit0 with phase := .test }, by decide +kernel⟩,
   ⟨withTack (fun k => { k with visits := [none, some { visit0 with phase := .test }], tests := [(31, (0, 1))] }) (run.put .HK_OPEN_OPEN
    (2 ^ 31)), true, 0, { visit0 with phase := .test }, by decide +kernel⟩,
   ⟨withTack (fun k => { k with visits := [none, some { visit0 with phase := .done, code := some 100 }] }) run, true,
    { visit0 with phase := .done, code := some 100 }, by decide +kernel⟩,
   ⟨withTack (fun k => { k with visits := [some { visit0 with phase := .test }, none] }) run, 31, { visit0 with phase := .test }, by
    decide +kernel⟩,
   ⟨run, by decide +kernel⟩,
   ⟨run, 0x0301C0A0, by decide +kernel⟩,
   ⟨run, 0x010180A0, by decide +kernel⟩⟩

/-- The hypotheses of CalibrationRequestEffect are met together. -/
theorem test_hyp_calibration_request_effect :
    (∃ (s : State) (f : DieNo), s.working = true ∧ s.diePowered f = true) ∧
    (∃ (s : State) (f : DieNo), s.working = true ∧ (s.bur f).tempAt + 1024 ≤ s.girth.begun) ∧
    (∃ (s : State) (f : DieNo) (cls : Fin 3), s.working = true ∧ s.get .BUR_CTRL_MAXINT ≠ 0 ∧ (s.bur f).last.getD cls 0 ≠ 0 ∧ (s.bur
      f).last.getD cls 0 + s.get .BUR_CTRL_MAXINT * 4096 ≤ s.girth.begun + 1) ∧
    (∃ (s : State), s.working = true) ∧
    (∃ (s : State) (tgt : _), s.working = true ∧ s.tmiActs = true ∧ s.addressed tgt = true ∧ s.latigo.initRun = none) ∧
    (∃ (s : State) (f : DieNo), s.working = true ∧ s.calReady f 0 = false ∧ s.calReady f 1 = true ∧ s.calReady f 2 = false) :=
  ⟨⟨one, 15, by decide +kernel⟩,
   ⟨inSlot 2000 one, 15, by decide +kernel⟩,
   ⟨withBur 15 (fun b => { b with last := [0, 0, 5] }) (inSlot 5000 (run.put .BUR_CTRL_MAXINT 1)), 15, 2, by decide +kernel⟩,
   ⟨run, by decide +kernel⟩,
   ⟨run, 0xFFF, by decide +kernel⟩,
   ⟨withBur 15 (fun b => { b with req := 2 }) ((((one.put .BUR_CTRL_EN 7).put .SHL_STAT_RET_STATE 2 15).put .BUR_CTRL_CONC 15)), 15, by
    decide +kernel⟩⟩

/-- The hypotheses of CalibrationRunEffect are met together. -/
theorem test_hyp_calibration_run_effect :
    (∃ (s : State) (n : LaneNo) (x : _), s.working = true ∧ s.cdWaits n = true ∧ bitOf (s.get .BURD_HSEL_DONE (n.val / 4)) (n.val % 4) =
      true ∧ s.nextEnabled n (s.histChan n + 1) = some x) ∧
    (∃ (s : State) (n : LaneNo) (x : _), s.working = true ∧ s.cdWaits n = true ∧ bitOf (s.get .BURD_HSEL_DONE (n.val / 4)) (n.val % 4) =
      false ∧ (s.bur (n.val / 4)).cdFrom.getD (n.val % 4) 0 + s.get .BUR_CD_CD_TIMEOUT ≤ s.girth.begun ∧ s.nextEnabled n (s.histChan n +
      1) = some x) ∧
    (∃ (s : State), s.working = true ∧ s.calOn 0 = false) ∧
    (∃ (s : State) (f : DieNo) (i : _), s.working = true ∧ s.diePowered f = true ∧ (s.die f).inj = some i ∧ s.injDue f i = true) ∧
    (∃ (s : State) (f : DieNo), s.working = true ∧ s.diePowered f = true ∧ s.dieCount f % firStep = 0 ∧ (s.die f).firAt ≠ some (s.dieCount
      f)) ∧
    (∃ (s : State) (f : DieNo) (found : _) (pos : _) (a : _), s.working = true ∧ s.injDone f = true ∧ (s.die f).amb = some a ∧ 64 ≤ a ∧
      aperFits (s.aperRecs f) found pos = false) ∧
    (∃ (s : State) (f : DieNo) (found : _) (pos : _) (a : _), s.working = true ∧ s.injDone f = true ∧ (s.die f).amb = some a ∧ 64 ≤ a ∧
      aperFits (s.aperRecs f) found pos = true) ∧
    (∃ (s : State) (f : DieNo) (found : _) (pos : _) (a : _), s.working = true ∧ s.injDone f = true ∧ (s.die f).amb = some a ∧ 64 ≤ a ∧
      aperFits (s.aperRecs f) found pos = true ∧ aperShifts (s.aperRecs f) found pos = []) ∧
    (∃ (s : State) (f : DieNo) (found : _) (pos : _) (a : _), s.working = true ∧ s.injDone f = true ∧ (s.die f).amb = some a ∧ 64 ≤ a ∧
      aperFits (s.aperRecs f) found pos = true ∧ aperShifts (s.aperRecs f) found pos ≠ []) ∧
    (∃ (s : State) (f : DieNo), s.working = true ∧ s.diePowered f = true ∧ (s.bur f).res ≠ 0 ∧ s.flag .AWLD_CTRL_PENDING f = false ∧ bitOf
      (s.get .BUR_STAT_LOCK) f = false ∧ (s.bur f).epoch0 + (s.die f).ramp.r ≤ s.nowSlot + 1) ∧
    (∃ (s : State) (f : DieNo), s.working = true ∧ s.pending = [] ∧ s.fabric.waiting = [] ∧ (s.bur f).commitAt = some s.frc) :=
  ⟨⟨(withBur 15 (fun b => { b with run := 1 }) ((one.put .BURD_HSEL_DONE 8 15).put .PIX_CTRL_EN 1 4095)), 63, 63, by decide +kernel⟩,
   ⟨inSlot 60000 (withBur 15 (fun b => { b with run := 1 }) (one.put .PIX_CTRL_EN 1 4095)), 63, 63, by decide +kernel⟩,
   ⟨run.put .BUR_CTRL_EN 0, by decide +kernel⟩,
   ⟨withDie 15 (fun d => { d with inj := some ⟨1638000, 0, 1, true⟩ }) one, 15, ⟨1638000, 0, 1, true⟩, by decide +kernel⟩,
   ⟨moment 16384000 one, 15, by decide +kernel⟩,
   ⟨injEnds, 15, [], [], 64, by decide +kernel⟩,
   ⟨injEnds, 15, [true], [0], 64, by decide +kernel⟩,
   ⟨injEnds, 15, [false], [0], 64, by decide +kernel⟩,
   ⟨injEnds, 15, [true], [0], 64, by decide +kernel⟩,
   ⟨inSlot 100 (withBur 15 (fun b => { b with res := 5, bias := some 700 }) one), 15, by decide +kernel⟩,
   ⟨withBur 15 (fun b => { b with commitAt := some 1638400 }) one, 15, by decide +kernel⟩⟩

/-- The hypotheses of LampEffect are met together. -/
theorem test_hyp_lamp_effect :
    (∃ (s : State) (data : _), s.working = true ∧ Fld.RSE_PULSE_ARM.on data = true) ∧
    (∃ (s : State) (data : _), s.working = true ∧ Fld.RSE_PULSE_ARM.on data = true ∧ (s.trainOf s.nowSlot).isSome = true) ∧
    (∃ (s : State) (x : _), s.working = true ∧ s.trainOf s.nowSlot = some x ∧ x.uses s.nowSlot = true ∧ s.rosette.fired ≠ some
      s.girth.begun ∧ s.slotReached x.poff = true) ∧
    (∃ (s : State) (x : _), s.working = true ∧ s.trainOf s.nowSlot = some x ∧ x.uses s.nowSlot = true ∧ s.rosette.fired ≠ some
      s.girth.begun ∧ s.slotReached x.poff = true ∧ s.rseOff = false) ∧
    (∃ (s : State) (data : _), s.working = true ∧ Fld.RSE_CTRL_STOP.on data = true) ∧
    (∃ (s : State) (k : Fin 24) (na : _) (mv : _) (l : _) (low : _) (short : _), s.working = true ∧ SMap.get (fun _ => none) s.rosette.lit
      k = some l ∧ l.diag = false ∧ l.on_ + 768 ≤ l.end_ ∧ l.on_ + 768 ≤ s.frc ∧ low = decide (2 * na * (255 * 1023) < s.sinkCurrent k
      l.kind) ∧ short = decide (50 * s.get .RSE_DIAG_SHORT_V < mv)) ∧
    (∃ (s : State) (k : Fin 24) (na : _) (mv : _) (l : _) (low : _) (short : _), s.working = true ∧ SMap.get (fun _ => none) s.rosette.lit
      k = some l ∧ l.diag = false ∧ l.on_ + 768 ≤ l.end_ ∧ l.on_ + 768 ≤ s.frc ∧ low = decide (2 * na * (255 * 1023) < s.sinkCurrent k
      l.kind) ∧ short = decide (50 * s.get .RSE_DIAG_SHORT_V < mv) ∧ low = true ∧ short = false) ∧
    (∃ (s : State) (k : Fin 24) (na : _) (mv : _) (l : _) (low : _) (short : _), s.working = true ∧ SMap.get (fun _ => none) s.rosette.lit
      k = some l ∧ l.diag = false ∧ l.on_ + 768 ≤ l.end_ ∧ l.on_ + 768 ≤ s.frc ∧ low = decide (2 * na * (255 * 1023) < s.sinkCurrent k
      l.kind) ∧ short = decide (50 * s.get .RSE_DIAG_SHORT_V < mv) ∧ low = false ∧ short = false) ∧
    (∃ (s : State), s.working = true ∧ s.pending = [] ∧ s.fabric.waiting = [] ∧ s.rosette.cut = true) ∧
    (∃ (s : State), s.working = true) ∧
    (∃ (s : State) (k : Fin 24), s.working = true ∧ (s.sink k).mode = 1 ∧ s.sinkOff k = false) ∧
    (∃ (s : State) (k : Fin 24) (l : _), s.working = true ∧ SMap.get (fun _ => none) s.rosette.lit k = some l ∧ l.end_ ≤ s.frc) :=
  ⟨⟨run, 0x00019FFF, by decide +kernel⟩,
   ⟨withRosette (fun k => { k with train := some train0 }) run, 0x00019FFF, by decide +kernel⟩,
   ⟨withRosette (fun k => { k with train := some train0 }) run, train0, by decide +kernel⟩,
   ⟨withRosette (fun k => { sink0 k with train := some train0 }) (run.put .RSE_CTRL_EN 1), train0, by decide +kernel⟩,
   ⟨withRosette (fun k => { k with train := some train0 }) run, 0x11, by decide +kernel⟩,
   ⟨withRosette (fun k => { k with lit := [(23, some lit0)] }) run, 23, 0, 60000, lit0, false, true, by decide +kernel⟩,
   ⟨withRosette (fun k => { sink1 k with lit := [(23, some lit0)], global := 100 }) (run.put .RSE_CHST_CUR_EFF 40 23), 23, 0, 0, lit0,
    true, false, by decide +kernel⟩,
   ⟨withRosette (fun k => { sink1 k with lit := [(23, some lit0)], global := 100 }) (run.put .RSE_CHST_CUR_EFF 40 23), 23, 4000000, 0,
    lit0, false, false, by decide +kernel⟩,
   ⟨withRosette (fun k => { k with lit := [(23, some lit0)], cut := true }) run, by decide +kernel⟩,
   ⟨run.put .RSE_STAT_COL_OFF 7, by decide +kernel⟩,
   ⟨withRosette sink0 ((moment 1701400 run).put .RSE_CTRL_EN 1), 23, by decide +kernel⟩,
   ⟨withRosette (fun k => { k with lit := [(23, some lit0)] }) run, 23, lit0, by decide +kernel⟩⟩

/-- The hypotheses of ProofEffect are met together. -/
theorem test_hyp_proof_effect :
    (∃ (s : State), s.working = true ∧ s.flag .RSE_STAT_TEMP_STALE = false ∧ s.rosette.sampleAt + max 1 (s.get .RSE_TEMPTO_TEMP_TO) ≤
      s.girth.begun) ∧
    (∃ (s : State) (k : _), s.working = true ∧ s.proofSink = some k ∧ s.flag .RSE_CTRL_PROOF_EN = true ∧ s.darkSlot s.nowSlot = true ∧
      s.rosette.proofAt ≠ some s.girth.begun ∧ s.slotReached (s.proofOff k) = true) ∧
    (∃ (s : State) (late : _), s.working = true ∧ s.rosette.intEnd = some late) ∧
    (∃ (s : State) (late : _), s.working = true ∧ s.rosette.intEnd = some late ∧ late = false) ∧
    (∃ (s : State), s.working = true ∧ s.rosette.intEnd = none) :=
  ⟨⟨(inSlot 60000 run).put .RSE_STAT_TEMP_STALE 0, by decide +kernel⟩,
   ⟨withRosette sink1 (((inSlot 31 (moment 2097151 run)).put .RSE_CTRL_EN 1).put .RSE_CTRL_PROOF_EN 1), 23, by decide +kernel⟩,
   ⟨withRosette (fun k => { k with intEnd := some true }) run, true, by decide +kernel⟩,
   ⟨withRosette (fun k => { k with intEnd := some false }) run, false, by decide +kernel⟩,
   ⟨run, by decide +kernel⟩⟩

/-- The hypotheses of BridleSampleEffect are met together. -/
theorem test_hyp_bridle_sample_effect :
    (∃ (s : State), s.alive = true ∧ s.passed 100 s.bridle.sampleAt = true) ∧
    (∃ (s : State) (ref : BitVec 3), s.alive = true ∧ s.passed 100 s.bridle.sampleAt = true ∧ 2 ≤ popCount 3 ref.toNat ∧ s.get
      .BRD_STAT_STATE ≠ 3) ∧
    (∃ (s : State), s.alive = true ∧ s.passed 100 s.bridle.sampleAt = true ∧ s.monitors.length = 3) ∧
    (∃ (s : State) (a : BitVec 14) (b : BitVec 14) (c : BitVec 14) (ref : BitVec 3), s.alive = true ∧ s.passed 100 s.bridle.sampleAt =
      true ∧ s.monitors.length = 3 ∧ s.get .BRD_LIM2_DISC_TOL < absDiff (sampleCode (a.toNat, b.toNat, c.toNat) 2) (median [a.toNat,
      b.toNat, c.toNat]) ∧ s.get .BRD_LIM2_DISC_N ≤ s.bridle.discs.getD 2 0 + 1 ∧ ref = 0) ∧
    (∃ (s : State), s.alive = true ∧ s.passed 100 s.bridle.sampleAt = true ∧ s.bridle.shaped = true) ∧
    (∃ (s : State), s.alive = true ∧ s.passed 100 s.bridle.sampleAt = true ∧ s.bridle.shaped = true ∧ 0 < s.get .BRD_LIM2_DISC_N) ∧
    (∃ (s : State), s.alive = true ∧ s.passed 100 s.bridle.sampleAt = true ∧ s.bridle.shaped = true ∧ s.get .BRD_STAT_STATE = 1) ∧
    (∃ (s : State), s.alive = true ∧ s.passed 100 s.bridle.sampleAt = true ∧ s.bridle.shaped = true ∧ s.get .BRD_STAT_STATE = 2) ∧
    (∃ (s : State), s.alive = true ∧ s.passed 100 s.bridle.sampleAt = true ∧ s.bridle.shaped = true ∧ s.get .BRD_STAT_STATE = 2 ∧ 0 ≤
      s.get .BRD_LIM1_OFF_LEVEL) ∧
    (∃ (s : State), s.alive = true ∧ s.passed 100 s.bridle.sampleAt = true ∧ s.bridle.shaped = true ∧ s.monitors.length = 2) ∧
    (∃ (s : State), s.alive = true ∧ s.passed 100 s.bridle.sampleAt = true ∧ s.bridle.shaped = true ∧ s.monitors.length = 1) ∧
    (∃ (s : State), s.alive = true ∧ s.passed 100 s.bridle.sampleAt = true ∧ s.bridle.shaped = true ∧ 0 ≤ s.get .BRD_LIM2_DISC_N) ∧
    (∃ (s : State), s.alive = true ∧ s.bridle.sums.length = 16) ∧
    (∃ (s : State) (f : DieNo) (b : _), s.alive = true ∧ s.sumFresh f = false ∧ s.dieMap f = some b) ∧
    (∃ (s : State) (b : Fin 4) (x : _), s.alive = true ∧ s.guardOn b = true ∧ s.guardClear b = true ∧ s.bridle.clearAt.getD b none = some
      x ∧ x + s.get .BRD_LIM6_SUN_CLR * 100000 * usCu ≤ s.frc) :=
  ⟨⟨bridleOn, by decide +kernel⟩,
   ⟨bridleOn, 3, by decide +kernel⟩,
   ⟨withBridle (fun b => { b with xchk := 10 }) bridleOn, by decide +kernel⟩,
   ⟨bridleOn.put .BRD_LIM2_DISC_N 1, 9001, 9002, 10, 0, by decide +kernel⟩,
   ⟨bridleOn.put .BRD_LIM2_DISC_N 2, by decide +kernel⟩,
   ⟨bridleOn.put .BRD_LIM2_DISC_N 2, by decide +kernel⟩,
   ⟨withBridle (fun b => { b with samples := List.replicate 101 (8000, 8000, 8000) }) (bridleOn.put .BRD_LIM2_DISC_N 2), by
    decide +kernel⟩,
   ⟨(withBridle (fun b => { b with samples := List.replicate 101 (8000, 8000, 8000) }) (bridleOn.put .BRD_LIM2_DISC_N 2)).put
    .BRD_STAT_STATE 2, by decide +kernel⟩,
   ⟨(withBridle (fun b => { b with samples := List.replicate 101 (8000, 8000, 8000) }) (bridleOn.put .BRD_LIM2_DISC_N 2)).put
    .BRD_STAT_STATE 2, by decide +kernel⟩,
   ⟨((bridleOn.put .BRD_LIM2_DISC_N 2).put .BRD_MON_LOST 1 2).put .BRD_LIM2_DISC_N 1, by decide +kernel⟩,
   ⟨((bridleOn.put .BRD_LIM2_DISC_N 2).put .BRD_MON_LOST 1 2).put .BRD_MON_LOST 1 1, by decide +kernel⟩,
   ⟨mapped, by decide +kernel⟩,
   ⟨mapped, by decide +kernel⟩,
   ⟨mapped, 15, 2, by decide +kernel⟩,
   ⟨(withBridle (fun b => { b with clearAt := [some 0, none, none, none] }) run).put .BRD_STAT_SUN 1, 0, 0, by decide +kernel⟩⟩

/-- The hypotheses of BridleOutputEffect are met together. -/
theorem test_hyp_bridle_output_effect :
    (∃ (s : State) (tgt : _), s.alive = true ∧ s.bridle.test.length = 2 ∧ s.bridle.fbDue.length = 2 ∧ s.tmiActs = true ∧ s.addressed tgt =
      true ∧ s.latigo.initRun = none ∧ s.get .BRD_STAT_STATE = 0 ∧ s.onAllowed = true) ∧
    (∃ (s : State) (tgt : _), s.alive = true ∧ s.bridle.test.length = 2 ∧ s.bridle.fbDue.length = 2 ∧ s.tmiActs = true ∧ s.addressed tgt =
      true ∧ s.latigo.initRun = none ∧ s.get .BRD_STAT_STATE = 2) ∧
    (∃ (s : State) (tgt : _), s.alive = true ∧ s.bridle.test.length = 2 ∧ s.bridle.fbDue.length = 2 ∧ s.tmiActs = true ∧ s.addressed tgt =
      true ∧ s.latigo.initRun = none ∧ s.get .BRD_STAT_STATE = 0 ∧ s.onAllowed = false) ∧
    (∃ (s : State) (tgt : _), s.alive = true ∧ s.bridle.test.length = 2 ∧ s.bridle.fbDue.length = 2 ∧ s.tmiActs = true ∧ s.addressed tgt =
      true ∧ s.latigo.initRun = none ∧ s.get .BRD_STAT_STATE = 1) ∧
    (∃ (s : State) (tgt : _), s.alive = true ∧ s.bridle.test.length = 2 ∧ s.bridle.fbDue.length = 2 ∧ s.tmiActs = true ∧ s.addressed tgt =
      true ∧ s.latigo.initRun = none) ∧
    (∃ (s : State) (tgt : _), s.alive = true ∧ s.bridle.test.length = 2 ∧ s.bridle.fbDue.length = 2 ∧ s.tmiActs = true ∧ s.addressed tgt =
      true) ∧
    (∃ (s : State), s.alive = true ∧ s.bridle.test.length = 2 ∧ s.bridle.fbDue.length = 2 ∧ s.get .BRD_STAT_STATE = 2 ∧ s.bridle.descAt +
      s.get .BRD_LIM3_DESC_T * 1000000 * usCu ≤ s.frc) ∧
    (∃ (s : State) (outB : _), s.alive = true ∧ s.bridle.test.length = 2 ∧ s.bridle.fbDue.length = 2 ∧ s.flag (enFld outB) = true ∧
      s.onGrid outB = true) ∧
    (∃ (s : State) (outB : _) (x : _), s.alive = true ∧ s.bridle.test.length = 2 ∧ s.bridle.fbDue.length = 2 ∧ s.bridle.test.getD (b2n
      outB) none = some x ∧ x + 512000 ≤ s.frc) ∧
    (∃ (s : State) (tgt : _) (arg : BitVec 36) (u : _), s.alive = true ∧ s.bridle.test.length = 2 ∧ s.bridle.fbDue.length = 2 ∧ s.tmiActs
      = true ∧ s.addressed tgt = true ∧ exec (.biasOffNow tgt arg) s = .next u) ∧
    (∃ (s : State), s.alive = true ∧ s.bridle.test.length = 2 ∧ s.bridle.fbDue.length = 2) ∧
    (∃ (s : State), s.alive = true ∧ s.bridle.test.length = 2 ∧ s.bridle.fbDue.length = 2 ∧ s.get .BRD_STAT_STATE ≠ 3) ∧
    (∃ (s : State) (outB : _) (x : _), s.alive = true ∧ s.bridle.test.length = 2 ∧ s.bridle.fbDue.length = 2 ∧ s.bridle.fbDue.getD (b2n
      outB) none = some x ∧ x ≤ s.frc) ∧
    (∃ (s : State), s.alive = true ∧ s.bridle.test.length = 2 ∧ s.bridle.fbDue.length = 2 ∧ (s.get .BRD_STAT_STATE = 1 ∨ s.get
      .BRD_STAT_STATE = 2) ∧ s.passed 1000 s.bridle.rampAt = true) ∧
    (∃ (s : State), s.alive = true ∧ s.bridle.test.length = 2 ∧ s.bridle.fbDue.length = 2 ∧ (s.get .BRD_STAT_STATE = 1 ∨ s.get
      .BRD_STAT_STATE = 2) ∧ s.passed 1000 s.bridle.rampAt = true ∧ s.get .BRD_SET_SENT 2 = 500) ∧
    (∃ (s : State), s.alive = true ∧ s.bridle.test.length = 2 ∧ s.bridle.fbDue.length = 2 ∧ (s.get .BRD_STAT_STATE = 1 ∨ s.get
      .BRD_STAT_STATE = 2) ∧ s.passed 1000 s.bridle.rampAt = true ∧ s.guardOn 2 = true) ∧
    (∃ (s : State) (b : Fin 4), s.alive = true ∧ s.bridle.test.length = 2 ∧ s.bridle.fbDue.length = 2 ∧ s.bsetLow = false ∧ s.frameDue b =
      true ∧ s.bridle.lineFree ≤ s.frc) :=
  ⟨⟨bridleReady, 0xFFF, by decide +kernel⟩,
   ⟨run.put .BRD_STAT_STATE 2, 0xFFF, by decide +kernel⟩,
   ⟨run.put .BRD_STAT_STATE 0, 0xFFF, by decide +kernel⟩,
   ⟨bridleOn, 0xFFF, by decide +kernel⟩,
   ⟨bridleOn, 0xFFF, by decide +kernel⟩,
   ⟨bridleOn, 0xFFF, by decide +kernel⟩,
   ⟨run.put .BRD_STAT_STATE 2, by decide +kernel⟩,
   ⟨bridleOn, true, by decide +kernel⟩,
   ⟨withBridle (fun b => { b with test := [none, some 1126400] }) bridleOn, true, 1126400, by decide +kernel⟩,
   ⟨withBridle (fun b => { b with test := [none, some 1126400] }) bridleOn, 0xFFF, 0, res (exec (.biasOffNow 0xFFF 0) (withBridle (fun b
    => { b with test := [none, some 1126400] }) bridleOn)), by decide +kernel, by decide +kernel, by decide +kernel, by decide +kernel, by
    decide +kernel, rfl⟩,
   ⟨withBridle (fun b => { b with test := [none, some 1126400] }) bridleOn, by decide +kernel⟩,
   ⟨withBridle (fun b => { b with test := [none, some 1126400] }) bridleOn, by decide +kernel⟩,
   ⟨withBridle (fun b => { b with fbDue := [none, some 1638400] }) bridleOn, true, 1638400, by decide +kernel⟩,
   ⟨(mapped.put .BRD_SET_REQ 500 3).put .BRD_LIM8_SET_MAX 300, by decide +kernel⟩,
   ⟨((mapped.put .BRD_SET_SENT 500 2).put .BRD_SET_REQ 500 2).put .BRD_LIM8_SET_MAX 300, by decide +kernel⟩,
   ⟨((mapped.put .BRD_STAT_SUN 4).put .BRD_SET_REQ 500 2).put .BRD_LIM8_SET_MAX 300, by decide +kernel⟩,
   ⟨bridleOn, 3, by decide +kernel⟩⟩

/-- The hypotheses of BridleKeyEffect are met together. -/
theorem test_hyp_bridle_key_effect :
    (∃ (s : State) (held : _), s.alive = true ∧ s.flag .BRD_STAT_KEY_STUCK = false ∧ 100 ≤ held ∧ held ≤ 2000 ∧ s.get .BRD_STAT_STATE = 3
      ∧ s.bridle.pending = none ∧ (∀ m, m < 3 → s.get .BRD_MON_LOST m = 0) ∧ s.violations.all (!·) = true ∧ s.flag .BRD_STAT_FB_A = false
      ∧ s.flag .BRD_STAT_FB_B = false ∧ s.flag .BRD_STAT_SECT_BAD = false ∧ 0 < s.get .BRD_LIM0_CEIL) ∧
    (∃ (s : State) (held : _) (x : _), s.alive = true ∧ s.flag .BRD_STAT_KEY_STUCK = false ∧ 100 ≤ held ∧ held ≤ 2000 ∧ s.get
      .BRD_STAT_STATE = 3 ∧ s.bridle.pending = some x) ∧
    (∃ (s : State) (held : _) (x : _), s.alive = true ∧ s.flag .BRD_STAT_KEY_STUCK = false ∧ 100 ≤ held ∧ held ≤ 2000 ∧ s.get
      .BRD_STAT_STATE = 3 ∧ s.bridle.pending = some x ∧ sectionValid x.words = false) ∧
    (∃ (s : State) (held : _) (x : _), s.alive = true ∧ s.flag .BRD_STAT_KEY_STUCK = false ∧ 100 ≤ held ∧ held ≤ 2000 ∧ s.get
      .BRD_STAT_STATE = 3 ∧ s.bridle.pending = some x ∧ sectionValid x.words = true) ∧
    (∃ (s : State) (held : _), s.alive = true ∧ s.flag .BRD_STAT_KEY_STUCK = false ∧ 100 ≤ held ∧ held ≤ 2000 ∧ s.get .BRD_STAT_STATE = 3
      ∧ s.flag .BRD_STAT_FB_A = true) ∧
    (∃ (s : State), s.alive = true ∧ s.mode ≠ .fill ∧ s.flag .BRD_STAT_DEGRADED = true ∧ s.bridle.degAt + 1000000 * usCu ≤ s.frc) :=
  ⟨⟨(run.put .BRD_LIM0_CEIL 9000).put .BRD_LIM3_DEG_MAX 1, 100, by decide +kernel⟩,
   ⟨withBridle (fun b => { b with pending := some sect0 }) run, 100, sect0, by decide +kernel⟩,
   ⟨withBridle (fun b => { b with pending := some sectBad }) run, 100, sectBad, by decide +kernel⟩,
   ⟨withBridle (fun b => { b with pending := some sect0 }) run, 100, sect0, by decide +kernel⟩,
   ⟨((run.put .BRD_STAT_FB_A 1).put .BRD_LIM0_CEIL 9000).put .BRD_LIM3_DEG_MAX 1, 2000, by decide +kernel⟩,
   ⟨moment (1000000 * usCu) (((run.put .BRD_STAT_DEGRADED 1).put .BRD_LIM3_DEG_MAX 1).put .BRD_DEG_DEG_USED 3599), by decide +kernel⟩⟩

/-- The hypotheses of KeyStuckRule are met together. -/
theorem test_hyp_key_stuck_rule :
    (∃ (s : State), s.alive = true ∧ s.flag .BRD_STAT_KEY_STUCK = false) ∧
    (∃ (s : State) (x : _), s.alive = true ∧ s.flag .BRD_STAT_KEY_STUCK = true ∧ s.bridle.keyUp = some x ∧ x + 1000000 * usCu ≤ s.frc) ∧
    (∃ (s : State) (x : _), s.alive = true ∧ s.bridle.keyUp = some x ∧ s.frc < x + 1000000 * usCu) ∧
    (∃ (s : State), s.alive = true ∧ s.bridle.keyUp = none) ∧
    (∃ (s : State) (held : _), s.alive = true ∧ (s.flag .BRD_STAT_KEY_STUCK = true ∨ 2000 < held)) :=
  ⟨⟨run, by decide +kernel⟩,
   ⟨withBridle (fun b => { b with keyUp := some 0 }) (moment (1000000 * usCu) (run.put .BRD_STAT_KEY_STUCK 1)), 0, by decide +kernel⟩,
   ⟨withBridle (fun b => { b with keyUp := some 1 }) (moment (1000000 * usCu) (run.put .BRD_STAT_KEY_STUCK 1)), 1, by decide +kernel⟩,
   ⟨run, by decide +kernel⟩,
   ⟨run, 2001, by decide +kernel⟩⟩

/-- The hypotheses of ResetEffect are met together. -/
theorem test_hyp_reset_effect :
    (∃ (s : State) (vin : _), s.mode = .unpowered ∧ 1200 ≤ vin) ∧
    (∃ (s : State) (vin : _), s.mode = .reset ∧ vin < 1200) ∧
    (∃ (s : State) (vin : Nat) (r : Fin 4) (x : Nat) (p : _), p  ∈  [(Instr.vinResetFall vin, 2), (.railReset r, 3), (.rstNLow, 5)] ∧
      s.mode ≠ .unpowered ∧ s.mode ≠ .reset ∧ vin < 3100 ∧ s.supervisor.railOut.getD r none = some x ∧ x + 90 * usCu ≤ s.supTime) ∧
    (∃ (s : State) (vin : Nat) (r : Fin 4) (x : Nat) (p : _), p  ∈  [(Instr.vinResetFall vin, 2), (.railReset r, 3), (.rstNLow, 5)] ∧
      s.mode = .reset ∧ vin < 3100 ∧ s.supervisor.railOut.getD r none = some x ∧ x + 90 * usCu ≤ s.supTime) ∧
    (∃ (s : State) (vin : Nat) (r : Fin 4) (x : Nat) (p : _), p  ∈  [(Instr.vinResetFall vin, 2), (.railReset r, 3), (.rstNLow, 5)] ∧
      s.mode = .reset ∧ vin < 3100 ∧ s.supervisor.railOut.getD r none = some x ∧ x + 90 * usCu ≤ s.supTime ∧ p.2 = 3) ∧
    (∃ (s : State) (r : Fin 4) (v : Nat), s.mode = .reset ∧ railIn r v = false ∧ bitOf (s.get .PRS_RAIL_IN_WIN) (r.val + 1) = true) ∧
    (∃ (s : State) (r : Fin 4) (v : Nat), s.mode = .reset ∧ railIn r v = true ∧ bitOf (s.get .PRS_RAIL_IN_WIN) (r.val + 1) = false) ∧
    (∃ (s : State), s.mode ≠ .unpowered ∧ 100 ≤ s.supervisor.hotMs) ∧
    (∃ (s : State) (vin : _), s.mode = .reset ∧ s.supervisor.tempHold = false ∧ 3550 ≤ vin ∧ s.get .PRS_RAIL_IN_WIN = 31) ∧
    (∃ (s : State) (vin : _) (rstN : _) (railsOk : _) (pllLock : _), (vin < 3550 ∨ rstN = false ∨ railsOk = false ∨ pllLock = false ∨
      s.supervisor.tempHold = true ∨ s.get .PRS_RAIL_IN_WIN ≠ 31)) ∧
    (∃ (s : State), s.mode = .fill) :=
  ⟨⟨inMode .unpowered run, 1200, by decide +kernel⟩,
   ⟨State.reset, 1199, by decide +kernel⟩,
   ⟨withSup (fun x => { x with railOut := [none, none, none, some 0] }) run, 3099, 3, 0, (.railReset 3, 3), by decide +kernel⟩,
   ⟨withSup (fun x => { x with railOut := [some 0], clock := 95 * usCu }) State.reset, 3099, 0, 0, (.rstNLow, 5), by decide +kernel⟩,
   ⟨withSup (fun x => { x with railOut := [some 0], clock := 95 * usCu }) State.reset, 3099, 0, 0, (.railReset 0, 3), by decide +kernel⟩,
   ⟨State.reset.put .PRS_RAIL_IN_WIN 31, 3, 82401, by decide +kernel⟩,
   ⟨(State.reset.put .PRS_RAIL_IN_WIN 15), 3, 82400, by decide +kernel⟩,
   ⟨withSup (fun x => { x with hotMs := 100 }) run, by decide +kernel⟩,
   ⟨State.reset.put .PRS_RAIL_IN_WIN 31, 3550, by decide +kernel⟩,
   ⟨State.reset, 3549, true, true, true, by decide +kernel⟩,
   ⟨inMode .fill run, by decide +kernel⟩⟩

/-- The hypotheses of SupplyEffect are met together. -/
theorem test_hyp_supply_effect :
    (∃ (s : State) (vin : _), s.alive = true ∧ s.flag .PRS_STATE_BROWNOUT = false ∧ vin < 3400) ∧
    (∃ (s : State) (vin : _), s.alive = true ∧ s.flag .PRS_STATE_BROWNOUT = false ∧ 3400 ≤ vin) ∧
    (∃ (s : State) (vin : _), s.alive = true ∧ s.flag .PRS_STATE_BROWNOUT = true ∧ 3500 < vin ∧ s.supervisor.dipRise = none) ∧
    (∃ (s : State) (vin : _), s.alive = true ∧ s.flag .PRS_STATE_BROWNOUT = true ∧ vin < 3500) ∧
    (∃ (s : State) (vin : _), s.alive = true ∧ s.flag .PRS_STATE_BROWNOUT = true ∧ 3500 ≤ vin) ∧
    (∃ (s : State) (x : _), s.alive = true ∧ s.flag .PRS_STATE_BROWNOUT = true ∧ s.supervisor.dipRise = some x ∧ x + 1000 * usCu ≤ s.frc)
      ∧
    (∃ (s : State) (r : Fin 4) (v : Nat), s.alive = true ∧ railIn r v = false) ∧
    (∃ (s : State) (r : Fin 4) (v : Nat), s.alive = true ∧ railIn r v = true) ∧
    (∃ (s : State) (r : Fin 4) (x : _), s.alive = true ∧ s.supervisor.railOut.getD r none = some x ∧ x + 90 * usCu ≤ s.supTime) ∧
    (∃ (s : State), s.alive = true ∧ (∀ x, s.supervisor.caseAt = some x → x + 1000 * usCu ≤ s.supTime)) ∧
    (∃ (s : State) (f : DieNo) (x : _), s.alive = true ∧ s.diePowered f = true ∧ SMap.get (fun _ => none) s.supervisor.limitAt f = some x
      ∧ x + 1000 * usCu ≤ s.frc) ∧
    (∃ (s : State) (f : DieNo) (vsa : _) (vsd : _), s.alive = true ∧ s.diePowered f = true ∧ (800 ≤ vsa ∨ 1200 ≤ vsd) ∧ SMap.get (fun _ =>
      none) s.supervisor.limitAt f = none) ∧
    (∃ (s : State) (f : DieNo) (vsa : _) (vsd : _), s.alive = true ∧ s.diePowered f = true ∧ (vsa < 1710 ∨ vsd < 855)) ∧
    (∃ (s : State) (f : DieNo), s.alive = true ∧ s.diePowered f = true ∧ s.working = true ∧ (s.die f).pll = false ∧ bitOf s.harness.clocks
      (20 + f) = true) ∧
    (∃ (s : State) (f : DieNo), s.alive = true ∧ s.diePowered f = true ∧ s.working = true ∧ (s.die f).pll = false ∧ bitOf s.harness.clocks
      (20 + f) = true ∧ (s.die f).pwr = .joined) ∧
    (∃ (s : State), s.alive = true ∧ s.working = true) :=
  ⟨⟨run, 3399, by decide +kernel⟩,
   ⟨run, 3400, by decide +kernel⟩,
   ⟨run.put .PRS_STATE_BROWNOUT 1, 3501, by decide +kernel⟩,
   ⟨run.put .PRS_STATE_BROWNOUT 1, 3499, by decide +kernel⟩,
   ⟨run.put .PRS_STATE_BROWNOUT 1, 3500, by decide +kernel⟩,
   ⟨withSup (fun x => { x with dipRise := some 1000 }) (moment (1000 + 1000 * usCu) (run.put .PRS_STATE_BROWNOUT 1)), 1000, by
    decide +kernel⟩,
   ⟨run.put .PRS_RAIL_IN_WIN 31, 3, 82401, by decide +kernel⟩,
   ⟨run, 3, 82400, by decide +kernel⟩,
   ⟨withSup (fun x => { x with railOut := [none, none, none, some 0] }) run, 3, 0, by decide +kernel⟩,
   ⟨run, by decide +kernel, fun x h => by cases h⟩,
   ⟨withSup (fun x => { x with limitAt := [(15, some 0)] }) (moment 20000000 one), 15, 0, by decide +kernel⟩,
   ⟨one, 15, 800, 0, by decide +kernel⟩,
   ⟨one, 15, 1709, 1200, by decide +kernel⟩,
   ⟨withHarness (fun x => { x with clocks := 2 ^ 35 }) (withDie 15 (fun d => { d with pwr := .init }) run), 15, by decide +kernel⟩,
   ⟨withHarness (fun x => { x with clocks := 2 ^ 35 }) one, 15, by decide +kernel⟩,
   ⟨run, by decide +kernel⟩⟩

/-- The hypotheses of BootEffect are met together. -/
theorem test_hyp_boot_effect :
    (∃ (s : State), s.mode = .boot ∧ s.latigo.booted = none) ∧
    (∃ (s : State), s.mode = .boot ∧ s.latigo.booted = none ∧ s.flash.length = 2 ∧ (s.flashDev 0).usable = false) ∧
    (∃ (s : State), s.mode = .boot ∧ s.latigo.booted = none ∧ (probed s).candidates = []) ∧
    (∃ (s : State), s.mode = .boot ∧ s.latigo.booted = none ∧ (probed s).candidates = [(0, ⟨1, 9, 0x40, 0x1122334455667788⟩)]) ∧
    (∃ (s : State), s.mode = .boot ∧ s.latigo.booted = none ∧ (probed s).candidates.length = 2) ∧
    (∃ (s : State) (b : _), s.mode = .boot ∧ s.latigo.booted = some b) ∧
    (∃ (s : State) (dev : _) (off : _) (bs : _) (ops : _), s.alive = true ∧ s.latigo.ops = .progLog dev off bs :: ops ∧ s.latigo.issued =
      true) ∧
    (∃ (s : State) (dev : _) (off : _) (bs : _) (ops : _), s.alive = true ∧ s.latigo.ops = .progStage dev off bs :: ops ∧ s.latigo.issued
      = true) ∧
    (∃ (s : State) (dev : _) (sector : Nat) (lastOne : _) (ops : _), s.alive = true ∧ s.latigo.ops = .eraseStage dev sector lastOne :: ops
      ∧ s.latigo.issued = true) ∧
    (∃ (s : State) (dev : _) (sector : Nat) (ops : _), s.alive = true ∧ s.latigo.issued = true ∧ s.latigo.ops = .eraseLog dev sector ::
      ops) ∧
    (∃ (s : State) (dev : _) (ops : _), s.alive = true ∧ s.latigo.issued = true ∧ s.latigo.ops = .eraseHeader dev :: ops) ∧
    (∃ (s : State), s.working = true ∧ s.recordDue = true) ∧
    (∃ (s : State), s.working = true ∧ s.recordDue = true ∧ (s.flashDev 0).used = false) :=
  ⟨⟨inMode .boot run, by decide +kernel⟩,
   ⟨withFlash [{ Flash.reset with sfdp := false }, Flash.reset] (inMode .boot run), by decide +kernel⟩,
   ⟨inMode .boot run, by decide +kernel⟩,
   ⟨withImage shortImage (inMode .boot run), by decide +kernel⟩,
   ⟨withFlash [(withImage shortImage run).flashDev 0, (withImage shortImage run).flashDev 0] (inMode .boot run), by decide +kernel⟩,
   ⟨withLatigo (fun l => { l with booted := some { valid := true, dev := 1, both := true, id := 5, seq := 6, len := 64, meas := [1, 2, 3,
    4, 5, 6, 7, 8] } }) (inMode .boot run), { valid := true, dev := 1, both := true, id := 5, seq := 6, len := 64, meas := [1, 2, 3, 4, 5,
    6, 7, 8] }, by decide +kernel⟩,
   ⟨withLatigo (fun l => { l with ops := [.progLog 1 4096 [1, 2]], issued := true, bufWords := 1 }) (run.put .LAT_STAT_STAGE_STATE 1), 1,
    4096, [1, 2], [], by decide +kernel⟩,
   ⟨withLatigo (fun l => { l with ops := [.progStage 1 4096 [1, 2, 3, 4, 5, 6, 7, 8]], issued := true, bufWords := 1 }) (run.put
    .LAT_STAT_STAGE_STATE 1), 1, 4096, [1, 2, 3, 4, 5, 6, 7, 8], [], by decide +kernel⟩,
   ⟨withLatigo (fun l => { l with ops := [.eraseStage 1 3 true], issued := true, bufWords := 1 }) (run.put .LAT_STAT_STAGE_STATE 1), 1, 3,
    true, [], by decide +kernel⟩,
   ⟨withLatigo (fun l => { l with ops := [.eraseLog 1 3], issued := true, bufWords := 1 }) (run.put .LAT_STAT_STAGE_STATE 1), 1, 3, [], by
    decide +kernel⟩,
   ⟨withLatigo (fun l => { l with ops := [.eraseHeader 1], issued := true, bufWords := 1 }) (run.put .LAT_STAT_STAGE_STATE 1), 1, [], by
    decide +kernel⟩,
   ⟨withLatigo (fun l => { l with saveDue := true }) (probed run), by decide +kernel⟩,
   ⟨withLatigo (fun l => { l with saveDue := true }) run, by decide +kernel⟩⟩

/-- The hypotheses of RegisterAccessEffect are met together. -/
theorem test_hyp_register_access_effect :
    (∃ (s : State) (who : _) (addr : Word32) (r : _) (i : _) (h : _), s.fabricBusy = false ∧ s.served who = true ∧ target addr.toNat =
      .reg r i ∧ srHigh r = some h) ∧
    (∃ (s : State) (who : _) (addr : Word32) (r : _) (i : _) (lo : _), s.fabricBusy = false ∧ s.served who = true ∧ target addr.toNat =
      .reg r i ∧ srLow r = some lo) ∧
    (∃ (s : State) (who : _) (addr : Word32) (i : _), s.fabricBusy = false ∧ s.served who = true ∧ target addr.toNat = .reg .STI_WIN i) ∧
    (∃ (s : State) (who : _) (addr : Word32) (data : _) (r : _) (i : _), s.fabricBusy = false ∧ s.served who = true ∧ target addr.toNat =
      .reg r i ∧ r.writable (s.locked (lockOf r)) = true ∧ (∀ u : State, u.writeReg r i data = u.writePlain r i data)) ∧
    (∃ (s : State) (who : _) (addr : Word32) (r : _) (i : _), s.fabricBusy = false ∧ s.served who = true ∧ target addr.toNat = .reg r i ∧
      r.writable (s.locked (lockOf r)) = false) ∧
    (∃ (s : State) (who : _) (addr : Word32), s.fabricBusy = false ∧ s.served who = true ∧ target addr.toNat = .none) ∧
    (∃ (s : State) (who : _) (addr : Word32) (x : _), s.fabricBusy = false ∧ s.served who = true ∧ who ≠ .latigo ∧ target addr.toNat =
      .tree x ∧ x / 8 < mapStart ∧ s.copying (x / 8) = false ∧ s.inOrder 5 = true) ∧
    (∃ (s : State) (who : _) (addr : Word32) (x : _), s.fabricBusy = false ∧ s.served who = true ∧ who ≠ .latigo ∧ target addr.toNat =
      .tree x ∧ x / 8 < mapStart ∧ s.copying (x / 8) = false ∧ s.inOrder 5 = true ∧ who = .jtag) ∧
    (∃ (s : State) (who : _) (addr : Word32) (x : _), s.fabricBusy = false ∧ s.served who = true ∧ who ≠ .latigo ∧ target addr.toNat =
      .tree x ∧ x / 8 < mapStart ∧ (s.copying (x / 8) = true ∨ s.inOrder 5 = false)) ∧
    (∃ (s : State) (who : _) (addr : Word32) (x : _), s.fabricBusy = false ∧ s.served who = true ∧ who ≠ .latigo ∧ target addr.toNat =
      .tree x ∧ x / 8 < mapStart ∧ (s.copying (x / 8) = true ∨ s.inOrder 5 = false) ∧ s.inOrder 5 = false) ∧
    (∃ (s : State) (tgt : _) (addr data : Word32) (r : _) (i : _), s.fabricBusy = false ∧ s.tmiActs = true ∧ s.addressed tgt = true ∧
      s.turn .tmi = true ∧ target addr.toNat = .reg r i ∧ r.writable (s.locked (lockOf r)) = true ∧ (∀ u : State, u.writeReg r i data =
      u.writePlain r i data)) ∧
    (∃ (s : State) (tgt : _) (addr : Word32) (r : _) (i : _), s.fabricBusy = false ∧ s.tmiActs = true ∧ s.addressed tgt = true ∧ s.turn
      .tmi = true ∧ target addr.toNat = .reg r i ∧ srHigh r = none ∧ srLow r = none ∧ r.fields.all (fun f => f.acc != .rc) = true ∧
      [Reg.STR_MAPDATA, .ING_STAT, .HQD_STAT, .RNG_CNT, .RNG_CNT2].contains r = false) ∧
    (∃ (s : State) (tgt : _) (addr : Word32) (r : _) (i : _), s.fabricBusy = false ∧ s.tmiActs = true ∧ s.addressed tgt = true ∧ s.turn
      .tmi = true ∧ target addr.toNat = .reg r i ∧ r = .ING_STAT) :=
  ⟨⟨run, .tmi, 0x8030, .GIR_NOW_LO, 0, .GIR_NOW_HI, by decide +kernel⟩,
   ⟨run, .jtag, 0x8034, .GIR_NOW_HI, 0, .GIR_NOW_LO, by decide +kernel⟩,
   ⟨run, .latigo, 0xA010, 0, by decide +kernel⟩,
   ⟨run, .jtag, 0xB008, 0x15, .SKV_LOSS, 0, by decide +kernel, by decide +kernel, by decide +kernel, by decide +kernel, fun _ => rfl⟩,
   ⟨run, .jtag, 0x8030, .GIR_NOW_LO, 0, by decide +kernel⟩,
   ⟨run, .jtag, 0xFFC, by decide +kernel⟩,
   ⟨run, .tmi, 0x40000008, 8, by decide +kernel⟩,
   ⟨run, .jtag, 0x40000008, 8, by decide +kernel⟩,
   ⟨withTree (fun k => { k with copy := some (0, 0, 1638000) }) run, .tmi, 0x40000000, 0, by decide +kernel⟩,
   ⟨withTree (fun k => { k with edge := (409600, 6) }) run, .tmi, 0x40000008, 8, by decide +kernel⟩,
   ⟨run, 0xFFF, 0xB008, 0x15, .SKV_LOSS, 0, by decide +kernel, by decide +kernel, by decide +kernel, by decide +kernel, by decide +kernel,
    by decide +kernel, fun _ => rfl⟩,
   ⟨run, 0xFFF, 0xB008, .SKV_LOSS, 0, by decide +kernel⟩,
   ⟨run, 0xFFF, 0xAC00, .ING_STAT, 0, by decide +kernel⟩⟩

/-- The hypotheses of DieAccessEffect are met together. -/
theorem test_hyp_die_access_effect :
    (∃ (s : State) (tgt : _) (addr : Word32) (f : _) (r : _) (i : _) (off : _), s.working = true ∧ s.addressed tgt = true ∧ s.fabricBusy =
      false ∧ s.turn .tmi = true ∧ target addr.toNat = .die f r i off ∧ s.diePowered f = true) ∧
    (∃ (s : State) (tgt : _) (addr : Word32) (f : _) (r : _) (i : _) (off : _), s.working = true ∧ s.addressed tgt = true ∧ s.fabricBusy =
      false ∧ s.turn .tmi = true ∧ target addr.toNat = .die f r i off ∧ s.diePowered f = false) ∧
    (∃ (s : State) (tgt : _), s.working = true ∧ s.addressed tgt = true ∧ s.fabricBusy = true) ∧
    (∃ (s : State) (f : DieNo) (w : _), s.working = true ∧ s.diePowered f = true ∧ (s.die f).frz0 = none ∧ fw w 60 4 = 1 ∧ s.retDue f (·
      == w) = true ∧ dieTarget f (fw w 40 20) = none) ∧
    (∃ (s : State) (f : DieNo) (w : _) (r : _) (i : _), s.working = true ∧ s.diePowered f = true ∧ (s.die f).frz0 = none ∧ fw w 60 4 = 1 ∧
      s.retDue f (· == w) = true ∧ dieTarget f (fw w 40 20) = some (r, i) ∧ (∀ u : State, u.writeReg r i (BitVec.ofNat 32 (fw w 0 32)) =
      u.writePlain r i (BitVec.ofNat 32 (fw w 0 32)))) ∧
    (∃ (s : State) (f : DieNo) (w : _) (r : _) (i : _), s.working = true ∧ s.diePowered f = true ∧ (s.die f).frz0 = none ∧ fw w 60 4 = 2 ∧
      s.retDue f (· == w) = true ∧ dieTarget f (fw w 40 20) = some (r, i)) ∧
    (∃ (s : State) (f : DieNo) (w : _) (r : _) (i : _), s.working = true ∧ s.diePowered f = true ∧ (s.die f).frz0 = none ∧ fw w 60 4 = 2 ∧
      s.retDue f (· == w) = true ∧ dieTarget f (fw w 40 20) = some (r, i) ∧ r = .HQD_STAT) ∧
    (∃ (s : State) (f : DieNo) (w : _) (r : _) (i : _), s.working = true ∧ s.diePowered f = true ∧ (s.die f).frz0 = none ∧ fw w 60 4 = 2 ∧
      s.retDue f (· == w) = true ∧ dieTarget f (fw w 40 20) = some (r, i) ∧ r = .RNG_CNT) ∧
    (∃ (s : State) (f : DieNo) (w : _) (a : _) (tag : _), s.working = true ∧ s.fabric.access = some a ∧ s.fabric.waiting = [] ∧ a.cont =
      .tmi tag ∧ a.die = f.val ∧ s.initTurn f = false ∧ fw w 58 6 = 0x33 ∧ fw w 50 8 = a.rtag ∧ fw w 48 1 = b2n a.wr ∧ fw w 49 1 = 0) ∧
    (∃ (s : State) (a : _) (tag : _), s.working = true ∧ s.fabric.access = some a ∧ s.fabric.waiting = [] ∧ a.cont = .tmi tag ∧ a.since +
      4096 ≤ s.frc) :=
  ⟨⟨one, 0xFFF, 0x01F1FF00, 15, .PIX_CTRL, 4095, 0x1FF00, by decide +kernel⟩,
   ⟨run, 0xFFF, 0x01F1FF00, 15, .PIX_CTRL, 4095, 0x1FF00, by decide +kernel⟩,
   ⟨withFabric (fun x => { x with access := some access0 }) run, 0xFFF, by decide +kernel⟩,
   ⟨retQueued 15 0x1FFFFF0000000000 one, 15, 0x1FFFFF0000000000, by decide +kernel⟩,
   ⟨retQueued 15 0x1050000300000001 one, 15, 0x1050000300000001, .HQD_CTRL, 15, by decide +kernel, by decide +kernel, by decide +kernel,
    by decide +kernel, by decide +kernel, by decide +kernel, fun _ => rfl⟩,
   ⟨retQueued 15 0x2050000300000000 one, 15, 0x2050000300000000, .HQD_CTRL, 15, by decide +kernel⟩,
   ⟨retQueued 15 0x2050100300000000 one, 15, 0x2050100300000000, .HQD_STAT, 60, by decide +kernel⟩,
   ⟨retQueued 15 0x21FF880300000000 one, 15, 0x21FF880300000000, .RNG_CNT, 4095, by decide +kernel⟩,
   ⟨withFabric (fun x => { x with access := some access0 }) run, 15, 0xCC00000000000007, access0, 9, by decide +kernel⟩,
   ⟨withFabric (fun x => { x with access := some access0 }) run, access0, 9, by decide +kernel⟩⟩

/-- The hypotheses of ImageCommandEffect are met together. -/
theorem test_hyp_image_command_effect :
    (∃ (s : State) (tgt : _), s.tmiActs = true ∧ s.addressed tgt = true ∧ s.latigo.initRun = none) ∧
    (∃ (s : State) (tgt : _) (arg : BitVec 36), s.tmiActs = true ∧ s.addressed tgt = true ∧ s.latigo.initRun = none ∧ ([1, 2, 3] : List
      Nat).contains (s.get .LAT_STAT_STAGE_STATE) = false ∧ (s.flashDev (s.stageDev arg.toNat)).used = true ∧ 1 ≤ fieldOf arg.toNat 0 16 ∧
      fieldOf arg.toNat 0 16 ≤ 1536) ∧
    (∃ (s : State) (tgt : _) (arg : BitVec 36), s.tmiActs = true ∧ s.addressed tgt = true ∧ s.latigo.initRun = none ∧ (([1, 2, 3] : List
      Nat).contains (s.get .LAT_STAT_STAGE_STATE) = true ∨ (s.flashDev (s.stageDev arg.toNat)).used = false ∨ fieldOf arg.toNat 0 16 = 0 ∨
      1536 < fieldOf arg.toNat 0 16)) ∧
    (∃ (s : State) (tgt : _) (arg : BitVec 36), s.tmiActs = true ∧ s.addressed tgt = true ∧ s.latigo.initRun = none ∧ (([1, 2, 3] : List
      Nat).contains (s.get .LAT_STAT_STAGE_STATE) = true ∨ (s.flashDev (s.stageDev arg.toNat)).used = false ∨ fieldOf arg.toNat 0 16 = 0 ∨
      1536 < fieldOf arg.toNat 0 16) ∧ (s.flashDev (s.stageDev arg.toNat)).used = false) ∧
    (∃ (s : State) (tgt : _) (arg : BitVec 36), s.tmiActs = true ∧ s.addressed tgt = true ∧ s.latigo.initRun = none ∧ (([1, 2, 3] : List
      Nat).contains (s.get .LAT_STAT_STAGE_STATE) = true ∨ (s.flashDev (s.stageDev arg.toNat)).used = false ∨ fieldOf arg.toNat 0 16 = 0 ∨
      1536 < fieldOf arg.toNat 0 16) ∧ fieldOf arg.toNat 0 16 = 0) ∧
    (∃ (s : State) (tgt : _) (arg : BitVec 36), s.tmiActs = true ∧ s.addressed tgt = true ∧ s.latigo.initRun = none ∧ (([1, 2, 3] : List
      Nat).contains (s.get .LAT_STAT_STAGE_STATE) = true ∨ (s.flashDev (s.stageDev arg.toNat)).used = false ∨ fieldOf arg.toNat 0 16 = 0 ∨
      1536 < fieldOf arg.toNat 0 16) ∧ 1536 < fieldOf arg.toNat 0 16) ∧
    (∃ (s : State) (tgt : _), s.tmiActs = true ∧ s.addressed tgt = true ∧ s.latigo.initRun = none ∧ s.get .LAT_STAT_STAGE_STATE = 2) ∧
    (∃ (s : State) (tgt : _), s.tmiActs = true ∧ s.addressed tgt = true ∧ s.latigo.initRun = none ∧ s.get .LAT_STAT_STAGE_STATE ≠ 2) ∧
    (∃ (s : State) (tgt : _), s.tmiActs = true ∧ s.addressed tgt = true ∧ s.latigo.initRun = none) ∧
    (∃ (s : State) (tgt : _) (arg : BitVec 36) (d : _) (h : _) (x : _) (bs : _), s.tmiActs = true ∧ s.addressed tgt = true ∧
      s.latigo.initRun = none ∧ d = (if bitOf arg.toNat 16 then 1 - s.get .PRS_STATE_IMAGE_SRC else s.get .PRS_STATE_IMAGE_SRC) ∧
      s.candidate d = some h ∧ (sectionsOf (s.flashDev d).byte h).find? (fun x => x.type == fieldOf arg.toNat 8 8 && x.index == fieldOf
      arg.toNat 0 8) = some x ∧ x.type = 3 ∧ x.index ≤ 16 ∧ x.ulen ≤ 262144 ∧ inflateSection (s.flashDev d).byte x = .inl bs) ∧
    (∃ (s : State) (tgt : _) (arg : BitVec 36) (d : _) (h : _) (x : _) (bs : _), s.tmiActs = true ∧ s.addressed tgt = true ∧
      s.latigo.initRun = none ∧ d = (if bitOf arg.toNat 16 then 1 - s.get .PRS_STATE_IMAGE_SRC else s.get .PRS_STATE_IMAGE_SRC) ∧
      s.candidate d = some h ∧ (sectionsOf (s.flashDev d).byte h).find? (fun x => x.type == fieldOf arg.toNat 8 8 && x.index == fieldOf
      arg.toNat 0 8) = some x ∧ x.type = 3 ∧ x.index ≤ 16 ∧ x.ulen ≤ 262144 ∧ inflateSection (s.flashDev d).byte x = .inl bs ∧ (wordPairs
      bs)[0]? = some (0x4004, 3) ∧ s.tree.copy = none) ∧
    (∃ (s : State) (tgt : _), s.tmiActs = true ∧ s.addressed tgt = true ∧ s.latigo.initRun = none ∧ s.mode ≠ .halt ∧ s.get
      .LAT_STAT_STAGE_STATE ≠ 1 ∧ s.get .LAT_STAT_STAGE_STATE ≠ 3 ∧ s.flashDeferred = false) ∧
    (∃ (s : State) (tgt : _), s.tmiActs = true ∧ s.addressed tgt = true ∧ s.latigo.initRun = none ∧ s.mode = .halt ∧ s.get
      .LAT_STAT_STAGE_STATE ≠ 1 ∧ s.get .LAT_STAT_STAGE_STATE ≠ 3 ∧ s.flashDeferred = false) ∧
    (∃ (s : State) (tgt : _), s.tmiActs = true ∧ s.addressed tgt = true ∧ s.latigo.initRun = none ∧ (s.get .LAT_STAT_STAGE_STATE = 1 ∨
      s.get .LAT_STAT_STAGE_STATE = 3 ∨ s.flashDeferred = true)) ∧
    (∃ (s : State) (tgt : _), s.tmiActs = true ∧ s.addressed tgt = true ∧ s.latigo.initRun = none ∧ (s.get .LAT_STAT_STAGE_STATE = 1 ∨
      s.get .LAT_STAT_STAGE_STATE = 3 ∨ s.flashDeferred = true) ∧ s.get .LAT_STAT_STAGE_STATE = 1) ∧
    (∃ (s : State) (tgt : _), s.tmiActs = true ∧ s.addressed tgt = true ∧ s.latigo.initRun = none ∧ (s.get .LAT_STAT_STAGE_STATE = 1 ∨
      s.get .LAT_STAT_STAGE_STATE = 3 ∨ s.flashDeferred = true) ∧ s.flashDeferred = true) ∧
    (∃ (s : State) (tgt : _) (arg : BitVec 36), s.tmiActs = true ∧ s.addressed tgt = true ∧ s.latigo.initRun = none ∧
      s.latigo.queue.contains (fieldOf arg.toNat 0 5) = false ∧ s.latigo.queue.length < 8) ∧
    (∃ (s : State) (tgt : _) (op : Byte), s.tmiActs = true ∧ s.addressed tgt = true ∧ (op.toNat = 0 ∨ 0x12 < op.toNat)) ∧
    (∃ (s : State) (tgt : _) (arg : BitVec 36) (p : _), p  ∈  [(Instr.runProg tgt arg, 0x01), (.measReport tgt arg, 0x02), (.stageOpen tgt
      arg, 0x03), (.stageClose tgt arg, 0x04), (.stageAbort tgt arg, 0x05), (.reload tgt arg, 0x06), (.restart tgt arg, 0x07), (.dieOut
      tgt arg, 0x08), (.dieInit tgt arg, 0x0A), (.dieJoin tgt arg, 0x0B), (.cal tgt arg, 0x0C), (.force tgt arg, 0x0D), (.biasOn tgt arg,
      0x0E), (.biasDown tgt arg, 0x0F), (.biasSet tgt arg, 0x11), (.laneRetrain tgt arg, 0x12)] ∧ s.tmiActs = true ∧ s.addressed tgt =
      true ∧ s.latigo.initRun ≠ none) ∧
    (∃ (s : State) (tgt : _) (arg : BitVec 36) (p : _), p  ∈  [(Instr.runProg tgt arg, 0x01), (.measReport tgt arg, 0x02), (.stageOpen tgt
      arg, 0x03), (.stageClose tgt arg, 0x04), (.stageAbort tgt arg, 0x05), (.reload tgt arg, 0x06), (.restart tgt arg, 0x07), (.dieOut
      tgt arg, 0x08), (.dieInit tgt arg, 0x0A), (.dieJoin tgt arg, 0x0B), (.cal tgt arg, 0x0C), (.force tgt arg, 0x0D), (.biasOn tgt arg,
      0x0E), (.biasDown tgt arg, 0x0F), (.biasSet tgt arg, 0x11), (.laneRetrain tgt arg, 0x12)] ∧ s.tmiActs = true ∧ s.addressed tgt =
      true ∧ s.latigo.initRun ≠ none ∧ p.2 = 0x02) ∧
    (∃ (s : State) (tgt : _) (arg : BitVec 36) (p : _), p  ∈  [(Instr.runProg tgt arg, 0x01), (.measReport tgt arg, 0x02), (.stageOpen tgt
      arg, 0x03), (.stageClose tgt arg, 0x04), (.stageAbort tgt arg, 0x05), (.reload tgt arg, 0x06), (.restart tgt arg, 0x07), (.dieOut
      tgt arg, 0x08), (.dieInit tgt arg, 0x0A), (.dieJoin tgt arg, 0x0B), (.cal tgt arg, 0x0C), (.force tgt arg, 0x0D), (.biasOn tgt arg,
      0x0E), (.biasDown tgt arg, 0x0F), (.biasSet tgt arg, 0x11), (.laneRetrain tgt arg, 0x12)] ∧ s.tmiActs = true ∧ s.addressed tgt =
      true ∧ s.latigo.initRun ≠ none ∧ p.2 = 0x03) ∧
    (∃ (s : State) (tgt : _) (arg : BitVec 36) (p : _), p  ∈  [(Instr.runProg tgt arg, 0x01), (.measReport tgt arg, 0x02), (.stageOpen tgt
      arg, 0x03), (.stageClose tgt arg, 0x04), (.stageAbort tgt arg, 0x05), (.reload tgt arg, 0x06), (.restart tgt arg, 0x07), (.dieOut
      tgt arg, 0x08), (.dieInit tgt arg, 0x0A), (.dieJoin tgt arg, 0x0B), (.cal tgt arg, 0x0C), (.force tgt arg, 0x0D), (.biasOn tgt arg,
      0x0E), (.biasDown tgt arg, 0x0F), (.biasSet tgt arg, 0x11), (.laneRetrain tgt arg, 0x12)] ∧ s.tmiActs = true ∧ s.addressed tgt =
      true ∧ s.latigo.initRun ≠ none ∧ p.2 = 0x04) ∧
    (∃ (s : State) (tgt : _) (arg : BitVec 36) (p : _), p  ∈  [(Instr.runProg tgt arg, 0x01), (.measReport tgt arg, 0x02), (.stageOpen tgt
      arg, 0x03), (.stageClose tgt arg, 0x04), (.stageAbort tgt arg, 0x05), (.reload tgt arg, 0x06), (.restart tgt arg, 0x07), (.dieOut
      tgt arg, 0x08), (.dieInit tgt arg, 0x0A), (.dieJoin tgt arg, 0x0B), (.cal tgt arg, 0x0C), (.force tgt arg, 0x0D), (.biasOn tgt arg,
      0x0E), (.biasDown tgt arg, 0x0F), (.biasSet tgt arg, 0x11), (.laneRetrain tgt arg, 0x12)] ∧ s.tmiActs = true ∧ s.addressed tgt =
      true ∧ s.latigo.initRun ≠ none ∧ p.2 = 0x05) ∧
    (∃ (s : State) (tgt : _) (arg : BitVec 36) (p : _), p  ∈  [(Instr.runProg tgt arg, 0x01), (.measReport tgt arg, 0x02), (.stageOpen tgt
      arg, 0x03), (.stageClose tgt arg, 0x04), (.stageAbort tgt arg, 0x05), (.reload tgt arg, 0x06), (.restart tgt arg, 0x07), (.dieOut
      tgt arg, 0x08), (.dieInit tgt arg, 0x0A), (.dieJoin tgt arg, 0x0B), (.cal tgt arg, 0x0C), (.force tgt arg, 0x0D), (.biasOn tgt arg,
      0x0E), (.biasDown tgt arg, 0x0F), (.biasSet tgt arg, 0x11), (.laneRetrain tgt arg, 0x12)] ∧ s.tmiActs = true ∧ s.addressed tgt =
      true ∧ s.latigo.initRun ≠ none ∧ p.2 = 0x06) ∧
    (∃ (s : State) (tgt : _) (arg : BitVec 36) (p : _), p  ∈  [(Instr.runProg tgt arg, 0x01), (.measReport tgt arg, 0x02), (.stageOpen tgt
      arg, 0x03), (.stageClose tgt arg, 0x04), (.stageAbort tgt arg, 0x05), (.reload tgt arg, 0x06), (.restart tgt arg, 0x07), (.dieOut
      tgt arg, 0x08), (.dieInit tgt arg, 0x0A), (.dieJoin tgt arg, 0x0B), (.cal tgt arg, 0x0C), (.force tgt arg, 0x0D), (.biasOn tgt arg,
      0x0E), (.biasDown tgt arg, 0x0F), (.biasSet tgt arg, 0x11), (.laneRetrain tgt arg, 0x12)] ∧ s.tmiActs = true ∧ s.addressed tgt =
      true ∧ s.latigo.initRun ≠ none ∧ p.2 = 0x07) ∧
    (∃ (s : State) (tgt : _) (arg : BitVec 36) (p : _), p  ∈  [(Instr.runProg tgt arg, 0x01), (.measReport tgt arg, 0x02), (.stageOpen tgt
      arg, 0x03), (.stageClose tgt arg, 0x04), (.stageAbort tgt arg, 0x05), (.reload tgt arg, 0x06), (.restart tgt arg, 0x07), (.dieOut
      tgt arg, 0x08), (.dieInit tgt arg, 0x0A), (.dieJoin tgt arg, 0x0B), (.cal tgt arg, 0x0C), (.force tgt arg, 0x0D), (.biasOn tgt arg,
      0x0E), (.biasDown tgt arg, 0x0F), (.biasSet tgt arg, 0x11), (.laneRetrain tgt arg, 0x12)] ∧ s.tmiActs = true ∧ s.addressed tgt =
      true ∧ s.latigo.initRun ≠ none ∧ p.2 = 0x08) ∧
    (∃ (s : State) (tgt : _) (arg : BitVec 36) (p : _), p  ∈  [(Instr.runProg tgt arg, 0x01), (.measReport tgt arg, 0x02), (.stageOpen tgt
      arg, 0x03), (.stageClose tgt arg, 0x04), (.stageAbort tgt arg, 0x05), (.reload tgt arg, 0x06), (.restart tgt arg, 0x07), (.dieOut
      tgt arg, 0x08), (.dieInit tgt arg, 0x0A), (.dieJoin tgt arg, 0x0B), (.cal tgt arg, 0x0C), (.force tgt arg, 0x0D), (.biasOn tgt arg,
      0x0E), (.biasDown tgt arg, 0x0F), (.biasSet tgt arg, 0x11), (.laneRetrain tgt arg, 0x12)] ∧ s.tmiActs = true ∧ s.addressed tgt =
      true ∧ s.latigo.initRun ≠ none ∧ p.2 = 0x0A) ∧
    (∃ (s : State) (tgt : _) (arg : BitVec 36) (p : _), p  ∈  [(Instr.runProg tgt arg, 0x01), (.measReport tgt arg, 0x02), (.stageOpen tgt
      arg, 0x03), (.stageClose tgt arg, 0x04), (.stageAbort tgt arg, 0x05), (.reload tgt arg, 0x06), (.restart tgt arg, 0x07), (.dieOut
      tgt arg, 0x08), (.dieInit tgt arg, 0x0A), (.dieJoin tgt arg, 0x0B), (.cal tgt arg, 0x0C), (.force tgt arg, 0x0D), (.biasOn tgt arg,
      0x0E), (.biasDown tgt arg, 0x0F), (.biasSet tgt arg, 0x11), (.laneRetrain tgt arg, 0x12)] ∧ s.tmiActs = true ∧ s.addressed tgt =
      true ∧ s.latigo.initRun ≠ none ∧ p.2 = 0x0B) ∧
    (∃ (s : State) (tgt : _) (arg : BitVec 36) (p : _), p  ∈  [(Instr.runProg tgt arg, 0x01), (.measReport tgt arg, 0x02), (.stageOpen tgt
      arg, 0x03), (.stageClose tgt arg, 0x04), (.stageAbort tgt arg, 0x05), (.reload tgt arg, 0x06), (.restart tgt arg, 0x07), (.dieOut
      tgt arg, 0x08), (.dieInit tgt arg, 0x0A), (.dieJoin tgt arg, 0x0B), (.cal tgt arg, 0x0C), (.force tgt arg, 0x0D), (.biasOn tgt arg,
      0x0E), (.biasDown tgt arg, 0x0F), (.biasSet tgt arg, 0x11), (.laneRetrain tgt arg, 0x12)] ∧ s.tmiActs = true ∧ s.addressed tgt =
      true ∧ s.latigo.initRun ≠ none ∧ p.2 = 0x0C) ∧
    (∃ (s : State) (tgt : _) (arg : BitVec 36) (p : _), p  ∈  [(Instr.runProg tgt arg, 0x01), (.measReport tgt arg, 0x02), (.stageOpen tgt
      arg, 0x03), (.stageClose tgt arg, 0x04), (.stageAbort tgt arg, 0x05), (.reload tgt arg, 0x06), (.restart tgt arg, 0x07), (.dieOut
      tgt arg, 0x08), (.dieInit tgt arg, 0x0A), (.dieJoin tgt arg, 0x0B), (.cal tgt arg, 0x0C), (.force tgt arg, 0x0D), (.biasOn tgt arg,
      0x0E), (.biasDown tgt arg, 0x0F), (.biasSet tgt arg, 0x11), (.laneRetrain tgt arg, 0x12)] ∧ s.tmiActs = true ∧ s.addressed tgt =
      true ∧ s.latigo.initRun ≠ none ∧ p.2 = 0x0D) ∧
    (∃ (s : State) (tgt : _) (arg : BitVec 36) (p : _), p  ∈  [(Instr.runProg tgt arg, 0x01), (.measReport tgt arg, 0x02), (.stageOpen tgt
      arg, 0x03), (.stageClose tgt arg, 0x04), (.stageAbort tgt arg, 0x05), (.reload tgt arg, 0x06), (.restart tgt arg, 0x07), (.dieOut
      tgt arg, 0x08), (.dieInit tgt arg, 0x0A), (.dieJoin tgt arg, 0x0B), (.cal tgt arg, 0x0C), (.force tgt arg, 0x0D), (.biasOn tgt arg,
      0x0E), (.biasDown tgt arg, 0x0F), (.biasSet tgt arg, 0x11), (.laneRetrain tgt arg, 0x12)] ∧ s.tmiActs = true ∧ s.addressed tgt =
      true ∧ s.latigo.initRun ≠ none ∧ p.2 = 0x0E) ∧
    (∃ (s : State) (tgt : _) (arg : BitVec 36) (p : _), p  ∈  [(Instr.runProg tgt arg, 0x01), (.measReport tgt arg, 0x02), (.stageOpen tgt
      arg, 0x03), (.stageClose tgt arg, 0x04), (.stageAbort tgt arg, 0x05), (.reload tgt arg, 0x06), (.restart tgt arg, 0x07), (.dieOut
      tgt arg, 0x08), (.dieInit tgt arg, 0x0A), (.dieJoin tgt arg, 0x0B), (.cal tgt arg, 0x0C), (.force tgt arg, 0x0D), (.biasOn tgt arg,
      0x0E), (.biasDown tgt arg, 0x0F), (.biasSet tgt arg, 0x11), (.laneRetrain tgt arg, 0x12)] ∧ s.tmiActs = true ∧ s.addressed tgt =
      true ∧ s.latigo.initRun ≠ none ∧ p.2 = 0x0F) ∧
    (∃ (s : State) (tgt : _) (arg : BitVec 36) (p : _), p  ∈  [(Instr.runProg tgt arg, 0x01), (.measReport tgt arg, 0x02), (.stageOpen tgt
      arg, 0x03), (.stageClose tgt arg, 0x04), (.stageAbort tgt arg, 0x05), (.reload tgt arg, 0x06), (.restart tgt arg, 0x07), (.dieOut
      tgt arg, 0x08), (.dieInit tgt arg, 0x0A), (.dieJoin tgt arg, 0x0B), (.cal tgt arg, 0x0C), (.force tgt arg, 0x0D), (.biasOn tgt arg,
      0x0E), (.biasDown tgt arg, 0x0F), (.biasSet tgt arg, 0x11), (.laneRetrain tgt arg, 0x12)] ∧ s.tmiActs = true ∧ s.addressed tgt =
      true ∧ s.latigo.initRun ≠ none ∧ p.2 = 0x11) ∧
    (∃ (s : State) (tgt : _) (arg : BitVec 36) (p : _), p  ∈  [(Instr.runProg tgt arg, 0x01), (.measReport tgt arg, 0x02), (.stageOpen tgt
      arg, 0x03), (.stageClose tgt arg, 0x04), (.stageAbort tgt arg, 0x05), (.reload tgt arg, 0x06), (.restart tgt arg, 0x07), (.dieOut
      tgt arg, 0x08), (.dieInit tgt arg, 0x0A), (.dieJoin tgt arg, 0x0B), (.cal tgt arg, 0x0C), (.force tgt arg, 0x0D), (.biasOn tgt arg,
      0x0E), (.biasDown tgt arg, 0x0F), (.biasSet tgt arg, 0x11), (.laneRetrain tgt arg, 0x12)] ∧ s.tmiActs = true ∧ s.addressed tgt =
      true ∧ s.latigo.initRun ≠ none ∧ p.2 = 0x12) ∧
    (∃ (s : State) (tgt : _) (off : Word32) (ws : List Word64), s.tmiActs = true ∧ s.addressed tgt = true ∧ s.get .LAT_STAT_STAGE_STATE =
      2 ∧ 1 ≤ ws.length ∧ ws.length ≤ 32 ∧ off.toNat + 8 * ws.length ≤ 0x1000) ∧
    (∃ (s : State) (tgt : _) (off : Word32) (ws : List Word64), s.tmiActs = true ∧ s.addressed tgt = true ∧ s.get .LAT_STAT_STAGE_STATE =
      2 ∧ 1 ≤ ws.length ∧ ws.length ≤ 32 ∧ 0x1000 < off.toNat + 8 * ws.length ∧ s.get .LAT_STAGEPOS_NEXT ≤ off.toNat ∧ off.toNat + 8 *
      ws.length ≤ s.get .LAT_STAGE_SECTORS * 4096 ∧ s.latigo.bufWords + ws.length ≤ 8192) ∧
    (∃ (s : State), s.tmiActs = true ∧ s.get .LAT_STAT_STAGE_STATE = 3 ∧ s.stageBusy = false ∧ headerOf s.stagedByte = none) ∧
    (∃ (s : State) (h : _), s.tmiActs = true ∧ s.get .LAT_STAT_STAGE_STATE = 3 ∧ s.stageBusy = false ∧ headerOf s.stagedByte = some h ∧
      directoryOk s.stagedByte h = true ∧ (State.verifySections s.stagedByte (readOrder (sectionsOf s.stagedByte h)) s).2 = true) :=
  ⟨⟨run, 0xFFF, by decide +kernel⟩,
   ⟨probed run, 0xFFF, 1536, by decide +kernel⟩,
   ⟨probed (run.put .LAT_STAT_STAGE_STATE 2), 0xFFF, 1, by decide +kernel⟩,
   ⟨run, 0xFFF, 1, by decide +kernel⟩,
   ⟨probed run, 0xFFF, 0, by decide +kernel⟩,
   ⟨probed run, 0xFFF, 1537, by decide +kernel⟩,
   ⟨run.put .LAT_STAT_STAGE_STATE 2, 0xFFF, by decide +kernel⟩,
   ⟨run, 0xFFF, by decide +kernel⟩,
   ⟨probed run, 0xFFF, by decide +kernel⟩,
   ⟨withImage fullImage run, 0xFFF, 0x310, 0, ⟨5, 9, 0xC2, 0x1122334455667788⟩, ⟨3, 16, 0xBC, 2, 0, crc32c []⟩, [], by decide +kernel⟩,
   ⟨withImage templImage run, 0xFFF, 0x310, 0, ⟨1, 9, 0x65, 0x1122334455667788⟩, ⟨3, 16, 0x58, 13, 8, 0x7139a425⟩, [0, 0, 0x40, 4, 0, 0,
    0, 3], by decide +kernel⟩,
   ⟨run, 0xFFF, by decide +kernel⟩,
   ⟨inMode .halt run, 0xFFF, by decide +kernel⟩,
   ⟨run.put .LAT_STAT_STAGE_STATE 3, 0xFFF, by decide +kernel⟩,
   ⟨run.put .LAT_STAT_STAGE_STATE 1, 0xFFF, by decide +kernel⟩,
   ⟨withLatigo (fun l => { l with ops := [.eraseLog 0 1] }) (run.put .PRS_STATE_BROWNOUT 1), 0xFFF, by decide +kernel⟩,
   ⟨run, 0xFFF, 7, by decide +kernel⟩,
   ⟨run, 0xFFF, 0x13, by decide +kernel⟩,
   ⟨withLatigo (fun l => { l with initRun := some init0 }) run, 0xFFF, 7, (.runProg 0xFFF 7, 0x01), by decide +kernel⟩,
   ⟨withLatigo (fun l => { l with initRun := some init0 }) run, 0xFFF, 7, (.measReport 0xFFF 7, 0x02), by decide +kernel⟩,
   ⟨withLatigo (fun l => { l with initRun := some init0 }) run, 0xFFF, 7, (.stageOpen 0xFFF 7, 0x03), by decide +kernel⟩,
   ⟨withLatigo (fun l => { l with initRun := some init0 }) run, 0xFFF, 7, (.stageClose 0xFFF 7, 0x04), by decide +kernel⟩,
   ⟨withLatigo (fun l => { l with initRun := some init0 }) run, 0xFFF, 7, (.stageAbort 0xFFF 7, 0x05), by decide +kernel⟩,
   ⟨withLatigo (fun l => { l with initRun := some init0 }) run, 0xFFF, 7, (.reload 0xFFF 7, 0x06), by decide +kernel⟩,
   ⟨withLatigo (fun l => { l with initRun := some init0 }) run, 0xFFF, 7, (.restart 0xFFF 7, 0x07), by decide +kernel⟩,
   ⟨withLatigo (fun l => { l with initRun := some init0 }) run, 0xFFF, 7, (.dieOut 0xFFF 7, 0x08), by decide +kernel⟩,
   ⟨withLatigo (fun l => { l with initRun := some init0 }) run, 0xFFF, 7, (.dieInit 0xFFF 7, 0x0A), by decide +kernel⟩,
   ⟨withLatigo (fun l => { l with initRun := some init0 }) run, 0xFFF, 7, (.dieJoin 0xFFF 7, 0x0B), by decide +kernel⟩,
   ⟨withLatigo (fun l => { l with initRun := some init0 }) run, 0xFFF, 7, (.cal 0xFFF 7, 0x0C), by decide +kernel⟩,
   ⟨withLatigo (fun l => { l with initRun := some init0 }) run, 0xFFF, 7, (.force 0xFFF 7, 0x0D), by decide +kernel⟩,
   ⟨withLatigo (fun l => { l with initRun := some init0 }) run, 0xFFF, 7, (.biasOn 0xFFF 7, 0x0E), by decide +kernel⟩,
   ⟨withLatigo (fun l => { l with initRun := some init0 }) run, 0xFFF, 7, (.biasDown 0xFFF 7, 0x0F), by decide +kernel⟩,
   ⟨withLatigo (fun l => { l with initRun := some init0 }) run, 0xFFF, 7, (.biasSet 0xFFF 7, 0x11), by decide +kernel⟩,
   ⟨withLatigo (fun l => { l with initRun := some init0 }) run, 0xFFF, 7, (.laneRetrain 0xFFF 7, 0x12), by decide +kernel⟩,
   ⟨run.put .LAT_STAT_STAGE_STATE 2, 0xFFF, 0xFF8, [7], by decide +kernel⟩,
   ⟨(run.put .LAT_STAT_STAGE_STATE 2).put .LAT_STAGE_SECTORS 2, 0xFFF, 0x1FF8, [7], by decide +kernel⟩,
   ⟨run.put .LAT_STAT_STAGE_STATE 3, by decide +kernel⟩,
   ⟨withLatigo (fun l => { l with header := listed fullImage }) (run.put .LAT_STAT_STAGE_STATE 3), ⟨5, 9, 0xC2, 0x1122334455667788⟩, by
    decide +kernel⟩⟩

/-- The hypotheses of DieCommandEffect are met together. -/
theorem test_hyp_die_command_effect :
    (∃ (s : State) (tgt : _) (arg : BitVec 36) (f : _), s.working = true ∧ s.addressed tgt = true ∧ s.latigo.initRun = none ∧ f = fieldOf
      arg.toNat 0 4 ∧ s.joined f = true ∧ s.dieMap f = none) ∧
    (∃ (s : State) (tgt : _) (arg : BitVec 36) (f : _) (b : _), s.working = true ∧ s.addressed tgt = true ∧ s.latigo.initRun = none ∧ f =
      fieldOf arg.toNat 0 4 ∧ s.joined f = true ∧ s.dieMap f = some b ∧ s.get .BRD_LIM7_STBY < s.get .BRD_SET_SENT b) ∧
    (∃ (s : State) (tgt : _) (arg : BitVec 36) (f : _), s.working = true ∧ s.addressed tgt = true ∧ s.latigo.initRun = none ∧ f = fieldOf
      arg.toNat 0 4 ∧ bitOf arg.toNat 4 = true ∧ s.diePowered f = false) ∧
    (∃ (s : State) (tgt : _) (arg : BitVec 36) (f : _), s.working = true ∧ s.addressed tgt = true ∧ s.latigo.initRun = none ∧ f = fieldOf
      arg.toNat 0 4 ∧ bitOf arg.toNat 4 = false ∧ s.diePowered f = true ∧ s.joined f = false) ∧
    (∃ (s : State) (tgt : _) (arg : BitVec 36) (f : _), s.working = true ∧ s.addressed tgt = true ∧ s.latigo.initRun = none ∧ f = fieldOf
      arg.toNat 0 4 ∧ bitOf arg.toNat 4 = false ∧ s.joined f = true) ∧
    (∃ (s : State) (tgt : _) (arg : BitVec 36) (f : _), s.working = true ∧ s.addressed tgt = true ∧ s.latigo.initRun = none ∧ f = fieldOf
      arg.toNat 0 4 ∧ (s.die f).pwr = .init) ∧
    (∃ (s : State) (tgt : _) (arg : BitVec 36) (f : _), s.working = true ∧ s.addressed tgt = true ∧ s.latigo.initRun = none ∧ f = fieldOf
      arg.toNat 0 4 ∧ (s.die f).pwr ≠ .init) ∧
    (∃ (s : State) (tgt : _) (arg : BitVec 36) (f : _), s.working = true ∧ s.addressed tgt = true ∧ s.latigo.initRun = none ∧ f = fieldOf
      arg.toNat 0 4 ∧ (s.die f).pwr = .init ∧ (s.die f).initDone = true ∧ s.flag .SHL_STAT_CLK_OK f = true ∧ s.flag .SHL_STAT_TSET_DONE f
      = true ∧ s.dieLocked f = true ∧ s.measured f = true ∧ (∀ q, q < 4 → 64 ≤ s.get .HAR_SHLAT_LAT (4 * f + q) ∧ s.get .HAR_SHLAT_LAT (4
      * f + q) ≤ 160)) ∧
    (∃ (s : State) (tgt : _) (arg : BitVec 36) (f : _), s.working = true ∧ s.addressed tgt = true ∧ s.latigo.initRun = none ∧ f = fieldOf
      arg.toNat 0 4 ∧ s.measured f = false) ∧
    (∃ (s : State) (tgt : _) (f : DieNo) (r : _) (u : _) (l : _) (w : _), s.working = true ∧ s.addressed tgt = true ∧ s.latigo.initRun =
      some r ∧ r.die = f.val ∧ r.sent = u :: l ∧ s.fabric.access = none ∧ fw w 58 6 = 0x33 ∧ fw w 50 8 = 0 ∧ fw w 48 1 = 1) ∧
    (∃ (s : State) (tgt : _) (f : DieNo) (r : _) (u : _) (l : _), s.working = true ∧ s.addressed tgt = true ∧ s.latigo.initRun = some r ∧
      r.die = f.val ∧ r.sent = u :: l ∧ s.fabric.access = none ∧ u + 4096 ≤ s.frc) ∧
    (∃ (s : State) (tgt : _) (r : _), s.working = true ∧ s.addressed tgt = true ∧ s.pending = [] ∧ s.fabric.waiting = [] ∧
      s.latigo.initRun = some r ∧ r.next = r.size ∧ r.sent = [] ∧ s.latigo.prims = [] ∧ r.req.tmi = true) ∧
    (∃ (s : State) (tgt : _) (r : _), s.working = true ∧ s.addressed tgt = true ∧ s.pending = [] ∧ s.fabric.waiting = [] ∧
      s.latigo.initRun = some r ∧ r.next = r.size ∧ r.sent = [] ∧ s.latigo.prims = [] ∧ r.req.tmi = true ∧ r.failed = true) ∧
    (∃ (s : State) (tgt : _), s.working = true ∧ s.addressed tgt = true ∧ s.latigo.initRun = none ∧ bitOf (s.get .STR_CTRL_SRC_EN) 2 =
      true) ∧
    (∃ (s : State) (tgt : _) (arg : BitVec 36) (g : _), s.working = true ∧ s.addressed tgt = true ∧ s.latigo.initRun = none ∧ g = fieldOf
      arg.toNat 0 6 ∧ g < 16 ∧ s.joined g = false) ∧
    (∃ (s : State) (tgt : _) (arg : BitVec 36) (g : _), s.working = true ∧ s.addressed tgt = true ∧ s.latigo.initRun = none ∧ g = fieldOf
      arg.toNat 0 6 ∧ g < 16 ∧ s.joined g = true) :=
  ⟨⟨one, 0xFFF, 15, 15, by decide +kernel⟩,
   ⟨(one.put .BRD_LIM10_DIEMAP1 (6 * 2 ^ 21)).put .BRD_SET_SENT 5 2, 0xFFF, 15, 15, 2, by decide +kernel⟩,
   ⟨run, 0xFFF, 31, 15, by decide +kernel⟩,
   ⟨withDie 15 (fun d => { d with pwr := .init }) run, 0xFFF, 15, 15, by decide +kernel⟩,
   ⟨one, 0xFFF, 15, 15, by decide +kernel⟩,
   ⟨withDie 15 (fun d => { d with pwr := .init }) run, 0xFFF, 15, 15, by decide +kernel⟩,
   ⟨one, 0xFFF, 15, 15, by decide +kernel⟩,
   ⟨withHarness (fun h => { h with unmeasured := 0 }) (((List.range 4).foldl (fun t q => (t.put .HAR_RXL_STAT_STATE 2 (60 + q)).put
    .HAR_SHLAT_LAT (64 + 32 * q) (60 + q)) ((withDie 15 (fun d => { d with pwr := .init, initDone := true }) run).put .SHL_STAT_CLK_OK 1
    15)).put .SHL_STAT_TSET_DONE 1 15), 0xFFF, 15, 15, by decide +kernel⟩,
   ⟨withHarness (fun h => { h with unmeasured := 2 ^ 63 }) run, 0xFFF, 15, 15, by decide +kernel⟩,
   ⟨withLatigo (fun l => { l with initRun := some { init0 with sent := [1638000] } }) (withDie 15 (fun d => { d with pwr := .init }) run),
    0xFFF, 15, { init0 with sent := [1638000] }, 1638000, [], 0xCC01000000000000, by decide +kernel⟩,
   ⟨withLatigo (fun l => { l with initRun := some { init0 with sent := [1600000] } }) (withDie 15 (fun d => { d with pwr := .init }) run),
    0xFFF, 15, { init0 with sent := [1600000] }, 1600000, [], by decide +kernel⟩,
   ⟨withLatigo (fun l => { l with initRun := some { init0 with sent := [] } }) (withDie 15 (fun d => { d with pwr := .init }) run), 0xFFF,
    init0, by decide +kernel⟩,
   ⟨withLatigo (fun l => { l with initRun := some { init0 with failed := true } }) (withDie 15 (fun d => { d with pwr := .init }) run),
    0xFFF, { init0 with failed := true }, by decide +kernel⟩,
   ⟨run.put .STR_CTRL_SRC_EN 4, 0xFFF, by decide +kernel⟩,
   ⟨run, 0xFFF, 15, 15, by decide +kernel⟩,
   ⟨one, 0xFFF, 15, 15, by decide +kernel⟩⟩

/-- The hypotheses of SequencerEffect are met together. -/
theorem test_hyp_sequencer_effect :
    (∃ (s : State) (w : Word64) (r : _) (i : _), s.seqReady = true ∧ s.fetch = some w ∧ fw w 58 6 = 0x01 ∧ s.turn .latigo = true ∧
      s.fabricBusy = false ∧ target (waddr w) = .reg r i ∧ r.writable (s.locked (lockOf r)) = true ∧ (∀ u : State, u.writeReg r i
      (BitVec.ofNat 32 (fw w 0 32)) = u.writePlain r i (BitVec.ofNat 32 (fw w 0 32)))) ∧
    (∃ (s : State) (w : Word64) (r : _) (i : _), s.seqReady = true ∧ s.fetch = some w ∧ fw w 58 6 = 0x02 ∧ s.turn .latigo = true ∧
      s.fabricBusy = false ∧ target (waddr w) = .reg r i ∧ r.writable (s.locked (lockOf r)) = true ∧ (∀ u : State, u.writeReg r i
      (BitVec.ofNat 32 (s.w (fw w 32 3))) = u.writePlain r i (BitVec.ofNat 32 (s.w (fw w 32 3))))) ∧
    (∃ (s : State) (w : Word64), s.seqReady = true ∧ s.fetch = some w ∧ fw w 58 6 = 0x03 ∧ s.turn .latigo = true ∧ s.fabricBusy = false ∧
      target (waddr w) = .none) ∧
    (∃ (s : State) (w : Word64) (r : _) (i : _), s.seqReady = true ∧ s.fetch = some w ∧ fw w 58 6 = 0x03 ∧ s.turn .latigo = true ∧
      s.fabricBusy = false ∧ target (waddr w) = .reg r i ∧ srHigh r = none ∧ srLow r = none ∧ r.fields.all (fun f => f.acc != .rc) = true
      ∧ [Reg.STR_MAPDATA, .ING_STAT, .HQD_STAT, .RNG_CNT, .RNG_CNT2].contains r = false) ∧
    (∃ (s : State) (w : Word64) (i : _), s.seqReady = true ∧ s.fetch = some w ∧ fw w 58 6 = 0x03 ∧ s.turn .latigo = true ∧ s.fabricBusy =
      false ∧ target (waddr w) = .reg .ING_STAT i) ∧
    (∃ (s : State) (w : Word64) (r : _) (i : _), s.seqReady = true ∧ s.fetch = some w ∧ fw w 58 6 = 0x04 ∧ s.turn .latigo = true ∧
      s.fabricBusy = false ∧ target (waddr w) = .reg r i ∧ r.writable (s.locked (lockOf r)) = true ∧ srHigh r = none ∧ srLow r = none ∧
      r.fields.all (fun f => f.acc != .rc) = true ∧ [Reg.STR_MAPDATA, .ING_STAT, .HQD_STAT, .RNG_CNT, .RNG_CNT2].contains r = false ∧ (∀
      (u : State) d, u.writeReg r i d = u.writePlain r i d)) ∧
    (∃ (s : State) (w : Word64), s.seqReady = true ∧ s.fetch = some w ∧ fw w 58 6 = 0x01 ∧ s.fabricBusy = true) ∧
    (∃ (s : State) (w : Word64), s.seqReady = true ∧ s.fetch = some w ∧ fw w 58 6 = 0x05) ∧
    (∃ (s : State) (w : Word64), s.seqReady = true ∧ s.fetch = some w ∧ fw w 58 6 = 0x06) ∧
    (∃ (s : State) (w : Word64), s.seqReady = true ∧ s.fetch = some w ∧ fw w 58 6 = 0x07 ∧ s.turn .latigo = true ∧ s.fabricBusy = false ∧
      target (waddr w) = .none) ∧
    (∃ (s : State) (w : Word64), s.seqReady = true ∧ s.fetch = some w ∧ fw w 58 6 = 0x07 ∧ s.turn .latigo = true ∧ s.fabricBusy = false ∧
      target (waddr w) = .none ∧ s.w (fw w 32 3) ≠ 0 ∧ fw w 13 16 ≠ 0) ∧
    (∃ (s : State) (w : Word64), s.seqReady = true ∧ s.fetch = some w ∧ fw w 58 6 = 0x08) ∧
    (∃ (s : State) (w : Word64), s.seqReady = true ∧ s.fetch = some w ∧ fw w 58 6 = 0x09) ∧
    (∃ (s : State) (w : Word64), s.seqReady = true ∧ s.fetch = some w ∧ fw w 58 6 = 0x0A ∧ fw w 0 12 < s.program.len) ∧
    (∃ (s : State) (w : Word64), s.seqReady = true ∧ s.fetch = some w ∧ fw w 58 6 = 0x0B ∧ fw w 0 12 < s.program.len) ∧
    (∃ (s : State) (w : Word64), s.seqReady = true ∧ s.fetch = some w ∧ fw w 58 6 = 0x0C) ∧
    (∃ (s : State) (w : Word64), s.seqReady = true ∧ s.fetch = some w ∧ fw w 58 6 = 0x0C ∧ fw w 50 8 ≠ 0x0A ∧ s.latigo.initRun = none) ∧
    (∃ (s : State) (w : Word64), s.seqReady = true ∧ s.fetch = some w ∧ fw w 58 6 = 0x0C ∧ fw w 50 8 = 0x0A ∧ s.latigo.initRun = none ∧
      (s.die 15).pwr = .init) ∧
    (∃ (s : State) (w : Word64), s.seqReady = true ∧ s.fetch = some w ∧ fw w 58 6 = 0x0C ∧ fw w 50 8 = 0x0A ∧ s.latigo.initRun = none ∧
      (s.die 15).pwr ≠ .init) ∧
    (∃ (s : State) (w : Word64), s.seqReady = true ∧ s.fetch = some w ∧ fw w 58 6 = 0x0C ∧ fw w 50 8 ≠ 0x10 ∧ s.latigo.initRun ≠ none) ∧
    (∃ (s : State) (w : Word64), s.seqReady = true ∧ s.fetch = some w ∧ fw w 58 6 = 0x0C ∧ fw w 50 8 = 0x10 ∧ s.latigo.initRun ≠ none) ∧
    (∃ (s : State) (w : Word64), s.seqReady = true ∧ s.fetch = some w ∧ fw w 58 6 = 0x0D) ∧
    (∃ (s : State) (w : Word64), s.seqReady = true ∧ s.fetch = some w ∧ fw w 58 6 = 0x0F) ∧
    (∃ (s : State) (w : Word64), s.seqReady = true ∧ s.fetch = some w ∧ fw w 58 6 = 0x0F ∧ s.latigo.nextStore.length = 1) ∧
    (∃ (s : State) (w : Word64) (c : _), s.seqReady = true ∧ s.fetch = some w ∧ ((c ∈ [Instr.wri true, .wrr true, .rd true, .rmw true,
      .poll true] ∧ s.arrives .latigo = true) ∨ c ∈ [Instr.ldi true, .alu true, .waits true, .waitc true, .jmp true, .br true, .prim true,
      .evt true, .endProg true])) ∧
    (∃ (s : State) (w : Word64) (c : _), s.seqReady = true ∧ s.fetch = some w ∧ ((c ∈ [Instr.wri true, .wrr true, .rd true, .rmw true,
      .poll true] ∧ s.arrives .latigo = true) ∨ c ∈ [Instr.ldi true, .alu true, .waits true, .waitc true, .jmp true, .br true, .prim true,
      .evt true, .endProg true]) ∧ s.fetch = some 0) ∧
    (∃ (s : State) (w : Word64) (c : _), s.seqReady = true ∧ s.fetch = some w ∧ ((c ∈ [Instr.wri true, .wrr true, .rd true, .rmw true,
      .poll true] ∧ s.arrives .latigo = true) ∨ c ∈ [Instr.ldi true, .alu true, .waits true, .waitc true, .jmp true, .br true, .prim true,
      .evt true, .endProg true]) ∧ s.fabricBusy = true) :=
  ⟨⟨running 0x401601000000005, 0x401601000000005, .SKV_LOSS, 0, by decide +kernel, by decide +kernel, by decide +kernel, by
    decide +kernel, by decide +kernel, by decide +kernel, by decide +kernel, fun _ => rfl⟩,
   ⟨running 0x801601100000000, 0x801601100000000, .SKV_LOSS, 0, by decide +kernel, by decide +kernel, by decide +kernel, by
    decide +kernel, by decide +kernel, by decide +kernel, by decide +kernel, fun _ => rfl⟩,
   ⟨running 0xc001ff900000000, 0xc001ff900000000, by decide +kernel⟩,
   ⟨running 0xc01601000000000, 0xc01601000000000, .SKV_LOSS, 0, by decide +kernel⟩,
   ⟨running 0xc01580000000000, 0xc01580000000000, 0, by decide +kernel⟩,
   ⟨running 0x1001601140000000, 0x1001601140000000, .SKV_LOSS, 0, by decide +kernel, by decide +kernel, by decide +kernel, by
    decide +kernel, by decide +kernel, by decide +kernel, by decide +kernel, by decide +kernel, by decide +kernel, by decide +kernel, by
    decide +kernel, fun _ _ => rfl⟩,
   ⟨withFabric (fun x => { x with access := some access0 }) (running 0x401601000000005), 0x401601000000005, by decide +kernel⟩,
   ⟨running 0x1400000400000007, 0x1400000400000007, by decide +kernel⟩,
   ⟨running 0x1800000164000000, 0x1800000164000000, by decide +kernel⟩,
   ⟨running 0x1c001ff900002000, 0x1c001ff900002000, by decide +kernel⟩,
   ⟨(running 0x1c001ff900006000).put .LAT_W_W 5 1, 0x1c001ff900006000, by decide +kernel⟩,
   ⟨running 0x2000000000000009, 0x2000000000000009, by decide +kernel⟩,
   ⟨running 0x2400000000000009, 0x2400000000000009, by decide +kernel⟩,
   ⟨running 0x2800000000000007, 0x2800000000000007, by decide +kernel⟩,
   ⟨running 0x2c00000010000007, 0x2c00000010000007, by decide +kernel⟩,
   ⟨running 0x300c000000000000, 0x300c000000000000, by decide +kernel⟩,
   ⟨running 0x300c000000000000, 0x300c000000000000, by decide +kernel⟩,
   ⟨withDie 15 (fun d => { d with pwr := .init }) (running 0x302800000000000f), 0x302800000000000f, by decide +kernel⟩,
   ⟨running 0x302800000000000f, 0x302800000000000f, by decide +kernel⟩,
   ⟨withLatigo (fun l => { l with initRun := some init0 }) (running 0x300c000000000000), 0x300c000000000000, by decide +kernel⟩,
   ⟨withLatigo (fun l => { l with initRun := some init0 }) (running 0x3040000000000000), 0x3040000000000000, by decide +kernel⟩,
   ⟨running 0x3400000000000005, 0x3400000000000005, by decide +kernel⟩,
   ⟨running 0x3c00000000000000, 0x3c00000000000000, by decide +kernel⟩,
   ⟨withLatigo (fun l => { l with nextStore := [⟨[], [], [], 1, 0, 9⟩] }) (running 0x3c00000000000000), 0x3c00000000000000, by
    decide +kernel⟩,
   ⟨running 0, 0, .wri true, by decide +kernel⟩,
   ⟨running 0, 0, .endProg true, by decide +kernel⟩,
   ⟨withFabric (fun x => { x with access := some access0 }) (running 0), 0, .poll true, by decide +kernel⟩⟩

/-- The hypotheses of ProgramEffect are met together. -/
theorem test_hyp_program_effect :
    (∃ (s : State) (data : _), s.working = true ∧ Fld.LAT_RUN_GO.on data = true ∧ s.latigo.queue.contains (Fld.LAT_RUN_PROG.of data) =
      false ∧ s.latigo.queue.length < 8) ∧
    (∃ (s : State) (n : _), s.working = true ∧ s.nextProgram = some n ∧ s.flag .LAT_STAT_ACTIVE = false ∧ n < 32) ∧
    (∃ (s : State) (n : _), s.working = true ∧ s.nextProgram = some n ∧ s.flag .LAT_STAT_ACTIVE = false ∧ n < 32) ∧
    (∃ (s : State), s.working = true ∧ s.flag .LAT_STAT_ACTIVE = true ∧ s.boundary = true ∧ s.program.budget ≠ 0 ∧ s.program.budget <
      s.latigo.elapsed) ∧
    (∃ (s : State), s.working = true ∧ s.flag .LAT_STAT_ACTIVE = true ∧ s.boundary = false) ∧
    (∃ (s : State) (w : _), s.working = true ∧ s.flag .LAT_STAT_ACTIVE = true ∧ s.seqReady = true ∧ s.fetch = some w ∧ opDefined (fw w 58
      6) = false) ∧
    (∃ (s : State), s.working = true ∧ s.flag .LAT_STAT_ACTIVE = true ∧ s.seqReady = true ∧ s.fetch = none) ∧
    (∃ (s : State), s.working = true ∧ s.flag .LAT_STAT_ACTIVE = true ∧ s.waitOver = true) ∧
    (∃ (s : State) (u : _), s.working = true ∧ s.flag .LAT_STAT_ACTIVE = true ∧ s.latigo.wait = .poll u ∧ u ≤ s.frc) :=
  ⟨⟨run, 0x80000003, by decide +kernel⟩,
   ⟨withLatigo (fun l => { l with queue := [3] }) run, 3, by decide +kernel⟩,
   ⟨withLatigo (fun l => { l with queue := [3] }) run, 3, by decide +kernel⟩,
   ⟨withLatigo (fun l => { l with elapsed := 6 }) (running 0), by decide +kernel⟩,
   ⟨withLatigo (fun l => { l with elapsed := 6, wait := .cycles 1700000 }) (running 0), by decide +kernel⟩,
   ⟨running 0, 0, by decide +kernel⟩,
   ⟨withLatigo (fun l => { l with pos := 8 }) (running 0), by decide +kernel⟩,
   ⟨withLatigo (fun l => { l with wait := .cycles 1638400 }) (running 0), by decide +kernel⟩,
   ⟨withLatigo (fun l => { l with wait := .poll 1638400 }) (running 0), 1638400, by decide +kernel⟩⟩

/-- The hypotheses of StepRunsFront are met together. -/
theorem test_hyp_step_runs_front :
    (∃ (s : State), s.pending = [] ∧ s.mode = .unpowered) ∧
    (∃ (s : State), s.pending = [] ∧ s.mode = .reset) ∧
    (∃ (s : State), s.pending = [] ∧ s.alive = true) ∧
    (∃ (s : State), s.pending = [] ∧ s.fabric.waiting = [] ∧ s.latigo.initRun = none ∧ s.rosette.cut = false ∧ s.alive = true ∧ s.working
      = false) ∧
    (∃ (s : State), s.pending = [] ∧ s.fabric.waiting = [] ∧ s.latigo.initRun = none ∧ s.rosette.cut = false ∧ s.working = true) :=
  ⟨⟨inMode .unpowered run, by decide +kernel⟩,
   ⟨State.reset, by decide +kernel⟩,
   ⟨run, by decide +kernel⟩,
   ⟨inMode .halt run, by decide +kernel⟩,
   ⟨run, by decide +kernel⟩⟩

/-- The hypotheses of StepKeepsCanonical are met together. -/
theorem test_hyp_step_keeps_canonical :
    ∃ (s t : State), s.canonical = true ∧ step s = .next t :=
  ⟨{ State.reset with pending := [.vinSupervisorLoss 1199] }, res (step { State.reset with pending := [.vinSupervisorLoss 1199] }), by
    decide +kernel, rfl⟩

/-- The hypotheses of StepKeepsShape are met together. -/
theorem test_hyp_step_keeps_shape :
    ∃ (s t : State), s.shaped = true ∧ step s = .next t :=
  ⟨{ State.reset with pending := [.vinSupervisorLoss 1199] }, res (step { State.reset with pending := [.vinSupervisorLoss 1199] }), by
    decide +kernel, rfl⟩

/-- The hypotheses of StepKeepsOutputsSafe are met together. -/
theorem test_hyp_step_keeps_outputs_safe :
    ∃ (s t : State), s.outputsSafe = true ∧ step s = .next t :=
  ⟨{ State.reset with pending := [.vinSupervisorLoss 1199] }, res (step { State.reset with pending := [.vinSupervisorLoss 1199] }), by
    decide +kernel, rfl⟩

/-- The hypotheses of ModeTransitions are met together. -/
theorem test_hyp_mode_transitions :
    (∃ (c : Instr) (s t : State), exec c s = .next t ∧ t.mode ≠ s.mode) ∧
    (∃ (s t : State), s.pending = [] ∧ step s = .next t ∧ t.mode ≠ s.mode) :=
  ⟨⟨.resetRelease 3550 true true true 9 false, State.reset, res (exec (.resetRelease 3550 true true true 9 false) State.reset), rfl, by
    decide +kernel⟩,
   ⟨withLatigo (fun l => { l with initRun := some init0, prims := [⟨7, 0, false⟩] }) (inMode .halt run), res (step (withLatigo (fun l =>
    { l with initRun := some init0, prims := [⟨7, 0, false⟩] }) (inMode .halt run))), by decide +kernel, rfl, by decide +kernel⟩⟩

/-- The hypotheses of CommandFootprint are met together. -/
theorem test_hyp_command_footprint :
    (∃ (c : Instr) (s t : State), exec c s = .next t) ∧
    (∃ (c : Instr) (s t : State) (r : _), exec c s = .next t ∧ (commandWrites c).reset = false ∧ (commandWrites c).anyReg = false ∧ r ∉
      (commandWrites c).regs ∧ ((commandWrites c).events = true → r ∉ raiseRegs) ∧ ((commandWrites c).clears = true → r.ofDie = false)) ∧
    (∃ (c : Instr) (s t : State) (p : _), exec c s = .next t ∧ (commandWrites c).reset = false ∧ p ∉ (commandWrites c).parts) :=
  ⟨⟨.vinWarnFall 3399, run, res (exec (.vinWarnFall 3399) run), rfl⟩,
   ⟨.vinWarnFall 3399, run, res (exec (.vinWarnFall 3399) run), .SKV_LOSS, rfl, by decide +kernel, by decide +kernel, by decide +kernel,
    by decide +kernel, by decide +kernel⟩,
   ⟨.vinWarnFall 3399, run, res (exec (.vinWarnFall 3399) run), .girth, rfl, by decide +kernel, by decide +kernel⟩⟩

/-- The hypotheses of OtherDiesUntouched are met together. -/
theorem test_hyp_other_dies_untouched :
    ∃ (s t : State) (f h : DieNo) (ch : ChanNo) (data : Word32) (cur : Nat) (taps : BitVec 160) (high : Bool) (b : Fin 4) (c : _), c  ∈
      [Instr.anodeSlewStep f ch, .triggerDiscFire f ch cur, .thresholdEval f ch, .pixTrgpolWrite f ch data, .accLoad f ch data, .ovrEnter
      f ch high, .ovrRelease f ch high, .leadCapture f ch cur taps, .trailCapture f ch cur taps, .totSaturate f ch, .deadTimeEnd f ch,
      .creditAdd f ch, .intervalTimeout f ch, .completionEntry f ch, .ringFull f ch, .rngRestart f ch data, .transferEnd f ch b] ∧ h ≠ f ∧
      exec c s = .next t :=
  ⟨withChan 4095 (fun x => { x with awl := .high, lead := some lead0 }) one, res (exec (.trailCapture 15 255 0 0) (withChan 4095 (fun x =>
    { x with awl := .high, lead := some lead0 }) one)), 15, 3, 255, 0, 0, 0, false, 0, .trailCapture 15 255 0 0, by decide +kernel, by
    decide +kernel, rfl⟩


/-! ### WellFormed: each check refuses a term that fails it -/

theorem test_wf_conversion_lengths : (Instr.conversionEnd 9 41 0 [1, 2] [1] 0x800).wf = false := by decide
theorem test_wf_conversion_codes : (Instr.conversionEnd 9 41 0 [4096] [1] 0x800).wf = false ∧
    (Instr.conversionEnd 9 41 0 [1] [4096] 0x800).wf = false ∧ (Instr.conversionEnd 9 41 0 [1] [1] 4096).wf = false := by decide
theorem test_wf_strobe_lengths :
    (Instr.slotStrobe 0 (List.replicate 12 0) (List.replicate 16 0) [] (List.replicate 16 none)).wf = false ∧
    (Instr.slotStrobe 0 (List.replicate 13 0) (List.replicate 15 0) [] (List.replicate 16 none)).wf = false ∧
    (Instr.slotStrobe 0 (List.replicate 13 0) (List.replicate 16 0) [] (List.replicate 17 none)).wf = false ∧
    (Instr.slotStrobe 0 (List.replicate 13 0) (List.replicate 16 0) [] (List.replicate 16 none)).wf = true := by decide
theorem test_wf_ci_frame : (Instr.ciFrameReceive true false true [1, 2, 3, 4]).wf = false := by decide
theorem test_wf_align_counts : (Instr.alignReceive true (List.replicate 7 0) 0).wf = false ∧
    (Instr.alignReceive true (List.replicate 8 (2 ^ 32)) 0).wf = false := by decide
theorem test_wf_stage_words : (Instr.stage 0 0 0 []).wf = false ∧ (Instr.stage 0 0 0 (List.replicate 33 0)).wf = false := by decide
theorem test_wf_tree_flips : (Instr.treeRead 5 [1, 1] [] .other 5).wf = false ∧ (Instr.treeRead 5 [] [2, 2] .other 5).wf = false := by
  decide
theorem test_wf_scrub_flips : (Instr.scrubVisit [1, 1] [] .other false).wf = false ∧ (Instr.scrubVisit [] [2, 2] .other false).wf = false := by
  decide

/-! ### Commands by words: the table gives its rows no bits -/

theorem test_decode_none : decodeTableWord 0 0 = none ∧ decodeTableWord 64 0x4A448D4105F05800 = none := by decide

/-! ### Worked examples of the specification -/

/-- 00, R7: 3 is later than 0xFFFFFFFE. -/
theorem test_sequence_order : laterThan 32 0x00000003 0xFFFFFFFE = true ∧ laterThan 32 0xFFFFFFFE 0x00000003 = false := by decide
/-- 03, Table 03.5: hit A on channel 41, epoch 5. -/
theorem test_hit_word :
    hitWord 41 { edge := 0, raw := 596434, corr := 176, epoch := 5, rcv := false, cal := false, pile := false, trg := true } 190 =
      0x4A448D4105F05800 := by decide
/-- 03, R68: the ramp of OFFS_NOW from +213 fu to +237 fu over 16 slots, and back. -/
theorem test_ramp : rampAt 213 237 1 16 = 214 ∧ rampAt 213 237 8 16 = 225 ∧ rampAt 213 237 16 16 = 237 ∧ rampAt 237 213 1 16 = 236 := by
  decide
/-- 04, Table 04.4: the header of a record of channel 41. -/
theorem test_record_header :
    (recordOf 41 0
      { tag := 0x155, pre := 160, win := 256, first := 60, epoch := 5, at_ := 0, cell0 := 0, satH := 0, satL := 0, idle := 0, phase := .convert } 0 false
      false (List.replicate 196 0x6D2)).head? = some 0x8290AAD01E311050 := by decide +kernel
/-- 04, R97: the conversion whose largest code is the reference cell's 0x800. -/
theorem test_conversion_time : convTime [0x6D2, 0x800] = 16 + 2049 := by decide
/-- 04, R107: requantising with k = 3. -/
theorem test_requantise : [1000, 1004, 4064, 0xFFF].map (requant 3) = [125, 126, 508, 511] := by decide
/-- 05, R143: the slot of a trigger from its 32-bit TSLOT. -/
theorem test_trigger_slot : unsigned 48 ((0x100000002 : Nat) + wrapDiff 32 0xFFFFFFFF 0x100000002) = 0xFFFFFFFF := by decide
/-- 06, R161 and 10, R250: the check values over the ASCII bytes of 123456789. -/
theorem test_crc : crc32c [49, 50, 51, 52, 53, 54, 55, 56, 57] = 0xE3069283 ∧ crc8 [49, 50, 51, 52, 53, 54, 55, 56, 57] = 0xF4 := by
  decide +kernel
/-- 07, R169 to R171: hit A in slot 6,699. -/
theorem test_hit_time :
    localOffset 4661 5200 = 4661 ∧
    hitGlobal { slot := 6699, sigma := 438009000, offset := 260256705 * 2 ^ 15, rate := 2 ^ 28, ref := 400000000 } 4661 2 = 56195881603 ∧
    slipCode (56195881603 / 2 ^ 23 - 6699) = 0 := by decide
/-- 12: the parities of the block, the strike on bit 5 of byte 3, its stale bit, and the poison syndrome. -/
theorem test_tree_block :
    TBlock.full 0x123456789ABCDEF1 = { data := 0x123456789ABCDEF1, p := 0xA2, c := 0x01, q := true } ∧
    ((TBlock.full 0x123456789ABCDEF1).flip (8 * 3 + 5)).data = 0x123456589ABCDEF1 ∧
    ((TBlock.full 0x123456789ABCDEF1).flip (8 * 3 + 5)).classify = .mend (TBlock.full 0x123456789ABCDEF1) ∧
    staleAt (0x01002340 / 8) = (0x01FC008D / 8, 8 * (7 - 0x01FC008D % 8)) ∧
    (TBlock.full 0x123556789ABC00F1).poisoned.p = 0x5F := by decide +kernel
/-- 13, Table 13.4: the stream 2 item of channel 41 of die 9. -/
theorem test_ambient_item :
    ((inSlot 781 run).ambientCollect 38 (ambientWord 4 41 1 false false 0 51200000 4000000)).packer.items = [(2, [0x19294040003D0900])] := by
  decide +kernel
/-- 16, R392: CUR 800 with F_0 = 2,150 gives 840. -/
theorem test_cur_eff : ((run.put .RSE_CH_CUR 800 5).put .RSE_FAC_FAC 2150 (colourOf 5)).curEff 5 = 840 := by decide +kernel
/-- 19, Table 19.6: the entry of event 221. -/
theorem test_log_entry :
    (LogEntry.words { id := 221, sev := 3, replay := false, again := 2, toff := 0x7530, tslot := 0x1A2B, data := 0x980, edge := 0 }) =
      [0x1375813A98000000, 0x00001A2B00000980] := by decide
/-- 21: the addresses of three registers. -/
theorem test_addresses :
    target 0x98B4 = .reg .HAR_RXL_STAT 75 ∧ target 0x01F1A05C = .die 15 .AWL_QUAL 4000 0x1A05C ∧ target 0x301C = .reg .EVM_PEND 7 := by
  decide +kernel

end Sys2Proof.Tests
end

section
/-! PROOF. The write of both policy bounds of a channel (R49, Table 02.11). -/

namespace Sys2Proof.Machine

/-! ### Register reads after the updates that a register write makes -/

/-- A write of one register leaves every element of every other register alone. -/
theorem State.reg_put_ne (s : State) (f : Fld) (v i : Nat) {r : Reg} (j : Nat) (h : r.ctorIdx ≠ f.reg.ctorIdx) :
    (s.put f v i).reg r j = s.reg r j :=
  s.reg_setReg_ne _ (Reg.key_ne h)

/-- A field reads as before where the word of its register is as before. -/
theorem State.get_congr {s t : State} {f : Fld} {i : Nat} (h : t.reg f.reg i = s.reg f.reg i) : t.get f i = s.get f i := by
  rw [State.get, State.get, h]

/-- A flag written reads back as written. -/
theorem State.get_putB_self (s : State) (f : Fld) (b : Bool) (i : Nat) (hf : f.fits = true) (hw : 0 < f.w) :
    (s.putB f b i).get f i = b2n b := by
  rw [State.putB, State.get_put_self _ _ _ _ hf, Nat.mod_eq_of_lt]
  calc b2n b < 2 := by cases b <;> decide
    _ ≤ 2 ^ f.w := Nat.le_self_pow hw.ne' 2

/-- A field taken from a word reads back as the field of that word. -/
theorem State.get_take_self (s : State) (f : Fld) (data : Word32) (i : Nat) (hf : f.fits = true) :
    (s.take f data i).get f i = f.of data := by
  rw [State.take, State.get_put_self _ _ _ _ hf]
  exact Nat.mod_eq_of_lt (fieldOf_lt _ _ _)

/-- Taking a field from a word leaves a field that lies apart from it alone. -/
theorem State.get_take_apart (s : State) (f g : Fld) (data : Word32) (i j : Nat) (hf : f.fits = true) (h : f.apart g = true) :
    (s.take f data i).get g j = s.get g j :=
  s.get_put_apart f g _ i j hf h

/-- What a channel keeps beside its registers shows in no register. -/
@[simp] theorem State.reg_setChan (s : State) (g : Nat) (c : Chan) (r : Reg) (i : Nat) : (s.setChan g c).reg r i = s.reg r i := rfl

@[simp] theorem State.get_setChan (s : State) (g : Nat) (c : Chan) (f : Fld) (i : Nat) : (s.setChan g c).get f i = s.get f i :=
  State.get_congr (s.reg_setChan g c f.reg i)

/-- The snapshot pairs are no part of the registers (R10). -/
@[simp] theorem State.reg_clearShadows (s : State) (r : Reg) (i : Nat) : s.clearShadows.reg r i = s.reg r i := rfl

/-- A command that is an access and is due acts on the state with the snapshot pairs cleared (R10). -/
theorem access'_due {c : Bool} (hc : c = true) (s : State) (f : State → State) : access' c s f = .next (f s.clearShadows) := by
  rw [access', when', if_pos hc]

/-! ### PIX_TRGPOL (R49) -/

/-- A write that would put CEIL below FLOOR does no more than set WERR. -/
theorem State.writePixTrgpol_rejected (s : State) (g : Nat) {data : Word32}
    (h : Fld.PIX_TRGPOL_CEIL.of data < Fld.PIX_TRGPOL_FLOOR.of data) :
    s.writePixTrgpol g data = s.putB .PIX_TSTAT_WERR true g := by
  rw [State.writePixTrgpol, if_pos h]

/-- Any other write takes both bounds; a clamp of a request in the same C40 cycle (R51) reaches no register. -/
theorem State.get_writePixTrgpol_accepted (s : State) (g : Nat) {data : Word32}
    (h : ¬ Fld.PIX_TRGPOL_CEIL.of data < Fld.PIX_TRGPOL_FLOOR.of data) (f : Fld) (i : Nat) :
    (s.writePixTrgpol g data).get f i = ((s.take .PIX_TRGPOL_CEIL data g).take .PIX_TRGPOL_FLOOR data g).get f i := by
  rw [State.writePixTrgpol, if_neg h]
  dsimp only
  split
  · exact State.get_setChan _ _ _ _ _
  · rfl

/-- The write of PIX_TRGPOL on a die that has power. -/
theorem exec_pixTrgpolWrite (s : State) (f : DieNo) (c : ChanNo) (data : Word32) (hw : s.working = true)
    (hp : s.diePowered f = true) :
    exec (.pixTrgpolWrite f c data) s = .next (s.clearShadows.writePixTrgpol (gchan f c) data) := by
  have hdue : (s.working && s.diePowered f) = true := by rw [hw, hp, Bool.and_self]
  exact access'_due hdue s (fun s => s.writePixTrgpol (gchan f c) data)

/-- Settles O8: the two branches of the write, each read through the fields it puts. -/
theorem trgpolWriteRule : Obligations.TrgpolWriteRule := by
  unfold Obligations.TrgpolWriteRule
  intro s f c data hw hp
  refine ⟨_, exec_pixTrgpolWrite s f c data hw hp, ?_⟩
  split
  case isTrue h =>
    rw [State.writePixTrgpol_rejected _ _ h]
    have hreg : (s.clearShadows.putB .PIX_TSTAT_WERR true (gchan f c)).reg .PIX_TRGPOL (gchan f c) =
        s.reg .PIX_TRGPOL (gchan f c) :=
      (State.reg_put_ne _ _ _ _ _ (by decide)).trans (s.reg_clearShadows _ _)
    exact ⟨State.get_putB_self _ _ _ _ (by decide) (by decide), hreg, State.get_congr hreg, State.get_congr hreg⟩
  case isFalse h =>
    simp only [State.get_writePixTrgpol_accepted _ _ h]
    constructor
    · rw [State.get_take_apart _ _ _ _ _ _ (by decide) (by decide), State.get_take_self _ _ _ _ (by decide)]
    · exact State.get_take_self _ _ _ _ (by decide)

end Sys2Proof.Machine
end

section
/-! PROOF. A key held too long, and its clearing (R416). -/

namespace Sys2Proof.Machine

/-! ### What a trip leaves of the Bridle's fields (R408, R409, Table 17.2) -/

/-- The fields that the Bridle's lock writes. -/
def lockFields : List Fld :=
  [.BRD_SET_SENT, .BRD_STAT_EN_A, .BRD_STAT_EN_B, .BRD_STAT_STATE, .BRD_TRIP_CAUSE, .BRD_CNT0_TRIPS]

/-- Every field that the lock writes lies in its register. -/
theorem lockFields_fits {g : Fld} (hg : g ∈ lockFields) : g.fits = true :=
  (show ∀ g ∈ lockFields, g.fits = true by decide) g hg

/-- A write of a field of the lock leaves a field apart from all of them alone. -/
theorem State.get_put_lockField {f : Fld} (h : ∀ g ∈ lockFields, g.apart f = true) (s : State) {g : Fld} (hg : g ∈ lockFields)
    (v i j : Nat) : (s.put g v i).get f j = s.get f j :=
  State.get_put_apart s g f v i j (lockFields_fits hg) (h g hg)

/-- The outputs going low and the setpoints going to 0 leave such a field alone. -/
theorem State.get_bridleSafe_apart (s : State) {f : Fld} (h : ∀ g ∈ lockFields, g.apart f = true) (i : Nat) :
    s.bridleSafe.get f i = s.get f i := by
  have hp := State.get_put_lockField h
  unfold State.bridleSafe State.putB
  simp only [List.range, List.range.loop, List.foldl]
  simp only [hp _ (g := .BRD_STAT_EN_A) (by decide), hp _ (g := .BRD_STAT_EN_B) (by decide), hp _ (g := .BRD_SET_SENT) (by decide)]
  rfl

/-- So does the lock. -/
theorem State.get_bridleLock_apart (s : State) (c : Nat) {f : Fld} (h : ∀ g ∈ lockFields, g.apart f = true) (i : Nat) :
    (s.bridleLock c).1.get f i = s.get f i := by
  have hp := State.get_put_lockField h
  unfold State.bridleLock
  split
  · rfl
  · have hsave : ∀ (t : State) x, State.get { t with latigo := { t.latigo with saveDue := x } } f i = t.get f i := fun _ _ => rfl
    simp only [hsave, State.inc]
    rw [hp _ (g := .BRD_CNT0_TRIPS) (by decide), hp _ (g := .BRD_TRIP_CAUSE) (by decide), hp _ (g := .BRD_STAT_STATE) (by decide),
      s.get_bridleSafe_apart h]

/-- A field outside the registers of every raising, and apart from what a trip writes, keeps its value through the actions of a raising. -/
theorem apartClosed {f : Fld} (hr : f.reg ∉ noteRegs) (h : ∀ g ∈ lockFields, g.apart f = true) (i v : Nat) :
    RaiseClosed (fun t => t.get f i = v) where
  reg := fun _ _ _ _ ht hn _ =>
    (State.get_congr (State.reg_setReg_ne _ _ (Reg.key_ne fun e => hr (Reg.ctorIdx_inj e ▸ hn)))).trans ht
  matrix := fun _ _ ht => ht
  queue := fun _ _ ht => ht
  lock := fun t c ht => (t.get_bridleLock_apart c h i).trans ht

/-- Raising a source keeps such a field, even where the source trips the Bridle. -/
theorem State.get_raise_apart (s : State) (id data : Nat) {f : Fld} (hr : f.reg ∉ noteRegs)
    (h : ∀ g ∈ lockFields, g.apart f = true) (i : Nat) : (s.raise id data).get f i = s.get f i := by
  have hc : ∀ (t : State) (k : Nat), (t.inc .EVM_CNT_COUNT k).get f i = t.get f i := fun t k =>
    State.get_congr (State.reg_put_ne t .EVM_CNT_COUNT _ k i fun e => hr (Reg.ctorIdx_inj e ▸ (by decide : Reg.EVM_CNT ∈ noteRegs)))
  exact (apartClosed hr h i _).raiseN (fun t ht k _ => (hc t k).trans ht) 4 s id rfl (hc s id) data false

/-! ### The commands of the key -/

/-- The state in which a key that has been held too long sticks, before its event. -/
def State.withKeyStuck (s : State) : State :=
  ({ s with bridle := { s.bridle with keyUp := none } } : State).putB .BRD_STAT_KEY_STUCK true

/-- The module stays alive. -/
theorem State.alive_withKeyStuck (s : State) : s.withKeyStuck.alive = s.alive := by
  rw [State.alive, State.alive, State.withKeyStuck, State.putB_mode]

/-- A key that is held too long sticks, with event 520. -/
theorem exec_keyStuck_due {s : State} (ha : s.alive = true) (hk : s.flag .BRD_STAT_KEY_STUCK = false) :
    exec .keyStuck s = .next (s.withKeyStuck.raise 520) := by
  have hdue : (s.alive && !s.flag .BRD_STAT_KEY_STUCK) = true := by rw [ha, hk]; rfl
  exact congrArg Host.Outcome.next (if_pos hdue)

/-- The stuck key shows in KEY_STUCK, whatever event 520 sets off. -/
theorem State.raise_withKeyStuck_keyStuck (s : State) : (s.withKeyStuck.raise 520).get .BRD_STAT_KEY_STUCK = 1 := by
  rw [State.get_raise_apart _ _ _ (by decide) (by decide)]
  exact State.get_putB_self _ _ true 0 (by decide) (by decide)

/-- Event 520 counts once (R460). -/
theorem State.raise_withKeyStuck_counted (s : State) (ha : s.alive = true) : Counted s (s.withKeyStuck.raise 520) 520 := by
  have hcnt : s.withKeyStuck.get .EVM_CNT_COUNT 520 = s.get .EVM_CNT_COUNT 520 :=
    State.get_put_apart { s with bridle := { s.bridle with keyUp := none } } .BRD_STAT_KEY_STUCK .EVM_CNT_COUNT _ 0 520 (by decide)
      (by decide)
  exact (s.withKeyStuck.raise_count 0 (s.alive_withKeyStuck.trans ha) (by decide)).trans (by rw [hcnt]; rfl)

/-- A release of 1 s clears KEY_STUCK. -/
theorem exec_keyStuckClear_due {s : State} {x : Nat} (ha : s.alive = true) (hk : s.flag .BRD_STAT_KEY_STUCK = true)
    (hup : s.bridle.keyUp = some x) (hx : x + 1000000 * usCu ≤ s.frc) :
    exec .keyStuckClear s = .next (s.putB .BRD_STAT_KEY_STUCK false) := by
  change execKeyStuckClear s = _
  simp [execKeyStuckClear, when', ha, hk, hup, hx]

/-- KEY_STUCK stays while the key is held, or has not been up for 1 s. -/
theorem exec_keyStuckClear_early {s : State} (h : ∀ x, s.bridle.keyUp = some x → s.frc < x + 1000000 * usCu) :
    exec .keyStuckClear s = .next s := by
  change execKeyStuckClear s = _
  cases hup : s.bridle.keyUp with
  | none => simp [execKeyStuckClear, when', hup]
  | some x => simp [execKeyStuckClear, when', hup, Nat.not_le.mpr (h x hup)]

/-- A release while KEY_STUCK is 1, or of a key held too long, does no more than begin the time of release. -/
theorem exec_keyRelease_ignored {s : State} {held : Nat} (ha : s.alive = true)
    (h : s.flag .BRD_STAT_KEY_STUCK = true ∨ 2000 < held) :
    exec (.keyRelease held) s = .next { s with bridle := { s.bridle with keyUp := some s.frc } } := by
  have hno : (s.flag .BRD_STAT_KEY_STUCK || decide (held < 100) || decide (2000 < held)) = true := by
    rcases h with hk | hl
    · rw [hk, Bool.true_or, Bool.true_or]
    · rw [decide_eq_true hl, Bool.or_true]
  change execKeyRelease held s = _
  rw [execKeyRelease, when', if_pos ha]
  exact congrArg Host.Outcome.next (if_pos hno)

/-- Settles O43: the sticking by what event 520 keeps and counts, the clearing and the ignored press by their commands' equations. -/
theorem keyStuckRule : Obligations.KeyStuckRule := by
  unfold Obligations.KeyStuckRule
  intro s ha
  refine ⟨fun hk => ?stick, fun x hk hup hx => ?clear, fun x hup hx => ?early, fun hup => ?held, fun held h => ?ignored⟩
  case stick => exact ⟨_, exec_keyStuck_due ha hk, s.raise_withKeyStuck_keyStuck, s.raise_withKeyStuck_counted ha⟩
  case clear => exact ⟨_, exec_keyStuckClear_due ha hk hup hx, State.get_putB_self _ _ false 0 (by decide) (by decide)⟩
  case early => exact exec_keyStuckClear_early fun y hy => by rwa [Option.some.inj (hy.symm.trans hup)]
  case held => exact exec_keyStuckClear_early fun y hy => absurd (hup.symm.trans hy) (by simp)
  case ignored => exact exec_keyRelease_ignored ha h

end Sys2Proof.Machine
end
